-- ==== Sys2Proof/Word.lean ====
section
/-! DEFINITION. The plainest words of the model: bytes, ticks and byte strings. -/

namespace Sys2Proof

/-- One byte. -/
abbrev Byte := BitVec 8

/-- A byte string, first byte first. -/
abbrev Bytes := List Byte

/-- A 32-bit register value. -/
abbrev Word32 := BitVec 32

/-- A tick count of R4: microseconds since the beginning of BOOT. The spec's count is 64 bits wide and does not wrap
during the life of a device, so it is a natural number here; a register read takes it modulo 2^64. -/
abbrev Tick := Nat

end Sys2Proof
end

