-- ==== Sys2Proof/Machine/Data.lean ====
section
/-! DEFINITION. The data types of the KH-64 that commands carry and State holds. -/

namespace Sys2Proof.Machine

/-- Sparse data by key: strictly rising keys, no value equal to the default (see Machine/Ops.lean). -/
abbrev Map (α : Type) := List (Nat × α)

/-- Operating modes, Table 3-1. -/
inductive Mode where
  | dormant | boot | muster | service | drowse | replay | recovery | felled
deriving DecidableEq, Repr

/-- Life-cycle states, Table 2-1, and LOCKED (R33). -/
inductive Life where
  | raw | factory | issued | owned | retired | scrapped | locked
deriving DecidableEq, Repr

/-- Status codes, Table 5-13 (R157). -/
inductive Status where
  | ok
  | headerInvalid | recordLength | opcodeUnknown | bodyInvalid | lengthPartial | lengthLimit | responseSpace
  | quorumMissing | quorumWindow | issuerDenied | usageDenied | authMacInvalid | sessionUnknown | sessionTag
  | warrantInvalid | warrantSignature | warrantBinding | warrantRights | custodianUnknown | ownerMismatch
  | keyHandleUnknown | keyExhausted | keyOrphaned | keyGreenMismatch | keyType | keyGreenPending
  | imageInvalid | imageStale | ladingInvalid
  | inputZero | inputRange | pointInvalid | curveRejected | verifyFailed | decryptFailed | counterWrap
  | pinFormat | entropyFailed
  | sealInvalid | versionStale | legsUnbalanced | limitBreach | accountState | postingReplay | ledgerOverflow
  | accountUnknown | ledgerUnknown | currencyMismatch | journalChain | checkpointStale
  | busy | cellarFull | boardFull | sessionLimit | ledgerLimit | laneUnavailable
  | dataPoisoned | waybillMismatch | computeFault | dmaFailed | manifestInvalid | manifestSignature
  | manifestRollback | manifestDigest
  | modeForbidden | lifecycleLocked | musterIncomplete | manifestCountSpent
  | epochAhead | epochBehind | twinLone | twinFenced | homeUnreachable | prepareRolledBack
  | deadlineMissed | aborted | abortedReset | sequenceStale | sequenceInFlight
  | cardTorn | cardRemoved | mediaProtected | cardAbsent | cardProtocol | mediaFormat | cardAuthFailed
deriving DecidableEq, Repr

/-- Ring-log severities, Table 18-1. -/
inductive Severity where
  | info | notice | warn | alarm
deriving DecidableEq, Repr

/-- Tamper responses, Table 17-3. -/
inductive Response where
  | record | sever | fell | none
deriving DecidableEq, Repr

/-- Twin states, Table 15-2. -/
inductive TwinState where
  | none | pairing | paired | loneKeel | fenced | resync
deriving DecidableEq, Repr

/-- NDL port states, Table 14-2. -/
inductive PortState where
  | down | training | keying | active | retrain | disabled
deriving DecidableEq, Repr

/-- Unit power states, Table 19-6 (PWR_DOMAINd_STATE). -/
inductive Power where
  | on | retain | off
deriving DecidableEq, Repr

/-- Kinds of lane. -/
inductive LaneKind where
  | cipher | digest | bigNumber | decimal
deriving DecidableEq, Repr

/-- DRBG states, Table 10-3. -/
inductive DrbgState where
  | off | starting | healthy | failed
deriving DecidableEq, Repr

/-- Who a record came from and which it is: the queue slot it was fetched from, or the link message that forwarded it
(COMMAND_FORWARD, R474). -/
inductive RecRef where
  | host (fn q slot : Nat)
  | forwarded (src txn : Nat)
deriving DecidableEq, Repr

/-- A record's reference names a slot of a queue pair of a function (R105), or a member and its transaction (R474). -/
def RecRef.ok : RecRef → Bool
  | .host fn q slot => decide (fn ≤ 255) && decide (q ≤ 15) && decide (slot ≤ 4095)
  | .forwarded src _ => decide (src ≤ 255)

/-- Access paths of a register (R576): PF0 BAR0, a VF's BAR0, the I3C port, the debug port, and the two worlds' cores. -/
inductive Path where
  | pf0
  | vf (n : Nat)
  | i3c
  | debug
  | warden (core : Nat)
  | drover (core : Nat)
deriving DecidableEq, Repr

/-- The path names a function or core that exists. -/
def Path.ok : Path → Bool
  | .pf0 | .i3c | .debug => true
  | .vf n => decide (1 ≤ n) && decide (n ≤ 255)
  | .warden c => decide (c ≤ 3)
  | .drover c => decide (c ≤ 15)

/-- What a host-interface reset is (R127). -/
inductive HifReset where
  | hot | linkDown | perst
deriving DecidableEq, Repr

/-- Kinds of outbound read (Table 4-10). -/
inductive ReadKind where
  | sqEntry | record | input
deriving DecidableEq, Repr

/-- What a configuration request asks of a function (R71, R97, R114, R129). -/
inductive CfgReq where
  | read
  | sriov (vfEnable : Bool) (numVfs : Nat)
  | completionTimeout (us : Nat)
  | relaxedOrdering (on : Bool)
deriving DecidableEq, Repr

/-- What goes wrong physically inside a lane job; the environment says so with the job's end (R30, R301, R22, R27). -/
inductive JobFault where
  | none | residue | selfVerify | poisoned (word : Nat) | waybill (granule : Nat) | dma | bufferChanged | ttuRefused
  /-- A residue mismatch of a decimal lane, or of the posting sequencer, in a step of the leg given (R397). -/
  | decimal (detail : Nat) | sequencer (detail : Nat)
deriving DecidableEq, Repr

/-- The arrays of Table 1-4 that ECC protects (R20). -/
inductive ArrayKind where
  | vault | cellar | board | scratch | operand | hmacCache | ringLog | capture | localRam | pot
deriving DecidableEq, Repr

/-- Leaf cause registers, Table 19-5. -/
inductive Leaf where
  | tmp | integrity | system | pwr | queue | crd | trn | ndl | twn | car
deriving DecidableEq, Repr

/-- What a debug instruction does under a right of Table 2-7 (R50, R51). -/
inductive DebugOp where
  | haltCore (core : Nat)
  | stepCore (core : Nat)
  | resumeCore (core : Nat)
  | coreRegs (core : Nat)
  | memRead (warden : Bool) (addr n : Nat)
  | memWrite (warden : Bool) (addr : Nat) (data : Bytes)
  | trace (core : Nat)
  | arrayRead (a : ArrayKind) (index : Nat)
  | laneScan (k : LaneKind) (lane : Nat)
  | mbist (a : ArrayKind) (index : Nat)
  | phyTest
  | sdramRead (line : Nat)
  | sdramWrite (line : Nat) (data : Bytes)
  | logRead (slot : Nat)
deriving DecidableEq, Repr

/-! ## Vault -/

/-- Vault key record, Table 6-2 (R162). -/
structure KeyRecord where
  material : Bytes := []
  generation : Nat := 0
  present : Bool := false
  imagePending : Bool := false
  imageGen : Nat := 0
deriving DecidableEq, Repr

/-- Tenant custody entry, Table 7-4 (R213). -/
structure CustodyEntry where
  rosterGen : Nat := 0
  shareSet : Nat := 0
  shareN : Nat := 0
  shareK : Nat := 0
  sharesIssued : Nat := 0
  rosterPending : Bool := false
  setOpen : Bool := false
deriving DecidableEq, Repr

/-- Checkpoint epoch entry, Table 11-2 (R340). Ledger 0 is a free entry. -/
structure EpochEntry where
  ledger : Nat := 0
  epoch : Nat := 0
  tenant : Nat := 0
deriving DecidableEq, Repr

/-! ## Cellar -/

/-- Slot state, Table 6-4. -/
inductive SlotState where
  | free | green | seasoned | felled
deriving DecidableEq, Repr

/-- A key's parent, Table 6-5. -/
structure Parent where
  index : Nat := 0
  inVault : Bool := false
  gen : Nat := 0
deriving DecidableEq, Repr

/-- A cellar slot, Tables 6-3 and 6-4 (R164), without its tag, which State holds as `tagFault`. -/
structure Slot where
  material : Bytes := []
  type : Nat := 0
  keyBits : Nat := 0
  usage : BitVec 16 := 0
  owner : Nat := 0
  level : Nat := 0
  state : SlotState := .free
  bound : Bool := false
  exportable : Bool := false
  parent : Parent := {}
  generation : Nat := 0
  counter : Nat := 0
  limitClass : Nat := 0
  /-- The stored tag no longer fits the content (R167). -/
  tagFault : Bool := false
  /-- Bound keys: address, length and digest of the blob (Table 6-7). -/
  blobAddr : Nat := 0
  blobLen : Nat := 0
  blobDigest : Bytes := []
deriving DecidableEq, Repr

/-- A directory entry, Table 6-10 (R171). -/
structure DirEntry where
  standing : Nat := 0
  dtag : Nat := 0
  valid : Bool := false
  greenLinked : Bool := false
  standingGen : Nat := 0
  owner : Nat := 0
  greenSlot : Nat := 0
  greenGen : Nat := 0
deriving DecidableEq, Repr

/-- An entry of the HMAC state cache (R281): slot, generation and algorithm code. Its states follow from the slot's key. -/
structure CacheEntry where
  slot : Nat
  gen : Nat
  alg : Nat
deriving DecidableEq, Repr

/-- A stream context, Table 8-8 (R278). -/
structure DigestCtx where
  /-- 0 empty, 1 open, 2 finished. -/
  phase : Nat := 0
  alg : Nat := 0
  /-- HMAC under this handle, 0 for a plain digest. -/
  handle : Nat := 0
  /-- Message bytes absorbed. -/
  count : Nat := 0
  /-- Chaining state after the whole blocks absorbed. -/
  chain : Bytes := []
  /-- Bytes of a partial block. -/
  tail : Bytes := []
deriving DecidableEq, Repr

/-- A short-Weierstrass curve (R306): y² = x³ + ax + b over p, base point of order n, cofactor h. -/
structure Curve where
  p : Nat
  a : Nat
  b : Nat
  gx : Nat
  gy : Nat
  n : Nat
  h : Nat
deriving DecidableEq, Repr

/-- A curve slot (R305). -/
structure CurveSlot where
  owner : Nat
  cls : Nat
  digest : Bytes
  curve : Curve
deriving DecidableEq, Repr

/-- One backup share as a card carries it (Table 7-16). -/
structure Share where
  index : Nat
  k : Nat
  n : Nat
  set : Nat
  gen : Nat
  body : Bytes
  trailer : Bytes
deriving DecidableEq, Repr

/-- A SHARE_IMPORT round (R249). -/
structure Round where
  tenant : Nat
  session : Nat
  shares : List Share := []
  trunk : Option Bytes := none
deriving DecidableEq, Repr

/-! ## Ledgers -/

/-- One currency of a ledger descriptor, Table 11-1. -/
structure Currency where
  code : Nat
  exponent : Nat
  suspense : Option Bytes
deriving DecidableEq, Repr

/-- Ledger descriptor: the LEDGER_CREATE body (Table 11-1, R339). -/
structure Descriptor where
  sealHandle : Nat := 0
  journalHandle : Nat := 0
  signHandle : Nat := 0
  window : Nat := 0
  channels : List Nat := []
  currencies : List Currency := []
  raw : Bytes := []
deriving DecidableEq, Repr

/-- Ledger head, Table 11-3 (R342), with the ledger nonce (R339). Ledger 0 is a free slot. -/
structure Head where
  ledger : Nat := 0
  tenant : Nat := 0
  checkpointPending : Bool := false
  pendingEpoch : Nat := 0
  nextSeq : Nat := 0
  chain : Bytes := []
  floor : Nat := 0
  lastBlock : Nat := 0
  nonce : Bytes := []
  /-- First sequence after the pending image (R373). -/
  imageNext : Nat := 0
deriving DecidableEq, Repr

/-- Who marked a context or posting id pending (R357). -/
inductive Mark where
  | command (r : RecRef)
  | prepared (ledger : Nat) (id : Bytes)
deriving DecidableEq, Repr

/-- Account context, Table 11-4 (R342). acctState: 0 free, 1 open, 2 frozen, 3 closed. -/
structure Context where
  fingerprint : Bytes := []
  ledger : Nat := 0
  version : Nat := 0
  limitClass : Nat := 0
  acctState : Nat := 0
  epoch : Nat := 0
deriving DecidableEq, Repr

/-- An entry of the posting-id filter (R354). -/
structure FilterEntry where
  ledger : Nat
  id : Bytes
  seq : Nat
deriving DecidableEq, Repr

/-- A held journal block, R364. -/
structure JournalBlock where
  ledger : Nat
  first : Nat
  last : Nat
  epoch : Nat
  lastHash : Bytes
  signature : Option Bytes
deriving DecidableEq, Repr

/-- A response body the anchor keeps for SEAL_FETCH (R363). -/
structure StoredResponse where
  ledger : Nat
  seq : Nat
  id : Bytes
  kind : Nat
  body : Bytes
deriving DecidableEq, Repr

/-- A final outcome-history entry as it travels to the twin (Table 15-4). -/
structure OutcomeWire where
  tenant : Nat
  seq : Nat
  status : Status
  detail : Nat
  lone : Bool
deriving DecidableEq, Repr

/-- What a pending mark stands on (R357): a context, or a posting id of a ledger. -/
inductive MarkOn where
  | context (index : Nat)
  | posting (ledger : Nat) (id : Bytes)
deriving DecidableEq, Repr

/-- A leg of a posting under way: what the body gives, what its seal holds, and its new values. -/
structure Leg where
  tag : Bytes
  currency : Nat := 0
  absorb : Bool := false
  /-- Amount, effective once row 12 has passed (R358). -/
  amount : Int := 0
  seal_ : Bytes := []
  /-- Board index, version, exponent, balance and remainder: of the seal, then the new ones. -/
  index : Nat := 0
  version : Nat := 0
  exponent : Nat := 0
  balance : Int := 0
  remainder : Int := 0
  /-- Index in the whole posting (R453). -/
  num : Nat := 0
deriving DecidableEq, Repr

/-- A ledger command under way: POST_LEGS, ACCRUE, ACCOUNT_OPEN or ACCOUNT_SET_STATE, by the kind of its journal entry. -/
structure Posting where
  kind : Nat
  slot : Nat := 0
  ledger : Nat := 0
  tenant : Nat := 0
  id : Bytes := []
  horizon : Nat := 0
  valueDate : Bytes := []
  legs : List Leg := []
  /-- Usable slots of the seal handle as row 4 latched them: slot, generation, key, green (R348, R356). -/
  sealKeys : List (Nat × Nat × Bytes × Bool) := []
  journalKey : Bytes := []
  /-- ACCRUE: rate, numerator and basis. -/
  rate : Int := 0
  numer : Int := 0
  basis : Int := 1
  /-- ACCOUNT_OPEN: limit class; ACCOUNT_SET_STATE: new state. -/
  cls : Nat := 0
  newState : Nat := 1
  /-- Row of Table 11-7 at which it waits or goes on. -/
  row : Nat := 5
deriving DecidableEq, Repr

/-- One leg of LEG_PREPARE (Table 14-12). -/
structure PrepLeg where
  index : Nat
  absorb : Bool
  amount : Int
  balSeal : Bytes
deriving DecidableEq, Repr

/-- One leg of LEG_PREPARED (Table 14-12). -/
structure PreparedLeg where
  index : Nat
  version : Nat
  balSeal : Bytes
deriving DecidableEq, Repr

/-- One journal leg record, Table 11-9. -/
structure LegRecord where
  tag : Bytes
  currency : Nat
  absorb : Bool
  home : Nat
  version : Nat
  amount : Int
deriving DecidableEq, Repr

/-- A cross-home decision record (R369 step 3), with what LEG_COMMIT repeats of the posting: its tenant, value date and leg
records. -/
structure Decision where
  ledger : Nat
  id : Bytes
  tenant : Nat
  participants : List Nat
  legs : List PreparedLeg
  valueDate : Bytes
  records : List LegRecord
deriving DecidableEq, Repr

/-- One change of stored state that commits as part of a command (R463, R464, Table 15-9 record kinds). -/
inductive Change where
  | slot (index : Nat) (v : Slot)
  | directory (index : Nat) (v : DirEntry)
  | blob (addr : Nat) (data : Bytes)
  | keyRecord (n : Nat) (v : KeyRecord)
  | epochEntry (slot : Nat) (v : EpochEntry)
  | custody (tenant : Nat) (v : CustodyEntry)
  /-- Tenant 0's authority pin in the vault (R217); not mirrored. -/
  | pin (id : Bytes)
  | kh1 (tenant key handle : Nat)
  | outcome (o : OutcomeWire)
  | head (slot : Nat) (v : Head)
  | descriptor (slot : Nat) (v : Descriptor)
  | context (index : Nat) (v : Context)
  | tag (ledger : Nat) (fingerprint : Bytes) (index : Nat)
  | filter (e : FilterEntry)
  | response (r : StoredResponse)
  | epochDecision (epoch : Nat) (target : Mode)
  | decision (d : Decision)
  /-- A tenant's outcome floor, where it is the larger (R468). -/
  | floor (tenant n : Nat)
  /-- A stream context, keyed as State holds it (R279); not mirrored. -/
  | stream (key : Nat) (v : DigestCtx)
  /-- A curve slot, none to free it (R305); not mirrored. -/
  | curve (slot : Nat) (v : Option CurveSlot)
  /-- The blinding pair of a slot's RSA key (R298); not mirrored. -/
  | blinding (slot : Nat) (v : Nat × Nat)
  /-- The tenant's cellar image is restored in this boot (R90); not mirrored. -/
  | restored (tenant : Nat)
  /-- The ledger's board image is restored in this boot (R90); not mirrored. -/
  | boardRestored (ledger : Nat)
  /-- The signature of a held journal block, by its last sequence (R364); not mirrored. -/
  | blockSig (ledger last : Nat) (sig : Bytes)
deriving DecidableEq, Repr

/-! ## Messages of the link, Tables 14-10, 14-12 and 15-9 -/

/-- Bodies of the messages, parsed (Tables 14-12 and 15-9). -/
inductive Payload where
  | empty
  | routeEcho (serial epoch : Nat)
  | mirrorPosting (ledger seq : Nat) (outcome : Option OutcomeWire) (changes : List Change)
  | mirrorAck (ledger seq : Nat)
  | cellarSync (number : Nat) (outcome : Option OutcomeWire) (changes : List Change)
  | cellarSyncAck (number : Nat)
  | counterAdvance (entries : List (Nat × Nat × Nat))
  | resyncBulk (pass : Nat) (final : Bool) (lines : Nat) (changes : List Change)
  | resyncAck (pass : Nat) (final : Bool)
  | twinState (serial keelSerial : Nat) (state : TwinState) (mode : Mode) (detached : Bool) (epoch bootCount : Nat)
  | crossDecision (d : Decision)
  | epochDecision (epoch : Nat) (target : Mode)
  | legPrepare (ledger : Nat) (anchor home : Bool) (part parts : Nat) (id : Bytes) (horizon : Nat) (valueDate : Bytes)
      (legs : List PrepLeg)
  | legPrepared (ledger : Nat) (anchor home : Bool) (part parts : Nat) (id : Bytes) (legs : List PreparedLeg)
  | legRefused (ledger : Nat) (id : Bytes) (status : Status) (detail : Nat)
  | legCommit (ledger : Nat) (anchor home : Bool) (id : Bytes) (valueDate : Bytes) (legs : List LegRecord)
  | legAbort (ledger : Nat) (id : Bytes)
  | legDone (ledger : Nat) (id : Bytes) (outcome : Nat) (status : Status) (seq : Nat) (entry : Bytes)
  | legReport (entries : List (Nat × Bytes))
  | routeProbe
  | epochPrepare (target : Mode)
  | epochReady (status : Status) (epoch : Nat)
  | epochCommit (target : Mode)
  | epochRollback
  | epochRefuse (status : Status) (epoch : Nat)
  | epochDone (status : Status) (epoch : Nat)
  | forward (tenant : Nat) (record input : Bytes) (slot : Nat) (nonce : Bytes)
  | result (status : Status) (detail : Nat) (lone : Bool) (body output : Bytes)
  | ladingMove (number : Nat) (changes : List Change)
  | ladingAck (last : Nat)
deriving DecidableEq, Repr

/-- A delivered message: its port, header fields (Table 14-9), stamp (R455) and parsed body. -/
structure Msg where
  port : Nat
  reply : Bool := false
  resend : Bool := false
  dest : Nat := 255
  src : Nat := 255
  keyIndex : Nat := 0
  world : Bool := true
  tenant : Nat := 0
  txn : Nat := 0
  epoch : Nat := 0
  stamp : Tick := 0
  body : Payload
deriving DecidableEq, Repr

/-- A message that waits to leave: one of this device's own, or one that it forwards (R450): key index and bytes. -/
inductive TxItem where
  | own (m : Msg)
  | passing (key : Nat) (b : Bytes)
deriving DecidableEq, Repr

/-! ## What the host hands over -/

/-- What the queue engine read for one SQ entry (R111, R112, R119): the entry's bytes, the record's bytes (native), the
input data, and the scatter lists where the entry names them. -/
structure Fetched where
  entry : Bytes
  record : Bytes := []
  input : Bytes := []
  inList : List (Nat × Nat) := []
  outList : List (Nat × Nat) := []
deriving DecidableEq, Repr

/-! ## The ring log -/

/-- A ring-log entry (Table 18-1) before its bytes are laid out. -/
structure LogEntry where
  seq : Nat := 0
  event : Nat := 0
  severity : Severity := .info
  island : Nat := 0
  attr : Nat := 0
  status : Nat := 0
  bootCount : Nat := 0
  held : Bool := false
  detail : List Nat := []
  /-- The stored check no longer fits the entry (R538). -/
  bad : Bool := false
deriving DecidableEq, Repr

/-! ## Records -/

/-- A native SQ entry, Table 4-6. -/
structure SqEntry where
  recordAddr : Nat := 0
  respAddr : Nat := 0
  inAddr : Nat := 0
  outAddr : Nat := 0
  inLen : Nat := 0
  outCap : Nat := 0
  recordLen : Nat := 0
  respCap : Nat := 0
  cookie : Nat := 0
  flags : BitVec 16 := 0
deriving DecidableEq, Repr

/-- The wire form a record came in. -/
inductive RecForm where
  | native | kh1
deriving DecidableEq, Repr

/-- A fetched record that waits to start or runs (R113, R140). -/
structure Rec where
  ref : RecRef
  form : RecForm := .native
  /-- Place in fetch order over the whole device. -/
  order : Nat := 0
  tenant : Nat := 0
  fn : Nat := 0
  q : Nat := 0
  sq : SqEntry := {}
  outList : List (Nat × Nat) := []
  /-- Header and body (native, without its waybill list), or the 256 bytes (KH-1). -/
  raw : Bytes := []
  input : Bytes := []
  seq : Nat := 0
  arrival : Tick := 0
  fetched : Tick := 0
  /-- Its outbound reads have completed (R129). -/
  readDone : Bool := false
  /-- Transaction number and slot nonce where a member forwarded it (R474). -/
  nonce : Bytes := []
  /-- Key of the session it started under, while it is sealed (R137). -/
  key : Option Bytes := none
deriving DecidableEq, Repr

/-- What a command comes to: its completion and the stored state it changes (R140, R157). -/
structure Result where
  status : Status := .ok
  detail : Nat := 0xFFFF
  body : Bytes := []
  out : Bytes := []
  changes : List Change := []
  lone : Bool := false
  /-- The posting under way (Table 11-7). -/
  post : Option Posting := none
deriving DecidableEq, Repr

/-- What a started record waits for. -/
inductive Stage where
  /-- A lane job: the lane it runs on, none while it waits for one (R253). -/
  | lane (k : LaneKind) (on : Option Nat)
  /-- The twin's acknowledgement of a transaction (R362, R464). -/
  | mirror (txn : Nat)
  /-- The barrier it asked for (R87). -/
  | barrier
  /-- The members it runs at (R474). -/
  | member (txn : Nat)
  /-- A custodian card exchange on a port (R236). -/
  | card (port : Nat)
  /-- The transit port (R248). -/
  | transit
  /-- The life-cycle OTP (R43 step 5). -/
  | otp
  /-- A checkpoint copy of a ledger (R373). -/
  | checkpoint (ledger : Nat)
  /-- A capture's base copy (R547). -/
  | base
  /-- A cross-home posting (R369). -/
  | crossHome (ledger : Nat) (id : Bytes)
  /-- A context another posting marks pending (R357). -/
  | context
  /-- The caravan epoch protocol (R478). -/
  | epoch
  /-- Lading moves to the other members (R475). -/
  | moves (txn : Nat)
  /-- Twin detach or repair under way (R466, R471). -/
  | twin
  /-- The end of SDRAM training (R401). -/
  | sdram
  /-- Lanes that hold the material of felled slots (R183, R185). -/
  | latches (slots : List Nat)
deriving DecidableEq, Repr

/-- A started record. -/
structure Run where
  record : Rec
  /-- The opcode's row in Table 5-7 or Table 5-10. -/
  op : Nat := 0
  start : Tick := 0
  /-- The drover core that runs it (R113). -/
  core : Nat := 0
  stage : Stage
  res : Result := {}
  cycles : Nat := 0
  /-- An FLR or host-interface reset squashes its output (R124 item 5). -/
  squash : Bool := false
  /-- Cellar slots latched in a lane's key register (R176). -/
  latched : List Nat := []
  /-- Its record index in a running capture (R548). -/
  capture : Option Nat := none
  /-- Body and input data in clear. -/
  body : Bytes := []
  input : Bytes := []
  /-- Members still to visit after this device (Table 15-5). -/
  visits : List Nat := []
deriving DecidableEq, Repr

/-- An entry of a tenant's outcome history (R142). -/
structure Outcome where
  tenant : Nat
  seq : Nat
  status : Status := .ok
  detail : Nat := 0xFFFF
  lone : Bool := false
  running : Bool := false
  /-- A not-run outcome of R143. -/
  notRun : Bool := false
deriving DecidableEq, Repr

/-- R144: what keeps a record from starting. -/
inductive PreStart where
  /-- The number ran before: its entry answers. -/
  | again (o : Outcome)
  /-- It completes with a status, recorded as not run or not recorded. -/
  | stop (st : Status) (recorded : Bool)
  | go
deriving DecidableEq, Repr

/-- A session (R135, R136). -/
structure Session where
  tenant : Nat
  id : Nat
  key : Bytes
deriving DecidableEq, Repr

/-- A started record as its opcode's meaning sees it: the body and input data in clear. -/
structure Cmd where
  record : Rec
  tenant : Nat
  op : Nat
  body : Bytes
  input : Bytes
  tick : Tick
deriving DecidableEq, Repr

/-- What an opcode's meaning answers: a completion, a lane job that will give it, or another wait. -/
inductive Did where
  | done (r : Result)
  | job (k : LaneKind) (cycles : Nat) (latched : List Nat) (r : Result)
  | wait (st : Stage) (r : Result)
  /-- It completes, and the device then resets internally (R60). -/
  | reset (r : Result)
deriving DecidableEq, Repr

/-- Quorum column of Table 5-7. -/
inductive Quorum where
  | none | own | zero | cond
deriving DecidableEq, Repr

/-- A row of Table 5-7. -/
structure OpRow where
  code : Nat
  admin : Bool
  states : List Life
  modes : List Mode
  quorum : Quorum
deriving DecidableEq, Repr

/-! ## The host attachment -/

/-- A queue pair, Tables 4-3 to 4-5. -/
structure QPair where
  sqBase : Nat := 0
  cqBase : Nat := 0
  enabled : Bool := false
  kh1 : Bool := false
  sizeLog2 : Nat := 0
  vector : Nat := 0
  irqEnable : Bool := false
  aggCount : Nat := 0
  aggTime : Nat := 0
  draining : Bool := false
  error : Nat := 0
  keyIndex : Nat := 0
  sqHead : Nat := 0
  /-- The last SQ tail the host announced. -/
  sqTail : Nat := 0
  cqTail : Nat := 0
  /-- The last CQ head the host announced. -/
  cqHead : Nat := 0
  phase : Bool := true
  /-- CQ entries the host has not consumed, reserved ones included (R110). -/
  cqUsed : Nat := 0
  inFlight : Nat := 0
  /-- KH-1 queues: the queue pair's own count (R121). -/
  seqCount : Nat := 0
  /-- Announced entries, oldest first: how many, and their arrival tick (R109). -/
  ready : List (Nat × Tick) := []
  irqPending : Nat := 0
  irqFirst : Tick := 0
  /-- Issue tick of the outstanding SQ-entry read. -/
  readAt : Tick := 0
deriving DecidableEq, Repr

/-- A TTU window, Table 20-11. -/
structure Window where
  base : Nat := 0
  size : Nat := 0
  ctrl : BitVec 2 := 0
deriving DecidableEq, Repr

/-- An MSI-X table entry with its pending bit. -/
structure Vector where
  addr : Nat := 0
  data : Nat := 0
  masked : Bool := true
  pending : Bool := false
deriving DecidableEq, Repr

/-! ## Tamper -/

/-- A wake-ledger entry, Table 17-6. -/
structure WakeEntry where
  cls : Nat := 0
  valid : Bool := false
  tallied : Bool := false
  response : Nat := 0
  doze : Bool := false
  batteryOnly : Bool := false
  seq : Nat := 0
  detail : Word32 := 0
deriving DecidableEq, Repr

/-- A tally increment that waits: its class and the wake sequence of its entry (R531). -/
structure TallyJob where
  cls : Nat
  wake : Option Nat := none
  retried : Bool := false
deriving DecidableEq, Repr

/-! ## Barriers and power -/

/-- Who asked for a barrier (R87). -/
inductive BarrierCause where
  | command (r : RecRef) | doorbell | following
  /-- The change that this device makes as lead (R478), and a COMMIT from the lead (Table 15-6). -/
  | epoch | commit
deriving DecidableEq, Repr

/-- A barrier asked for or pending. -/
structure Barrier where
  target : Mode
  cause : BarrierCause
  request : Tick := 0
  acks : List Nat := []
deriving DecidableEq, Repr

/-- A request in PWR_DOMAIN_REQ (R559). -/
structure PowerReq where
  domain : Nat := 0
  /-- 0 ON, 1 RETAIN, 2 OFF. -/
  state : Nat := 0
  units : BitVec 16 := 0
  discard : Bool := false
  rsv : Byte := 0
  /-- The decision set the units and its result waits for the end of the request. -/
  decided : Option Status := none
deriving DecidableEq, Repr

/-! ## Output -/

/-- What the block gives to the outside, in the order it gives it. -/
inductive Out where
  | data (fn : Nat) (addr : Nat) (bytes : Bytes) (poisoned : Bool)
  | response (fn : Nat) (addr : Nat) (bytes : Bytes)
  | cq (fn q index : Nat) (bytes : Bytes)
  | msix (fn vector : Nat)
  | config (fn : Nat) (retry : Bool)
  | abort (fn : Nat)
  | regRead (path : Path) (off : Nat) (v : BitVec 64)
  | stall
  | fault
  | i3c (bytes : Bytes)
  | ccc (bytes : Bytes)
  | jtag (bits : Nat)
  | debug (bytes : Bytes)
  | flash (addr : Nat) (bytes : Bytes)
  | flashErase (block : Nat)
  | card (port : Nat) (bytes : Bytes)
  | cardSignals (port vsel : Nat) (rst clk io : Bool)
  | sd (cmd arg : Nat) (data : Bytes)
  | sdPower (on v18 : Bool)
  | link (port : Nat) (m : Msg)
  | linkBytes (port : Nat) (bytes : Bytes)
  | ack (port num : Nat)
  | nak (port num : Nat)
  | flits (port : Nat) (first count : Nat)
  | fellLine
deriving DecidableEq, Repr

end Sys2Proof.Machine
end

