-- ==== Sys2Proof/Syntax.lean ====
section
/-! DEFINITION. The commands of the block: one constructor for each row of spec/opcode_table.json. Every command carries
first the tick `t` at which its step takes place (R7); a command record is named by its reference. -/

namespace Sys2Proof

/-- The rows of spec/opcode_table.json, in the table's order. Each docstring gives the row's mnemonic and rule. -/
inductive Instr where
  /-- SESSION_OPEN (R135). -/
  | sessionOpen (t : Tick) (r : Machine.RecRef)
  /-- SESSION_CLOSE (R139). -/
  | sessionClose (t : Tick) (r : Machine.RecRef)
  /-- ASK_OUTCOME (R146). -/
  | askOutcome (t : Tick) (r : Machine.RecRef)
  /-- GET_INFO (R583). -/
  | getInfo (t : Tick) (r : Machine.RecRef)
  /-- ATTEST (R150). -/
  | attest (t : Tick) (r : Machine.RecRef)
  /-- MUSTER_COMPLETE (R90). -/
  | musterComplete (t : Tick) (r : Machine.RecRef)
  /-- DROWSE_ENTER (R59). -/
  | drowseEnter (t : Tick) (r : Machine.RecRef)
  /-- RECOVERY_ENTER (R86). -/
  | recoveryEnter (t : Tick) (r : Machine.RecRef)
  /-- LIFECYCLE_ADVANCE (R43). -/
  | lifecycleAdvance (t : Tick) (r : Machine.RecRef)
  /-- ACCEPT_WARRANT (R52). -/
  | acceptWarrant (t : Tick) (r : Machine.RecRef)
  /-- DROP_WARRANT (R55). -/
  | dropWarrant (t : Tick) (r : Machine.RecRef)
  /-- RECOVERY_BEGIN (R82). -/
  | recoveryBegin (t : Tick) (r : Machine.RecRef)
  /-- RECOVERY_WRITE (R83). -/
  | recoveryWrite (t : Tick) (r : Machine.RecRef)
  /-- RECOVERY_COMMIT (R84). -/
  | recoveryCommit (t : Tick) (r : Machine.RecRef) (readBack : Bool)
  /-- RECOVERY_EXIT (R608). -/
  | recoveryExit (t : Tick) (r : Machine.RecRef)
  /-- KEY_GENERATE (R200). -/
  | keyGenerate (t : Tick) (r : Machine.RecRef)
  /-- KEY_IMPORT (R200). -/
  | keyImport (t : Tick) (r : Machine.RecRef)
  /-- KEY_EXPORT (R200). -/
  | keyExport (t : Tick) (r : Machine.RecRef)
  /-- KEY_GREEN (R179). -/
  | keyGreen (t : Tick) (r : Machine.RecRef)
  /-- KEY_SEASON (R181). -/
  | keySeason (t : Tick) (r : Machine.RecRef)
  /-- KEY_FELL (R185). -/
  | keyFell (t : Tick) (r : Machine.RecRef)
  /-- KEY_INFO (R200). -/
  | keyInfo (t : Tick) (r : Machine.RecRef)
  /-- KH1_MAP_SET (R154). -/
  | kh1MapSet (t : Tick) (r : Machine.RecRef)
  /-- CELLAR_EXPORT (R202). -/
  | cellarExport (t : Tick) (r : Machine.RecRef)
  /-- CELLAR_RESTORE (R204). -/
  | cellarRestore (t : Tick) (r : Machine.RecRef)
  /-- TRUNK_IMPORT (R201). -/
  | trunkImport (t : Tick) (r : Machine.RecRef)
  /-- TRUNK_REPLACE (R208). -/
  | trunkReplace (t : Tick) (r : Machine.RecRef)
  /-- DOMAIN_ROOT_SET (R201). -/
  | domainRootSet (t : Tick) (r : Machine.RecRef)
  /-- LADING_EXPORT (R485). -/
  | ladingExport (t : Tick) (r : Machine.RecRef)
  /-- LADING_IMPORT (R486). -/
  | ladingImport (t : Tick) (r : Machine.RecRef)
  /-- ENCRYPT (R256). -/
  | encrypt (t : Tick) (r : Machine.RecRef)
  /-- DECRYPT (R256). -/
  | decrypt (t : Tick) (r : Machine.RecRef)
  /-- MAC_GENERATE (R286). -/
  | macGenerate (t : Tick) (r : Machine.RecRef)
  /-- MAC_VERIFY (R286). -/
  | macVerify (t : Tick) (r : Machine.RecRef)
  /-- TRANSLATE (R265). -/
  | translate (t : Tick) (r : Machine.RecRef)
  /-- DIGEST (R278). -/
  | digest (t : Tick) (r : Machine.RecRef)
  /-- HMAC_GENERATE (R280). -/
  | hmacGenerate (t : Tick) (r : Machine.RecRef)
  /-- HMAC_VERIFY (R278). -/
  | hmacVerify (t : Tick) (r : Machine.RecRef)
  /-- DIGEST_SAVE (R284). -/
  | digestSave (t : Tick) (r : Machine.RecRef)
  /-- DIGEST_RESTORE (R285). -/
  | digestRestore (t : Tick) (r : Machine.RecRef)
  /-- PK_SIGN (R313). -/
  | pkSign (t : Tick) (r : Machine.RecRef)
  /-- PK_VERIFY (R313). -/
  | pkVerify (t : Tick) (r : Machine.RecRef)
  /-- PK_ENCRYPT (R313). -/
  | pkEncrypt (t : Tick) (r : Machine.RecRef)
  /-- PK_DECRYPT (R313). -/
  | pkDecrypt (t : Tick) (r : Machine.RecRef)
  /-- PK_KEYGEN (R308). -/
  | pkKeygen (t : Tick) (r : Machine.RecRef)
  /-- PK_DERIVE (R314). -/
  | pkDerive (t : Tick) (r : Machine.RecRef)
  /-- CURVE_LOAD (R305). -/
  | curveLoad (t : Tick) (r : Machine.RecRef)
  /-- GET_RANDOM (R332). -/
  | getRandom (t : Tick) (r : Machine.RecRef)
  /-- LEDGER_CREATE (R339). -/
  | ledgerCreate (t : Tick) (r : Machine.RecRef)
  /-- ACCOUNT_OPEN (R345). -/
  | accountOpen (t : Tick) (r : Machine.RecRef)
  /-- ACCOUNT_SET_STATE (R346). -/
  | accountSetState (t : Tick) (r : Machine.RecRef)
  /-- POST_LEGS (R356). -/
  | postLegs (t : Tick) (r : Machine.RecRef)
  /-- ACCRUE (R366). -/
  | accrue (t : Tick) (r : Machine.RecRef)
  /-- SEAL_FETCH (R363). -/
  | sealFetch (t : Tick) (r : Machine.RecRef)
  /-- JOURNAL_BLOCK (R364). -/
  | journalBlock (t : Tick) (r : Machine.RecRef)
  /-- CHECKPOINT (R373). -/
  | checkpoint (t : Tick) (r : Machine.RecRef)
  /-- BOARD_RESTORE (R375). -/
  | boardRestore (t : Tick) (r : Machine.RecRef)
  /-- JOURNAL_ROLL_FORWARD (R376). -/
  | journalRollForward (t : Tick) (r : Machine.RecRef)
  /-- CUSTODIAN_ENROL (R218). -/
  | custodianEnrol (t : Tick) (r : Machine.RecRef)
  /-- CUSTODIAN_REMOVE (R219). -/
  | custodianRemove (t : Tick) (r : Machine.RecRef)
  /-- QUORUM_BEGIN (R222). -/
  | quorumBegin (t : Tick) (r : Machine.RecRef)
  /-- CARD_AUTHENTICATE (R236). -/
  | cardAuthenticate (t : Tick) (r : Machine.RecRef)
  /-- QUORUM_STATUS (R226). -/
  | quorumStatus (t : Tick) (r : Machine.RecRef)
  /-- QUORUM_CANCEL (R222). -/
  | quorumCancel (t : Tick) (r : Machine.RecRef)
  /-- SHARE_EXPORT (R248). -/
  | shareExport (t : Tick) (r : Machine.RecRef)
  /-- SHARE_IMPORT (R249). -/
  | shareImport (t : Tick) (r : Machine.RecRef)
  /-- TWIN_STATUS (R487). -/
  | twinStatus (t : Tick) (r : Machine.RecRef)
  /-- TWIN_DETACH (R471). -/
  | twinDetach (t : Tick) (r : Machine.RecRef)
  /-- TWIN_REPAIR (R466). -/
  | twinRepair (t : Tick) (r : Machine.RecRef)
  /-- CARAVAN_STATUS (R487). -/
  | caravanStatus (t : Tick) (r : Machine.RecRef)
  /-- LOG_FREEZE (R539). -/
  | logFreeze (t : Tick) (r : Machine.RecRef)
  /-- LOG_THAW (R541). -/
  | logThaw (t : Tick) (r : Machine.RecRef)
  /-- LOG_EXPORT (R542). -/
  | logExport (t : Tick) (r : Machine.RecRef)
  /-- CAPTURE_START (R547). -/
  | captureStart (t : Tick) (r : Machine.RecRef)
  /-- CAPTURE_STOP (R547). -/
  | captureStop (t : Tick) (r : Machine.RecRef)
  /-- REPLAY_START (R550). -/
  | replayStart (t : Tick) (r : Machine.RecRef)
  /-- REPLAY_STOP (R553). -/
  | replayStop (t : Tick) (r : Machine.RecRef)
  /-- PIN_TRANSLATE (R273). -/
  | pinTranslate (t : Tick) (r : Machine.RecRef)
  /-- PIN_VERIFY (R274). -/
  | pinVerify (t : Tick) (r : Machine.RecRef)
  /-- CARD_CHECK_GENERATE (R275). -/
  | cardCheckGenerate (t : Tick) (r : Machine.RecRef)
  /-- CARD_CHECK_VERIFY (R275). -/
  | cardCheckVerify (t : Tick) (r : Machine.RecRef)
  /-- ENCIPHER (R155). -/
  | encipher (t : Tick) (r : Machine.RecRef)
  /-- DECIPHER (R155). -/
  | decipher (t : Tick) (r : Machine.RecRef)
  /-- MAC_GEN (R155). -/
  | macGen (t : Tick) (r : Machine.RecRef)
  /-- MAC_VER (R155). -/
  | macVer (t : Tick) (r : Machine.RecRef)
  /-- BAL_MAC_GEN (R384). -/
  | balMacGen (t : Tick) (r : Machine.RecRef)
  /-- BAL_MAC_VER (R384). -/
  | balMacVer (t : Tick) (r : Machine.RecRef)
  /-- PIN_XLATE (R155). -/
  | pinXlate (t : Tick) (r : Machine.RecRef)
  /-- KH1_PIN_VERIFY (R155). -/
  | kh1PinVerify (t : Tick) (r : Machine.RecRef)
  /-- RANDOM (R333). -/
  | random (t : Tick) (r : Machine.RecRef)
  /-- SQ_TAIL_DOORBELL (R107). -/
  | sqTailDoorbell (t : Tick) (fn q v : Nat)
  /-- CQ_HEAD_DOORBELL (R107). -/
  | cqHeadDoorbell (t : Tick) (fn q v : Nat)
  /-- SQ_ENTRY_FETCHED (R112). -/
  | sqEntryFetched (t : Tick) (fn q : Nat) (f : Machine.Fetched)
  /-- QUEUE_ENABLE (R106). -/
  | queueEnable (t : Tick) (fn q : Nat) (v : Word32)
  /-- QUEUE_DISABLE (R118). -/
  | queueDisable (t : Tick) (fn q : Nat) (v : Word32)
  /-- QUEUE_DRAIN_END (R118). -/
  | queueDrainEnd (t : Tick) (fn q : Nat)
  /-- MSIX_AGGREGATION_TIMEOUT (R116). -/
  | msixAggregationTimeout (t : Tick) (fn q : Nat)
  /-- TTU_WINDOW_WRITE (R102). -/
  | ttuWindowWrite (t : Tick) (fn w reg : Nat) (v : Word32)
  /-- FLR_START (R124). -/
  | flrStart (t : Tick) (vf : Nat)
  /-- FLR_COMPLETE (R125). -/
  | flrComplete (t : Tick) (vf : Nat)
  /-- VF_DISABLE (R97). -/
  | vfDisable (t : Tick) (vfEnable : Bool) (numVfs : Nat)
  /-- CONFIGURATION_REQUEST (R71). -/
  | configurationRequest (t : Tick) (fn : Nat) (c : Machine.CfgReq)
  /-- HOST_INTERFACE_RESET (R127). -/
  | hostInterfaceReset (t : Tick) (k : Machine.HifReset)
  /-- BAR0_MISALIGNED_ACCESS (R95). -/
  | bar0MisalignedAccess (t : Tick) (fn : Nat) (write : Bool)
  /-- POISONED_WRITE (R130). -/
  | poisonedWrite (t : Tick) (fn : Nat)
  /-- ECRC_FAILURE (R130). -/
  | ecrcFailure (t : Tick) (fn : Nat)
  /-- DMA_COMPLETION (R129). -/
  | dmaCompletion (t : Tick) (fn q : Nat) (k : Machine.ReadKind) (stamp : Tick) (good : Bool)
  /-- COMPLETION_TIMEOUT (R129). -/
  | completionTimeout (t : Tick) (fn q : Nat) (k : Machine.ReadKind)
  /-- REGISTER_WRITE (R575). -/
  | registerWrite (t : Tick) (path : Machine.Path) (off : Nat) (v : BitVec 64) (eight : Bool)
  /-- PAIR_CAPTURE_READ (R576). -/
  | pairCaptureRead (t : Tick) (path : Machine.Path) (off : Nat) (eight : Bool)
  /-- RNG_FIFO_DATA_READ (R331). -/
  | rngFifoDataRead (t : Tick)
  /-- DOMAIN_ON (R559). -/
  | domainOn (t : Tick) (domain : Nat) (units : BitVec 16) (discard : Bool) (rsv : Byte)
  /-- DOMAIN_RETAIN (R559). -/
  | domainRetain (t : Tick) (domain : Nat) (units : BitVec 16) (discard : Bool) (rsv : Byte)
  /-- DOMAIN_OFF (R559). -/
  | domainOff (t : Tick) (domain : Nat) (units : BitVec 16) (discard : Bool) (rsv : Byte)
  /-- POWER_REQUEST_DECISION (R560). -/
  | powerRequestDecision (t : Tick)
  /-- POWER_REQUEST_END (R560). -/
  | powerRequestEnd (t : Tick) (copyGood testsPass : Bool)
  /-- PWR_CLK_OVERRIDE_WRITE (R566). -/
  | pwrClkOverrideWrite (t : Tick) (island mhz : Nat)
  /-- IRQ_GROUP_WRITE (R569). -/
  | irqGroupWrite (t : Tick) (g : Nat) (v : Word32)
  /-- LEAF_CAUSE_CLEAR (R568). -/
  | leafCauseClear (t : Tick) (leaf : Machine.Leaf) (v : Word32)
  /-- RESAW_START (R418). -/
  | resawStart (t : Tick) (index : Option Nat)
  /-- RESAW_WINDOW (R418). -/
  | resawWindow (t : Tick) (poisoned : Nat)
  /-- NDL_PORT_ENABLE (R424). -/
  | ndlPortEnable (t : Tick) (port : Nat) (on : Bool)
  /-- NDL_RETRAIN (R439). -/
  | ndlRetrain (t : Tick) (port : Nat)
  /-- NDL_DROP (R457). -/
  | ndlDrop (t : Tick) (port : Nat)
  /-- POT_ENTRY_WRITE (R493). -/
  | potEntryWrite (t : Tick) (v : BitVec 16)
  /-- POT_ENTRY_EFFECT (R494). -/
  | potEntryEffect (t : Tick)
  /-- MPU_ENTRY_WRITE (R499). -/
  | mpuEntryWrite (t : Tick) (path : Machine.Path) (mpu entry reg : Nat) (v : Word32)
  /-- KH1_STRADDLE_WRITE (R499). -/
  | kh1StraddleWrite (t : Tick) (core : Nat) (on : Bool)
  /-- BNK_GROUP_OWNER_WRITE (R503). -/
  | bnkGroupOwnerWrite (t : Tick) (g : Nat) (v : Word32)
  /-- BANK_GROUP_WIPE_DONE (R503). -/
  | bankGroupWipeDone (t : Tick) (g : Nat)
  /-- ISO_DMA_ASSIGN_WRITE (R509). -/
  | isoDmaAssignWrite (t : Tick) (k : Nat) (v : Word32)
  /-- ISO_IRQ_ROUTE_WRITE (R510). -/
  | isoIrqRouteWrite (t : Tick) (l core : Nat)
  /-- LOG_PEEK_INDEX_WRITE (R545). -/
  | logPeekIndexWrite (t : Tick) (path : Machine.Path) (v : Word32)
  /-- RPL_BREAK_WRITE (R554). -/
  | rplBreakWrite (t : Tick) (v : Word32)
  /-- I3C_PRIVATE_WRITE (R585). -/
  | i3cPrivateWrite (t : Tick) (data : Bytes)
  /-- I3C_PRIVATE_READ (R585). -/
  | i3cPrivateRead (t : Tick) (n : Nat)
  /-- SETDASA (R604). -/
  | setdasa (t : Tick) (addr : BitVec 7)
  /-- RSTDAA (R604). -/
  | rstdaa (t : Tick)
  /-- GETBCR (R604). -/
  | getbcr (t : Tick)
  /-- GETDCR (R604). -/
  | getdcr (t : Tick)
  /-- GETSTATUS (R604). -/
  | getstatus (t : Tick)
  /-- ENEC (R604). -/
  | enec (t : Tick)
  /-- DISEC (R604). -/
  | disec (t : Tick)
  /-- IDCODE (R605). -/
  | idcode (t : Tick)
  /-- SAMPLE_PRELOAD (R605). -/
  | samplePreload (t : Tick) (balls shift : Bytes)
  /-- EXTEST (R605). -/
  | extest (t : Tick)
  /-- CLAMP (R605). -/
  | clamp (t : Tick)
  /-- HIGHZ (R605). -/
  | highz (t : Tick)
  /-- BYPASS (R605). -/
  | bypass (t : Tick) (code : Byte)
  /-- LCS_ADVANCE (R43). -/
  | lcsAdvance (t : Tick)
  /-- DEBUG_ACCESS (R50). -/
  | debugAccess (t : Tick) (code : Byte) (op : Machine.DebugOp)
  /-- TAP_RESET (R605). -/
  | tapReset (t : Tick)
  /-- POWER_ON_RESET (R60). -/
  | powerOnReset (t : Tick)
  /-- SYS_RESET_N_ASSERT (R599). -/
  | sysResetNAssert (t : Tick) (ns : Nat)
  /-- SYS_RESET_N_DEASSERT (R59). -/
  | sysResetNDeassert (t : Tick)
  /-- MAIN_POWER_LOSS (R514). -/
  | mainPowerLoss (t : Tick)
  /-- VBAT_LOSS_IN_DORMANT (R528). -/
  | vbatLossInDormant (t : Tick)
  /-- OTP_DECODE (R35). -/
  | otpDecode (t : Tick) (badEntries : List Nat)
  /-- TALLY_CATCH_UP (R66). -/
  | tallyCatchUp (t : Tick)
  /-- ENTROPY_START_UP (R70). -/
  | entropyStartUp (t : Tick) (katPass : Bool) (failed : List (Nat × Bool))
  /-- MANIFEST_HEADER_READ (R78). -/
  | manifestHeaderRead (t : Tick) (header : Bytes) (flashSize : Nat)
  /-- FLASH_IDENTIFICATION_TIMEOUT (R603). -/
  | flashIdentificationTimeout (t : Tick)
  /-- SETTINGS_SECTION_READ (R78). -/
  | settingsSectionRead (t : Tick) (data : Bytes)
  /-- FIRMWARE_SECTIONS_READ (R73). -/
  | firmwareSectionsRead (t : Tick) (sections : List Bytes)
  /-- SDRAM_TRAINING_DONE (R401). -/
  | sdramTrainingDone (t : Tick) (ch0 ch1 mismatch : Bool) (config : Word32)
  /-- BARRIER_START (R87). -/
  | barrierStart (t : Tick)
  /-- BARRIER_ACK (R87). -/
  | barrierAck (t : Tick) (island : Nat) (stamp : Tick)
  /-- BARRIER_TIMEOUT (R88). -/
  | barrierTimeout (t : Tick)
  /-- LCS_BIT_WRITE (R37). -/
  | lcsBitWrite (t : Tick) (verified : Bool)
  /-- TALLY_INCREMENT (R531). -/
  | tallyIncrement (t : Tick) (verified : Bool)
  /-- TAMPER_CONDITION_ONSET (R516). -/
  | tamperConditionOnset (t : Tick) (cls : Nat) (detail : Word32)
  /-- TAMPER_CONDITION_CLEAR (R516). -/
  | tamperConditionClear (t : Tick) (cls : Nat)
  /-- GLITCH_EXCURSION_END (R514). -/
  | glitchExcursionEnd (t : Tick) (cls : Nat) (first : Tick) (detail : Word32)
  /-- TAMPER_DEBOUNCE_EXPIRY (R519). -/
  | tamperDebounceExpiry (t : Tick) (classes : List (Nat × Word32))
  /-- DOZE_SAMPLE (R524). -/
  | dozeSample (t : Tick) (held : List (Nat × Word32))
  /-- SEVER_DRAIN_DONE (R520). -/
  | severDrainDone (t : Tick)
  /-- CLEARS_DONE (R522). -/
  | clearsDone (t : Tick)
  /-- CARD_INSERTION (R237). -/
  | cardInsertion (t : Tick) (port : Nat)
  /-- CARD_INSERTION_RECOGNISED (R237). -/
  | cardInsertionRecognised (t : Tick) (port : Nat)
  /-- CARD_REMOVAL (R250). -/
  | cardRemoval (t : Tick) (port : Nat)
  /-- OVERCURRENT_ONSET (R237). -/
  | overcurrentOnset (t : Tick) (port : Nat)
  /-- OVERCURRENT_FILTER_EXPIRY (R237). -/
  | overcurrentFilterExpiry (t : Tick) (port : Nat)
  /-- CARD_ACTIVATION_TIMER (R228). -/
  | cardActivationTimer (t : Tick) (port : Nat)
  /-- CARD_DEACTIVATION_TIMER (R228). -/
  | cardDeactivationTimer (t : Tick) (port : Nat)
  /-- ATR_TIMEOUT (R228). -/
  | atrTimeout (t : Tick) (port : Nat)
  /-- CARD_ATR (R229). -/
  | cardAtr (t : Tick) (port : Nat) (atr : Bytes)
  /-- PPS_RESPONSE (R230). -/
  | ppsResponse (t : Tick) (port : Nat) (data : Bytes)
  /-- PPS_TIMEOUT (R230). -/
  | ppsTimeout (t : Tick) (port : Nat)
  /-- S_IFS_RESPONSE (R231). -/
  | sIfsResponse (t : Tick) (port : Nat) (data : Bytes)
  /-- T1_I_BLOCK (R232). -/
  | t1IBlock (t : Tick) (port : Nat) (block : Bytes) (stamp : Tick)
  /-- T1_R_BLOCK (R232). -/
  | t1RBlock (t : Tick) (port : Nat) (block : Bytes) (stamp : Tick)
  /-- T1_BAD_BLOCK (R233). -/
  | t1BadBlock (t : Tick) (port : Nat)
  /-- BWT_EXPIRY (R233). -/
  | bwtExpiry (t : Tick) (port : Nat)
  /-- S_WTX_REQUEST (R234). -/
  | sWtxRequest (t : Tick) (port : Nat) (mult : Nat)
  /-- S_ABORT_REQUEST (R233). -/
  | sAbortRequest (t : Tick) (port : Nat)
  /-- S_RESYNCH_RESPONSE (R233). -/
  | sResynchResponse (t : Tick) (port : Nat)
  /-- SELECT_ANSWER (R235). -/
  | selectAnswer (t : Tick) (port : Nat) (sw : BitVec 16)
  /-- READ_CERT_ANSWER (R235). -/
  | readCertAnswer (t : Tick) (port : Nat) (data : Bytes) (sw : BitVec 16)
  /-- AUTHENTICATE_ANSWER (R235). -/
  | authenticateAnswer (t : Tick) (port : Nat) (data : Bytes) (sw : BitVec 16)
  /-- CONFIRM_ANSWER (R223). -/
  | confirmAnswer (t : Tick) (port : Nat) (sw : BitVec 16) (stamp : Tick)
  /-- BIND_ANSWER (R218). -/
  | bindAnswer (t : Tick) (port : Nat) (sw : BitVec 16)
  /-- TRANSIT_INSERTION (R238). -/
  | transitInsertion (t : Tick)
  /-- TRANSIT_REMOVAL (R251). -/
  | transitRemoval (t : Tick)
  /-- SD_POWER_UP_TIMER (R239). -/
  | sdPowerUpTimer (t : Tick)
  /-- SD_COMMAND_RESPONSE (R242). -/
  | sdCommandResponse (t : Tick) (data : Bytes) (crcGood : Bool)
  /-- SD_RESPONSE_TIMEOUT (R242). -/
  | sdResponseTimeout (t : Tick)
  /-- SD_READ_BLOCK (R242). -/
  | sdReadBlock (t : Tick) (data : Bytes) (crcGood : Bool)
  /-- SD_READ_TIMEOUT (R242). -/
  | sdReadTimeout (t : Tick)
  /-- SD_CRC_STATUS_TOKEN (R242). -/
  | sdCrcStatusToken (t : Tick) (good : Bool)
  /-- SD_BUSY_END (R242). -/
  | sdBusyEnd (t : Tick)
  /-- SD_BUSY_TIMEOUT (R242). -/
  | sdBusyTimeout (t : Tick)
  /-- ACMD41_RETRY (R239). -/
  | acmd41Retry (t : Tick)
  /-- ACMD41_TIMEOUT (R239). -/
  | acmd41Timeout (t : Tick)
  /-- VOLTAGE_SWITCH_WAIT (R240). -/
  | voltageSwitchWait (t : Tick) (datHigh : Bool)
  /-- DAT_HIGH_TIMEOUT (R240). -/
  | datHighTimeout (t : Tick)
  /-- SD_POWER_CYCLE_WAIT (R240). -/
  | sdPowerCycleWait (t : Tick)
  /-- SD_TUNING_BLOCK (R239). -/
  | sdTuningBlock (t : Tick) (good : Bool)
  /-- NDL_DETECT_TIMER (R427). -/
  | ndlDetectTimer (t : Tick) (port : Nat) (terminated : Bool)
  /-- TRAINING_SEQUENCE (R428). -/
  | trainingSequence (t : Tick) (port lane : Nat) (ts : BitVec 80)
  /-- TRAINING_WINDOW_EXPIRY (R427). -/
  | trainingWindowExpiry (t : Tick) (port : Nat)
  /-- KEY_FAIL_BACKOFF_EXPIRY (R430). -/
  | keyFailBackoffExpiry (t : Tick) (port : Nat)
  /-- LANE_LOCK_LOSS (R439). -/
  | laneLockLoss (t : Tick) (port lane : Nat)
  /-- RETRAIN_WINDOW_EXPIRY (R439). -/
  | retrainWindowExpiry (t : Tick) (port : Nat)
  /-- FLIT_RECEIVED (R437). -/
  | flitReceived (t : Tick) (port : Nat) (flit : BitVec 320)
  /-- NAK_RECEIVED (R438). -/
  | nakReceived (t : Tick) (port : Nat) (flit : BitVec 320)
  /-- REPLAY_TIMER_EXPIRY (R438). -/
  | replayTimerExpiry (t : Tick) (port : Nat)
  /-- CONVOY_TAG_CHECK (R444). -/
  | convoyTagCheck (t : Tick) (port : Nat)
  /-- MESSAGE_FORWARD (R450). -/
  | messageForward (t : Tick) (port : Nat) (msg : Bytes)
  /-- KEY_OFFER (R430). -/
  | keyOffer (t : Tick) (port : Nat) (offer : Bytes)
  /-- KEY_CONFIRM (R431). -/
  | keyConfirm (t : Tick) (port : Nat) (confirm : Bytes)
  /-- ROUTE_PROBE (R452). -/
  | routeProbe (t : Tick) (m : Machine.Msg)
  /-- ROUTE_ECHO (R452). -/
  | routeEcho (t : Tick) (m : Machine.Msg)
  /-- MIRROR_POSTING (R362). -/
  | mirrorPosting (t : Tick) (m : Machine.Msg)
  /-- MIRROR_ACK (R362). -/
  | mirrorAck (t : Tick) (m : Machine.Msg)
  /-- CELLAR_SYNC (R464). -/
  | cellarSync (t : Tick) (m : Machine.Msg)
  /-- CELLAR_SYNC_ACK (R464). -/
  | cellarSyncAck (t : Tick) (m : Machine.Msg)
  /-- COUNTER_ADVANCE (R196). -/
  | counterAdvance (t : Tick) (m : Machine.Msg)
  /-- RESYNC_BULK (R469). -/
  | resyncBulk (t : Tick) (m : Machine.Msg)
  /-- RESYNC_ACK (R469). -/
  | resyncAck (t : Tick) (m : Machine.Msg)
  /-- TWIN_STATE (R481). -/
  | twinState (t : Tick) (m : Machine.Msg)
  /-- DECISION_RECORD (R464). -/
  | decisionRecord (t : Tick) (m : Machine.Msg)
  /-- LEG_PREPARE (R454). -/
  | legPrepare (t : Tick) (m : Machine.Msg)
  /-- LEG_PREPARED (R369). -/
  | legPrepared (t : Tick) (m : Machine.Msg)
  /-- LEG_REFUSED (R369). -/
  | legRefused (t : Tick) (m : Machine.Msg)
  /-- LEG_COMMIT (R454). -/
  | legCommit (t : Tick) (m : Machine.Msg)
  /-- LEG_ABORT (R454). -/
  | legAbort (t : Tick) (m : Machine.Msg)
  /-- LEG_DONE (R372). -/
  | legDone (t : Tick) (m : Machine.Msg)
  /-- LEG_REPORT (R371). -/
  | legReport (t : Tick) (m : Machine.Msg)
  /-- EPOCH_PREPARE (R479). -/
  | epochPrepare (t : Tick) (m : Machine.Msg)
  /-- EPOCH_READY (R478). -/
  | epochReady (t : Tick) (m : Machine.Msg)
  /-- EPOCH_COMMIT (R479). -/
  | epochCommit (t : Tick) (m : Machine.Msg)
  /-- EPOCH_ROLLBACK (R479). -/
  | epochRollback (t : Tick) (m : Machine.Msg)
  /-- EPOCH_REFUSE (R480). -/
  | epochRefuse (t : Tick) (m : Machine.Msg)
  /-- EPOCH_DONE (R478). -/
  | epochDone (t : Tick) (m : Machine.Msg)
  /-- COMMAND_FORWARD (R474). -/
  | commandForward (t : Tick) (m : Machine.Msg)
  /-- COMMAND_RESULT (R474). -/
  | commandResult (t : Tick) (m : Machine.Msg)
  /-- LADING_MOVE (R475). -/
  | ladingMove (t : Tick) (m : Machine.Msg)
  /-- LADING_ACK (R475). -/
  | ladingAck (t : Tick) (m : Machine.Msg)
  /-- MIRROR_TIMEOUT (R362). -/
  | mirrorTimeout (t : Tick) (txn : Nat)
  /-- SYNC_TIMEOUT (R464). -/
  | syncTimeout (t : Tick) (txn : Nat)
  /-- CARAVAN_TIMEOUT (R474). -/
  | caravanTimeout (t : Tick) (txn : Nat)
  /-- EPOCH_PREPARE_WINDOW_EXPIRY (R478). -/
  | epochPrepareWindowExpiry (t : Tick)
  /-- PREPARE_WINDOW_EXPIRY (R370). -/
  | prepareWindowExpiry (t : Tick) (ledger : Nat) (id : Bytes)
  /-- DECISION_WINDOW_EXPIRY (R372). -/
  | decisionWindowExpiry (t : Tick) (ledger : Nat) (id : Bytes)
  /-- TWIN_DISCONNECT_TIMEOUT (R462). -/
  | twinDisconnectTimeout (t : Tick)
  /-- UNACKNOWLEDGED_TIMEOUT (R462). -/
  | unacknowledgedTimeout (t : Tick)
  /-- PAIRING_TIMEOUT (R462). -/
  | pairingTimeout (t : Tick)
  /-- RESYNC_START (R466). -/
  | resyncStart (t : Tick)
  /-- RESYNC_WINDOW_EXPIRY (R470). -/
  | resyncWindowExpiry (t : Tick)
  /-- RESYNC_HOLD_EXPIRY (R470). -/
  | resyncHoldExpiry (t : Tick)
  /-- COUNTER_ADVANCE_SEND (R196). -/
  | counterAdvanceSend (t : Tick)
  /-- OUTCOME_BATCH_SYNC (R463). -/
  | outcomeBatchSync (t : Tick)
  /-- RECEIPT_EXPIRY (R483). -/
  | receiptExpiry (t : Tick) (tenant : Nat) (nonce : Bytes)
  /-- PENDING_MARK_CLEAR (R357). -/
  | pendingMarkClear (t : Tick) (r : Machine.RecRef)
  /-- CHECKPOINT_COPY_DONE (R373). -/
  | checkpointCopyDone (t : Tick) (ledger : Nat)
  /-- JOURNAL_BLOCK_SIGN (R364). -/
  | journalBlockSign (t : Tick) (ledger : Nat)
  /-- CAPTURE_BASE_COPY_DONE (R547). -/
  | captureBaseCopyDone (t : Tick)
  /-- REPLAY_RECORD (R552). -/
  | replayRecord (t : Tick)
  /-- LOG_FREEZE_WINDOW_CLOSE (R539). -/
  | logFreezeWindowClose (t : Tick)
  /-- SKIDDER_VISIT (R188). -/
  | skidderVisit (t : Tick)
  /-- SCRUBBER_READ (R23). -/
  | scrubberRead (t : Tick) (a : Machine.ArrayKind) (word errors : Nat)
  /-- LANE_JOB_DISPATCH (R253). -/
  | laneJobDispatch (t : Tick) (k : Machine.LaneKind) (lane : Nat)
  /-- MASK_RESEED_POINT (R268). -/
  | maskReseedPoint (t : Tick) (lane : Nat)
  /-- CIPHER_JOB_DONE (R267). -/
  | cipherJobDone (t : Tick) (lane : Nat) (fault : Machine.JobFault)
  /-- DIGEST_JOB_DONE (R277). -/
  | digestJobDone (t : Tick) (lane : Nat) (fault : Machine.JobFault)
  /-- BIG_NUMBER_JOB_DONE (R295). -/
  | bigNumberJobDone (t : Tick) (lane : Nat) (fault : Machine.JobFault) (discards : Nat)
  /-- DECIMAL_JOB_DONE (R386). -/
  | decimalJobDone (t : Tick) (lane : Nat) (fault : Machine.JobFault)
  /-- START_UP_TEST_DONE (R319). -/
  | startUpTestDone (t : Tick) (source : Nat) (rctFail aptFail : Bool)
  /-- REPETITION_COUNT_TEST_FAIL (R318). -/
  | repetitionCountTestFail (t : Tick) (source : Nat)
  /-- ADAPTIVE_PROPORTION_TEST_FAIL (R318). -/
  | adaptiveProportionTestFail (t : Tick) (source : Nat)
  /-- CONDITIONER_BLOCK_CLOSE (R317). -/
  | conditionerBlockClose (t : Tick)
  /-- QUARANTINE_WINDOW_CLOSE (R321). -/
  | quarantineWindowClose (t : Tick) (source : Nat)
  /-- BUFFER_REFILL (R329). -/
  | bufferRefill (t : Tick) (k : Machine.LaneKind) (lane : Nat)
  /-- WARDEN_FIFO_REFILL (R331). -/
  | wardenFifoRefill (t : Tick)
  /-- COMMAND_DEADLINE_EXPIRY (R148). -/
  | commandDeadlineExpiry (t : Tick) (r : Machine.RecRef)
  /-- CELL_FITTED (R515). -/
  | cellFitted (t : Tick)
  /-- PCIE_LINK_UP (R127). -/
  | pcieLinkUp (t : Tick) (width speed : Nat)
deriving DecidableEq, Repr

end Sys2Proof
end

