-- ==== Sys2Proof/Config.lean ====
section
/-! DEFINITION. What the spec leaves open or to an implementation: constants with no body, so that nothing
can be proved of their values. -/

namespace Sys2Proof.Config

/-- Byte `n` that the DRBG gives, counting every byte drawn (R323, R330): a free value. -/
opaque drawByte : Nat → Byte
/-- Vendor authority's public key, P-384 x then y, fixed in the boot ROM (R49). -/
opaque vendorKey : BitVec 768
/-- Scalar of the device identity key, derived from the device secret (R45, Table 3-3). -/
opaque identityScalar : Bytes → Nat
/-- Scalar of the device custody key, derived from the device secret at BOOT stage 4 (Table 7-12). -/
opaque custodyScalar : Bytes → Nat
/-- Check value of an asymmetric key, for which R180 gives no rule: a free value, by type and key. -/
opaque checkValue : Nat → Bytes → Bytes
/-- The prime that an RSA key generation accepts: bits, and the count of bytes drawn before it. R309 gives the search, not
how many draws it takes: a free value. -/
opaque rsaPrime : Nat → Nat → Nat
/-- Bytes of blob space in warden-owned sealed memory (R169). -/
opaque blobSpace : Nat
/-- An assertion of SYS_RESET_N of so many nanoseconds acts, where it is neither shorter than 1 µs nor as long as 10 µs: R599
leaves it open. -/
opaque resetActs : Nat → Bool
/-- Symbol positions of a ×4 device within a line, by device and index 0-7: R406 says that it holds 8 whole symbols, not
which. -/
opaque deviceSymbol : Nat → Nat → Nat
/-- A stored row of a scrambled and masked array as array_access reads it (R199): array, index. -/
opaque storedRow : Nat → Nat → Bytes
/-- A scan of a lane's chains under lane_scan (R199): kind, lane. -/
opaque scanOut : Nat → Nat → Bytes
/-- Temperature that an on-die sensor reports at a tick, °C in two's complement (Table 17-7): sensor, tick. -/
opaque temperature : Nat → Nat → Byte
/-- A core's registers under drover_run or warden_run (Table 2-7): core, tick. -/
opaque coreRegs : Nat → Nat → Bytes
/-- A core's instruction trace (Table 2-7): core, tick. -/
opaque coreTrace : Nat → Nat → Bytes
/-- A byte that memory built-in self-test leaves in an array (Table 2-7): tick, address. -/
opaque mbistByte : Nat → Nat → Byte
/-- Raw ciphertext and sideband of a line that nothing has written (Table 2-7, R411). -/
opaque rawLine : Nat → Bytes
/-- Twin state code of another member as the lead reports it: no message tells it, a free value by member and tick. -/
opaque memberTwinState : Nat → Nat → Byte
/-- Sealed memory can hold the base of a capture and so many MiB of its spill: R546 gives neither the base's size nor the
space. -/
opaque captureFits : Nat → Bool

end Sys2Proof.Config
end

