-- ==== Sys2Proof/Machine/State.lean ====
section
/-! DEFINITION. The state of the block: every register, array, queue, counter, mode and pin the spec gives it, as plain
data in one group for each part of the chip, the faults and refusals, and the state right after a power-on reset. Each
field's docstring gives its width, the rule of spec/ that names it and its reset value. -/

namespace Sys2Proof.Machine

/-- Why a step stops with a fault. -/
inductive Fault where
  /-- Raised by every command whose operands name a unit the spec says does not exist: a function above 255, a queue
  pair, lane, port, island, source or class out of range (check WellFormed). Safe: the hardware has no such event. -/
  | noSuchUnit
deriving DecidableEq, Repr

/-- Why a step refuses a command. -/
inductive Refusal where
  /-- Raised by exec's arm of a command that has no meaning yet; names its mnemonic. Safe: nothing is claimed of it. -/
  | notModelled (mnemonic : String)
deriving DecidableEq, Repr

/-- OTP: what only ever sets (always-on island). -/
structure Otp where
  /-- Copy 0 of the life-cycle code; 32 bits. R35. Reset: unprogrammed 0 (R34). -/
  lcs0 : Word32 := 0
  /-- Copy 1; 32 bits. R35. Reset: 0 (R34). -/
  lcs1 : Word32 := 0
  /-- Copy 2; 32 bits. R35. Reset: 0 (R34). -/
  lcs2 : Word32 := 0
  /-- TOP_SERIAL; 64 bits. R580. Reset: DESIGN CHOICE 0, unprogrammed (entry 3). -/
  serial : Nat := 0
  /-- TOP_ID.grade; 2 bits. Table 20-7. Reset: DESIGN CHOICE 0 (entry 3). -/
  grade : Nat := 0
  /-- Manifest-key slots programmed, 48 bytes each, at most 16. R79. Reset: blank. -/
  mkey : List Bytes := []
  /-- Owner-debug-authority slots programmed, 16 bytes each, at most 8. R79. Reset: blank. -/
  debugSlots : List Bytes := []
  /-- Twin-identity slots programmed, 64 bits each, at most 64. R79. Reset: blank. -/
  twin : List Nat := []
  /-- Tally counters, 32 of 64 bits that only set. R530. Reset: 0. -/
  tally : Map (BitVec 64) := []
  /-- Device secret; 256 bits. Table 2-5, R63. Reset: DESIGN CHOICE empty (entry 3). -/
  secret : Bytes := []
  /-- Device certificate, Table 14-5; 352 bytes. Reset: DESIGN CHOICE empty (entry 3). -/
  cert : Bytes := []
deriving DecidableEq, Repr

/-- A life-cycle transition that the OTP controller programs (R37). -/
structure LcsWrite where
  target : Nat := 0
  /-- Writes still to make: bit and copy, in order. -/
  todo : List (Nat × Nat) := []
  /-- The write at the front failed once (R40). -/
  retried : Bool := false
  /-- The command that asked, none for LCS_ADVANCE. -/
  ref : Option RecRef := none
deriving DecidableEq, Repr

/-- Life-cycle logic. -/
structure Lcs where
  /-- LCS_CODE_COPY0; 32 bits. R57, Table 2-9. Reset: 0 until stage 1 reads it (entry 4). -/
  copy0 : Word32 := 0
  /-- LCS_CODE_COPY1; 32 bits. Table 2-9. Reset: as copy0. -/
  copy1 : Word32 := 0
  /-- LCS_CODE_COPY2; 32 bits. Table 2-9. Reset: as copy0. -/
  copy2 : Word32 := 0
  /-- The transition under way, LCS_STATUS.transition_busy; Table 2-10, R43. Reset: none. -/
  write : Option LcsWrite := none
  /-- The stored warrant applies in this boot, LCS_STATUS.warrant_active; 1 bit. R54. Reset: 0. -/
  warrantActive : Bool := false
  /-- The device identity key is derived; 1 bit. R45, R46, Table 3-3. Reset: 0. -/
  identity : Bool := false
deriving DecidableEq, Repr

/-- The vault, 16 KiB in the battery island (Table 6-1). -/
structure Vault where
  /-- The live marker reads 0xC3A5_0F78_96E1_5A3C; R68. Reset: DESIGN CHOICE absent, never powered (entry 3). -/
  marker : Bool := false
  /-- Boot counter; 32 bits. R54. Reset: 0 (R69). -/
  bootCount : Nat := 0
  /-- Manifest floor; 32 bits. R74. Reset: 0 (R69). -/
  floor : Nat := 0
  /-- Boot nonce; 128 bits. R54. Reset: zeros (R69). -/
  nonce : Bytes := List.replicate 16 0
  /-- Warrant slot; 160 bytes. R53. Reset: empty (R69). -/
  warrant : Option Bytes := none
  /-- Vault key records 0-255 (domain root and trunks). R162, Table 6-2. Reset: empty (R69). -/
  keys : Map KeyRecord := []
  /-- Custody region: custody nonce; 256 bits. R213, R214. Reset: zeros (R69). -/
  custodyNonce : Bytes := List.replicate 32 0
  /-- Custody region: tenant 0's authority pin, an authority_id; 128 bits. R213, R217. Reset: zeros (R69). -/
  pin : Bytes := List.replicate 16 0
  /-- Custody region: tenant entries 0-255. R213, Table 7-4. Reset: empty (R69). -/
  custody : Map CustodyEntry := []
  /-- Checkpoint region: 512 epoch entries. R340, Table 11-2. Reset: empty (R69). -/
  epochs : Map EpochEntry := []
deriving DecidableEq, Repr

/-- A session of RECOVERY (R82, R83). -/
structure RecoverySession where
  header : Bytes := []
  /-- Data written so far, by section index. -/
  written : Map Bytes := []
  /-- Slot fields classified as next: manifest key, debug authority, twin. -/
  next : List Bool := []
deriving DecidableEq, Repr

/-- Quorum configuration of one owner, settings record 0x0008 (R211). -/
structure Custody where
  tenant : Nat := 0
  m : Nat := 0
  window : Nat := 0
  authority : Bytes := []
deriving DecidableEq, Repr

/-- Tamper response of one class, Table 17-3. -/
structure TamperRule where
  response : Response := .none
  debounce : Nat := 0
deriving DecidableEq, Repr

/-- A route of settings record 0x0003 (R448). -/
structure Route where
  port : Nat := 0
  hops : List Nat := []
  serial : Nat := 0
deriving DecidableEq, Repr

/-- The settings in force, Table 3-7. -/
structure Settings where
  /-- Record 0x0001: MHz per island. R565. Before stage 6: nominal (R566). -/
  clocks : List Nat := [1000, 1600, 1200, 1000, 1200, 1200, 1600, 1000, 1600, 1000, 200, 100, 0]
  /-- Record 0x0002. R98. Before stage 6: none. -/
  tenantCount : Nat := 0
  pf0Queues : Nat := 0
  vfQueues : List Nat := []
  /-- Record 0x0003. R448. Before stage 6: a single member. -/
  self : Nat := 0
  memberCount : Nat := 1
  routes : Map Route := []
  peers : List Nat := []
  /-- Record 0x0004. R458. Before stage 6: zeros. -/
  keelSerial : Nat := 0
  mirrorTimeout : Nat := 0
  syncTimeout : Nat := 0
  caravanTimeout : Nat := 0
  twinOf : List Nat := []
  /-- Record 0x0005: limit of each class. R194. Before stage 6: none. -/
  limits : Map Nat := []
  /-- Record 0x0006: account limit classes (class, exponent, limit) and homing table. R349, R368. -/
  accountLimits : Map Int := []
  homes : List Nat := []
  /-- Record 0x0007. R517; the defaults of R517 before stage 6. -/
  switchLevel : Byte := 0
  tempLow : Int := -25
  tempHigh : Int := 108
  tamper : List TamperRule := []
  /-- Record 0x0008. R211. -/
  custody : List Custody := []
  /-- Record 0x0009. R227, R244. -/
  cardClasses : List (BitVec 8) := []
  cardClocks : List Nat := []
  ocFilter : Nat := 0
  transitMode : Nat := 0
  transitFlags : BitVec 8 := 0
deriving DecidableEq, Repr

/-- Manifest loader (always-on island). -/
structure Man where
  /-- MAN_STATUS.fail_cause; 4 bits. Table 3-13. Reset: 0. -/
  failCause : Nat := 0
  /-- MAN_STATUS.recovery_request; 1 bit. Table 3-13. Reset: 0. -/
  recoveryRequest : Bool := false
  /-- MAN_STATUS.vault_loss; 1 bit. R69. Reset: 0. -/
  vaultLoss : Bool := false
  /-- MAN_STATUS.floor_raised; 1 bit. R74. Reset: 0. -/
  floorRaised : Bool := false
  /-- MAN_STATUS.sections_loaded; 5 bits. Table 3-13. Reset: 0. -/
  sectionsLoaded : Nat := 0
  /-- MAN_VERSION; 32 bits. Table 3-12. Reset: 0. -/
  version : Nat := 0
  /-- MAN_MEASURE_0-11; 384 bits. R73. Reset: 0. -/
  measure : Bytes := List.replicate 48 0
  /-- Header accepted in this boot; 2 KiB. R75. Reset: none. -/
  header : Bytes := []
  /-- Settings in force. Table 3-7. Reset: the defaults. -/
  set : Settings := {}
  /-- The settings are applied (stage 6). R78. Reset: 0. -/
  applied : Bool := false
  /-- Digest of the drover firmware measured at stage 7; 48 bytes. R561. Reset: none. -/
  droverDigest : Bytes := []
  /-- RECOVERY session. R82. Reset: none. -/
  session : Option RecoverySession := none
deriving DecidableEq, Repr

/-- The ring log (always-on island). -/
structure Log where
  /-- 16,384 slots of 64 bytes. R534, R537. Power-on reset: empty (R538). -/
  slots : Map LogEntry := []
  /-- LOG_NEXT_SEQ; 64 bits. R536. Power-on reset: 1 (R538). -/
  next : Nat := 1
  /-- LOG_DROPPED_0-3; 32 bits each. R537. Power-on reset: 0. -/
  dropped : Map Nat := []
  /-- LOG_FROZEN_COUNT; 32 bits. R540. Power-on reset: 0. -/
  frozenCount : Nat := 0
  /-- LOG_CHECK_FAILS; 32 bits. R538. Power-on reset: 0. -/
  checkFails : Nat := 0
  /-- Close tick of a LOG_FREEZE window. R539. Reset: none. -/
  freeze : Option Tick := none
  /-- An export's own freeze holds, LOG_STATUS.export_freeze; 1 bit. R543. Reset: 0. -/
  exportFreeze : Bool := false
  /-- The exports that run. R543. Reset: 0. -/
  exports : Nat := 0
  /-- LOG_STATUS.forced_thaw; 1 bit. R540. Reset: 0. -/
  forcedThaw : Bool := false
  /-- Holding queue; 64 entries. R540. Reset: empty (R538). -/
  held : List LogEntry := []
  /-- Entries counted since the freeze began. R541. Reset: 0. -/
  counted : Nat := 0
  /-- LOG_PEEK_INDEX; 14 bits. R545. Reset: DESIGN CHOICE 0 (entry 5). -/
  peek : Nat := 0
  /-- LOG_PEEK_DATA_0-15; 64 bytes. R545. Reset: DESIGN CHOICE zeros (entry 5). -/
  peekData : Bytes := []
deriving DecidableEq, Repr

/-- The attention tree. -/
structure Irq where
  /-- Leaf cause registers, keyed by leaf number of Table 19-5 order; 32 bits each. R567. Reset: 0. -/
  cause : Map Word32 := []
  /-- Leaf enable registers; 32 bits each. R567. Reset: 0. -/
  enable : Map Word32 := []
  /-- IRQ_GROUP_0-7; 2 bits each. R568. Reset: 0. -/
  group : Map Word32 := []
  /-- IRQ_MSIX_EN; 8 bits. Table 19-6. Reset: 0x00. -/
  msixEn : BitVec 8 := 0
  /-- IRQ_ATTN_EN; 8 bits. Table 19-6. Reset: 0x03. -/
  attnEn : BitVec 8 := 0x03
deriving DecidableEq, Repr

/-- The power controller. -/
structure Pwr where
  /-- Unit states, keyed 32 × domain + unit; unlisted is ON. R556, R557. Reset: ON (R62). -/
  unit : Map Power := []
  /-- PWR_DOMAIN_REQ as it reads; 32 bits. Table 19-7. Reset: 0. -/
  reqReg : Word32 := 0
  /-- The request that pends, PWR_REQ_RESULT.pending. R559. Reset: none. -/
  req : Option PowerReq := none
  /-- PWR_REQ_RESULT.status; 16 bits. Table 19-8. Reset: 0. -/
  status : Status := .ok
  /-- PWR_STATUS.muster_required; 1 bit. R562. Reset: 0. -/
  muster : Bool := false
  /-- Domains discarded since the reset. R562. Reset: none. -/
  discarded : List Nat := []
  /-- PWR_REFUSALS; 32 bits. Table 19-6. Reset: 0. -/
  refusals : Nat := 0
  /-- PWR_DOORBELL_DISCARDS; 32 bits. R564. Reset: 0. -/
  doorbells : Nat := 0
  /-- PWR_CLK_OVERRIDE_0-12; 16 bits each. R566. Reset: 0. -/
  override : Map Nat := []
deriving DecidableEq, Repr

/-- Tamper monitors, responses and the wake ledger. -/
structure Tmp where
  /-- TMP_CONDITION; 22 bits. Table 17-7. Reset: 0, conditions not seen (R516). -/
  condition : BitVec 32 := 0
  /-- First tick of the condition each class holds now, and its detail. R516. Reset: none. -/
  onset : Map (Tick × Word32) := []
  /-- Classes that have raised an alarm and not been seen clear since; 22 bits. R516. Reset: 0. -/
  raised : BitVec 32 := 0
  /-- TMP_STATUS.severed; 1 bit. R520. Reset: 0. -/
  severed : Bool := false
  /-- The drain of R520 step 4 is done. Reset: 0. -/
  drained : Bool := false
  /-- TMP_STATUS.felled; 1 bit. Table 17-8. Reset: 0. -/
  felled : Bool := false
  /-- The clears of Table 17-4 are done. R522. Reset: 0. -/
  cleared : Bool := false
  /-- TMP_TICK_FELL; 64 bits. R522. Reset: 0. -/
  tickFell : Nat := 0
  /-- TMP_TICK_SEVER; 64 bits. Table 17-7. Reset: 0. -/
  tickSever : Nat := 0
  /-- TMP_OVERFLOW; 8 bits. R527. Reset: kept; first power-up DESIGN CHOICE 0 (entry 3). -/
  overflow : Nat := 0
  /-- TMP_DISCARDS; 32 bits. R520. Reset: 0. -/
  discards : Nat := 0
  /-- Wake ledger, 16 entries. R526, Table 17-6. Reset: kept; first power-up 0. -/
  wake : Map WakeEntry := []
  /-- Wake sequence; 16 bits. R526. Reset: kept; first power-up 0. -/
  wakeSeq : Nat := 0
  /-- Mesh LFSRs are seeded from the DRBG; else they run from fixed seeds. R515. Reset: kept. -/
  seeded : Bool := false
  /-- Mesh LFSR seeds, 4 loops and 8 segments; 31 bits each. R515. Reset: kept. -/
  seeds : List Nat := []
deriving DecidableEq, Repr

/-- The tally's increment queue (always-on island). -/
structure Tal where
  /-- Increments waiting, in decision order; TAL_STATUS.queued. R531. Reset: none. -/
  queue : List TallyJob := []
  /-- Counter bits that failed twice in this boot, 64 × class + bit. R531. Reset: none. -/
  failed : List Nat := []
  /-- TAL_STATUS.write_fault; 1 bit. R531. Reset: 0. -/
  writeFault : Bool := false
  /-- TAL_STATUS.catchup_done; 1 bit. Table 17-10. Reset: 0. -/
  catchup : Bool := false
deriving DecidableEq, Repr

/-- The host island. -/
structure HostIf where
  /-- HIF_STATUS.link_up; 1 bit. Table 20-10. Reset: 0. -/
  linkUp : Bool := false
  /-- HIF_STATUS.width; 2 bits. Table 20-10. Reset: 0. -/
  width : Nat := 0
  /-- HIF_STATUS.speed; 3 bits. Table 20-10. Reset: 0. -/
  speed : Nat := 0
  /-- VF Enable; 1 bit. R97. Reset: 0. -/
  vfEnable : Bool := false
  /-- NumVFs; 8 bits. R97. Reset: 0. -/
  numVfs : Nat := 0
  /-- Configuration requests are answered; 1 bit. R71. Reset: 0. -/
  released : Bool := false
  /-- Device Control: Relaxed Ordering enable per function. R114. Reset: 0. -/
  relaxed : Map Bool := []
  /-- Device Control 2: completion timeout per function in µs. R129. Reset: DESIGN CHOICE 50,000 (entry 6). -/
  cplTimeout : Map Nat := []
  /-- Queue pairs, keyed 16 × function + queue pair. R105. Reset: Table 4-4, Table 4-5. -/
  qp : Map QPair := []
  /-- TTU windows, keyed 8 × function + window. R101. Reset: 0. -/
  win : Map Window := []
  /-- TTU_STATUS.write_refused; 1 bit. Table 20-13. Reset: 0. -/
  writeRefused : Bool := false
  /-- TTU_STATUS.last_function; 8 bits. Table 20-13. Reset: 0. -/
  lastFn : Nat := 0
  /-- TTU_REFUSALS; 32 bits. R582. Reset: 0. -/
  ttuRefusals : Nat := 0
  /-- MSI-X tables and pending bits, keyed 64 × function + vector. R93, R116. Reset: masked, zero. -/
  vectors : Map Vector := []
  /-- HIF_BAR_REFUSALS; 32 bits. Table 20-9. Reset: 0. -/
  barRefusals : Nat := 0
  /-- HIF_FLRS; 32 bits. Table 20-9. Reset: 0. -/
  flrs : Nat := 0
  /-- HIF_IF_RESETS; 32 bits. Table 20-9. Reset: 0. -/
  resets : Nat := 0
  /-- VFs in function-level reset with the start tick. R124. Reset: none. -/
  flr : Map Nat := []
  /-- Read tags kept out of use after a reset, per function. R124 item 3. Reset: 0. -/
  oldReads : Map Nat := []
  /-- QUE_DOORBELL_DISCARDS per function; 32 bits. R108. Reset: 0. -/
  discards : Map Nat := []
  /-- Completions gathered for an interrupt live in the queue pair; the fetch order counter; model's own. Reset: 0. -/
  order : Nat := 0
deriving DecidableEq, Repr

/-- An item of a capture, Table 18-4. -/
inductive CaptureItem where
  | command (index : Nat) (r : Rec) (start : Tick)
  | card (port index : Nat) (stamp : Tick) (bytes : Bytes)
  | draw (index : Nat) (bytes : Bytes)
  | entropy (bytes : Bytes)
  | reset (fn : Option Nat) (tick : Tick)
  | outcome (index : Nat) (digest : Bytes)
deriving DecidableEq, Repr

/-- Replay capture and replay. -/
structure Rpl where
  /-- RPL_STATUS.capturing; 1 bit. Table 18-7. Reset: 0. -/
  capturing : Bool := false
  /-- RPL_STATUS.captured; 1 bit. Table 18-7. Reset: 0. -/
  captured : Bool := false
  /-- RPL_STATUS.full; 1 bit. Table 18-7. Reset: 0. -/
  full : Bool := false
  /-- RPL_STATUS.halted; 1 bit. R554. Reset: 0. -/
  halted : Bool := false
  /-- RPL_RECORDS; 32 bits. Table 18-5. Reset: 0. -/
  records : Nat := 0
  /-- RPL_BYTES; 64 bits. Table 18-5. Reset: 0. -/
  bytes : Nat := 0
  /-- The capture has spilled to sealed memory. R547. Reset: 0. -/
  spilled : Bool := false
  /-- spill_limit of CAPTURE_START in MiB. R546. Reset: DESIGN CHOICE 0 (entry 5). -/
  spillLimit : Nat := 0
  /-- RPL_POSITION; 32 bits. R555. Reset: 0. -/
  position : Nat := 0
  /-- RPL_DIVERGE; 32 bits. R555. Reset: 0xFFFF_FFFF. -/
  diverge : Nat := 0xFFFFFFFF
  /-- RPL_DIVERGENCES; 32 bits. R555. Reset: 0. -/
  divergences : Nat := 0
  /-- RPL_SUPPRESSED; 32 bits. R555. Reset: 0. -/
  suppressed : Nat := 0
  /-- RPL_BREAK; 32 bits. R555. Reset: 0xFFFF_FFFF. -/
  brk : Nat := 0xFFFFFFFF
  /-- Last record index to replay, 0 for all. R550. Reset: DESIGN CHOICE 0 (entry 5). -/
  last : Nat := 0
  /-- The capture, oldest item first. R548. Reset: empty. -/
  items : List CaptureItem := []
  /-- Index of the record whose draws and outcome are captured or replayed now. Model's own. Reset: none. -/
  index : Option Nat := none
  /-- A replayed record runs now. R552. Reset: 0. -/
  inRecord : Bool := false
  /-- The vault as REPLAY was entered, to which the reset that ends it returns. R553. Reset: none. -/
  vault : Option Vault := none
  /-- The halt at RPL_BREAK has been taken. R554. Reset: 0. -/
  broke : Bool := false
deriving DecidableEq, Repr

/-- A loaded custody roster (R215). -/
structure Roster where
  gen : Nat := 0
  authority : Bytes := []
  /-- Card id, fingerprint and custodian index, in ascending index order. -/
  entries : List (Nat × Bytes × Nat) := []
deriving DecidableEq, Repr

/-- A tenant's quorum (R222). -/
structure QuorumState where
  /-- 0 IDLE, 1 GATHERING, 2 COMPLETE. -/
  phase : Nat := 0
  purposes : BitVec 8 := 0
  uses : Nat := 0
  openTick : Tick := 0
  /-- Close tick of the open window or use window; 0 until the first counted card. -/
  closeTick : Tick := 0
  /-- Card ids counted. -/
  counted : List Nat := []
deriving DecidableEq, Repr

/-- A transaction that waits for the twin's acknowledgement (R362, R464). -/
structure InFlight where
  txn : Nat
  /-- The record whose completion waits, none for an outcome batch or an epoch decision. -/
  ref : Option RecRef := none
  msg : Payload
  changes : List Change := []
  /-- First send, f of R462. -/
  first : Tick := 0
  /-- Open tick of the window that runs. -/
  last : Tick := 0
  /-- The journal transaction is a MIRROR_POSTING (mirror_timeout) or a CELLAR_SYNC (sync_timeout). -/
  posting : Bool := false
deriving DecidableEq, Repr

/-- A resync under way (R469). -/
structure Resync where
  source : Bool := false
  start : Tick := 0
  pass : Nat := 0
  /-- The pass on its way: transaction, send tick, lines and message. -/
  txn : Nat := 0
  sent : Tick := 0
  lines : Nat := 0
  msg : Payload := .empty
  /-- Changes committed since the last pass. -/
  dirty : List Change := []
  /-- Open tick of the hold of step 5. -/
  hold : Option Tick := none
deriving DecidableEq, Repr

/-- Twin pairing. -/
structure Twin where
  /-- TWN_STATUS.state; 3 bits. Table 15-2, R460. Reset: 0. -/
  st : TwinState := .none
  /-- Detached hold; 1 bit. R471. Reset: 0. -/
  detached : Bool := false
  /-- TWN_LONE; 64 bits. Table 15-10. Reset: 0. -/
  lone : Nat := 0
  /-- TWN_RESYNC_LINES; 32 bits. Table 15-10. Reset: 0. -/
  lines : Nat := 0
  /-- TWN_RESYNCS; 32 bits. Table 15-10. Reset: 0. -/
  resyncs : Nat := 0
  /-- TWN_SYNC_RESENDS; 32 bits. Table 15-10. Reset: 0. -/
  resends : Nat := 0
  /-- The resync that runs. R469. Reset: none. -/
  resync : Option Resync := none
  /-- Transactions that wait for an acknowledgement, oldest first. R462. Reset: none. -/
  flight : List InFlight := []
  /-- The twin's state as its last TWIN_STATE said. R466. Reset: none. -/
  peer : Option TwinState := none
  /-- The twin's mode as its last TWIN_STATE said. R481. Reset: none. -/
  peerMode : Option Mode := none
  /-- The twin holds the detached hold, as its last TWIN_STATE said. R466. Reset: 0. -/
  peerDetached : Bool := false
  /-- The last CELLAR_SYNC number sent. Table 15-9. Reset: 0. -/
  syncNum : Nat := 0
  /-- Transactions of the twin already applied. Table 14-10. Reset: none. -/
  applied : List Nat := []
  /-- Final outcomes of commands that commit no state, not yet sent. R463. Reset: none. -/
  batch : List OutcomeWire := []
  /-- Tick of the oldest outcome in the batch. R463. Reset: DESIGN CHOICE 0 (entry 5). -/
  batchTick : Tick := 0
  /-- Tick of MUSTER entry. Table 15-3. Reset: DESIGN CHOICE 0 (entry 5). -/
  muster : Tick := 0
  /-- TWIN_REPAIR has been accepted. R466. Reset: 0. -/
  repair : Bool := false
  /-- The next transaction id. Table 14-9. Reset: DESIGN CHOICE 1 (entry 5). -/
  txn : Nat := 1
deriving DecidableEq, Repr

/-- A command that runs at other members (R474). -/
structure Forward where
  txn : Nat
  ref : RecRef
  /-- Members still to visit, the one under way first. -/
  todo : List Nat := []
  /-- Its twin has been tried too. -/
  second : Bool := false
  sent : Tick := 0
  /-- Output of the members so far. -/
  outs : Bytes := []
  status : Status := .ok
deriving DecidableEq, Repr

/-- A caravan move the lead has sent (R475). -/
structure Move where
  num : Nat
  txn : Nat := 0
  changes : List Change := []
  /-- Members that have not acknowledged. -/
  waiting : List Nat := []
  ref : Option RecRef := none
  sent : Tick := 0
deriving DecidableEq, Repr

/-- An epoch change that the lead makes (R478). -/
structure EpochChange where
  target : Mode
  /-- The new epoch. -/
  epoch : Nat := 0
  ref : Option RecRef := none
  txn : Nat := 0
  start : Tick := 0
  /-- The last send of its messages (R474). -/
  sent : Tick := 0
  participants : List Nat := []
  ready : List Nat := []
  done : List Nat := []
  /-- 0 preparing, 1 barrier, 2 decision, 3 committing, 4 rolling back. -/
  phase : Nat := 0
deriving DecidableEq, Repr

/-- The caravan. -/
structure Car where
  /-- CAR_EPOCH; 32 bits. R477. Reset: 0. -/
  epoch : Nat := 0
  /-- PREPARED for epoch + 1: the target mode and the transaction. R479. Reset: none. -/
  prepared : Option (Mode × Nat) := none
  /-- A COMMIT whose barrier runs: the new epoch, its source member and transaction. Table 15-6. Reset: none. -/
  committing : Option (Nat × Nat × Nat) := none
  /-- The change this device makes as lead. R478. Reset: none. -/
  change : Option EpochChange := none
  /-- A change rolled back, whose EPOCH_ROLLBACK has not been acknowledged by all. R456. Reset: none. -/
  undo : Option EpochChange := none
  /-- Requests that wait for a member's EPOCH_DONE: member and transaction. R480. Reset: none. -/
  retry : List (Nat × Nat) := []
  /-- Epoch decision record held: epoch and target. R464, R476. Reset: none. -/
  decision : Option (Nat × Mode) := none
  /-- CAR_BEHIND: members behind in epoch or stale. Table 15-10. Reset: none. -/
  behind : List Nat := []
  /-- Members treated as unreachable until the next device reset. R452, R480. Reset: none. -/
  excluded : List Nat := []
  /-- Members stale in moves until the next MUSTER. R475. Reset: none. -/
  stale : List Nat := []
  /-- Members whose request was retried after EPOCH_AHEAD. R480. Reset: none. -/
  retried : List Nat := []
  /-- Epoch each member last echoed. R478. Reset: 0. -/
  epochs : Map Nat := []
  /-- CAR_MOVE; 64 bits. R475. Reset: 0. -/
  move : Nat := 0
  /-- The last 65,536 moves, newest first. R475. Reset: none. -/
  moves : List Move := []
  /-- CAR_FORWARDS; 32 bits. Table 15-10. Reset: 0. -/
  forwards : Nat := 0
  /-- CAR_EPOCH_RETRIES; 32 bits. Table 15-10. Reset: 0. -/
  retries : Nat := 0
  /-- CAR_ROLLBACKS; 32 bits. Table 15-10. Reset: 0. -/
  rollbacks : Nat := 0
  /-- Commands that run at other members. R474. Reset: none. -/
  fwd : List Forward := []
deriving DecidableEq, Repr

/-- An open lading receipt (R483). -/
structure Receipt where
  tenant : Nat
  nonce : Bytes
  dest : Nat
  issued : Tick
deriving DecidableEq, Repr

/-- An NDL port (R425). -/
structure Port where
  /-- NDL_PORTn_STATUS.state; 3 bits. Table 14-15. Reset: 5 DISABLED. -/
  st : PortState := .disabled
  /-- NDL_PORTn_CTRL.enable; 1 bit. Table 14-14. Reset: 0. -/
  enable : Bool := false
  /-- Training step 1-5 of Table 14-3. R427. Reset: 1. -/
  step : Nat := 1
  /-- Start tick of the step. R427. -/
  stepTick : Tick := 0
  /-- Consecutive training sequences seen on each lane in the step. R427. -/
  seen : Map Nat := []
  /-- NDL_PORTn_STATUS.reversed; 1 bit. R428. -/
  reversed : Bool := false
  /-- NDL_PORTn_STATUS.polarity; 4 bits. R428. -/
  polarity : BitVec 4 := 0
  /-- NDL_PORTn_STATUS.down_cause; 3 bits. Table 14-15. -/
  cause : Nat := 0
  /-- NDL_PORTn_PEER; 64 bits. Table 14-13. -/
  peer : Nat := 0
  /-- NDL_PORTn_DOWN; 64 bits. R426. -/
  down : Nat := 0
  /-- Tick of the last connect. R466. -/
  connect : Tick := 0
  /-- The next DETECT waits until this tick. R427, R430. -/
  detect : Tick := 0
  /-- Per-port counters of Table 14-13 by register offset; 32 bits each. -/
  counters : Map Nat := []
  /-- Ephemeral private key of our offer, and our offer. R430. -/
  ephemeral : Nat := 0
  offer : Bytes := []
  /-- The partner's offer. R431. -/
  peerOffer : Bytes := []
  /-- Link secret S; 48 bytes. R431. -/
  secret : Bytes := []
  /-- Our KEY_CONFIRM is sent, the partner's verified. R431. -/
  confirmed : Bool := false
  /-- Next sequence number to send; 12 bits. R436. -/
  txSeq : Nat := 0
  /-- Sequence number of the oldest unacknowledged flit. R436. -/
  txAck : Nat := 0
  /-- Replay buffer, oldest first; 256 flits (type and payload). R436. -/
  replay : List (Nat × Bytes) := []
  /-- Replays of the oldest flit without an advance. R439. -/
  replays : Nat := 0
  /-- Next sequence number expected; 12 bits. R437. -/
  rxSeq : Nat := 0
  /-- Accepted since the last publication. R437. -/
  rxCount : Nat := 0
  /-- Last ack published. R437. -/
  published : Nat := 0
  /-- A NAK for the expected number has been sent. R437. -/
  nakSent : Bool := false
  /-- Freed count of this end's receiver; 4 bits. R441. -/
  freed : Nat := 0
  /-- Freed count last received from the partner; 4 bits. R441. -/
  peerFreed : Nat := 0
  /-- Convoys opened. R441. -/
  opened : Nat := 0
  /-- The convoy under reception: opener and data so far. R441. -/
  opener : Option Bytes := none
  data : Bytes := []
  /-- Convoys closed and not yet checked, oldest first: opener, data, closer, stamp of the CLOSE. R444, R455. -/
  closed : List (Bytes × Bytes × Bytes × Tick) := []
  /-- Last accepted pair (g, number) plus one, per key index; 0 none. R443. -/
  rxPair : Map Nat := []
  /-- Next pair to send per key index, 2^32 × g + number. R443. -/
  txPair : Map Nat := []
  /-- Messages that wait to leave in a convoy, oldest first. R441, R444. -/
  txQ : List TxItem := []
  /-- RETRAIN attempts that failed in a row. R439. -/
  retrains : Nat := 0
deriving DecidableEq, Repr

/-- The link island. -/
structure Ndl where
  /-- Ports 0-3. R425. Reset: Table 14-14, Table 14-15; internal fields DESIGN CHOICE 0 (entry 5). -/
  port : Map Port := []
  /-- NDL_ROUTE_DROPS; 32 bits. Table 14-13. Reset: 0. -/
  drops : Nat := 0
  /-- NDL_ATTR_REFUSALS; 32 bits. Table 14-13. Reset: 0. -/
  refusals : Nat := 0
  /-- Messages that convoys have released and no island has taken or forwarded: port, stamp, bytes. R445, R450. Reset: none. -/
  inbox : List (Nat × Tick × Bytes) := []
deriving DecidableEq, Repr

/-- The lanes' own state. -/
structure Lanes where
  /-- Ticks of the residue faults of each lane, newest first. R31. Keyed 64 × kind + lane. Reset: none. -/
  faults : Map (List Tick) := []
  /-- Lanes withdrawn until the next reset. R31. Reset: none. -/
  withdrawn : List Nat := []
  /-- Lane block counters of Tables 8-11, 9-10 and 12-7, keyed 0x1000 × kind + register offset. Reset: 0. -/
  counters : Map Nat := []
deriving DecidableEq, Repr

/-- The entropy block. -/
structure Rng where
  /-- RNG_STATUS.state; 2 bits. Table 10-3. Reset: 1 starting. -/
  st : DrbgState := .starting
  /-- RNG_STATUS.kat_failed; 1 bit. Table 10-7. Reset: 0. -/
  katFailed : Bool := false
  /-- RNG_SOURCES.healthy; 26 bits. Table 10-8. Reset: 0. -/
  healthy : BitVec 26 := 0
  /-- Sources in a start-up test; 26 bits. R319. Reset: DESIGN CHOICE 0 (entry 5). -/
  startup : BitVec 26 := 0
  /-- Quarantined sources with the tick. R320. Reset: none. -/
  quarantined : Map Nat := []
  /-- Quarantines of each source in this boot. R321. Reset: 0. -/
  times : Map Nat := []
  /-- Conditioned blocks closed for the seeding under way, and blocks it needs. R326. Reset: DESIGN CHOICE 0, 3 (entry 5). -/
  blocks : Nat := 0
  need : Nat := 3
  /-- Requests since the last seeding. R327. Reset: 0. -/
  since : Nat := 0
  /-- RNG_STATUS.reseed_due; 1 bit. R327. Reset: 0. -/
  reseedDue : Bool := false
  /-- RNG_RCT_FAILS; 32 bits. Table 10-6. Reset: 0. -/
  rct : Nat := 0
  /-- RNG_APT_FAILS; 32 bits. Table 10-6. Reset: 0. -/
  apt : Nat := 0
  /-- RNG_RESEEDS; 32 bits. Table 10-6. Reset: 0. -/
  reseeds : Nat := 0
  /-- RNG_REQUESTS; 32 bits. Table 10-6. Reset: 0. -/
  requests : Nat := 0
  /-- RNG_REFUSALS; 32 bits. Table 10-6. Reset: 0. -/
  refusals : Nat := 0
  /-- Warden FIFO; 64 words of 32 bits, next first. R331. Reset: empty. -/
  fifo : List Word32 := []
  /-- Cipher lanes whose 256-bit reseed buffer is full; 16 bits. R329. Reset: DESIGN CHOICE 0 (entry 5). -/
  cipherBuf : BitVec 16 := 0
  /-- Big-number lanes whose 1,024-bit draw buffer is full; 32 bits. R329. Reset: DESIGN CHOICE 0 (entry 5). -/
  bigBuf : BitVec 32 := 0
deriving DecidableEq, Repr


/-- The key cellar. -/
structure Cel where
  /-- CEL_STATUS.ready; 1 bit. Table 6-20. Reset: 0. -/
  ready : Bool := false
  /-- Per-boot scramble, mask and tag keys; 256 bits each. R198. Reset: none. -/
  bootKeys : List Bytes := []
  /-- Slots 0-262,143; 64 bytes each. R164, Tables 6-3 to 6-5. Reset: free, generation 0 (Table 6-11). -/
  slots : Map Slot := []
  /-- Slot directory, 262,144 entries of 16 bytes. R171, Table 6-10. Reset: invalid. -/
  dir : Map DirEntry := []
  /-- Blobs of bound keys by sealed-memory address. R168, R169. Reset: none. -/
  blobs : Map Bytes := []
  /-- Blinding pair of each RSA private key, by slot. R298. Reset: none. -/
  blinding : Map (Nat × Nat) := []
  /-- CEL_STATUS.skid_active; 1 bit. Table 6-20. Reset: 0. -/
  skidActive : Bool := false
  /-- CEL_STATUS.skid_position; 18 bits. Table 6-20. Reset: 0. -/
  skidPos : Nat := 0
  /-- Commit-order position at which the current pass began. R189. Reset: DESIGN CHOICE 0 (entry 5). -/
  passStart : Nat := 0
  /-- Commit-order position of the cellar's last slot write. R175, R189. Reset: DESIGN CHOICE 0 (entry 5). -/
  commit : Nat := 0
  /-- Commit-order position at which each felled slot was felled. R189. Reset: none. -/
  felledAt : Map Nat := []
  /-- CEL_SKID_PASSES; 32 bits. Table 6-19. Reset: 0. -/
  passes : Nat := 0
  /-- CEL_SKID_FELLED; 32 bits. Table 6-19. Reset: 0. -/
  skidFelled : Nat := 0
  /-- CEL_WALK_RETRIES; 32 bits. Table 6-19. Reset: 0. -/
  retries : Nat := 0
  /-- CEL_TAG_FAULTS; 32 bits. Table 6-19. Reset: 0. -/
  tagFaults : Nat := 0
  /-- Tenants whose cellar image has been restored in this boot. R90, R467. Reset: none. -/
  restored : List Nat := []
  /-- Counter advances not yet sent to the twin: slot, generation, units. R196. Reset: none. -/
  advances : List (Nat × Nat × Nat) := []
  /-- Tick of the last COUNTER_ADVANCE sent. R196. Reset: DESIGN CHOICE 0 (entry 5). -/
  advanceTick : Tick := 0
  /-- HMAC state cache, 512 sets of 8 ways, most recently used first. R281. Reset: empty (R283). -/
  cache : List CacheEntry := []
deriving DecidableEq, Repr


/-- The sealed-memory controller. -/
structure Smc where
  /-- SMC_STATUS.ch0_up, ch1_up; 1 bit each. Table 13-4. Reset: 0. -/
  up0 : Bool := false
  up1 : Bool := false
  /-- Training has ended: SMC_STATUS.ready or train_failed. R401. Reset: 0. -/
  trained : Bool := false
  /-- SMC_STATUS.mismatch; 1 bit. R400. Reset: 0. -/
  mismatch : Bool := false
  /-- SMC_CONFIG; 32 bits. Table 13-5. Reset: 0. -/
  config : Word32 := 0
  /-- SMC_CH0_MARK, SMC_CH1_MARK; 7 bits each. Table 13-3. Reset: DESIGN CHOICE 0 (entry 5). -/
  mark0 : Word32 := 0
  mark1 : Word32 := 0
  /-- SMC_CORRECTED; 32 bits. Table 13-3. Reset: 0. -/
  corrected : Nat := 0
  /-- SMC_UNCORRECTABLE; 32 bits. Table 13-3. Reset: 0. -/
  uncorrectable : Nat := 0
  /-- SMC_TAG_FAILS; 32 bits. Table 13-3. Reset: 0. -/
  tagFails : Nat := 0
  /-- SMC_POISON_WRITES; 32 bits. Table 13-3. Reset: 0. -/
  poisonWrites : Nat := 0
  /-- SMC_KEY_REFUSALS; 32 bits. Table 13-3. Reset: 0. -/
  keyRefusals : Nat := 0
  /-- SMC_WRITES_k; 64 bits each. Table 13-3. Reset: 0. -/
  writes : Map Nat := []
  /-- Key store: 256 memory keys of 256 bits. R411. Reset: zeroed, none. -/
  keys : List Bytes := []
  /-- SDRAM lines by line number: 64 B of ciphertext and 16 B of sideband. R402, R406. Reset: DESIGN CHOICE: a line that
  nothing has written reads as poisoned (R411). -/
  lines : Map Bytes := []
deriving DecidableEq, Repr

/-- The resaw engine. -/
structure Rsw where
  /-- RSW_CTRL.key_index; 8 bits. Table 13-6. Reset: 0. -/
  ctrlKey : Nat := 0
  /-- RSW_CTRL.pace; 8 bits. Table 13-6. Reset: 0. -/
  pace : Nat := 0
  /-- RSW_STATUS.key_index; 8 bits. Table 13-7. Reset: 0. -/
  key : Nat := 0
  /-- RSW_STATUS.active; 1 bit. Table 13-7. Reset: 0. -/
  active : Bool := false
  /-- RSW_STATUS.paused; 1 bit. R421. Reset: 0. -/
  paused : Bool := false
  /-- RSW_STATUS.start_refused; 1 bit. Table 13-7. Reset: 0. -/
  startRefused : Bool := false
  /-- RSW_BOUNDARY; 38 bits. R418. Reset: DESIGN CHOICE 0 (entry 5). -/
  boundary : Nat := 0
  /-- Spare entry of the key store; 256 bits. R418. Reset: none. -/
  spare : Bytes := []
  /-- Triggers that wait, ascending. R417. Reset: none. -/
  queue : List Nat := []
  /-- Close tick of the last window. R418. Reset: DESIGN CHOICE 0 (entry 5). -/
  last : Tick := 0
  /-- RSW_RESAWS; 32 bits. Table 13-3. Reset: 0. -/
  resaws : Nat := 0
  /-- RSW_POISON_SKIPPED; 32 bits. Table 13-3. Reset: 0. -/
  skipped : Nat := 0
  /-- RSW_WAITS; 32 bits. Table 13-3. Reset: 0. -/
  waits : Nat := 0
  /-- RSW_MAX_WAIT; 16 bits. Table 13-3. Reset: 0. -/
  maxWait : Nat := 0
deriving DecidableEq, Repr

/-- An MPU entry (R496). -/
structure MpuEntry where
  /-- MPU_ENTRYe_BASE; 32 bits, address [37:6]. -/
  base : Word32 := 0
  /-- MPU_ENTRYe_LIMIT; 32 bits, address [37:6]. -/
  limit : Word32 := 0
  /-- MPU_ENTRYe_ATTR; 8 bits. Table 16-9. -/
  attr : BitVec 8 := 0
deriving DecidableEq, Repr

/-- A scratch bank group (R503). -/
structure Group where
  /-- BNK_GROUP_OWNER_g; 9 bits. Table 16-6. Reset: DESIGN CHOICE the warden world, as its POT entries (entry 5). -/
  owner : BitVec 9 := 0x100
  /-- New owner of a hand-over in progress. R503. Reset: none. -/
  next : Option (BitVec 9) := none
  /-- BNK_GROUP_STATUS_g.refused; 1 bit. Table 16-10. Reset: 0. -/
  refused : Bool := false
deriving DecidableEq, Repr

/-- Worlds, protection units and banks. -/
structure Iso where
  /-- POT entries that differ from their reset values, by POT index; 16 bits each. R491. Reset: Table 16-2. -/
  pot : Map (BitVec 16) := []
  /-- POT_INDEX; 17 bits. Table 16-6. Reset: DESIGN CHOICE 0 (entry 5). -/
  potIndex : Nat := 0
  /-- An accepted write that has not taken effect, POT_STATUS.busy: index and entry. R494. Reset: none. -/
  potBusy : Option (Nat × BitVec 16) := none
  /-- POT_STATUS.refused; 3 bits. Table 16-6. Reset: DESIGN CHOICE 0 (entry 5). -/
  potRefused : Nat := 0
  /-- POT_REFUSALS; 32 bits. Table 16-6. Reset: 0. -/
  potRefusals : Nat := 0
  /-- MPU entries, keyed 32 × MPU + entry. R496, Table 16-9. Reset: 0. -/
  mpu : Map MpuEntry := []
  /-- MPU_CTRL.kh1_straddle: drover core and the record it holds. R499, Table 16-7. Reset: 0. -/
  straddle : List (Nat × RecRef) := []
  /-- MPU_FAULT_INFO of each MPU; 32 bits. Table 16-8. Reset: 0. -/
  faultInfo : Map Word32 := []
  /-- MPU_FAULT_ADDR of each MPU; 32 bits. Table 16-6. Reset: DESIGN CHOICE 0 (entry 5). -/
  faultAddr : Map Word32 := []
  /-- MPU_FAULTS of each MPU; 32 bits. Table 16-6. Reset: 0. -/
  faults : Map Nat := []
  /-- Scratch bank groups 0-7. R503. -/
  group : Map Group := []
  /-- BNK_REPAIR_g, fuses of wafer test; 32 bits. R504. Reset: DESIGN CHOICE 0, no spare used (entry 5). -/
  repair : Map Word32 := []
  /-- BNK_HANDOVERS; 32 bits. Table 16-6. Reset: 0. -/
  handovers : Nat := 0
  /-- BNK_RETAIN_REFUSALS; 32 bits. Table 16-6. Reset: 0. -/
  retainRefusals : Nat := 0
  /-- Port arbiters: signed counters, keyed 8 × group + cluster, and the last winner of each port. R507. Reset: 0. -/
  arbiter : Map Int := []
  winner : Map Nat := []
  /-- ISO_DMA_ASSIGN_k that differ from reset; 9 bits. R509. Reset: 0-7 drover tenant 0, 8-11 warden. -/
  dma : Map (BitVec 9) := []
  /-- ISO_IRQ_ROUTE_l; 5 bits. Table 16-6. Reset: DESIGN CHOICE 0 (entry 5). -/
  route : Map Nat := []
  /-- Pending internal interrupt lines. R510. Reset: none. -/
  linesPending : List Nat := []
  /-- ISO_STATUS.refused; 1 bit. Table 16-6. Reset: DESIGN CHOICE 0 (entry 5). -/
  refused : Bool := false
  /-- ISO_IRQ_DISCARDS; 32 bits. Table 16-6. Reset: 0. -/
  irqDiscards : Nat := 0
deriving DecidableEq, Repr


/-- What a custodian card port waits for. -/
inductive CardStep where
  | idle
  /-- The next timing point of Table 7-10, 2 to 4. -/
  | activating (point : Nat)
  | atr | pps | ifs | select | readCert | authenticate | confirm | bind
  /-- The next deactivation point, D2 to D4. -/
  | deactivating (point : Nat)
deriving DecidableEq, Repr

/-- A custodian card port (R227 to R237). -/
structure CardPort where
  /-- CRD_PORTn_STATUS.present; 1 bit. Table 7-24. Reset: 0. -/
  present : Bool := false
  /-- Open tick of the insertion window. R237. Reset: none. -/
  edge : Option Tick := none
  /-- Open tick of the over-current window. R237. Reset: none. -/
  overAt : Option Tick := none
  /-- The command that holds the port, its tenant, and the custodian index it enrols. R226, R218. Reset: none. -/
  ref : Option RecRef := none
  tenant : Nat := 0
  enrol : Option Nat := none
  /-- What the port waits for, since which tick. R228, R235. Reset: idle. -/
  step : CardStep := .idle
  since : Tick := 0
  /-- Class under way: 0 none, 1 A, 2 B, 3 C; and those still to try. Table 7-24, R228. Reset: 0. -/
  cls : Nat := 0
  classes : List Nat := []
  /-- Reactivated at default values without a PPS. R230. Reset: 0. -/
  plain : Bool := false
  /-- CRD_PORTn_STATUS.pps_done; 1 bit. Reset: 0. -/
  ppsDone : Bool := false
  /-- CRD_PORTn_RATE: Fi, Di and divider. Table 7-21. Reset: DESIGN CHOICE 0 (entry 5). -/
  fi : Nat := 0
  di : Nat := 0
  div : Nat := 0
  /-- TA1 that a PPS asks for. R230. Reset: none. -/
  ta1 : Nat := 0
  /-- EDC is CRC, IFSC, BWI, CWI and extra guard time in force. Table 7-11. Reset: 0. -/
  crc : Bool := false
  ifsc : Nat := 0
  bwi : Nat := 0
  cwi : Nat := 0
  guard : Nat := 0
  /-- Send sequence number, and the card's next one. R232. Reset: 0. -/
  ns : Bool := false
  nr : Bool := false
  /-- The APDU under way, and how much of it the card has acknowledged. R232. Reset: none. -/
  apdu : Bytes := []
  acked : Nat := 0
  /-- The answer so far, and the stamp of its last character. R223. Reset: none. -/
  rx : Bytes := []
  done : Option Tick := none
  /-- R-blocks sent for the block awaited; resynchronisations of this APDU; one is under way. R233. Reset: 0. -/
  tries : Nat := 0
  resynchs : Nat := 0
  resynching : Bool := false
  /-- Multiple of BWT now granted, and the ticks granted in this APDU. R234. Reset: 1, 0. -/
  mult : Nat := 1
  granted : Nat := 0
  /-- Device ephemeral scalar, nonce_d, session key K and nonce_c. Table 7-12. Reset: none. -/
  eph : Nat := 0
  nonceD : Bytes := []
  key : Bytes := []
  nonceC : Bytes := []
  /-- The card's certificate. Reset: none. -/
  cert : Bytes := []
deriving DecidableEq, Repr

/-- What the transit port waits for. The first number of a transfer step is its block, 0 body or 1 trailer. -/
inductive SdStep where
  | off | powerUp | cmd8 | app41 | acmd41 | acmdWait | cmd11 | switch | datHigh | cycle | cmd2 | cmd3 | cmd9 | cmd7
  | cmd7Busy | app6 | acmd6 | check | checkData | select | selectData | cmd19 | tuning
  | read (b : Nat) | readData (b : Nat) | write (b : Nat) | token (b : Nat) | busy (b : Nat)
  | verify (b : Nat) | verifyData (b : Nat) | cmd27 | cmd27Token | cmd27Busy
deriving DecidableEq, Repr

/-- The transit port (R238 to R249). -/
structure Transit where
  /-- TRN_STATUS.present; 1 bit. Table 7-25. Reset: 0. -/
  present : Bool := false
  /-- TRN_STATUS.powered; 1 bit. Reset: 0. -/
  powered : Bool := false
  /-- TRN_STATUS.v18; 1 bit. Reset: 0. -/
  v18 : Bool := false
  /-- TRN_STATUS.width4; 1 bit. Reset: 0. -/
  width4 : Bool := false
  /-- TRN_STATUS.mode; 3 bits. Reset: 0. -/
  mode : Nat := 0
  /-- TRN_STATUS.tmp_wp, perm_wp; 1 bit each. Reset: 0. -/
  tmpWp : Bool := false
  permWp : Bool := false
  /-- What the port waits for, since which tick. R239, R242. Reset: off. -/
  step : SdStep := .off
  since : Tick := 0
  /-- The command that holds the port, its tenant and opcode. R226. Reset: none. -/
  ref : Option RecRef := none
  tenant : Nat := 0
  export_ : Bool := false
  /-- The card stays at 3.3 V. R240. Reset: 0. -/
  only33 : Bool := false
  /-- Tick of the first ACMD41. R239. Reset: DESIGN CHOICE 0 (entry 5). -/
  acmdAt : Tick := 0
  /-- RCA and CSD as read. Table 7-14. Reset: none. -/
  rca : Nat := 0
  csd : Bytes := []
  /-- The command or block has been repeated once. R242. Reset: 0. -/
  again : Bool := false
  /-- Function f of CMD6, and CMD19 attempts. Table 7-14. Reset: 0. -/
  func : Nat := 0
  attempts : Nat := 0
  /-- The two blocks as read, and as written. R246, R248. Reset: none. -/
  body : Bytes := []
  trailer : Bytes := []
  newBody : Bytes := []
  newTrailer : Bytes := []
  /-- The share has been counted: its set and index, and the status to end with after CMD27. R248. Reset: none. -/
  set : Nat := 0
  index : Nat := 0
  ending : Status := .ok
deriving DecidableEq, Repr

/-- The card island. -/
structure Cards where
  /-- Custodian ports 0-3. R227. Reset: Table 7-24. -/
  port : Map CardPort := []
  transit : Transit := {}
  /-- CUS_QUORUM_SEL; 8 bits. Table 7-21. Reset: DESIGN CHOICE 0 (entry 5). -/
  sel : Nat := 0
  /-- CRD_RBLOCKS, CRD_RESYNCHS; 32 bits each. Table 7-21. Reset: 0. -/
  rblocks : Nat := 0
  resynchs : Nat := 0
  /-- TRN_CRC_ERRORS, TRN_TORN_COUNT; 32 bits each. Table 7-21. Reset: 0. -/
  crcErrors : Nat := 0
  torn : Nat := 0
deriving DecidableEq, Repr

/-- A cross-home posting prepared at this participant (R369, R371, R454). -/
structure Prepared where
  ledger : Nat
  id : Bytes
  /-- Member that sent LEG_PREPARE, and its transaction. -/
  lead : Nat
  txn : Nat
  anchor : Bool
  home : Bool
  /-- The posting with its new values. -/
  post : Posting
  /-- Mirror transaction of its commit, and the sequence and entry that the anchor assigned. -/
  mirror : Option Nat := none
  seq : Nat := 0
  entry : Bytes := []
deriving DecidableEq, Repr

/-- A settled cross-home posting (R454). -/
structure Settled where
  ledger : Nat
  id : Bytes
  /-- 0 committed, 1 aborted. -/
  outcome : Nat
  seq : Nat := 0
  entry : Bytes := []
deriving DecidableEq, Repr

/-- A cross-home posting that this device runs as lead (R369). -/
structure CrossHome where
  ref : Option RecRef := none
  txn : Nat
  post : Posting
  participants : List Nat
  /-- Members that have prepared, and their legs' new seals and versions. -/
  prepared : List Nat := []
  legs : List PreparedLeg := []
  first : Tick := 0
  /-- The last send of its messages (R456). -/
  last : Tick := 0
  /-- The decision record is written: its tick (R372). -/
  decided : Option Tick := none
  /-- Members that have acknowledged. -/
  done : List Nat := []
  seq : Nat := 0
  entry : Bytes := []
deriving DecidableEq, Repr

/-- The account board and the ledgers. -/
structure Board where
  /-- Ledger descriptors in sealed memory, by slot. R339. Reset: none. -/
  desc : Map Descriptor := []
  /-- Ledger heads, by slot 0-511. R342, Table 11-3. Reset: free. -/
  heads : Map Head := []
  /-- Account contexts 1,024-1,048,575; 32 bytes each. R342, Table 11-4. Reset: free. -/
  ctx : Map Context := []
  /-- Tag maps: ledger, fingerprint, board index. R344. Reset: none. -/
  tags : List (Nat × Bytes × Nat) := []
  /-- Posting-id filters. R354. Reset: none. -/
  filter : List FilterEntry := []
  /-- Pending marks and who made them. R357. Reset: none. -/
  marks : List (MarkOn × Mark) := []
  /-- Response bodies of the last 65,536 entries of each ledger, newest first. R363. Reset: none. -/
  responses : List StoredResponse := []
  /-- The last 64 journal blocks of each ledger, newest first. R364. Reset: none. -/
  blocks : List JournalBlock := []
  /-- Ledgers whose board image has been restored in this boot. R90. Reset: none. -/
  restored : List Nat := []
  /-- Ledgers that a checkpoint copy holds, LED_STATUS.copy_active. R373. Reset: none. -/
  copying : List Nat := []
  /-- Cross-home postings prepared here, LED_STATUS.xhome_pending. R371. Reset: none. -/
  prepared : List Prepared := []
  /-- First parts of leg messages in two parts. R453. Reset: none. -/
  parts : List Msg := []
  /-- Outcomes of the last 4,096 settled cross-home postings of each ledger, newest first. R454. Reset: none. -/
  settled : List Settled := []
  /-- Cross-home postings that run here as lead. R369. Reset: none. -/
  cross : List CrossHome := []
  /-- Cross-home decision records held, own or the twin's. R369, R464. Reset: none. -/
  decisions : List Decision := []
  /-- LED_POSTINGS; 32 bits. Table 11-12. Reset: 0. -/
  postings : Nat := 0
  /-- LED_REFUSED; 32 bits. Table 11-12. Reset: 0. -/
  refused : Nat := 0
  /-- LED_WAITS; 32 bits. Table 11-12. Reset: 0. -/
  waits : Nat := 0
  /-- LED_MIRROR_RESENDS; 32 bits. Table 11-12. Reset: 0. -/
  resends : Nat := 0
  /-- LED_ROLLBACKS; 32 bits. Table 11-12. Reset: 0. -/
  rollbacks : Nat := 0
deriving DecidableEq, Repr
/-- Management and test ports. -/
structure Ports where
  /-- I3C register index; 16 bits. R585. Reset: DESIGN CHOICE 0 (entry 5). -/
  index : Nat := 0
  /-- I3C dynamic address; 7 bits. R604. Reset: none. -/
  dynamic : Option (BitVec 7) := none
  /-- JTAG instruction; 8 bits. R605. Reset: IDCODE 0x01. -/
  instr : Byte := 0x01
  /-- Boundary register. R605. Reset: DESIGN CHOICE empty (entry 5). -/
  boundary : Bytes := []
  /-- Balls as the boundary register captured them. R605. Reset: DESIGN CHOICE empty (entry 5). -/
  captured : Bytes := []
  /-- Cores a debug warrant holds halted. R50, Table 19-3. Reset: none. -/
  halted : List Nat := []
deriving DecidableEq, Repr

/-- The base of a capture: every structure that a command reads (R547). -/
structure Base where
  cel : Cel := {}
  kh1 : Map Nat := []
  curves : Map CurveSlot := []
  board : Board := {}
  outcomes : List Outcome := []
  floors : Map Nat := []
  sessions : List Session := []
  rosters : Map Roster := []
  quorums : Map QuorumState := []
  digests : Map DigestCtx := []
  receipts : List Receipt := []
deriving DecidableEq, Repr

/-- The whole block. -/
structure State where
  /-- The tick; 64 bits. R4. Reset: 0. -/
  tick : Tick := 0
  /-- TOP_MODE.mode; 3 bits. R58. Reset: 1 BOOT (Table 3-11). -/
  mode : Mode := .boot
  /-- TOP_MODE.boot_stage; 4 bits. R63. Reset: 1. -/
  bootStage : Nat := 1
  /-- The pending barrier: TOP_MODE.barrier_pending and target. R87. Reset: none. -/
  barrier : Option Barrier := none
  /-- Barriers asked for while one pends. R87. Reset: none. -/
  barrierQ : List Barrier := []
  /-- The recovery request flag; 1 bit. R60, R86. Reset: 0; an internal reset keeps it. -/
  recoveryReq : Bool := false
  /-- TOP_RESET_CAUSE; 4 bits. Table 20-8. Reset: per cause; power_on. -/
  resetCause : BitVec 4 := 1
  /-- Main power is within range. R59. Power-on reset: 1. -/
  mainPower : Bool := true
  /-- VBAT is present. R528. DESIGN CHOICE 1 (entry 3). -/
  vbat : Bool := true
  /-- SYS_RESET_N is asserted; pin. R599. DESIGN CHOICE 0 at a power-on reset (entry 3). -/
  sysReset : Bool := false
  /-- An assertion of SYS_RESET_N waits for the OTP bit under way. R599. Reset: 0. -/
  resetDue : Bool := false
  otp : Otp := {}
  lcs : Lcs := {}
  vault : Vault := {}
  man : Man := {}
  log : Log := {}
  irq : Irq := {}
  pwr : Pwr := {}
  tmp : Tmp := {}
  tal : Tal := {}
  host : HostIf := {}
  /-- Records fetched and not started, in fetch order. R113. Reset: none. -/
  waiting : List Rec := []
  /-- Started records, oldest first. R141. Reset: none. -/
  running : List Run := []
  /-- Sessions. R135, R139. Reset: none. -/
  sessions : List Session := []
  /-- Outcome histories, newest start first, 65,536 entries per tenant. R142. Reset: empty. -/
  outcomes : List Outcome := []
  /-- Floors of the outcome histories per tenant; 48 bits. R142. Reset: 0. -/
  floors : Map Nat := []
  /-- KH-1 key maps, keyed 4096 × tenant + key number; 32 bits. R154. Reset: empty. -/
  kh1 : Map Nat := []
  rpl : Rpl := {}
  /-- Custody rosters loaded in this boot, by tenant. R215. Reset: none. -/
  rosters : Map Roster := []
  /-- Quorums, by tenant. R222. Reset: IDLE. -/
  quorums : Map QuorumState := []
  twin : Twin := {}
  car : Car := {}
  /-- Open lading receipts. R483. Reset: none. -/
  receipts : List Receipt := []
  ndl : Ndl := {}
  lanes : Lanes := {}
  /-- LATE_DISCARD of each island (HIF, LED, CEL, NDL, CRD and the islands without a register); 32 bits. R149. Reset: 0. -/
  late : Map Nat := []
  /-- Digest stream contexts, keyed 256 × tenant + context. R278. Reset: none. -/
  digests : Map DigestCtx := []
  rng : Rng := {}
  cel : Cel := {}
  /-- Curve slots 0-63. R305. Reset: empty. -/
  curves : Map CurveSlot := []
  /-- SHARE_IMPORT rounds and reconstructed trunks. R249. Reset: none. -/
  rounds : List Round := []
  /-- Corrected-error counter of each array, by row of Table 1-4; CEL_CORRECTED is the cellar's; 32 bits. R21. Reset: 0. -/
  corrected : Map Nat := []
  /-- Words of an array whose error cannot be corrected, until they are written: array and word. R22. Reset: none. -/
  poison : List (Nat × Nat) := []
  smc : Smc := {}
  rsw : Rsw := {}
  iso : Iso := {}
  /-- Bytes of the scratch banks and core local RAMs by internal address; the canonical form of Machine/Ops.lean. R489.
  Reset: DESIGN CHOICE: a byte that nothing has written reads 0 (entry 8). -/
  mem : List Host.Cell := []
  cards : Cards := {}
  board : Board := {}
  ports : Ports := {}
  /-- The base that CAPTURE_START copied. R547. Reset: none. -/
  base : Option Base := none
  /-- 64-bit captures, keyed by access path and offset. R576. Reset: none. -/
  captures : Map Nat := []
  /-- Output given so far, newest first. Model's own field. DESIGN CHOICE empty (entry 2). -/
  sent : List Out := []
  /-- Count of free bytes drawn from the DRBG. Model's own field. DESIGN CHOICE 0 (entry 7). -/
  draws : Nat := 0
  /-- Commands that wait, first in first out. Model's own field. DESIGN CHOICE empty (entry 2). -/
  pending : List Instr := []
deriving DecidableEq, Repr

/-- The block right after a power-on reset with main power and VBAT present, OTP unprogrammed and the battery island
powered up for the first time (R34, R60, R62, Table 3-11). -/
def State.reset : State := {}

end Sys2Proof.Machine
end

