-- ==== Sys2Proof/Machine/Ops.lean ====
section
/-! DEFINITION. The named operations that every meaning is written over: byte strings, sparse maps, CRC-32C, time, output,
the attention tree and the ring log. -/

namespace Sys2Proof.Machine

/-! ## Byte strings (R2) -/

/-- Value of a little-endian byte string. -/
def leNat : Bytes → Nat
  | [] => 0
  | b :: bs => b.toNat + 256 * leNat bs

/-- The `n` low bytes of a number, least significant first. -/
def natLE : Nat → Nat → Bytes
  | 0, _ => []
  | n + 1, v => BitVec.ofNat 8 v :: natLE n (v / 256)

/-- Value of a big-endian byte string. -/
def beNat (b : Bytes) : Nat := leNat b.reverse

/-- The `n` low bytes of a number, most significant first. -/
def natBE (n v : Nat) : Bytes := (natLE n v).reverse

/-- `n` bytes from offset `o`. -/
def sub (b : Bytes) (o n : Nat) : Bytes := (b.drop o).take n

/-- Little-endian integer field of `n` bytes at offset `o`. -/
def fld (b : Bytes) (o n : Nat) : Nat := leNat (sub b o n)

/-- `n` zero bytes. -/
def zeros (n : Nat) : Bytes := List.replicate n 0

/-- Every byte from `o`, `n` of them, is zero. -/
def zeroAt (b : Bytes) (o n : Nat) : Bool := (sub b o n).all (· == 0)

/-- The string cut or zero-padded to `n` bytes. -/
def padTo (n : Nat) (b : Bytes) : Bytes := (b ++ zeros n).take n

/-- Number of bytes of zero padding to a multiple of 4 (R134). -/
def pad4 (n : Nat) : Nat := (4 - n % 4) % 4

/-- ⌈a / b⌉. -/
def ceilDiv (a b : Nat) : Nat := (a + b - 1) / b

/-- Bytes of a bit vector of 8n bits, most significant byte first. -/
def bvBytes {w : Nat} (v : BitVec w) : Bytes := natBE (w / 8) v.toNat

/-- Bytewise exclusive or, as long as the shorter operand. -/
def xorBytes (a b : Bytes) : Bytes := List.zipWith (· ^^^ ·) a b

/-- Bytes of a string in pieces of `n` (R25); fuel is the string's length. -/
def chunksAux (n : Nat) : Nat → Bytes → List Bytes
  | 0, _ => []
  | fuel + 1, b => if b.isEmpty then [] else b.take n :: chunksAux n fuel (b.drop n)

/-- Pieces of `n` bytes, the last one shorter. -/
def chunks (n : Nat) (b : Bytes) : List Bytes := chunksAux n b.length b

/-! ## CRC-32C (R24) -/

/-- One bit of the reflected CRC-32C. -/
def crcBit (c : Word32) : Word32 := if c.getLsbD 0 then (c >>> 1) ^^^ 0x82F63B78 else c >>> 1

/-- One byte of the reflected CRC-32C. -/
def crcByte (c : Word32) (b : Byte) : Word32 :=
  let x := c ^^^ b.setWidth 32
  crcBit (crcBit (crcBit (crcBit (crcBit (crcBit (crcBit (crcBit x)))))))

/-- The waybill of a granule (R24). -/
def crc32c (b : Bytes) : Word32 := b.foldl crcByte 0xFFFFFFFF ^^^ 0xFFFFFFFF

/-- The waybill list of a record or response: one for each 64-byte granule (R25, R131). -/
def waybills (b : Bytes) : Bytes := (chunks 64 b).flatMap fun g => natLE 4 (crc32c g).toNat

/-! ## Sparse maps

A map lists its keys in rising order and lists no default value, so that equal maps are equal data. -/

/-- The value listed at a key. -/
def mapFind {α : Type} : Map α → Nat → Option α
  | [], _ => none
  | (k, v) :: m, x => if x = k then some v else mapFind m x

/-- The value at a key, `d` where none is listed. -/
def mapGet {α : Type} (d : α) (m : Map α) (k : Nat) : α := (mapFind m k).getD d

/-- The map without a key. -/
def mapDel {α : Type} : Map α → Nat → Map α
  | [], _ => []
  | (k, v) :: m, x => if x = k then m else (k, v) :: mapDel m x

/-- The map with a value listed at a key. -/
def mapSet {α : Type} : Map α → Nat → α → Map α
  | [], x, w => [(x, w)]
  | (k, v) :: m, x, w =>
    if x < k then (x, w) :: (k, v) :: m else if x = k then (x, w) :: m else (k, v) :: mapSet m x w

/-- The map with the value at a key set, the default `d` unlisted. -/
def mapPut {α : Type} [DecidableEq α] (d : α) (m : Map α) (k : Nat) (v : α) : Map α :=
  if v = d then mapDel m k else mapSet m k v

/-- The canonical form: keys strictly rising, no default listed. -/
def mapWf {α : Type} [DecidableEq α] (d : α) : Map α → Bool
  | [] => true
  | [(_, v)] => decide (v ≠ d)
  | (k, v) :: (k', v') :: m => decide (k < k') && decide (v ≠ d) && mapWf d ((k', v') :: m)

/-- The lowest key at or above `x` that is not listed. -/
def mapFree {α : Type} : Map α → Nat → Nat
  | [], x => x
  | (k, _) :: m, x => if k = x then mapFree m (x + 1) else mapFree m x

/-- Adds one to a counter of a map. -/
def mapInc (m : Map Nat) (k : Nat) (max : Nat) : Map Nat := mapPut 0 m k (min max (mapGet 0 m k + 1))

/-- Adds one to a counter that saturates at 0xFFFF_FFFF. -/
def sat32 (n : Nat) : Nat := min 0xFFFFFFFF (n + 1)

/-! ## Windows (R5, R6) and the mutual-exclusion element (R148) -/

/-- Tick `t` lies in the half-open window of duration `d` from `o`. -/
def inWindow (o d t : Tick) : Bool := decide (o ≤ t) && decide (t < o + d)

/-- The completion stamped `s` that reaches its element at tick `t` governs over the timeout that closes at `c` (R148). -/
def governs (s t c : Tick) : Bool := decide (s < c) && decide (t < c + 2)

/-! ## Time and output -/

/-- The state when tick `t` has come. The tick neither stops nor steps back (R4), and there is none in DORMANT. -/
def State.at (s : State) (t : Tick) : State :=
  if s.mode = .dormant then s else { s with tick := max s.tick t }

/-- A command's effect at its tick, on everything but the queue of commands (entry 2). -/
def State.act (s : State) (t : Tick) (f : State → State) : Host.Outcome State Fault Refusal :=
  .next { f (s.at t) with pending := s.pending }

/-- The state after it gives one output. -/
def State.emit (s : State) (o : Out) : State := { s with sent := o :: s.sent }

/-- Islands by their rows in Table 1-1. -/
abbrev islHost : Nat := 0
abbrev islDrover : Nat := 1
abbrev islWarden : Nat := 2
abbrev islCellar : Nat := 3
abbrev islCipher : Nat := 4
abbrev islDigest : Nat := 5
abbrev islBig : Nat := 6
abbrev islLedger : Nat := 7
abbrev islMemory : Nat := 8
abbrev islLink : Nat := 9
abbrev islCard : Nat := 10
abbrev islAlways : Nat := 11
abbrev islBattery : Nat := 12

/-! ## Codes -/

/-- Status codes, Table 5-13. -/
def statusCode : Status → Nat
  | .ok => 0x0000
  | .headerInvalid => 0x0101 | .recordLength => 0x0102 | .opcodeUnknown => 0x0103 | .bodyInvalid => 0x0104
  | .lengthPartial => 0x0105 | .lengthLimit => 0x0106 | .responseSpace => 0x0107
  | .quorumMissing => 0x0201 | .quorumWindow => 0x0202 | .issuerDenied => 0x0203 | .usageDenied => 0x0204
  | .authMacInvalid => 0x0205 | .sessionUnknown => 0x0206 | .sessionTag => 0x0207 | .warrantInvalid => 0x0208
  | .warrantSignature => 0x0209 | .warrantBinding => 0x020A | .warrantRights => 0x020B
  | .custodianUnknown => 0x020C | .ownerMismatch => 0x020D
  | .keyHandleUnknown => 0x0301 | .keyExhausted => 0x0302 | .keyOrphaned => 0x0303 | .keyGreenMismatch => 0x0304
  | .keyType => 0x0305 | .keyGreenPending => 0x0306 | .imageInvalid => 0x0307 | .imageStale => 0x0308
  | .ladingInvalid => 0x0309
  | .inputZero => 0x0401 | .inputRange => 0x0402 | .pointInvalid => 0x0403 | .curveRejected => 0x0404
  | .verifyFailed => 0x0405 | .decryptFailed => 0x0406 | .counterWrap => 0x0407 | .pinFormat => 0x0408
  | .entropyFailed => 0x0409
  | .sealInvalid => 0x0501 | .versionStale => 0x0502 | .legsUnbalanced => 0x0503 | .limitBreach => 0x0504
  | .accountState => 0x0505 | .postingReplay => 0x0506 | .ledgerOverflow => 0x0507 | .accountUnknown => 0x0508
  | .ledgerUnknown => 0x0509 | .currencyMismatch => 0x050A | .journalChain => 0x050B | .checkpointStale => 0x050C
  | .busy => 0x0601 | .cellarFull => 0x0602 | .boardFull => 0x0603 | .sessionLimit => 0x0604
  | .ledgerLimit => 0x0605 | .laneUnavailable => 0x0606
  | .dataPoisoned => 0x0701 | .waybillMismatch => 0x0702 | .computeFault => 0x0703 | .dmaFailed => 0x0704
  | .manifestInvalid => 0x0705 | .manifestSignature => 0x0706 | .manifestRollback => 0x0707
  | .manifestDigest => 0x0708
  | .modeForbidden => 0x0801 | .lifecycleLocked => 0x0802 | .musterIncomplete => 0x0803
  | .manifestCountSpent => 0x0804
  | .epochAhead => 0x0901 | .epochBehind => 0x0902 | .twinLone => 0x0903 | .twinFenced => 0x0904
  | .homeUnreachable => 0x0905 | .prepareRolledBack => 0x0906
  | .deadlineMissed => 0x0A01 | .aborted => 0x0A02 | .abortedReset => 0x0A03 | .sequenceStale => 0x0A04
  | .sequenceInFlight => 0x0A05
  | .cardTorn => 0x0B01 | .cardRemoved => 0x0B02 | .mediaProtected => 0x0B03 | .cardAbsent => 0x0B04
  | .cardProtocol => 0x0B05 | .mediaFormat => 0x0B06 | .cardAuthFailed => 0x0B07

/-- Mode codes, Table 3-1. -/
def modeCode : Mode → Nat
  | .dormant => 0 | .boot => 1 | .muster => 2 | .service => 3 | .drowse => 4 | .replay => 5 | .recovery => 6
  | .felled => 7

/-- State numbers, Table 2-1 and R33. -/
def lifeCode : Life → Nat
  | .raw => 0 | .factory => 1 | .issued => 2 | .owned => 3 | .retired => 4 | .scrapped => 5 | .locked => 7

/-- Bitwise majority of the three copies (R35). -/
def majority (a b c : Word32) : Word32 := (a &&& b) ||| (a &&& c) ||| (b &&& c)

/-- Life-cycle state of a decoded code (Table 2-2, R33). -/
def lifeOf (code : Word32) : Life :=
  if code = 0x00000000 then .raw else if code = 0x000000FF then .factory else if code = 0x00003FFF then .issued
  else if code = 0x000FFFFF then .owned else if code = 0x03FFFFFF then .retired
  else if code = 0xFFFFFFFF then .scrapped else .locked

/-- LCS_CODE_VOTED (R35). -/
def State.voted (s : State) : Word32 := majority s.lcs.copy0 s.lcs.copy1 s.lcs.copy2

/-- The life-cycle state in force, as stage 1 of this boot decoded it (R35, R44). -/
def State.life (s : State) : Life := lifeOf s.voted

/-- Severity codes, Table 18-1. -/
def severityCode : Severity → Nat
  | .info => 0 | .notice => 1 | .warn => 2 | .alarm => 3

/-! ## Power units (R557) -/

/-- Key of a unit in the map of unit states. -/
def unitKey (d u : Nat) : Nat := 32 * d + u

/-- State of a unit, Table 19-1. -/
def State.unit (s : State) (d u : Nat) : Power := mapGet .on s.pwr.unit (unitKey d u)

/-- A unit is ON. -/
def State.unitOn (s : State) (d u : Nat) : Bool := s.unit d u == .on

/-! ## The attention tree (R567 to R570) -/

/-- Number of a leaf in the state's maps. -/
def leafNum : Leaf → Nat
  | .tmp => 0 | .integrity => 1 | .system => 2 | .pwr => 3 | .queue => 4 | .crd => 5 | .trn => 6 | .ndl => 7
  | .twn => 8 | .car => 9

/-- Group of a leaf, Table 19-5. -/
def leafGroup : Leaf → Nat
  | .tmp => 0 | .integrity => 1 | .system => 2 | .pwr => 3 | .queue => 4 | .crd => 5 | .trn => 5 | .ndl => 6
  | .twn => 7 | .car => 7

/-- Bit of the group register that latches a leaf, Table 19-5. -/
def leafBit : Leaf → Nat
  | .trn => 1 | .car => 1 | _ => 0

/-- Defined bits of each leaf register. -/
def leafMask : Leaf → Word32
  | .tmp => 0x01FFFFFF | .integrity => 0xFF | .system => 0x1FF | .pwr => 0xF | .queue => 0xF
  | .crd => 0xFFFF | .trn => 0x1F | .ndl => 0x3FFFF | .twn => 0x3F | .car => 0x3F

/-- A bit's leaf domain is ON (Table 19-5, R570). -/
def State.leafOn (s : State) (l : Leaf) (b : Nat) : Bool :=
  match l with
  | .crd | .trn => s.unitOn 11 0
  | .twn | .car => s.unitOn 3 0
  | .ndl =>
    if b ≥ 16 then s.unitOn 17 0 || s.unitOn 17 1 || s.unitOn 18 0 || s.unitOn 18 1
    else s.unitOn (17 + b / 4 / 2) (b / 4 % 2)
  | _ => true

/-- A leaf cause register as held. -/
def State.cause (s : State) (l : Leaf) : Word32 := mapGet 0 s.irq.cause (leafNum l)

/-- A leaf enable register. -/
def State.causeEn (s : State) (l : Leaf) : Word32 := mapGet 0 s.irq.enable (leafNum l)

/-- IRQ_GROUP_g. -/
def State.group (s : State) (g : Nat) : Word32 := mapGet 0 s.irq.group g

/-- IRQ_SUMMARY (R568, R570). -/
def State.irqSummary (s : State) : Nat :=
  if s.mode = .felled then (if s.cause .tmp &&& s.causeEn .tmp = 0 then 0 else 1)
  else ((List.range 8).map fun g => if s.group g = 0 then 0 else 2 ^ g).sum

/-- IRQ_SUMMARY AND IRQ_MSIX_EN is not zero (R569). -/
def State.msixActive (s : State) : Bool := s.irqSummary &&& s.irq.msixEn.toNat != 0

/-- ATTN_N is driven low (R569). -/
def State.attnLow (s : State) : Bool := s.irqSummary &&& s.irq.attnEn.toNat != 0

/-- A function's MSI-X vector is signalled: sent, or left pending while its entry is masked (R116, R569). -/
def State.msix (s : State) (fn v : Nat) : State :=
  let e := mapGet {} s.host.vectors (64 * fn + v)
  if e.masked then
    { s with host := { s.host with vectors := mapSet s.host.vectors (64 * fn + v) { e with pending := true } } }
  else s.emit (.msix fn v)

/-- Vector 0 of PF0 follows when the summary becomes active (R569). -/
def State.msixEdge (old s : State) : State := if !old.msixActive && s.msixActive then s.msix 0 0 else s

/-- A leaf bit is set, and its group latches when the enabled bit changes from 0 to 1 (R568). -/
def State.raise (s : State) (l : Leaf) (b : Nat) : State :=
  if s.leafOn l b then
    let bit : Word32 := BitVec.ofNat 32 (2 ^ b)
    let was := s.cause l
    let s1 := { s with irq := { s.irq with cause := mapPut 0 s.irq.cause (leafNum l) (was ||| bit) } }
    if was &&& bit = 0 ∧ s.causeEn l &&& bit ≠ 0 ∧ s.mode ≠ .felled then
      let g := leafGroup l
      let s2 := { s1 with irq := { s1.irq with
        group := mapPut 0 s1.irq.group g (s1.group g ||| BitVec.ofNat 32 (2 ^ leafBit l)) } }
      s.msixEdge s2
    else s.msixEdge s1
  else s

/-- Enables of a leaf are written; a cause that stands latches as its enable is written (R567, R568). -/
def State.enableLeaf (s : State) (l : Leaf) (v : Word32) : State :=
  let old := s.causeEn l
  let s1 := { s with irq := { s.irq with enable := mapPut 0 s.irq.enable (leafNum l) (v &&& leafMask l) } }
  if s.cause l &&& (v &&& leafMask l) &&& ~~~ old = 0 ∨ s.mode = .felled then s.msixEdge s1
  else
    let g := leafGroup l
    s.msixEdge { s1 with irq := { s1.irq with
      group := mapPut 0 s1.irq.group g (s1.group g ||| BitVec.ofNat 32 (2 ^ leafBit l)) } }

/-- Every leaf, in the order of Table 19-5. -/
def allLeaves : List Leaf := [.tmp, .integrity, .system, .pwr, .queue, .crd, .trn, .ndl, .twn, .car]

/-- Every defined bit of every enable register is written as 1 (R567). -/
def State.enableAll (s : State) : State := allLeaves.foldl (fun s l => s.enableLeaf l (leafMask l)) s

/-! ## The ring log (R534 to R541) -/

/-- Slots that hold entries of a severity below ALARM. -/
def logOthers (m : Map LogEntry) : Nat := (m.filter fun p => p.2.severity ≠ .alarm).length

/-- The slot of the lowest sequence number among severities at most `v` (R537 step 2). -/
def logVictim (v : Severity) : Map LogEntry → Option (Nat × Nat)
  | [] => none
  | (k, e) :: m =>
    let r := logVictim v m
    if severityCode e.severity ≤ severityCode v then
      match r with
      | some (k', q) => if e.seq < q then some (k, e.seq) else some (k', q)
      | none => some (k, e.seq)
    else r

/-- R537: an entry is written to a free slot, over an older entry, or dropped. -/
def Log.write (l : Log) (e : LogEntry) : Log :=
  if l.slots.length < 16384 ∧ (e.severity = .alarm ∨ logOthers l.slots < 16128) then
    { l with slots := mapSet l.slots (mapFree l.slots 0) e }
  else match logVictim e.severity l.slots with
    | some (k, _) => { l with slots := mapSet l.slots k e }
    | none => { l with dropped := mapInc l.dropped (severityCode e.severity) 0xFFFFFFFF }

/-- The log is frozen (LOG_STATUS.frozen). -/
def Log.frozen (l : Log) : Bool := l.freeze.isSome || decide (0 < l.exports)

/-- A new entry with the next sequence number (R536). -/
def State.newEntry (s : State) (event : Nat) (sev : Severity) (island attr : Nat) (st : Status) (detail : List Nat) :
    LogEntry :=
  { seq := s.log.next, event, severity := sev, island, attr, status := statusCode st,
    bootCount := s.vault.bootCount, detail }

/-- An entry is recorded in a log that is not frozen. -/
def State.record (s : State) (e : LogEntry) : State :=
  let s1 := { s with log := { s.log with next := e.seq + 1, slots := (s.log.write e).slots,
                                          dropped := (s.log.write e).dropped } }
  if e.severity = .alarm then s1.raise .system 5 else s1

/-- R541: the held entries are written, recording resumes and event 0x0801 is raised. -/
def State.thaw (s : State) (forced : Bool) : State :=
  let l := s.log
  let l1 := l.held.foldl (fun l e => l.write { e with held := true }) l
  let s1 := { s with log := { l1 with freeze := none, exportFreeze := false, exports := 0, forcedThaw := forced,
                                       held := [], counted := 0 } }
  let s2 := if l.held.isEmpty then s1 else s1.raise .system 5
  let s3 := if forced then s2.raise .system 4 else s2
  s3.record (s3.newEntry 0x0801 .notice islAlways 0x100 .ok [l.held.length, l.counted])

/-- An entry is raised: it takes its number and is written, held, counted or dropped (R536, R540). Entries that a
replayed record raises are only counted (R552). -/
def State.logEvent (s : State) (event : Nat) (sev : Severity) (island attr : Nat) (st : Status) (detail : List Nat) :
    State :=
  if s.rpl.inRecord then { s with rpl := { s.rpl with suppressed := sat32 s.rpl.suppressed } }
  else
    let e := s.newEntry event sev island attr st detail
    if s.log.frozen then
      if sev = .alarm then
        if s.log.held.length < 64 then
          { s with log := { s.log with next := e.seq + 1, held := s.log.held ++ [e] } }
        else
          let s1 := { s with log := { s.log with next := e.seq + 1 } }
          let s2 := s1.thaw true
          { s2.record e with log := { (s2.record e).log with next := s2.log.next } }
      else
        { s with log := { s.log with next := e.seq + 1, counted := s.log.counted + 1,
                                      frozenCount := sat32 s.log.frozenCount } }
    else s.record e

/-- Bytes that a capture counts for an item: the fields of Table 18-4. DESIGN CHOICE (entry 25). -/
def itemBytes : CaptureItem → Nat
  | .command _ r _ => 91 + r.raw.length + r.input.length
  | .card _ _ _ b => 13 + b.length
  | .draw _ b => 4 + b.length
  | .entropy b => b.length
  | .reset .. => 14
  | .outcome _ b => 4 + b.length

/-- A running capture stops (R547). -/
def State.stopCapture (s : State) (full : Bool) : State :=
  if s.rpl.capturing then
    let s1 : State := { s with rpl := { s.rpl with capturing := false, captured := true, full } }
    (s1.raise .system 6).logEvent 0x0803 .notice islHost 0x100 .ok [s.rpl.records, s.rpl.bytes]
  else s

/-- A running capture takes an item; past its 8 MiB it spills, and past the spill limit it stops (R547, R548). -/
def State.capture (s : State) (it : CaptureItem) : State :=
  let n := s.rpl.bytes + itemBytes it
  if ¬ s.rpl.capturing then s
  else if (8 + s.rpl.spillLimit) * 2 ^ 20 < n then s.stopCapture true
  else
    let spill := decide (8 * 2 ^ 20 < n)
    let s1 : State := { s with rpl := { s.rpl with items := s.rpl.items ++ [it], bytes := n, spilled := s.rpl.spilled || spill } }
    if spill ∧ ¬ s.rpl.spilled then s1.logEvent 0x0804 .info islHost 0x100 .ok [] else s1

/-- A capture stops when the twin state is no longer one that R546 allows (R547). -/
def State.captureTwin (s : State) : State :=
  if s.twin.st = .none ∨ s.twin.st = .loneKeel then s else s.stopCapture false

/-- The 64 bytes of an entry (Table 18-1). -/
def logBytes (e : LogEntry) : Bytes :=
  let b := natLE 8 e.seq ++ natLE 2 e.event ++ natLE 1 (severityCode e.severity) ++ natLE 1 e.island ++
    natLE 2 e.attr ++ natLE 2 e.status ++ natLE 4 e.bootCount ++ natLE 2 (if e.held then 1 else 0) ++ zeros 2 ++
    padTo 32 (e.detail.flatMap (natLE 8)) ++ zeros 4
  b ++ natLE 4 (crc32c b).toNat

/-! ## Checks in order -/

/-- The status of the first check that fails, in order (R140 and its kind). -/
def firstFail : List (Bool × Status) → Option Status
  | [] => none
  | (ok, st) :: cs => if ok then firstFail cs else some st

/-- A completion with a failure status and no other effect (R157). -/
def fail (st : Status) : Result := { status := st }

/-- A failure with a detail. -/
def failD (st : Status) (d : Nat) : Result := { status := st, detail := d }

end Sys2Proof.Machine
end

