-- ==== Sys2Proof/Machine/Decimal.lean ====
section
/-! DEFINITION. Packed decimal: the LD63 format, the KH-1 fields, division, rounding and accrual (R378 to R392). -/

namespace Sys2Proof.Machine

/-- Nibbles of a byte string, most significant first. -/
def nibbles (b : Bytes) : List Nat := b.flatMap fun x => [x.toNat / 16, x.toNat % 16]

/-- Value of decimal digits, most significant first. -/
def digitsVal (l : List Nat) : Nat := l.foldl (fun a d => 10 * a + d) 0

/-- Value of a packed-decimal field whose last nibble is the sign; none where a nibble breaks the input rules (R379). -/
def packedVal (b : Bytes) : Option Int :=
  let n := nibbles b
  let ds := n.dropLast
  let sg := n.getLastD 0
  if ds.all (· ≤ 9) && (sg == 0xC || sg == 0xD || sg == 0xF) then
    some (if sg = 0xD then -(digitsVal ds : Int) else digitsVal ds)
  else none

/-- The low `n` decimal digits of a number, most significant first. -/
def decDigits : Nat → Nat → List Nat
  | 0, _ => []
  | n + 1, v => decDigits n (v / 10) ++ [v % 10]

/-- Bytes of a nibble list, in pairs. -/
def packNibbles : List Nat → Bytes
  | [] => []
  | [a] => [BitVec.ofNat 8 (16 * a)]
  | a :: b :: l => BitVec.ofNat 8 (16 * a + b) :: packNibbles l

/-- A packed-decimal field of `n` bytes with the value (R380). -/
def packedBytes (n : Nat) (v : Int) : Bytes :=
  packNibbles (decDigits (2 * n - 1) v.natAbs ++ [if v < 0 then 0xD else 0xC])

/-- LD63 at an offset (R378, R379). -/
def ld63 (b : Bytes) (o : Nat) : Option Int := packedVal (padTo 32 (sub b o 32))

/-- An LD63 field (R380). -/
def ld63Bytes (v : Int) : Bytes := packedBytes 32 v

/-- The value needs no more than 63 digits (R378). -/
def fits63 (v : Int) : Bool := decide (v.natAbs < 10 ^ 63)

/-- Width of the remainder of a seal: 10^24 (Table 12-1). -/
def remScale : Int := 10 ^ 24

/-- Accrual (R366, R392): interest on a balance at a rate with a remainder. The whole minor units and the new remainder,
none where a step overflows. -/
def accrueValue (bal rate numer basis rem : Int) : Option (Int × Int) :=
  let p2 := bal * rate * numer
  if p2.natAbs < 10 ^ 114 then
    let t := rem + (p2 * 10 ^ 12).tdiv basis
    let q := t.tdiv remScale
    if fits63 q then some (q, t.tmod remScale) else none
  else none

/-- Cycles of an accrual (R392). -/
def accrueCycles : Nat := 194

/-- Narrowing into a KH-1 field: the field, and whether the value fits (R384). -/
def narrow (v : Int) : Bytes × Bool :=
  if v.natAbs < 10 ^ 15 then (packedBytes 8 v, true) else (packedBytes 8 0, false)

end Sys2Proof.Machine
end

