-- ==== Sys2Proof/Machine/Catalogue.lean ====
section
/-! DEFINITION. The opcode catalogue (Table 5-7) and the sizes that a record fixes (R153). -/

namespace Sys2Proof.Machine

/-- Rows of Table 5-7, part 1. -/
def opRows1 : List OpRow := [
  { code := 0x0101, admin := false, states := [.owned], modes := [.service], quorum := .none },
  { code := 0x0102, admin := false, states := [.owned], modes := [.service], quorum := .none },
  { code := 0x0103, admin := false, states := [.issued, .owned, .retired], modes := [.muster, .service], quorum := .none },
  { code := 0x0104, admin := false, states := [.factory, .issued, .owned, .retired], modes := [.muster, .service, .replay], quorum := .none },
  { code := 0x0105, admin := false, states := [.issued, .owned, .retired], modes := [.muster, .service], quorum := .none },
  { code := 0x0106, admin := true, states := [.owned], modes := [.muster], quorum := .zero },
  { code := 0x0107, admin := true, states := [.owned], modes := [.service], quorum := .none },
  { code := 0x0108, admin := true, states := [.issued, .owned, .retired], modes := [.muster, .service], quorum := .none },
  { code := 0x0109, admin := true, states := [.factory, .issued, .owned, .retired], modes := [.muster, .service], quorum := .cond },
  { code := 0x010A, admin := true, states := [.factory, .owned, .retired], modes := [.muster, .service], quorum := .cond },
  { code := 0x010B, admin := true, states := [.factory, .owned, .retired], modes := [.muster, .service], quorum := .none },
  { code := 0x0110, admin := true, states := [.factory, .issued, .owned, .retired], modes := [.recovery], quorum := .none },
  { code := 0x0111, admin := true, states := [.factory, .issued, .owned, .retired], modes := [.recovery], quorum := .none },
  { code := 0x0112, admin := true, states := [.factory, .issued, .owned, .retired], modes := [.recovery], quorum := .cond },
  { code := 0x0113, admin := true, states := [.factory, .issued, .owned, .retired], modes := [.recovery], quorum := .none },
  { code := 0x0201, admin := false, states := [.owned], modes := [.service], quorum := .none },
  { code := 0x0202, admin := false, states := [.owned], modes := [.service], quorum := .none },
  { code := 0x0203, admin := false, states := [.owned], modes := [.service], quorum := .none },
  { code := 0x0204, admin := false, states := [.owned], modes := [.service], quorum := .none },
  { code := 0x0205, admin := false, states := [.owned], modes := [.service], quorum := .none },
  { code := 0x0206, admin := false, states := [.owned], modes := [.service], quorum := .none },
  { code := 0x0207, admin := false, states := [.owned], modes := [.service], quorum := .none },
  { code := 0x0208, admin := false, states := [.owned], modes := [.service], quorum := .none },
  { code := 0x0209, admin := false, states := [.owned], modes := [.service], quorum := .none },
  { code := 0x020A, admin := false, states := [.owned], modes := [.muster], quorum := .cond }]

/-- Rows of Table 5-7, part 2. -/
def opRows2 : List OpRow := [
  { code := 0x020B, admin := false, states := [.owned], modes := [.muster, .service], quorum := .own },
  { code := 0x020C, admin := false, states := [.owned], modes := [.service], quorum := .own },
  { code := 0x020D, admin := true, states := [.owned], modes := [.muster], quorum := .zero },
  { code := 0x020E, admin := false, states := [.owned], modes := [.service], quorum := .none },
  { code := 0x020F, admin := false, states := [.owned], modes := [.service], quorum := .none },
  { code := 0x0301, admin := false, states := [.owned], modes := [.service], quorum := .none },
  { code := 0x0302, admin := false, states := [.owned], modes := [.service], quorum := .none },
  { code := 0x0303, admin := false, states := [.owned], modes := [.service], quorum := .none },
  { code := 0x0304, admin := false, states := [.owned], modes := [.service], quorum := .none },
  { code := 0x0305, admin := false, states := [.owned], modes := [.service], quorum := .none },
  { code := 0x0401, admin := false, states := [.owned], modes := [.service], quorum := .none },
  { code := 0x0402, admin := false, states := [.owned], modes := [.service], quorum := .none },
  { code := 0x0403, admin := false, states := [.owned], modes := [.service], quorum := .none },
  { code := 0x0404, admin := false, states := [.owned], modes := [.service], quorum := .none },
  { code := 0x0405, admin := false, states := [.owned], modes := [.service], quorum := .none },
  { code := 0x0501, admin := false, states := [.owned], modes := [.service], quorum := .none },
  { code := 0x0502, admin := false, states := [.owned], modes := [.service], quorum := .none },
  { code := 0x0503, admin := false, states := [.owned], modes := [.service], quorum := .none },
  { code := 0x0504, admin := false, states := [.owned], modes := [.service], quorum := .none },
  { code := 0x0505, admin := false, states := [.owned], modes := [.service], quorum := .none },
  { code := 0x0506, admin := false, states := [.owned], modes := [.service], quorum := .none },
  { code := 0x0507, admin := false, states := [.owned], modes := [.service], quorum := .none },
  { code := 0x0601, admin := false, states := [.owned], modes := [.service], quorum := .none },
  { code := 0x0701, admin := false, states := [.owned], modes := [.service], quorum := .none },
  { code := 0x0702, admin := false, states := [.owned], modes := [.service], quorum := .none }]

/-- Rows of Table 5-7, part 3. -/
def opRows3 : List OpRow := [
  { code := 0x0703, admin := false, states := [.owned], modes := [.service], quorum := .none },
  { code := 0x0704, admin := false, states := [.owned], modes := [.service], quorum := .none },
  { code := 0x0705, admin := false, states := [.owned], modes := [.service], quorum := .none },
  { code := 0x0706, admin := false, states := [.owned], modes := [.service], quorum := .none },
  { code := 0x0707, admin := false, states := [.owned], modes := [.service], quorum := .none },
  { code := 0x0708, admin := false, states := [.owned], modes := [.service], quorum := .none },
  { code := 0x0709, admin := false, states := [.owned], modes := [.muster], quorum := .cond },
  { code := 0x070A, admin := false, states := [.owned], modes := [.muster], quorum := .none },
  { code := 0x0801, admin := false, states := [.issued, .owned], modes := [.muster, .service], quorum := .cond },
  { code := 0x0802, admin := false, states := [.issued, .owned], modes := [.muster, .service], quorum := .own },
  { code := 0x0803, admin := false, states := [.issued, .owned, .retired], modes := [.muster, .service, .recovery], quorum := .none },
  { code := 0x0804, admin := false, states := [.issued, .owned, .retired], modes := [.muster, .service, .recovery], quorum := .none },
  { code := 0x0805, admin := false, states := [.issued, .owned, .retired], modes := [.muster, .service, .recovery], quorum := .none },
  { code := 0x0806, admin := false, states := [.issued, .owned, .retired], modes := [.muster, .service, .recovery], quorum := .none },
  { code := 0x0807, admin := false, states := [.owned], modes := [.service], quorum := .own },
  { code := 0x0808, admin := false, states := [.owned], modes := [.muster, .service], quorum := .own },
  { code := 0x0901, admin := true, states := [.owned], modes := [.muster, .service], quorum := .none },
  { code := 0x0902, admin := true, states := [.owned], modes := [.service], quorum := .none },
  { code := 0x0903, admin := true, states := [.owned], modes := [.muster, .service], quorum := .none },
  { code := 0x0904, admin := true, states := [.owned], modes := [.muster, .service], quorum := .none },
  { code := 0x0A01, admin := true, states := [.owned, .retired], modes := [.service, .replay], quorum := .none },
  { code := 0x0A02, admin := true, states := [.owned, .retired], modes := [.service, .replay], quorum := .none },
  { code := 0x0A03, admin := true, states := [.owned, .retired], modes := [.service, .replay], quorum := .none },
  { code := 0x0A04, admin := true, states := [.owned], modes := [.service], quorum := .none },
  { code := 0x0A05, admin := true, states := [.owned], modes := [.service], quorum := .none }]

/-- Rows of Table 5-7, part 4. -/
def opRows4 : List OpRow := [
  { code := 0x0A06, admin := true, states := [.owned], modes := [.service], quorum := .none },
  { code := 0x0A07, admin := true, states := [.owned], modes := [.replay], quorum := .none },
  { code := 0x0B01, admin := false, states := [.owned], modes := [.service], quorum := .none },
  { code := 0x0B02, admin := false, states := [.owned], modes := [.service], quorum := .none },
  { code := 0x0B03, admin := false, states := [.owned], modes := [.service], quorum := .none },
  { code := 0x0B04, admin := false, states := [.owned], modes := [.service], quorum := .none }]

/-- Table 5-7. -/
def opTable : List OpRow := opRows1 ++ opRows2 ++ opRows3 ++ opRows4

/-- The row of an opcode. -/
def opRow (op : Nat) : Option OpRow := opTable.find? fun r => r.code == op

/-- Native opcode of a KH-1 function (Table 5-10). -/
def kh1Native (f : Nat) : Option Nat :=
  if f = 0x10 then some 0x0301 else if f = 0x11 then some 0x0302 else if f = 0x20 then some 0x0303
  else if f = 0x21 then some 0x0304 else if f = 0x30 then some 0x0303 else if f = 0x31 then some 0x0304
  else if f = 0x40 then some 0x0B01 else if f = 0x41 then some 0x0B02 else if f = 0x50 then some 0x0601 else none

/-- Largest response body that an opcode's layout allows for a record's body (R153). A body of at most 56 B fits the 128 B
that every response has, so the opcodes whose layouts stay within it stand as 0. -/
def respMax (op : Nat) (b : Bytes) : Nat :=
  if op = 0x0101 then 0x64
  else if op = 0x0103 then 16 * fld b 0 2
  else if op = 0x0104 then 8 + 8 * fld b 0 2
  else if op = 0x0105 then 0x100
  else if op = 0x0401 ∨ op = 0x0402 then 0x50
  else if op = 0x0702 ∨ op = 0x0703 then 116 + 192
  else if op = 0x0704 then 116 + 192 * fld b 2 1
  else if op = 0x0705 then 116 + 192 * 2
  else if op = 0x0706 then 116 + 192 * 16
  else if op = 0x0904 then 8 + 8 * 64
  else 0

/-- Output of ENCRYPT and DECRYPT by mode (Table 5-14). A difference below zero counts as none: the body checks judge it. -/
def cipherOut (enc : Bool) (b : Bytes) (inLen : Nat) : Nat :=
  let mode := fld b 8 1
  if mode = 4 then (if enc then inLen - fld b 0x10 8 + fld b 0x0A 1 else inLen - fld b 0x10 8 - fld b 0x0A 1)
  else if mode = 6 then (if enc then inLen + 8 else inLen - 8)
  else if mode = 7 then (if enc then 8 * ceilDiv inLen 8 + 8 else inLen - 8)
  else inLen

/-- Opcodes whose output is checked after the start (R153). -/
def lateOut : List Nat :=
  [0x0203, 0x0209, 0x020C, 0x020E, 0x0501, 0x0503, 0x0504, 0x0505, 0x0707, 0x0708, 0x070A]

/-- Output that Table 5-14 gives for a record; none where the check comes after the start. -/
def outNeed (op : Nat) (b : Bytes) (inLen : Nat) : Option Nat :=
  if op ∈ lateOut then none
  else if op = 0x0301 then some (cipherOut true b inLen)
  else if op = 0x0302 then some (cipherOut false b inLen)
  else if op = 0x0305 then some inLen
  else if op = 0x0404 then some 280
  else if op = 0x0601 then some (fld b 0 4)
  else if op = 0x0A03 then some (224 + 64 * fld b 8 2)
  else if op = 0x0801 ∨ op = 0x0802 ∨ op = 0x0805 then some 1088
  else some 0

end Sys2Proof.Machine
end

