-- ==== Sys2Proof/Machine/Curve.lean ====
section
/-! DEFINITION. Arithmetic of the big-number lanes: modular exponentiation, short-Weierstrass curves, ECDSA and the
primality test (R291 to R309). -/

namespace Sys2Proof.Machine

/-! ## Modular arithmetic -/

/-- b^e mod m by the exponent's digits to base 64, the highest first; the first argument bounds their number. -/
def powModAux (m : Nat) : Nat → Nat → Nat → Nat
  | 0, _, _ => 1 % m
  | f + 1, b, e => if e = 0 then 1 % m else powModAux m f b (e / 64) ^ 64 * b ^ (e % 64) % m

/-- b^e mod m. -/
def powMod (m b e : Nat) : Nat := powModAux m (e.log2 / 6 + 1) (b % m) e

/-- Inverse modulo a prime, by Fermat's little theorem (R295). -/
def invMod (m x : Nat) : Nat := powMod m x (m - 2)

/-- a - b mod m. -/
def subMod (m a b : Nat) : Nat := (a % m + (m - b % m)) % m

/-! ## Short-Weierstrass curves -/

/-- P-256 (FIPS 186-5), Table 9-1. -/
def p256Curve : Curve :=
  { p := 0xFFFFFFFF00000001000000000000000000000000FFFFFFFFFFFFFFFFFFFFFFFF
    a := 0xFFFFFFFF00000001000000000000000000000000FFFFFFFFFFFFFFFFFFFFFFFC
    b := 0x5AC635D8AA3A93E7B3EBBD55769886BC651D06B0CC53B0F63BCE3C3E27D2604B
    gx := 0x6B17D1F2E12C4247F8BCE6E563A440F277037D812DEB33A0F4A13945D898C296
    gy := 0x4FE342E2FE1A7F9B8EE7EB4A7C0F9E162BCE33576B315ECECBB6406837BF51F5
    n := 0xFFFFFFFF00000000FFFFFFFFFFFFFFFFBCE6FAADA7179E84F3B9CAC2FC632551
    h := 1 }

/-- P-384 (FIPS 186-5), Table 9-1. -/
def p384Curve : Curve :=
  { p := 0xFFFFFFFFFFFFFFFFFFFFFFFFFFFFFFFFFFFFFFFFFFFFFFFFFFFFFFFFFFFFFFFEFFFFFFFF0000000000000000FFFFFFFF
    a := 0xFFFFFFFFFFFFFFFFFFFFFFFFFFFFFFFFFFFFFFFFFFFFFFFFFFFFFFFFFFFFFFFEFFFFFFFF0000000000000000FFFFFFFC
    b := 0xB3312FA7E23EE7E4988E056BE3F82D19181D9C6EFE8141120314088F5013875AC656398D8A2ED19D2A85C8EDD3EC2AEF
    gx := 0xAA87CA22BE8B05378EB1C71EF320AD746E1D3B628BA79B9859F741E082542A385502F25DBF55296C3A545E3872760AB7
    gy := 0x3617DE4A96262C6F5D9E98BF9292DC29F8F41DBD289A147CE9DA3113B5F0B8C00A60B1CE1D7E819D7A431D7C90EA0E5F
    n := 0xFFFFFFFFFFFFFFFFFFFFFFFFFFFFFFFFFFFFFFFFFFFFFFFFC7634D81F4372DDF581A0DB248B0A77AECEC196ACCC52973
    h := 1 }

/-- P-521 (FIPS 186-5), Table 9-1. -/
def p521Curve : Curve :=
  { p := 0x1FFFFFFFFFFFFFFFFFFFFFFFFFFFFFFFFFFFFFFFFFFFFFFFFFFFFFFFFFFFFFFFFFFFFFFFFFFFFFFFFFFFFFFFFFFFFFFFFFFFFFFFFFFFFFFFFFFFFFFFFFFFFFFFFFF
    a := 0x1FFFFFFFFFFFFFFFFFFFFFFFFFFFFFFFFFFFFFFFFFFFFFFFFFFFFFFFFFFFFFFFFFFFFFFFFFFFFFFFFFFFFFFFFFFFFFFFFFFFFFFFFFFFFFFFFFFFFFFFFFFFFFFFFFC
    b := 0x51953EB9618E1C9A1F929A21A0B68540EEA2DA725B99B315F3B8B489918EF109E156193951EC7E937B1652C0BD3BB1BF073573DF883D2C34F1EF451FD46B503F00
    gx := 0xC6858E06B70404E9CD9E3ECB662395B4429C648139053FB521F828AF606B4D3DBAA14B5E77EFE75928FE1DC127A2FFA8DE3348B3C1856A429BF97E7E31C2E5BD66
    gy := 0x11839296A789A3BC0045C8A5FB42C7D1BD998F54449579B446817AFBD17273E662C97EE72995EF42640C550B9013FAD0761353C7086A272C24088BE94769FD16650
    n := 0x1FFFFFFFFFFFFFFFFFFFFFFFFFFFFFFFFFFFFFFFFFFFFFFFFFFFFFFFFFFFFFFFFFA51868783BF2F966B7FCC0148F709A5D03BB5C9B8899C47AEBB6FB71E91386409
    h := 1 }

/-- A named short-Weierstrass curve (Table 9-1). -/
def namedCurve (id : Nat) : Option Curve :=
  if id = 1 then some p256Curve else if id = 2 then some p384Curve else if id = 3 then some p521Curve else none

/-- A point, none for the point at infinity. -/
abbrev Point := Option (Nat × Nat)

/-- The point lies on the curve. -/
def Curve.on (c : Curve) (x y : Nat) : Bool := y * y % c.p == (x * x * x + c.a * x + c.b) % c.p

/-- Sum of two points. -/
def Curve.add (c : Curve) : Point → Point → Point
  | none, q => q
  | p, none => p
  | some (x1, y1), some (x2, y2) =>
    if x1 = x2 ∧ (y1 + y2) % c.p = 0 then none
    else
      let l := if x1 = x2 then (3 * x1 * x1 + c.a) * invMod c.p (2 * y1) % c.p
        else subMod c.p y2 y1 * invMod c.p (subMod c.p x2 x1) % c.p
      let x3 := subMod c.p (l * l) (x1 + x2)
      some (x3, subMod c.p (l * subMod c.p x1 x3) y1)

/-- Scalar multiple by doubling; the first argument bounds the bits of k. -/
def Curve.mulAux (c : Curve) : Nat → Nat → Point → Point
  | 0, _, _ => none
  | f + 1, k, p =>
    if k = 0 then none
    else
      let r := c.mulAux f (k / 2) (c.add p p)
      if k % 2 = 1 then c.add p r else r

/-- Scalar multiple of a point. -/
def Curve.mul (c : Curve) (k : Nat) (p : Point) : Point := c.mulAux (k.log2 + 1) k p

/-- Base point. -/
def Curve.base (c : Curve) : Point := some (c.gx, c.gy)

/-- Bits of a number. -/
def bitLen (n : Nat) : Nat := if n = 0 then 0 else n.log2 + 1

/-- The leftmost bits of a digest as an integer, as many as the order has (FIPS 186-5). -/
def digestInt (n : Nat) (d : Bytes) : Nat := beNat d / 2 ^ (8 * d.length - bitLen n)

/-- ECDSA signature (r, s) with the per-signature scalar k (R291). -/
def Curve.sign (c : Curve) (d : Nat) (digest : Bytes) (k : Nat) : Nat × Nat :=
  match c.mul k c.base with
  | none => (0, 0)
  | some (x, _) =>
    let r := x % c.n
    (r, invMod c.n k * (digestInt c.n digest + r * d) % c.n)

/-- ECDSA verification. -/
def Curve.verify (c : Curve) (q : Point) (digest : Bytes) (r s : Nat) : Bool :=
  if r = 0 ∨ s = 0 ∨ c.n ≤ r ∨ c.n ≤ s then false
  else
    let w := invMod c.n s
    match c.add (c.mul (digestInt c.n digest * w % c.n) c.base) (c.mul (r * w % c.n) q) with
    | none => false
    | some (x, _) => x % c.n == r

/-- A scalar from drawn bytes: reduced modulo n - 1, plus 1 (R308). -/
def Curve.scalar (c : Curve) (b : Bytes) : Nat := leNat b % (c.n - 1) + 1

/-- x then y, little-endian, w bytes each; zeros for the point at infinity (R311). -/
def pointBytes (w : Nat) : Point → Bytes
  | none => zeros (2 * w)
  | some (x, y) => natLE w x ++ natLE w y

/-- A point from x then y, little-endian, w bytes each. -/
def bytesPoint (w : Nat) (b : Bytes) : Nat × Nat := (fld b 0 w, fld b w w)

/-- The bytes are a point of the curve, coordinates below p. -/
def Curve.validPoint (c : Curve) (w : Nat) (b : Bytes) : Bool :=
  let (x, y) := bytesPoint w b
  decide (x < c.p) && decide (y < c.p) && c.on x y

/-- x-coordinate of the shared point d·Q as SEC 1 writes it, big-endian, w bytes (R136, R235, R431). DEDUCED (entry 26). -/
def Curve.shared (c : Curve) (w d : Nat) (b : Bytes) : Bytes :=
  match c.mul d (some (bytesPoint w b)) with
  | none => zeros w
  | some (x, _) => natBE w x

/-! ## Primality (R306, R309) -/

/-- n - 1 = d · 2^s: the odd part and the exponent. -/
def oddPart : Nat → Nat → Nat × Nat
  | 0, m => (m, 0)
  | f + 1, m => if m % 2 = 0 ∧ m ≠ 0 then ((oddPart f (m / 2)).1, (oddPart f (m / 2)).2 + 1) else (m, 0)

/-- Squarings of a Miller-Rabin round. -/
def mrSquares (n : Nat) : Nat → Nat → Bool
  | 0, _ => false
  | s + 1, x => x == n - 1 || mrSquares n s (x * x % n)

/-- One Miller-Rabin round with a witness. -/
def mrRound (n w : Nat) : Bool :=
  let (d, s) := oddPart (bitLen n) (n - 1)
  let x := powMod n (w % (n - 3) + 2) d
  x == 1 || mrSquares n s x

/-- n passes the Miller-Rabin rounds with the drawn witnesses. -/
def probablePrime (n : Nat) (witnesses : List Nat) : Bool :=
  n == 2 || n == 3 || (decide (3 < n) && n % 2 == 1 && witnesses.all (mrRound n))

end Sys2Proof.Machine
end

