-- ==== Sys2Proof/Machine/Des.lean ====
section
/-! DEFINITION. DES (FIPS 46-3), the block cipher under the TDEA that R256 names. Bits are numbered from 1 at the most
significant, as that standard numbers them. -/

namespace Sys2Proof.Machine

/-- Initial permutation. -/
def desIp : List Nat :=
    [58, 50, 42, 34, 26, 18, 10, 2, 60, 52, 44, 36, 28, 20, 12, 4, 62, 54, 46, 38, 30, 22, 14, 6] ++
    [64, 56, 48, 40, 32, 24, 16, 8, 57, 49, 41, 33, 25, 17, 9, 1, 59, 51, 43, 35, 27, 19, 11, 3] ++
    [61, 53, 45, 37, 29, 21, 13, 5, 63, 55, 47, 39, 31, 23, 15, 7]

/-- Final permutation. -/
def desFp : List Nat :=
    [40, 8, 48, 16, 56, 24, 64, 32, 39, 7, 47, 15, 55, 23, 63, 31, 38, 6, 46, 14, 54, 22, 62, 30] ++
    [37, 5, 45, 13, 53, 21, 61, 29, 36, 4, 44, 12, 52, 20, 60, 28, 35, 3, 43, 11, 51, 19, 59, 27] ++
    [34, 2, 42, 10, 50, 18, 58, 26, 33, 1, 41, 9, 49, 17, 57, 25]

/-- Expansion of a half. -/
def desE : List Nat :=
    [32, 1, 2, 3, 4, 5, 4, 5, 6, 7, 8, 9, 8, 9, 10, 11, 12, 13, 12, 13, 14, 15, 16, 17] ++
    [16, 17, 18, 19, 20, 21, 20, 21, 22, 23, 24, 25, 24, 25, 26, 27, 28, 29, 28, 29, 30, 31, 32, 1]

/-- Permutation of the round function. -/
def desP : List Nat :=
    [16, 7, 20, 21, 29, 12, 28, 17, 1, 15, 23, 26, 5, 18, 31, 10, 2, 8, 24, 14, 32, 27, 3, 9] ++
    [19, 13, 30, 6, 22, 11, 4, 25]

/-- First choice of key bits. -/
def desPc1 : List Nat :=
    [57, 49, 41, 33, 25, 17, 9, 1, 58, 50, 42, 34, 26, 18, 10, 2, 59, 51, 43, 35, 27, 19, 11, 3] ++
    [60, 52, 44, 36, 63, 55, 47, 39, 31, 23, 15, 7, 62, 54, 46, 38, 30, 22, 14, 6, 61, 53, 45, 37] ++
    [29, 21, 13, 5, 28, 20, 12, 4]

/-- Second choice of key bits. -/
def desPc2 : List Nat :=
    [14, 17, 11, 24, 1, 5, 3, 28, 15, 6, 21, 10, 23, 19, 12, 4, 26, 8, 16, 7, 27, 20, 13, 2] ++
    [41, 52, 31, 37, 47, 55, 30, 40, 51, 45, 33, 48, 44, 49, 39, 56, 34, 53, 46, 42, 50, 36, 29, 32]

/-- The eight substitution boxes, row after row, each as the hexadecimal digits of a number whose last digit is its entry 0. -/
def desBoxes : List Nat := [
  0xD60AE3B5719428CF05A379CFB26D8E148359BC6A1D2E47F07095C6A38BF21D4E,
  0x9E50C76B24F31A8DF2396C851D4AB7E05B96A10CE82F74D3A50CD27943B6E81F,
  0xC25B3EF478960DA17EA5C21B03F8946D1FBCE582A643907D824B7CD15F36E90A,
  0xE27CB5498D1A60F34825E31FD7BC096A9EA1C27430F65B8DF4CB5821A9603ED7,
  0x354A90F6D2E17C8BE0365C9F87DAB1246893AF051D74C2BE9E0DF3586BA714C2,
  0xD80671EBAF59C2346BD1A4073C825FE983B0ED1659C724FAB57E43D08629FA1C,
  0xC32EF0597A418DB6295086FAE73CDB4168F2C53EA1947B0D16A579C3D80FE2B4,
  0xB65309CFD8A47E12853FDA602EC914B729E0B65C473A8DF17C05E39A1BF6482D]

/-- Rotations of the key halves before each round. -/
def desShifts : List Nat := [1, 1, 2, 2, 2, 2, 2, 2, 1, 2, 2, 2, 2, 2, 2, 1]

/-- Bits of a `w`-bit value chosen by a table. -/
def pick {w : Nat} (m : Nat) (l : List Nat) (v : BitVec w) : BitVec m :=
  BitVec.ofNat m (l.foldl (fun a i => 2 * a + (if v.getMsbD (i - 1) then 1 else 0)) 0)

/-- The round keys, from the two key halves. -/
def desKeys : List Nat → BitVec 28 → BitVec 28 → List (BitVec 48)
  | [], _, _ => []
  | n :: ns, c, d =>
    let c1 := c.rotateLeft n
    let d1 := d.rotateLeft n
    pick 48 desPc2 (c1 ++ d1) :: desKeys ns c1 d1

/-- The sixteen round keys of an 8-byte key. -/
def desSchedule (key : BitVec 64) : List (BitVec 48) :=
  let cd : BitVec 56 := pick 56 desPc1 key
  desKeys desShifts (cd.extractLsb' 28 28) (cd.extractLsb' 0 28)

/-- The round function. -/
def desF (r : BitVec 32) (k : BitVec 48) : BitVec 32 :=
  let x : BitVec 48 := pick 48 desE r ^^^ k
  let n := (desBoxes.zipIdx).foldl (fun a (t, i) =>
    let v := (x.extractLsb' (42 - 6 * i) 6).toNat
    let j := 16 * (2 * (v / 32) + v % 2) + v / 2 % 16
    16 * a + t / 16 ^ j % 16) 0
  pick 32 desP (BitVec.ofNat 32 n)

/-- DES under round keys. -/
def desRounds (ks : List (BitVec 48)) (b : BitVec 64) : BitVec 64 :=
  let x : BitVec 64 := pick 64 desIp b
  let (l, r) := ks.foldl (fun (p : BitVec 32 × BitVec 32) k => (p.2, p.1 ^^^ desF p.2 k))
    (x.extractLsb' 32 32, x.extractLsb' 0 32)
  pick 64 desFp (r ++ l)

/-- DES encryption of one block. -/
def desEnc (key b : BitVec 64) : BitVec 64 := desRounds (desSchedule key) b
/-- DES decryption of one block. -/
def desDec (key b : BitVec 64) : BitVec 64 := desRounds (desSchedule key).reverse b

end Sys2Proof.Machine
end

