-- ==== Sys2Proof/Machine/Aes.lean ====
section
/-! DEFINITION. AES (FIPS 197), the block cipher that R256 names. -/

namespace Sys2Proof.Machine

/-- Multiplication by x in the field of AES. -/
def xtime (b : Byte) : Byte := if b.msb then (b <<< 1) ^^^ 0x1B else b <<< 1

/-- Product in the field of AES with a coefficient below 16, as MixColumns and its inverse have them. -/
def fieldMul (k w : Byte) : Byte :=
  ((List.range 4).foldl (fun (x : Byte × Byte) i => (if k.getLsbD i then x.1 ^^^ x.2 else x.1, xtime x.2)) (0, w)).1

/-- The substitution box: rows of sixteen entries, the first in the most significant byte (FIPS 197, figure 7). -/
def sboxRows : List Nat :=
  [0x637c777bf26b6fc53001672bfed7ab76, 0xca82c97dfa5947f0add4a2af9ca472c0] ++
  [0xb7fd9326363ff7cc34a5e5f171d83115, 0x04c723c31896059a071280e2eb27b275] ++
  [0x09832c1a1b6e5aa0523bd6b329e32f84, 0x53d100ed20fcb15b6acbbe394a4c58cf] ++
  [0xd0efaafb434d338545f9027f503c9fa8, 0x51a3408f929d38f5bcb6da2110fff3d2] ++
  [0xcd0c13ec5f974417c4a77e3d645d1973, 0x60814fdc222a908846eeb814de5e0bdb] ++
  [0xe0323a0a4906245cc2d3ac629195e479, 0xe7c8376d8dd54ea96c56f4ea657aae08] ++
  [0xba78252e1ca6b4c6e8dd741f4bbd8b8a, 0x703eb5664803f60e613557b986c11d9e] ++
  [0xe1f8981169d98e949b1e87e9ce5528df, 0x8ca1890dbfe6426841992d0fb054bb16]
/-- The inverse substitution box (FIPS 197, figure 14). -/
def invSboxRows : List Nat :=
  [0x52096ad53036a538bf40a39e81f3d7fb, 0x7ce339829b2fff87348e4344c4dee9cb] ++
  [0x547b9432a6c2233dee4c950b42fac34e, 0x082ea16628d924b2765ba2496d8bd125] ++
  [0x72f8f66486689816d4a45ccc5d65b692, 0x6c704850fdedb9da5e154657a78d9d84] ++
  [0x90d8ab008cbcd30af7e45805b8b34506, 0xd02c1e8fca3f0f02c1afbd0301138a6b] ++
  [0x3a9111414f67dcea97f2cfcef0b4e673, 0x96ac7422e7ad3585e2f937e81c75df6e] ++
  [0x47f11a711d29c5896fb7620eaa18be1b, 0xfc563e4bc6d279209adbc0fe78cd5af4] ++
  [0x1fdda8338807c731b11210592780ec5f, 0x60517fa919b54a0d2de57a9f93c99cef] ++
  [0xa0e03b4dae2af5b0c8ebbb3c83539961, 0x172b047eba77d626e169146355210c7d]

/-- Entry of a box of sixteen rows. -/
def boxEntry (rows : List Nat) (b : Byte) : Byte := BitVec.ofNat 8 (rows.getD (b.toNat / 16) 0 >>> (8 * (15 - b.toNat % 16)))

/-- A byte substituted. -/
def subByte (b : Byte) : Byte := boxEntry sboxRows b
/-- A byte substituted back. -/
def invSubByte (b : Byte) : Byte := boxEntry invSboxRows b

/-- Byte strings added in the field. -/
def xorList (a b : Bytes) : Bytes := List.zipWith (· ^^^ ·) a b

/-- Words of the key schedule, newest first, from those before: key length in words, words still to make, round constant. -/
def scheduleWords (nk : Nat) : Nat → Byte → List Bytes → List Bytes
  | 0, _, ws => ws
  | n + 1, rc, ws =>
    let i := ws.length
    let last := ws.headD []
    let step : Bytes :=
      if i % nk = 0 then
        match (last.drop 1 ++ last.take 1).map subByte with
        | b :: bs => (b ^^^ rc) :: bs
        | [] => []
      else if 6 < nk ∧ i % nk = 4 then last.map subByte
      else last
    scheduleWords nk n (if i % nk = 0 then xtime rc else rc) (xorList (ws.getD (nk - 1) []) step :: ws)

/-- A list cut into pieces of four. -/
def wordsOf : Bytes → List Bytes
  | a :: b :: c :: d :: l => [a, b, c, d] :: wordsOf l
  | _ => []

/-- Round keys of 16 bytes, in order. -/
def roundKeys (key : Bytes) : List Bytes :=
  let nk := key.length / 4
  let ws := (scheduleWords nk (4 * (nk + 7) - nk) 1 (wordsOf key).reverse).reverse
  (List.range (nk + 7)).map fun r => ((ws.drop (4 * r)).take 4).flatten

/-- Rows shifted left by their number; `back` shifts right. Byte 4c + r is row r of column c. -/
def shiftRows (back : Bool) (b : Bytes) : Bytes :=
  (List.range 16).map fun i =>
    let r := i % 4
    let c := i / 4
    b.getD (4 * ((if back then c + 4 - r else c + r) % 4) + r) 0

/-- One column mixed by the coefficients of its first row. -/
def mixColumn (k : Bytes) (w : Bytes) : Bytes :=
  (List.range 4).map fun r => (List.range 4).foldl (fun a j => a ^^^ fieldMul (k.getD ((j + 4 - r) % 4) 0) (w.getD j 0)) 0

/-- All columns mixed. -/
def mixColumns (k b : Bytes) : Bytes := (wordsOf b).flatMap (mixColumn k)

/-- AES encryption of a 16-byte block under a 16-, 24- or 32-byte key. -/
def aesEnc (key b : Bytes) : Bytes :=
  match roundKeys key with
  | [] => b
  | k0 :: ks =>
    let mid := ks.dropLast.foldl (fun x k => xorList (mixColumns [2, 3, 1, 1] (shiftRows false (x.map subByte))) k) (xorList b k0)
    xorList (shiftRows false (mid.map subByte)) (ks.getLastD [])

/-- AES decryption of a 16-byte block. -/
def aesDec (key b : Bytes) : Bytes :=
  match (roundKeys key).reverse with
  | [] => b
  | k0 :: ks =>
    let mid := ks.dropLast.foldl (fun x k =>
      mixColumns [14, 11, 13, 9] (xorList ((shiftRows true x).map invSubByte) k)) (xorList b k0)
    xorList ((shiftRows true mid).map invSubByte) (ks.getLastD [])

end Sys2Proof.Machine
end

