-- ==== Sys2Proof/Machine/Sha.lean ====
section
/-! DEFINITION. The compression functions of SHA-2 (FIPS 180-4) and SHA-3 (FIPS 202), by the algorithm codes of Table 8-7. -/

namespace Sys2Proof.Machine

/-- Round constants of SHA-512 and SHA-384: 64 bits of the fractional parts of the cube roots of the first 80 primes. -/
def sha512K : List (BitVec 64) :=
  [0x428a2f98d728ae22, 0x7137449123ef65cd, 0xb5c0fbcfec4d3b2f, 0xe9b5dba58189dbbc] ++
  [0x3956c25bf348b538, 0x59f111f1b605d019, 0x923f82a4af194f9b, 0xab1c5ed5da6d8118] ++
  [0xd807aa98a3030242, 0x12835b0145706fbe, 0x243185be4ee4b28c, 0x550c7dc3d5ffb4e2] ++
  [0x72be5d74f27b896f, 0x80deb1fe3b1696b1, 0x9bdc06a725c71235, 0xc19bf174cf692694] ++
  [0xe49b69c19ef14ad2, 0xefbe4786384f25e3, 0x0fc19dc68b8cd5b5, 0x240ca1cc77ac9c65] ++
  [0x2de92c6f592b0275, 0x4a7484aa6ea6e483, 0x5cb0a9dcbd41fbd4, 0x76f988da831153b5] ++
  [0x983e5152ee66dfab, 0xa831c66d2db43210, 0xb00327c898fb213f, 0xbf597fc7beef0ee4] ++
  [0xc6e00bf33da88fc2, 0xd5a79147930aa725, 0x06ca6351e003826f, 0x142929670a0e6e70] ++
  [0x27b70a8546d22ffc, 0x2e1b21385c26c926, 0x4d2c6dfc5ac42aed, 0x53380d139d95b3df] ++
  [0x650a73548baf63de, 0x766a0abb3c77b2a8, 0x81c2c92e47edaee6, 0x92722c851482353b] ++
  [0xa2bfe8a14cf10364, 0xa81a664bbc423001, 0xc24b8b70d0f89791, 0xc76c51a30654be30] ++
  [0xd192e819d6ef5218, 0xd69906245565a910, 0xf40e35855771202a, 0x106aa07032bbd1b8] ++
  [0x19a4c116b8d2d0c8, 0x1e376c085141ab53, 0x2748774cdf8eeb99, 0x34b0bcb5e19b48a8] ++
  [0x391c0cb3c5c95a63, 0x4ed8aa4ae3418acb, 0x5b9cca4f7763e373, 0x682e6ff3d6b2b8a3] ++
  [0x748f82ee5defb2fc, 0x78a5636f43172f60, 0x84c87814a1f0ab72, 0x8cc702081a6439ec] ++
  [0x90befffa23631e28, 0xa4506cebde82bde9, 0xbef9a3f7b2c67915, 0xc67178f2e372532b] ++
  [0xca273eceea26619c, 0xd186b8c721c0c207, 0xeada7dd6cde0eb1e, 0xf57d4f7fee6ed178] ++
  [0x06f067aa72176fba, 0x0a637dc5a2c898a6, 0x113f9804bef90dae, 0x1b710b35131c471b] ++
  [0x28db77f523047d84, 0x32caab7b40c72493, 0x3c9ebe0a15c9bebc, 0x431d67c49c100d4c] ++
  [0x4cc5d4becb3e42b6, 0x597f299cfc657e2a, 0x5fcb6fab3ad6faec, 0x6c44198c4a475817]
/-- Round constants of SHA-256: the first 32 of those bits, for 64 primes. -/
def sha256K : List (BitVec 32) := (sha512K.take 64).map fun (k : BitVec 64) => (k >>> 32).truncate 32
/-- 64 bits of the fractional parts of the square roots of the first 16 primes. -/
def rootFracs : List (BitVec 64) :=
  [0x6a09e667f3bcc908, 0xbb67ae8584caa73b, 0x3c6ef372fe94f82b, 0xa54ff53a5f1d36f1] ++
  [0x510e527fade682d1, 0x9b05688c2b3e6c1f, 0x1f83d9abfb41bd6b, 0x5be0cd19137e2179] ++
  [0xcbbb9d5dc1059ed8, 0x629a292a367cd507, 0x9159015a3070dd17, 0x152fecd8f70e5939] ++
  [0x67332667ffc00b31, 0x8eb44a8768581511, 0xdb0c2e0d64f98fa7, 0x47b5481dbefa4fa4]

/-- Big-endian words of a byte string, `w` bits each. -/
def beWords (w : Nat) : Nat → Bytes → List (BitVec w)
  | 0, _ => []
  | n + 1, b => BitVec.ofNat w ((b.take (w / 8)).foldl (fun a x => 256 * a + x.toNat) 0) :: beWords w n (b.drop (w / 8))

/-- Big-endian bytes of a word. -/
def wordBE {w : Nat} (v : BitVec w) : Bytes := (List.range (w / 8)).map fun i => (v >>> (w - 8 - 8 * i)).truncate 8

/-- Rotations and shifts of one member of the SHA-2 family: big sigmas, then small ones with a shift last. -/
structure ShaParams where
  s0 : Nat × Nat × Nat
  s1 : Nat × Nat × Nat
  l0 : Nat × Nat × Nat
  l1 : Nat × Nat × Nat

/-- Parameters of the 32-bit members. -/
def sha256Params : ShaParams := { s0 := (2, 13, 22), s1 := (6, 11, 25), l0 := (7, 18, 3), l1 := (17, 19, 10) }
/-- Parameters of the 64-bit members. -/
def sha512Params : ShaParams := { s0 := (28, 34, 39), s1 := (14, 18, 41), l0 := (1, 8, 7), l1 := (19, 61, 6) }

/-- A big sigma. -/
def bigSigma {w : Nat} (r : Nat × Nat × Nat) (x : BitVec w) : BitVec w :=
  x.rotateRight r.1 ^^^ x.rotateRight r.2.1 ^^^ x.rotateRight r.2.2
/-- A small sigma. -/
def smallSigma {w : Nat} (r : Nat × Nat × Nat) (x : BitVec w) : BitVec w :=
  x.rotateRight r.1 ^^^ x.rotateRight r.2.1 ^^^ (x >>> r.2.2)

/-- Further words of the message schedule; the last sixteen stand newest first. -/
def shaSchedule {w : Nat} (p : ShaParams) : Nat → List (BitVec w) → List (BitVec w)
  | 0, _ => []
  | n + 1, l =>
    let x := smallSigma p.l1 (l.getD 1 0) + l.getD 6 0 + smallSigma p.l0 (l.getD 14 0) + l.getD 15 0
    x :: shaSchedule p n ((x :: l).take 16)

/-- One round over the eight working variables. -/
def shaRound {w : Nat} (p : ShaParams) (v : List (BitVec w)) (kw : BitVec w) : List (BitVec w) :=
  match v with
  | [a, b, c, d, e, f, g, h] =>
    let t1 := h + bigSigma p.s1 e + ((e &&& f) ^^^ (~~~e &&& g)) + kw
    let t2 := bigSigma p.s0 a + ((a &&& b) ^^^ (a &&& c) ^^^ (b &&& c))
    [t1 + t2, a, b, c, d + t1, e, f, g]
  | _ => v

/-- One block compressed into eight words. -/
def sha2Words {w : Nat} (p : ShaParams) (ks : List (BitVec w)) (v m : List (BitVec w)) : List (BitVec w) :=
  let ws := m ++ shaSchedule p (ks.length - 16) m.reverse
  List.zipWith (· + ·) v ((List.zipWith (· + ·) ks ws).foldl (shaRound p) v)

/-! ## Keccak -/

/-- Rotation offsets of the lanes, lane x + 5y. -/
def keccakOffsets : List Nat :=
  [0, 1, 62, 28, 27, 36, 44, 6, 55, 20, 3, 10, 43, 25, 39, 41, 45, 15, 21, 8, 18, 2, 61, 56, 14]

/-- The round-constant register after one step. -/
def keccakLfsr (r : BitVec 8) : BitVec 8 := if r.msb then (r <<< 1) ^^^ 0x71 else r <<< 1

/-- Round constants of the rounds still to come, from the register. -/
def keccakConstants : Nat → BitVec 8 → List (BitVec 64)
  | 0, _ => []
  | n + 1, r =>
    let (c, r1) := (List.range 7).foldl (fun (x : BitVec 64 × BitVec 8) j =>
      (if x.2.getLsbD 0 then x.1 ^^^ BitVec.ofNat 64 (2 ^ (2 ^ j - 1)) else x.1, keccakLfsr x.2)) (0, r)
    c :: keccakConstants n r1

/-- The 24 round constants. -/
def keccakRC : List (BitVec 64) := keccakConstants 24 1

/-- One round of Keccak-f[1600]. -/
def keccakRound (a : List (BitVec 64)) (rc : BitVec 64) : List (BitVec 64) :=
  let at' (l : List (BitVec 64)) (x y : Nat) : BitVec 64 := l.getD (x % 5 + 5 * (y % 5)) 0
  let c := (List.range 5).map fun x => (List.range 5).foldl (fun v y => v ^^^ at' a x y) 0
  let d := (List.range 5).map fun x => c.getD ((x + 4) % 5) 0 ^^^ (c.getD ((x + 1) % 5) 0).rotateLeft 1
  let r := (List.range 25).map fun i => (a.getD i 0 ^^^ d.getD (i % 5) 0).rotateLeft (keccakOffsets.getD i 0)
  let b := (List.range 25).map fun i => at' r (i % 5 + 3 * (i / 5)) (i % 5)
  let e := (List.range 25).map fun i =>
    at' b (i % 5) (i / 5) ^^^ (~~~(at' b (i % 5 + 1) (i / 5)) &&& at' b (i % 5 + 2) (i / 5))
  match e with
  | x :: l => (x ^^^ rc) :: l
  | [] => []

/-- Little-endian 64-bit lanes of a byte string. -/
def leLanes : Nat → Bytes → List (BitVec 64)
  | 0, _ => []
  | n + 1, b => BitVec.ofNat 64 ((b.take 8).foldr (fun x a => 256 * a + x.toNat) 0) :: leLanes n (b.drop 8)

/-- Keccak-f[1600] over 200 bytes. -/
def keccakF (b : Bytes) : Bytes := (keccakRC.foldl keccakRound (leLanes 25 b)).flatMap fun v => (wordBE v).reverse

/-! ## By algorithm code -/

/-- The initial words of the 64-bit members of SHA-2. -/
def sha512Init (alg : Nat) : List (BitVec 64) :=
  let h512 := rootFracs.take 8
  if alg = 3 then rootFracs.drop 8
  else if alg = 4 then h512
  else
    let name : Bytes := [0x53, 0x48, 0x41, 0x2D, 0x35, 0x31, 0x32, 0x2F, 0x32, 0x35, 0x36]
    let block := name ++ [0x80] ++ List.replicate 108 0 ++ (List.replicate 7 0 ++ [88])
    sha2Words sha512Params sha512K (h512.map (· ^^^ 0xA5A5A5A5A5A5A5A5)) (beWords 64 16 block)

/-- The initial chaining state of an algorithm code. -/
def shaInitial (alg : Nat) : Bytes :=
  if alg = 1 then ((rootFracs.drop 8).map fun (p : BitVec 64) => p.truncate 32).flatMap (wordBE (w := 32))
  else if alg = 2 then ((rootFracs.take 8).map fun (p : BitVec 64) => (p >>> 32).truncate 32).flatMap (wordBE (w := 32))
  else if alg ≤ 5 then (sha512Init alg).flatMap wordBE
  else List.replicate 200 0

/-- One block compressed into a chaining state: algorithm code, state, block. -/
def shaCompress (alg : Nat) (st b : Bytes) : Bytes :=
  if alg ≤ 2 then (sha2Words sha256Params sha256K (beWords 32 8 st) (beWords 32 16 b)).flatMap wordBE
  else if alg ≤ 5 then (sha2Words sha512Params sha512K (beWords 64 8 st) (beWords 64 16 b)).flatMap wordBE
  else keccakF (xorList (st.take b.length) b ++ st.drop b.length)

end Sys2Proof.Machine
end

