-- ==== Sys2Proof/Machine/Crypto.lean ====
section
/-! DEFINITION. The cryptographic constructions that the spec's structures use, over the block ciphers and compression functions. -/

namespace Sys2Proof.Machine

/-! ## Digests (Table 8-7) -/

/-- Digest algorithms by code. -/
def digestCodes : List Nat := [0x01, 0x02, 0x03, 0x04, 0x05, 0x11, 0x12, 0x13]
/-- Algorithms over which HMAC is available (R276). -/
def hmacCodes : List Nat := [0x01, 0x02, 0x03, 0x04, 0x05]
/-- Block length. -/
def digestBlock (alg : Nat) : Nat :=
  if alg ≤ 2 then 64 else if alg ≤ 5 then 128 else if alg = 0x11 then 136 else if alg = 0x12 then 104 else 72
/-- Cycles per block. -/
def digestCycles (alg : Nat) : Nat := if alg ≤ 2 then 64 else if alg ≤ 5 then 80 else 24
/-- Output length. -/
def digestOut (alg : Nat) : Nat :=
  if alg = 1 then 28 else if alg = 2 then 32 else if alg = 3 then 48 else if alg = 4 then 64 else if alg = 5 then 32
  else if alg = 0x11 then 32 else if alg = 0x12 then 48 else 64
/-- Longest message in bytes. -/
def digestMax (alg : Nat) : Nat := if alg ≤ 2 then 2 ^ 61 - 1 else if alg ≤ 5 then 2 ^ 125 - 1 else 2 ^ 128 - 1

/-- Padding of a message of `total` bytes whose last partial block is `tail` (R277). -/
def digestPad (alg total : Nat) (tail : Bytes) : Bytes :=
  let b := digestBlock alg
  if alg ≤ 5 then
    let l := b / 8
    tail ++ [0x80] ++ zeros ((b - (tail.length + 1 + l) % b) % b) ++ natBE l (8 * total)
  else if tail.length + 1 = b then tail ++ [0x86]
  else tail ++ [0x06] ++ zeros (b - tail.length - 2) ++ [0x80]

/-- Whole blocks absorbed into a chaining state. -/
def absorbBlocks (alg : Nat) (chain b : Bytes) : Bytes := (chunks (digestBlock alg) b).foldl (shaCompress alg) chain

/-- Data absorbed into a chaining state with a partial block: the state and partial block after it. -/
def absorb (alg : Nat) (chain tail data : Bytes) : Bytes × Bytes :=
  let b := tail ++ data
  let n := b.length / digestBlock alg * digestBlock alg
  (absorbBlocks alg chain (b.take n), b.drop n)

/-- The digest of a message of `total` bytes from its state and partial block. -/
def digestEnd (alg : Nat) (chain tail : Bytes) (total : Nat) : Bytes :=
  padTo (digestOut alg) (absorbBlocks alg chain (digestPad alg total tail))

/-- The digest of a message. -/
def digestOf (alg : Nat) (m : Bytes) : Bytes :=
  let (c, t) := absorb alg (shaInitial alg) [] m
  digestEnd alg c t m.length

/-- SHA-256 as bytes. -/
def sha256 (m : Bytes) : Bytes := digestOf 0x02 m
/-- SHA-384 as bytes. -/
def sha384 (m : Bytes) : Bytes := digestOf 0x03 m

/-! ## HMAC and HKDF -/

/-- HMAC (RFC 2104) over a digest with the given block size. -/
def hmacOf (h : Bytes → Bytes) (block : Nat) (key m : Bytes) : Bytes :=
  let k := padTo block (if key.length > block then h key else key)
  h (k.map (· ^^^ 0x5C) ++ h (k.map (· ^^^ 0x36) ++ m))

/-- An HMAC key as one block: hashed when longer than the block (R282). -/
def hmacBlock (alg : Nat) (key : Bytes) : Bytes :=
  padTo (digestBlock alg) (if digestBlock alg < key.length then digestOf alg key else key)
/-- HMAC by algorithm code. -/
def hmacAlg (alg : Nat) (key m : Bytes) : Bytes := hmacOf (digestOf alg) (digestBlock alg) key m
/-- HMAC-SHA-256. -/
def hmac256 (key m : Bytes) : Bytes := hmacOf sha256 64 key m
/-- HMAC-SHA-384. -/
def hmac384 (key m : Bytes) : Bytes := hmacOf sha384 128 key m

/-- HKDF expansion (RFC 5869); `n` counts the blocks still to make, `i` the next block's number. -/
def hkdfBlocks (mac : Bytes → Bytes → Bytes) (prk info : Bytes) : Nat → Nat → Bytes → Bytes
  | 0, _, _ => []
  | n + 1, i, prev =>
    let t := mac prk (prev ++ info ++ [BitVec.ofNat 8 i])
    t ++ hkdfBlocks mac prk info n (i + 1) t

/-- HKDF-SHA-256 (RFC 5869). -/
def hkdf256 (ikm salt info : Bytes) (len : Nat) : Bytes :=
  (hkdfBlocks hmac256 (hmac256 (if salt.isEmpty then zeros 32 else salt) ikm) info (ceilDiv len 32) 1 []).take len

/-- HKDF-SHA-384 (RFC 5869). -/
def hkdf384 (ikm salt info : Bytes) (len : Nat) : Bytes :=
  (hkdfBlocks hmac384 (hmac384 (if salt.isEmpty then zeros 48 else salt) ikm) info (ceilDiv len 48) 1 []).take len

/-! ## Block ciphers -/

/-- AES block encryption over bytes. -/
def aesBlock (key b : Bytes) : Bytes := aesEnc key (padTo 16 b)
/-- AES block decryption over bytes. -/
def aesInv (key b : Bytes) : Bytes := aesDec key (padTo 16 b)
/-- DES block encryption over bytes. -/
def desBlock (key b : Bytes) : Bytes :=
  natBE 8 (desEnc (BitVec.ofNat 64 (beNat (padTo 8 key))) (BitVec.ofNat 64 (beNat (padTo 8 b)))).toNat
/-- DES block decryption over bytes. -/
def desInv (key b : Bytes) : Bytes :=
  natBE 8 (desDec (BitVec.ofNat 64 (beNat (padTo 8 key))) (BitVec.ofNat 64 (beNat (padTo 8 b)))).toNat
/-- Key `i` of a TDEA key of two or three DES keys. -/
def tdeaKey (key : Bytes) (i : Nat) : Bytes := if i = 2 ∧ key.length < 24 then sub key 0 8 else sub key (8 * i) 8
/-- TDEA encryption (EDE). -/
def tdeaBlock (key b : Bytes) : Bytes := desBlock (tdeaKey key 2) (desInv (tdeaKey key 1) (desBlock (tdeaKey key 0) b))
/-- TDEA decryption. -/
def tdeaInv (key b : Bytes) : Bytes := desInv (tdeaKey key 0) (desBlock (tdeaKey key 1) (desInv (tdeaKey key 2) b))

/-! ## GCM -/

/-- Product in GF(2^128) as GCM orders its bits: bit `i` counts from the most significant. -/
def gfMul (x y : BitVec 128) : BitVec 128 :=
  ((List.range 128).foldl (fun (z, v) i =>
    (if x.getMsbD i then z ^^^ v else z,
     if v.getLsbD 0 then (v >>> 1) ^^^ (0xE1 <<< 120) else v >>> 1)) ((0 : BitVec 128), y)).1

/-- GHASH of a byte string in zero-padded 16-byte blocks. -/
def ghash (h : BitVec 128) (b : Bytes) : BitVec 128 :=
  (chunks 16 b).foldl (fun acc c => gfMul (acc ^^^ BitVec.ofNat 128 (beNat (padTo 16 c))) h) 0

/-- The string padded with zeros to whole 16-byte blocks. -/
def pad16 (b : Bytes) : Bytes := b ++ zeros ((16 - b.length % 16) % 16)

/-- First counter block of GCM for a 96-bit IV, its 32-bit counter set to `c`. -/
def gcmBlock (iv : Bytes) (c : Nat) : Bytes := padTo 12 iv ++ natBE 4 c

/-- GCM's keystream exclusive-ored with the data, the counter from 2. -/
def gcmCtr (key iv data : Bytes) : Bytes :=
  ((chunks 16 data).zipIdx.map fun (c, i) => xorBytes c (aesBlock key (gcmBlock iv (i + 2)))).flatten

/-- GCM tag over associated data and ciphertext. -/
def gcmTag (key iv aad ct : Bytes) : Bytes :=
  let h := BitVec.ofNat 128 (beNat (aesBlock key (zeros 16)))
  let g := ghash h (pad16 aad ++ pad16 ct ++ natBE 8 (8 * aad.length) ++ natBE 8 (8 * ct.length))
  xorBytes (natBE 16 g.toNat) (aesBlock key (gcmBlock iv 1))

/-- GCM encryption: ciphertext and tag. -/
def gcmSeal (key iv aad pt : Bytes) : Bytes × Bytes :=
  let ct := gcmCtr key iv pt
  (ct, gcmTag key iv aad ct)

/-- GCM decryption; none where the tag fails. -/
def gcmOpen (key iv aad ct tag : Bytes) : Option Bytes :=
  if (gcmTag key iv aad ct).take tag.length = tag then some (gcmCtr key iv ct) else none

/-! ## CMAC -/

/-- Doubling in GF(2^128) as CMAC does it. -/
def cmacDouble (v : BitVec 128) : BitVec 128 := if v.getMsbD 0 then (v <<< 1) ^^^ 0x87 else v <<< 1

/-- CBC chaining value over whole blocks with a block cipher. -/
def cbcMac (e : Bytes → Bytes) (iv : Bytes) (blocks : List Bytes) : Bytes :=
  blocks.foldl (fun x b => e (xorBytes x b)) iv

/-- AES-CMAC, 16 bytes. -/
def aesCmac (key m : Bytes) : Bytes :=
  let l := BitVec.ofNat 128 (beNat (aesBlock key (zeros 16)))
  let k1 := cmacDouble l
  let k2 := cmacDouble k1
  let n := if m.isEmpty then 1 else ceilDiv m.length 16
  let head := (chunks 16 m).take (n - 1)
  let lst := m.drop (16 * (n - 1))
  let final := if lst.length = 16 then xorBytes lst (natBE 16 k1.toNat)
    else xorBytes (padTo 16 (lst ++ [0x80])) (natBE 16 k2.toNat)
  aesBlock key (xorBytes (cbcMac (aesBlock key) (zeros 16) head) final)

/-- Retail MAC chaining (R264): 8 bytes. -/
def retailMac (key m : Bytes) : Bytes :=
  let k1 := sub key 0 8
  desBlock k1 (desInv (sub key 8 8) (cbcMac (desBlock k1) (zeros 8) (chunks 8 m)))

/-! ## Modes (R256 to R263) -/

/-- ECB with a block function. -/
def ecb (n : Nat) (f : Bytes → Bytes) (m : Bytes) : Bytes := (chunks n m).flatMap f

/-- CBC encryption of blocks. -/
def cbcEnc (e : Bytes → Bytes) : Bytes → List Bytes → Bytes
  | _, [] => []
  | iv, b :: bs => let c := e (xorBytes iv b); c ++ cbcEnc e c bs

/-- CBC decryption of blocks. -/
def cbcDec (d : Bytes → Bytes) : Bytes → List Bytes → Bytes
  | _, [] => []
  | iv, b :: bs => xorBytes iv (d b) ++ cbcDec d b bs

/-- Counter block `i` after `ctr`, whose low `w` bits count (R258). -/
def ctrBlock (w : Nat) (ctr : Bytes) (i : Nat) : Bytes :=
  let v := beNat ctr
  natBE 16 (v / 2 ^ w * 2 ^ w + (v % 2 ^ w + i) % 2 ^ w)

/-- CTR. -/
def ctrMode (key : Bytes) (w : Nat) (ctr m : Bytes) : Bytes :=
  ((chunks 16 m).zipIdx.map fun (c, i) => xorBytes c (aesBlock key (ctrBlock w ctr i))).flatten

/-- Multiplication of an XTS tweak by alpha (IEEE 1619). -/
def xtsDouble (t : Bytes) : Bytes :=
  let v := leNat t
  natLE 16 (if v < 2 ^ 127 then 2 * v else (2 * v - 2 ^ 128) ^^^ 0x87)

/-- XTS over the whole blocks of a data unit. -/
def xtsBlocks (f : Bytes → Bytes) : Bytes → List Bytes → Bytes
  | _, [] => []
  | t, b :: bs => xorBytes t (f (xorBytes t b)) ++ xtsBlocks f (xtsDouble t) bs

/-- The tweak after `n` doublings. -/
def xtsTweak (t : Bytes) : Nat → Bytes
  | 0 => t
  | n + 1 => xtsDouble (xtsTweak t n)

/-- One XTS data unit with ciphertext stealing: `enc` says which way (R262). -/
def xtsUnit (enc : Bool) (k1 k2 : Bytes) (unit : Nat) (m : Bytes) : Bytes :=
  let f := if enc then aesBlock k1 else aesInv k1
  let t := aesBlock k2 (natLE 16 unit)
  let r := m.length % 16
  if r = 0 then xtsBlocks f t (chunks 16 m)
  else
    let n := m.length / 16
    let body := xtsBlocks f t (chunks 16 (m.take (16 * (n - 1))))
    let (ta, tb) := if enc then (xtsTweak t (n - 1), xtsTweak t n) else (xtsTweak t n, xtsTweak t (n - 1))
    let cc := xorBytes ta (f (xorBytes ta (sub m (16 * (n - 1)) 16)))
    let pp := m.drop (16 * n) ++ cc.drop r
    body ++ xorBytes tb (f (xorBytes tb pp)) ++ cc.take r

/-- XTS over a job's data units. -/
def xtsMode (enc : Bool) (k1 k2 : Bytes) (unitLen start : Nat) (m : Bytes) : Bytes :=
  ((chunks unitLen m).zipIdx.map fun (u, i) => xtsUnit enc k1 k2 (start + i) u).flatten

/-! ## Key wrapping (RFC 3394, RFC 5649) -/

/-- One round of wrapping over the blocks; `t` is the step number of the first. -/
def kwRound (key : Bytes) : Bytes → List Bytes → Nat → Bytes × List Bytes
  | a, [], _ => (a, [])
  | a, r :: rs, t =>
    let b := aesBlock key (a ++ r)
    let (a', rs') := kwRound key (xorBytes (b.take 8) (natBE 8 t)) rs (t + 1)
    (a', b.drop 8 :: rs')

/-- Wrapping of whole 8-byte blocks under an initial value. -/
def kwCore (key a : Bytes) (rs : List Bytes) : Bytes :=
  let (x, ys) := (List.range 6).foldl (fun (a, rs) j => kwRound key a rs (rs.length * j + 1)) (a, rs)
  x ++ ys.flatten

/-- One round of unwrapping over the blocks in reverse; `t` is the step number of the first. -/
def kwUnround (key : Bytes) : Bytes → List Bytes → Nat → Bytes × List Bytes
  | a, [], _ => (a, [])
  | a, r :: rs, t =>
    let b := aesInv key (xorBytes a (natBE 8 t) ++ r)
    let (a', rs') := kwUnround key (b.take 8) rs (t - 1)
    (a', b.drop 8 :: rs')

/-- Unwrapping to the recovered initial value and the blocks. -/
def kwUncore (key c : Bytes) : Bytes × Bytes :=
  let rs := (chunks 8 (c.drop 8)).reverse
  let (a, ys) := (List.range 6).reverse.foldl (fun (a, rs) j => kwUnround key a rs (rs.length * (j + 1)))
    (c.take 8, rs)
  (a, ys.reverse.flatten)

/-- KW with the default IV (R263). -/
def kwWrap (key m : Bytes) : Bytes := kwCore key (List.replicate 8 0xA6) (chunks 8 m)

/-- KW unwrapping. -/
def kwUnwrap (key c : Bytes) : Option Bytes :=
  let (a, m) := kwUncore key c
  if a = List.replicate 8 0xA6 then some m else none

/-- KWP (R263). -/
def kwpWrap (key m : Bytes) : Bytes :=
  let a := [0xA6, 0x59, 0x59, 0xA6] ++ natBE 4 m.length
  let p := m ++ zeros ((8 - m.length % 8) % 8)
  if p.length ≤ 8 then aesBlock key (a ++ p) else kwCore key a (chunks 8 p)

/-- KWP unwrapping. -/
def kwpUnwrap (key c : Bytes) : Option Bytes :=
  if c.length < 16 ∨ c.length % 8 ≠ 0 then none
  else
    let (a, p) := if c.length = 16 then ((aesInv key c).take 8, (aesInv key c).drop 8) else kwUncore key c
    let n := beNat (sub a 4 4)
    if a.take 4 = [0xA6, 0x59, 0x59, 0xA6] ∧ p.length < n + 8 ∧ n ≤ p.length ∧ (p.drop n).all (· == 0) then
      some (p.take n) else none

/-! ## Signatures of certificates -/

/-- ECDSA P-384 verification of an r, s pair of 48 bytes each (R49). -/
def p384Verify (pub digest sig : Bytes) : Bool :=
  p384Curve.validPoint 48 pub && p384Curve.verify (some (bytesPoint 48 pub)) digest (fld sig 0 48) (fld sig 48 48)

/-- ECDSA P-256 verification of an r, s pair of 32 bytes each (R212). -/
def p256Verify (pub digest sig : Bytes) : Bool :=
  p256Curve.validPoint 32 pub && p256Curve.verify (some (bytesPoint 32 pub)) digest (fld sig 0 32) (fld sig 32 32)

/-! ## Draws (R323) -/

/-- The first captured draw of a record, with the items without it (R552). -/
def takeDraw (i : Nat) : List CaptureItem → Option (Bytes × List CaptureItem)
  | [] => none
  | .draw k b :: l => if k = i then some (b, l) else (takeDraw i l).map fun (x, r) => (x, .draw k b :: r)
  | it :: l => (takeDraw i l).map fun (x, r) => (x, it :: r)

/-- `n` bytes drawn from the DRBG; what they are is free (Config.drawByte). A running capture records a record's draws, and
a replayed record takes them from the capture (R549, R552). -/
def State.draw (s : State) (n : Nat) : State × Bytes :=
  let b := (List.range n).map fun i => Config.drawByte (s.draws + i)
  let s1 := { s with draws := s.draws + n }
  match s.rpl.index with
  | none => (s1, b)
  | some i =>
    if s.rpl.inRecord then
      match takeDraw i s.rpl.items with
      | some (x, l) => ({ s with rpl := { s.rpl with items := l } }, padTo n x)
      | none => (s1, b)
    else (s1.capture (.draw i b), b)

/-- The signature r, s of a digest under the device identity key, with the drawn bytes of its scalar (R150, R308, R544). -/
def State.identitySig (s : State) (digest k : Bytes) : Bytes :=
  let (r, v) := p384Curve.sign (Config.identityScalar s.otp.secret) digest (p384Curve.scalar k)
  natLE 48 r ++ natLE 48 v

/-- Public half of the device identity key, x then y. -/
def State.identityPub (s : State) : Bytes :=
  pointBytes 48 (p384Curve.mul (Config.identityScalar s.otp.secret) p384Curve.base)

/-- Public half of the device custody key, x then y (Table 7-12). -/
def State.custodyPub (s : State) : Bytes :=
  pointBytes 32 (p256Curve.mul (Config.custodyScalar s.otp.secret) p256Curve.base)

end Sys2Proof.Machine
end

