-- ==== Sys2Proof/Machine/Reset.lean ====
section
/-! DEFINITION. Device resets (R60). -/

namespace Sys2Proof.Machine

/-- A late completion is discarded and counted in its island (R149). -/
def State.lateDiscard (s : State) (island : Nat) : State := { s with late := mapInc s.late island 0xFFFFFFFF }

/-- Classes whose monitor is the battery island's, given the class and the detail of its condition (Table 17-1). -/
def batteryClass (c : Nat) (detail : Word32) : Bool :=
  decide (c ≤ 12) || c == 16 || (c == 18 && detail == 12) || (c == 19 && detail.toNat % 256 == 0)

/-- Bits of a class register that the battery island keeps over a device reset (R516). -/
def keptBits (onset : Map (Tick × Word32)) (v : BitVec 32) : BitVec 32 :=
  (List.range 32).foldl (fun acc c =>
    if v.getLsbD c && batteryClass c (mapGet (0, 0) onset c).2 then acc ||| BitVec.ofNat 32 (2 ^ c) else acc) 0

/-- A device reset (R60): every island except the battery island returns to its reset state and the tick restarts. OTP,
vault, wake ledger and the ring log's array stay; only an internal reset keeps the recovery request flag. -/
def State.deviceReset (s : State) (cause : BitVec 4) : State :=
  { State.reset with
    recoveryReq := cause == 4 && s.recoveryReq
    resetCause := cause ||| (if s.mode = .felled then 8 else 0)
    mainPower := s.mainPower, vbat := s.vbat, sysReset := s.sysReset
    otp := s.otp
    vault := if s.mode = .replay then s.rpl.vault.getD s.vault else s.vault
    iso := { State.reset.iso with repair := s.iso.repair }
    log := { s.log with freeze := none, exportFreeze := false, exports := 0, held := [], counted := 0,
                        forcedThaw := false }
    tmp := { State.reset.tmp with
      condition := keptBits s.tmp.onset s.tmp.condition, raised := keptBits s.tmp.onset s.tmp.raised
      onset := (s.tmp.onset.filter fun p => batteryClass p.1 p.2.2).map fun p => (p.1, 0, p.2.2)
      overflow := s.tmp.overflow, wake := s.tmp.wake, wakeSeq := s.tmp.wakeSeq
      seeded := s.tmp.seeded, seeds := s.tmp.seeds }
    sent := s.sent, draws := s.draws, pending := s.pending }

/-- An internal reset. -/
def State.internalReset (s : State) : State := s.deviceReset 4

end Sys2Proof.Machine
end

