-- ==== Sys2Proof/Machine/Commit.lean ====
section
/-! DEFINITION. Changes of stored state and what mirrors them, messages to the twin and to members, where a command runs in
a caravan, and lanes. -/

namespace Sys2Proof.Machine

/-- The record is sealed under a session. -/
def Rec.isSealed (r : Rec) : Bool := r.form == .native && (r.raw.getD 3 0).getLsbD 0

/-! ## The link's ports as senders see them -/

/-- A port. -/
def State.port (s : State) (n : Nat) : Port := mapGet {} s.ndl.port n

/-- A port is replaced. -/
def State.setPort (s : State) (n : Nat) (p : Port) : State :=
  { s with ndl := { s.ndl with port := mapPut {} s.ndl.port n p } }

/-- Connected: ACTIVE or RETRAIN (R425). -/
def Port.connected (p : Port) : Bool := p.st == .active || p.st == .retrain

/-- First-hop port of a member's route (R449). -/
def State.routePort (s : State) (m : Nat) : Option Nat := (mapFind s.man.set.routes m).map (·.port)

/-- Member `m` is reachable (R449), and not excluded by R452, R475 or R480. -/
def State.reachable (s : State) (m : Nat) : Bool :=
  m == s.man.set.self ||
    (!s.car.excluded.contains m && !s.car.stale.contains m &&
      match s.routePort m with
      | some p => (s.port p).connected
      | none => false)

/-- A message joins those that wait to leave on its port. -/
def State.queueMsg (s : State) (p : Nat) (m : Msg) : State :=
  (s.setPort p { s.port p with txQ := (s.port p).txQ ++ [.own m] }).emit (.link p m)

/-- A message goes to the twin on port 0 (R447). -/
def State.sendTwin (s : State) (txn : Nat) (reply resend : Bool) (b : Payload) : State :=
  if (s.port 0).connected then s.queueMsg 0 { port := 0, reply, resend, txn, body := b } else s

/-- A message goes to a reachable member along its route; to an unreachable one it is not sent (R449). -/
def State.sendMember (s : State) (m : Nat) (tenant : Nat) (world : Bool) (txn : Nat) (reply resend : Bool) (b : Payload) :
    State :=
  if s.reachable m ∧ m ≠ s.man.set.self then
    match s.routePort m with
    | some p => s.queueMsg p { port := p, reply, resend, dest := m, src := s.man.set.self,
                               keyIndex := if world then 0 else tenant, world, tenant, txn, epoch := s.car.epoch,
                               body := b }
    | none => s
  else s

/-- The serial of the twin in force, 0 when none (Table 3-4). -/
def State.twinSerial (s : State) : Nat := fld s.man.header 0x18 8

/-- This device is the keel (Table 15-1). -/
def State.keel (s : State) : Bool := s.man.set.keelSerial != 0 && s.man.set.keelSerial == s.otp.serial

/-- This device is the serving twin (R461). -/
def State.serving (s : State) : Bool :=
  match s.twin.st with
  | .none => true
  | .pairing | .paired => !s.keel
  | .loneKeel => true
  | .fenced | .resync => false

/-- A new transaction id (Table 14-9). -/
def State.newTxn (s : State) : State × Nat :=
  ({ s with twin := { s.twin with txn := s.twin.txn + 1 } }, s.twin.txn)

/-! ## Outcome history (R142, R143) -/

/-- The entry of a number. -/
def State.outcome (s : State) (tenant seq : Nat) : Option Outcome :=
  s.outcomes.find? fun o => o.tenant == tenant && o.seq == seq

/-- The floor of a tenant. -/
def State.floor (s : State) (tenant : Nat) : Nat := mapGet 0 s.floors tenant

/-- Without the last entry of a tenant in a list that is newest first. -/
def dropOldest (tenant : Nat) (l : List Outcome) : List Outcome × Option Outcome :=
  match l.reverse.find? fun o => o.tenant == tenant with
  | some o => (l.filter fun x => !(x.tenant == tenant && x.seq == o.seq), some o)
  | none => (l, none)

/-- A new entry, evicting the tenant's oldest beyond 65,536 (R142). -/
def State.addOutcome (s : State) (o : Outcome) : State :=
  let l := o :: s.outcomes.filter fun x => !(x.tenant == o.tenant && x.seq == o.seq)
  if (l.filter fun x => x.tenant == o.tenant).length ≤ 65536 then { s with outcomes := l }
  else
    let (l1, ev) := dropOldest o.tenant l
    match ev with
    | some e =>
      if e.seq < 2 ^ 47 then
        { s with outcomes := l1, floors := mapPut 0 s.floors o.tenant (max (s.floor o.tenant) e.seq) }
      else { s with outcomes := l1 }
    | none => { s with outcomes := l1 }

/-- A not-run outcome is recorded unless the number has an entry of a started record (R143). -/
def State.notRun (s : State) (tenant seq : Nat) (st : Status) : State :=
  match s.outcome tenant seq with
  | some o => if o.notRun then s.addOutcome { tenant, seq, status := st, notRun := true } else s
  | none => s.addOutcome { tenant, seq, status := st, notRun := true }

/-- The running entry of a number becomes final. -/
def State.finalOutcome (s : State) (tenant seq : Nat) (st : Status) (d : Nat) (lone : Bool) : State :=
  { s with outcomes := s.outcomes.map fun o =>
      if o.tenant == tenant && o.seq == seq then
        { o with status := st, detail := d, lone, running := false, notRun := false } else o }

/-! ## Arrays (R20 to R23) -/

/-- Row of an array in Table 1-4; the page ownership table's is the model's own. -/
def arrayNum : ArrayKind → Nat
  | .vault => 0 | .cellar => 1 | .board => 2 | .scratch => 3 | .operand => 4 | .hmacCache => 5 | .ringLog => 6
  | .capture => 7 | .localRam => 8 | .pot => 9

/-- Errors in a word that the array corrects (R20). -/
def arrayCorrects : ArrayKind → Nat
  | .vault | .cellar | .board => 2 | _ => 1

/-- Island of an array. -/
def arrayIsland : ArrayKind → Nat
  | .vault => islBattery | .cellar | .hmacCache => islCellar | .board => islLedger | .scratch | .localRam => islDrover
  | .operand => islBig | .ringLog => islAlways | .capture => islHost | .pot => islWarden

/-- A word of an array between two indices reads poisoned (R22). -/
def State.poisoned (s : State) (a : ArrayKind) (first n : Nat) : Bool :=
  s.poison.any fun x => x.1 == arrayNum a && decide (first ≤ x.2) && decide (x.2 < first + n)

/-- The words are written, which ends their poison. -/
def State.freshWords (s : State) (a : ArrayKind) (first n : Nat) : State :=
  { s with poison := s.poison.filter fun x => !(x.1 == arrayNum a && decide (first ≤ x.2) && decide (x.2 < first + n)) }

/-- Uncorrectable error (R22): logged, and the word reads poisoned. -/
def State.badWord (s : State) (a : ArrayKind) (word : Nat) : State :=
  let s1 := { s with poison := (arrayNum a, word) :: s.poison.filter (· != (arrayNum a, word)) }
  (s1.raise .integrity 2).logEvent 0x0201 .alarm (arrayIsland a) 0x100 .dataPoisoned [arrayNum a, word]

/-- SCRUBBER_READ: a word is read with so many bits in error (R21 to R23). -/
def State.scrub (s : State) (a : ArrayKind) (word errors : Nat) : State :=
  if errors = 0 then s
  else if errors ≤ arrayCorrects a then { s with corrected := mapInc s.corrected (arrayNum a) 0xFFFFFFFF }
  else s.badWord a word

/-! ## Changes -/

/-- A slot as the array holds it. -/
def State.slot (s : State) (i : Nat) : Slot := mapGet {} s.cel.slots i

/-- A slot write in the cellar's commit order (R175): a felling keeps its position (R189) and drops the slot's cached HMAC
states (R178, R283). A write of the key that the slot already holds keeps the larger usage count (R196). -/
def State.putSlot (s : State) (i : Nat) (v : Slot) : State :=
  let old := s.slot i
  let v1 := if old.state ≠ .free ∧ v.state ≠ .free ∧ v.state ≠ .felled ∧ old.generation = v.generation then
      { v with counter := max old.counter v.counter } else v
  let n := s.cel.commit + 1
  { s.freshWords .cellar (8 * i) 8 with cel := { s.cel with
      slots := mapPut {} s.cel.slots i v1, commit := n
      felledAt := if v.state = .felled then mapSet s.cel.felledAt i n else mapDel s.cel.felledAt i
      blinding := if v.state = .felled then mapDel s.cel.blinding i else s.cel.blinding
      cache := if v.state = .felled then s.cel.cache.filter (fun e => e.slot != i) else s.cel.cache } }

/-! ## The board (R342, R354, R363, R364) -/

/-- The last so many items of a ledger in a list that is newest first. -/
def lastOf {α : Type} (n : Nat) (mine : α → Bool) (l : List α) : List α :=
  let keep := (l.filter mine).length
  if keep ≤ n then l else
    (l.foldl (fun (acc, k) x => if mine x then (if k < n then (x :: acc, k + 1) else (acc, k)) else (x :: acc, k))
      (([] : List α), 0)).1.reverse

/-- A ledger leaves the board with its contexts, tag map, filter, responses and blocks (R343). -/
def State.freeBoard (s : State) (n : Nat) : State :=
  let l := (mapGet {} s.board.heads n).ledger
  { s with board := { s.board with
      heads := mapDel s.board.heads n, desc := mapDel s.board.desc n
      ctx := s.board.ctx.filter fun x => x.2.ledger != l
      tags := s.board.tags.filter fun x => x.1 != l
      filter := s.board.filter.filter fun e => e.ledger != l
      responses := s.board.responses.filter fun r => r.ledger != l
      blocks := s.board.blocks.filter fun b => b.ledger != l } }

/-- A head is written. Within one ledger the larger next sequence and the later block end stay. Ids that have left the
window leave the filter, and a block closes after 4,096 entries or where the head says so (R354, R364). -/
def State.putHead (s : State) (n : Nat) (v : Head) : State :=
  let old := mapGet {} s.board.heads n
  if v.ledger = 0 then s.freeBoard n
  else if old.ledger = v.ledger ∧ v.nextSeq < old.nextSeq then s
  else
    let end0 := if old.ledger = v.ledger then max old.lastBlock v.lastBlock else v.lastBlock
    let end1 := if end0 + 4096 < v.nextSeq then v.nextSeq - 1 else end0
    let v1 := { v with lastBlock := end1 }
    let low := max (v.nextSeq - (mapGet {} s.board.desc n).window) v.floor
    let b : JournalBlock := { ledger := v.ledger, first := old.lastBlock + 1, last := end1
                              epoch := (mapGet {} s.vault.epochs n).epoch, lastHash := v.chain, signature := none }
    let blocks := if old.ledger = v.ledger ∧ old.lastBlock < end1 then
        lastOf 64 (fun x : JournalBlock => x.ledger == v.ledger) (b :: s.board.blocks) else s.board.blocks
    { s with board := { s.board with
        heads := mapPut {} s.board.heads n v1, blocks
        filter := s.board.filter.filter fun e => e.ledger != v.ledger || decide (low ≤ e.seq) } }

/-- A response body joins the store; postings, accruals and openings are counted (R363, LED_POSTINGS). -/
def State.keepResponse (s : State) (r : StoredResponse) : State :=
  { s with board := { s.board with
      responses := lastOf 65536 (fun x : StoredResponse => x.ledger == r.ledger) (r :: s.board.responses)
      postings := if r.kind ≤ 3 then sat32 s.board.postings else s.board.postings } }

/-- One change takes effect. -/
def State.apply (s : State) (c : Change) : State :=
  match c with
  | .slot i v => s.putSlot i v
  | .directory i v => { s with cel := { s.cel with dir := mapPut {} s.cel.dir i v } }
  | .blob a d => { s with cel := { s.cel with blobs := if d = [] then mapDel s.cel.blobs a else mapSet s.cel.blobs a d } }
  | .keyRecord n v => { s.freshWords .vault (32 + 5 * n) 5 with vault := { s.vault with keys := mapPut {} s.vault.keys n v } }
  | .epochEntry n v => { s with vault := { s.vault with epochs := mapPut {} s.vault.epochs n v } }
  | .custody t v => { s with vault := { s.vault with custody := mapPut {} s.vault.custody t v } }
  | .pin id => { s with vault := { s.vault with pin := id } }
  | .kh1 t k h => { s with kh1 := mapPut 0 s.kh1 (4096 * t + k) h }
  | .outcome o => s.addOutcome { tenant := o.tenant, seq := o.seq, status := o.status, detail := o.detail, lone := o.lone }
  | .decision d => { s with board := { s.board with
      decisions := d :: s.board.decisions.filter fun x => !(x.ledger == d.ledger && x.id == d.id) } }
  | .floor t n => { s with floors := mapPut 0 s.floors t (max (s.floor t) n) }
  | .epochDecision e m => { s with car := { s.car with decision := some (e, m) } }
  | .stream k v => { s with digests := mapPut {} s.digests k v }
  | .curve n v => { s with curves := match v with | some x => mapSet s.curves n x | none => mapDel s.curves n }
  | .restored t => { s with cel := { s.cel with restored := t :: s.cel.restored.filter (· != t) } }
  | .boardRestored l => { s with board := { s.board with restored := l :: s.board.restored.filter (· != l) } }
  | .blockSig l last sig => { s with board := { s.board with blocks := s.board.blocks.map fun b =>
      if b.ledger == l && b.last == last then { b with signature := some sig } else b } }
  | .head n v => s.putHead n v
  | .descriptor n v => { s with board := { s.board with desc := mapPut {} s.board.desc n v } }
  | .context i v => { s.freshWords .board (4 * i) 4 with board := { s.board with ctx := mapPut {} s.board.ctx i v } }
  | .tag l fp i => { s with board := { s.board with
      tags := (l, fp, i) :: s.board.tags.filter fun x => !(x.1 == l && x.2.1 == fp) } }
  | .filter e => { s with board := { s.board with filter := e :: s.board.filter } }
  | .response r => s.keepResponse r
  | .blinding i v => if (s.slot i).state = .free ∨ (s.slot i).state = .felled then s
      else { s with cel := { s.cel with blinding := mapSet s.cel.blinding i v } }

/-- Changes take effect in order. -/
def State.applyAll (s : State) (cs : List Change) : State := cs.foldl State.apply s

/-- The change is content of Table 15-4. -/
def Change.mirrored : Change → Bool
  | .stream .. | .curve .. | .blinding .. | .restored .. | .pin .. | .boardRestored .. | .blockSig .. => false
  | _ => true

/-- The change travels in a MIRROR_POSTING rather than in a CELLAR_SYNC (Table 15-4). -/
def Change.posting : Change → Bool
  | .head .. | .descriptor .. | .context .. | .tag .. | .filter .. | .response .. => true
  | _ => false

/-- The change is a cellar change that the caravan's members take as a move (R475). -/
def Change.moves : Change → Bool
  | .slot .. | .directory .. | .blob .. | .keyRecord .. => true
  | _ => false

/-! ## Lanes (R253) -/

/-- Number of a lane kind. -/
def kindNum : LaneKind → Nat
  | .cipher => 0 | .digest => 1 | .bigNumber => 2 | .decimal => 3

/-- Lanes of a kind (Table 1-1). -/
def laneCount : LaneKind → Nat
  | .cipher => 16 | .digest => 8 | .bigNumber => 32 | .decimal => 4

/-- Power unit of a lane (Table 19-1). -/
def laneUnit : LaneKind → Nat → Nat × Nat
  | .cipher, l => (10, l)
  | .digest, l => (12, l)
  | .bigNumber, l => if l < 16 then (13, l) else (14, l - 16)
  | .decimal, l => (15, l)

/-- The lane is powered and not withdrawn (R31, R253). -/
def State.laneOn (s : State) (k : LaneKind) (l : Nat) : Bool :=
  s.unitOn (laneUnit k l).1 (laneUnit k l).2 && !s.lanes.withdrawn.contains (64 * kindNum k + l)

/-- The lane runs no job. -/
def State.laneIdle (s : State) (k : LaneKind) (l : Nat) : Bool :=
  s.running.all fun r => r.stage != .lane k (some l)

/-- Some lane of the kind is in service and powered (R253). -/
def State.laneAny (s : State) (k : LaneKind) : Bool := (List.range (laneCount k)).any (s.laneOn k)

/-- The idle lane that takes the next job: the lowest. DESIGN CHOICE (entry 9): R253 leaves the choice open. -/
def State.laneFree (s : State) (k : LaneKind) : Option Nat :=
  (List.range (laneCount k)).find? fun l => s.laneOn k l && s.laneIdle k l

/-- A counter of a lane block is advanced (Tables 8-11, 9-10, 12-7). -/
def State.laneCount (s : State) (k : LaneKind) (off : Nat) : State :=
  { s with lanes := { s.lanes with counters := mapInc s.lanes.counters (0x1000 * kindNum k + off) 0xFFFFFFFF } }

/-! ## Domains a command needs (R558, R562) -/

/-- Status with which a command ends that needs a domain which is discarded or not ON. -/
def State.domainFail (s : State) (d : Nat) : Option Status :=
  if s.pwr.discarded.contains d then some .musterIncomplete
  else if s.unitOn d 0 then none else some .laneUnavailable

/-- Opcodes that need the cellar and sealed memory (R401, R558). -/
def sealedOps : List Nat :=
  [0x0101, 0x0201, 0x0202, 0x0203, 0x0204, 0x0205, 0x0206, 0x0207, 0x0208, 0x0209, 0x020A, 0x020C, 0x020E, 0x020F,
   0x0301, 0x0302, 0x0303, 0x0304, 0x0305, 0x0402, 0x0403, 0x0501, 0x0502, 0x0503, 0x0504, 0x0505, 0x0506,
   0x0B01, 0x0B02, 0x0B03, 0x0B04]

/-- Domains that an opcode needs, in order (R401, R558, R562). Custodian and transit ports have their own place in the order
of checks (R226). -/
def needs (op : Nat) (b : Bytes) : List Nat :=
  if 0x0701 ≤ op ∧ op ≤ 0x070A then [7, 16, 6]
  else if op ∈ sealedOps then [6, 16]
  else if op = 0x020D then [6]
  else if op = 0x0401 then (if fld b 1 1 = 0xFF then [] else [16])
  else if op = 0x0404 ∨ op = 0x0405 ∨ op = 0x0A04 ∨ (0x0801 ≤ op ∧ op ≤ 0x0806) then [16]
  else []

/-! ## Where a command runs (Table 15-5) -/

/-- Twin's member number of a member, 0xFF for none (R458). -/
def State.twinMember (s : State) (m : Nat) : Nat := s.man.set.twinOf.getD m 255

/-- A pair's lower member number. -/
def State.pairOf (s : State) (m : Nat) : Nat := min m (s.twinMember m)

/-- The member is this device or its twin. -/
def State.here (s : State) (m : Nat) : Bool := s.pairOf m == s.pairOf s.man.set.self

/-- This device has the lead role: it serves the pair of member 0 (R459, R472). -/
def State.lead (s : State) : Bool := s.pairOf s.man.set.self == 0 && s.serving

/-- Member that homes a tag or posting id, by its byte 0 (R368). -/
def State.homeOf (s : State) (b : Bytes) : Nat := s.man.set.homes.getD (fld b 0 1) 0

/-- One member for all, or none. -/
def State.oneHome (s : State) (l : List Nat) : Option Nat :=
  match l.map s.pairOf with
  | [] => none
  | m :: ms => if ms.all (· == m) then some m else none

/-- Homes and anchor of a posting, by its body (Tables 11-6, R365). -/
def postingHomes (op : Nat) (b : Bytes) : List Bytes :=
  if op = 0x0704 then (sub b 0x10 1) :: (List.range (fld b 2 1)).map fun i => sub b (0x40 + 192 * i) 1
  else [sub b 0x20 1, sub b 0x60 1, sub b 0xE0 1]

/-- The member that holds a serial, or whose twin does. -/
def State.memberOf (s : State) (serial : Nat) : Option Nat :=
  ((List.range s.man.set.memberCount).find? fun m => ((mapFind s.man.set.routes m).map (·.serial)) == some serial).map s.pairOf

/-- The other member at which a command runs, none where it runs here. Only the lead places commands, and a forwarded one has
been placed. -/
def State.place (s : State) (r : Rec) (op : Nat) (b input : Bytes) : Option Nat :=
  let there (m : Option Nat) : Option Nat := m.bind fun m => if s.here m then none else some m
  match r.ref with
  | .forwarded .. => none
  | .host .. =>
    if s.man.set.memberCount ≤ 1 ∨ ¬ s.lead then none
    else if op = 0x0704 ∨ op = 0x0705 then there (s.oneHome ((postingHomes op b).map s.homeOf))
    else if op = 0x0702 then there (some (s.homeOf (sub b 0x10 1)))
    else if op = 0x0703 then there (some (s.homeOf (sub b 0x20 1)))
    else if op = 0x0706 then there (some (s.homeOf (sub b 0x10 1)))
    else if 0x0901 ≤ op ∧ op ≤ 0x0903 ∧ fld b 0 1 < s.man.set.memberCount then there (some (fld b 0 1))
    else if op = 0x0709 then there (s.memberOf (fld input 8 8))
    else none

/-- Members that a command visits in turn after this device. -/
def State.visitList (s : State) (r : Rec) (op : Nat) : List Nat :=
  match r.ref with
  | .forwarded .. => []
  | .host .. =>
    if 1 < s.man.set.memberCount ∧ s.lead ∧ op ∈ [0x0701, 0x0707, 0x0708, 0x070A] then
      (List.range s.man.set.memberCount).filter fun m => s.pairOf m == m && !s.here m
    else []

end Sys2Proof.Machine
end

