-- ==== Sys2Proof/Machine/Entropy.lean ====
section
/-! DEFINITION. Entropy and random numbers (R316 to R335). -/

namespace Sys2Proof.Machine

/-- Source masks of the three kinds (Table 10-1). -/
def kindMasks : List (BitVec 26) := [0x0000FFFF, 0x00FF0000, 0x03000000]

/-- Every kind has a healthy source (Table 10-3). -/
def Rng.kindsOk (r : Rng) : Bool := kindMasks.all fun m => r.healthy &&& m != 0

/-- Bit of a source. -/
def srcBit (n : Nat) : BitVec 26 := BitVec.ofNat 26 (2 ^ n)

/-- The DRBG state becomes failed, with its ALARM entry (R322, R324). -/
def State.drbgFail (s : State) : State :=
  let s1 := { s with rng := { s.rng with st := .failed } }.raise .system 2
  s1.logEvent 0x0402 .alarm islCipher 0x100 .ok []

/-- A source is quarantined for one failed test (R319, R320); the last healthy source of a kind takes the DRBG with it
(R324). -/
def State.quarantine (s : State) (n : Nat) (apt : Bool) (count : Bool) : State :=
  let r := s.rng
  let s1 := { s with rng := { r with
    healthy := r.healthy &&& ~~~ srcBit n, startup := r.startup &&& ~~~ srcBit n
    quarantined := mapSet r.quarantined n s.tick
    times := if count then mapInc r.times n 3 else r.times
    rct := if apt then r.rct else sat32 r.rct, apt := if apt then sat32 r.apt else r.apt } }
  let s2 := s1.logEvent 0x0401 .warn islCipher 0x100 .ok [n, if apt then 1 else 0]
  if !s2.rng.kindsOk && s2.rng.st == .healthy then s2.drbgFail else s2

/-- A continuous test of a healthy source fails (R320). -/
def State.testFail (s : State) (n : Nat) (apt : Bool) : State :=
  if s.unitOn 19 0 ∧ s.rng.healthy.getLsbD n then s.quarantine n apt true else s

/-- A re-woken source restores every kind: the state becomes starting (R324). -/
def State.drbgRecover (s : State) : State :=
  if s.rng.st = .failed ∧ ¬ s.rng.katFailed ∧ s.rng.kindsOk then
    { s with rng := { s.rng with st := .starting, blocks := 0, need := max 2 s.rng.need } }
  else s

/-- START_UP_TEST_DONE (R319, R324). -/
def State.startUpDone (s : State) (n : Nat) (rct apt : Bool) : State :=
  if s.unitOn 19 0 ∧ s.rng.startup.getLsbD n then
    let s1 := if rct then s.quarantine n false true else s
    let s2 := if apt then s1.quarantine n true (!rct) else s1
    if rct ∨ apt then s2
    else
      { s2 with rng := { s2.rng with healthy := s2.rng.healthy ||| srcBit n,
                                      startup := s2.rng.startup &&& ~~~ srcBit n } }.drbgRecover
  else s

/-- QUARANTINE_WINDOW_CLOSE: the warden re-wakes the source, but for the third time never (R321). -/
def State.rewake (s : State) (n : Nat) : State :=
  match mapFind s.rng.quarantined n with
  | some q =>
    if q + 1000000 ≤ s.tick ∧ mapGet 0 s.rng.times n < 3 ∧ s.unitOn 19 0 then
      { s with rng := { s.rng with startup := s.rng.startup ||| srcBit n,
                                    quarantined := mapDel s.rng.quarantined n } }
    else s
  | none => s

/-- An entropy input is recorded in a running capture (R334). -/
def State.recordEntropy (s : State) (n : Nat) : State :=
  let (s1, b) := ({ s with rpl := { s.rpl with index := none } } : State).draw n
  let s2 := s1.capture (.entropy b)
  { s2 with rpl := { s2.rpl with index := s.rpl.index } }

/-- The DRBG is seeded: counted, buffers and FIFO filled (R326, R329, R331). -/
def State.seeded (s : State) : State :=
  let s1 := s.recordEntropy (if s.rng.need = 3 then 48 else 32)
  { s1 with rng := { s1.rng with
    st := .healthy, reseeds := sat32 s1.rng.reseeds, since := 0, reseedDue := false, blocks := 0, need := 2
    cipherBuf := 0xFFFF, bigBuf := 0xFFFFFFFF } }

/-- CONDITIONER_BLOCK_CLOSE: a conditioned block goes to the seeding under way (R317, R324, R326). -/
def State.blockClose (s : State) : State :=
  if s.unitOn 19 0 ∧ s.rng.st = .starting ∧ s.rng.kindsOk then
    if s.rng.need ≤ s.rng.blocks + 1 then s.seeded.raise .system 3
    else { s with rng := { s.rng with blocks := s.rng.blocks + 1 } }
  else s

/-- One request of the DRBG for `n` bytes, at most 4,096 (R327, R328): none where it is refused. -/
def State.random (s : State) (n : Nat) (reseed : Bool := false) : Option (State × Bytes) :=
  if s.rng.st = .healthy ∧ s.unitOn 19 0 then
    let due := reseed || s.rng.reseedDue || decide (2 ^ 20 ≤ s.rng.since)
    let s1 := if due then
        let x := s.recordEntropy 32
        { x with rng := { x.rng with reseeds := sat32 x.rng.reseeds, since := 0, reseedDue := false } }
      else s
    let s2 := { s1 with rng := { s1.rng with requests := sat32 s1.rng.requests, since := s1.rng.since + 1 } }
    some (s2.draw n)
  else none

/-- A refused request is counted (RNG_REFUSALS). -/
def State.refused (s : State) : State := { s with rng := { s.rng with refusals := sat32 s.rng.refusals } }

/-- A command that needs `n` random bytes: it ends with ENTROPY_FAILED where the draw is refused (R330). -/
def State.withRandom (s : State) (n : Nat) (k : State → Bytes → State × Did) : State × Did :=
  match s.random n with
  | some (s1, b) => k s1 b
  | none => (s.refused, .done (fail .entropyFailed))

/-- A lane takes its draw from its own buffer, or from the DRBG while it is healthy (R329): none where neither gives it. -/
def State.laneDraw (s : State) (k : LaneKind) (l : Nat) : Option State :=
  match k with
  | .cipher =>
    if s.rng.cipherBuf.getLsbD l then
      some { s with rng := { s.rng with cipherBuf := s.rng.cipherBuf &&& ~~~ BitVec.ofNat 16 (2 ^ l) } }
    else if s.rng.st = .healthy then some s else none
  | .bigNumber =>
    if s.rng.bigBuf.getLsbD l then
      some { s with rng := { s.rng with bigBuf := s.rng.bigBuf &&& ~~~ BitVec.ofNat 32 (2 ^ l) } }
    else if s.rng.st = .healthy then some s else none
  | _ => some s

/-- GET_RANDOM (R332). -/
def getRandom (c : Cmd) (s : State) : State × Did :=
  let n := fld c.body 0 4
  let f := fld c.body 4 4
  if c.body.length ≠ 8 ∨ n = 0 ∨ 4096 < n ∨ 1 < f then (s, .done (fail .bodyInvalid))
  else match s.random n (f == 1) with
    | some (s1, b) => (s1, .done { out := b })
    | none => (s.refused, .done (fail .entropyFailed))

/-- The KH-1 function RANDOM (R333). -/
def kh1Random (c : Cmd) (s : State) : State × Did :=
  let n := beNat (sub c.body 0x0E 2)
  if n = 0 then (s, .done (fail .bodyInvalid))
  else if 176 < n then (s, .done (fail .bodyInvalid))
  else s.withRandom n fun s1 b => (s1, .done { out := b })

/-- BUFFER_REFILL (R329). -/
def State.refill (s : State) (k : LaneKind) (l : Nat) : State :=
  if s.rng.st = .healthy ∧ s.unitOn 19 0 then
    match k with
    | .cipher => { s with rng := { s.rng with cipherBuf := s.rng.cipherBuf ||| BitVec.ofNat 16 (2 ^ l),
                                               requests := sat32 s.rng.requests, since := s.rng.since + 1 } }
    | .bigNumber => { s with rng := { s.rng with bigBuf := s.rng.bigBuf ||| BitVec.ofNat 32 (2 ^ l),
                                                  requests := sat32 s.rng.requests, since := s.rng.since + 1 } }
    | _ => s
  else s

/-- WARDEN_FIFO_REFILL: below 32 words the FIFO is filled (R331). -/
def State.refillFifo (s : State) : State :=
  if s.rng.fifo.length < 32 then
    let n := 64 - s.rng.fifo.length
    match s.random (4 * n) with
    | some (s1, b) =>
      { s1 with rng := { s1.rng with fifo := s1.rng.fifo ++ (chunks 4 b).map fun w => BitVec.ofNat 32 (leNat w) } }
    | none => s
  else s

/-- RNG_FIFO_DATA_READ by a warden core (R331). -/
def State.readFifo (s : State) : State :=
  match s.rng.fifo with
  | w :: ws => { s with rng := { s.rng with fifo := ws } }.emit (.regRead (.warden 0) 0x0014001C (w.setWidth 64))
  | [] => if s.rng.st = .healthy then s.emit .stall else (s.emit (.regRead (.warden 0) 0x0014001C 0)).emit .fault

/-- The start-up tests of BOOT stage 3: every source wakes, those named fail, the others are healthy (R319, R322, R325).
Answers whether BOOT goes on. -/
def State.bootEntropy (s : State) (kat : Bool) (failed : List (Nat × Bool)) : State × Bool :=
  let s0 := { s with rng := { s.rng with healthy := 0x03FFFFFF, startup := 0 } }
  let s1 := failed.foldl (fun s (n, apt) => s.quarantine n apt true) s0
  if ¬ kat then ({ s1 with rng := { s1.rng with katFailed := true } }.drbgFail, false)
  else if failed ≠ [] then (if s1.rng.kindsOk then s1 else s1.drbgFail, false)
  else (s1.seeded, true)

end Sys2Proof.Machine
end

