-- ==== Sys2Proof/Machine/Record.lean ====
section
/-! DEFINITION. Command records from the pre-start checks to their completion: R112 to R116, R131 to R157, R461 to R465. -/

namespace Sys2Proof.Machine

/-! ## Queue pairs and windows -/

/-- Queue pair `q` of a function. -/
def State.qp (s : State) (fn q : Nat) : QPair := mapGet {} s.host.qp (16 * fn + q)

/-- A queue pair is replaced. -/
def State.setQp (s : State) (fn q : Nat) (p : QPair) : State :=
  { s with host := { s.host with qp := mapPut {} s.host.qp (16 * fn + q) p } }

/-- Queue pairs of a function (Table 4-2, R608). -/
def State.qpCount (s : State) (fn : Nat) : Nat :=
  if s.mode = .recovery then (if fn = 0 then 1 else 0)
  else if fn = 0 then s.man.set.pf0Queues else s.man.set.vfQueues.getD (fn - 1) 0

/-- Every byte of a transfer lies in one window of the function that permits the direction (R103). -/
def State.ttuOk (s : State) (fn addr len : Nat) (write : Bool) : Bool :=
  (List.range 8).any fun w =>
    let x := mapGet {} s.host.win (8 * fn + w)
    x.size != 0 && decide (x.base ≤ addr) && decide (addr + len ≤ x.base + x.size) &&
      x.ctrl.getLsbD (if write then 1 else 0)

/-- The TTU refuses a transfer (R103). -/
def State.ttuRefuse (s : State) (fn addr len : Nat) (write : Bool) : State :=
  let s1 := { s with host := { s.host with ttuRefusals := sat32 s.host.ttuRefusals } }
  s1.logEvent 0x0103 .warn islHost fn .ownerMismatch [fn, addr, len, if write then 1 else 0]

/-- The interrupt of a queue pair is sent when its conditions hold (R116). -/
def State.irqCheck (s : State) (fn q : Nat) : State :=
  let p := s.qp fn q
  if p.irqEnable ∧ 0 < p.irqPending ∧
      (p.aggCount < p.irqPending ∨ p.aggTime = 0 ∨ p.irqFirst + p.aggTime ≤ s.tick) then
    (s.setQp fn q { p with irqPending := 0 }).msix fn p.vector
  else s

/-! ## Header fields (Table 5-1, Table 5-9) -/

/-- The opcode a record names; a KH-1 function counts from 0x1_0000. -/
def Rec.op (r : Rec) : Nat :=
  match r.form with
  | .native => fld r.raw 0 2
  | .kh1 => 0x10000 + beNat (sub r.raw 0 2)

/-- deadline, 0 for none. -/
def Rec.deadline (r : Rec) : Nat :=
  match r.form with
  | .native => fld r.raw 0x0C 4
  | .kh1 => 0

/-- The fence flag of its SQ entry. -/
def Rec.fence (r : Rec) : Bool := r.sq.flags.getLsbD 3

/-- Body as received. -/
def Rec.body (r : Rec) : Bytes := sub r.raw 64 (fld r.raw 8 4)

/-- The session's key. -/
def State.sessionKey (s : State) (tenant id : Nat) : Option Bytes :=
  (s.sessions.find? fun x => x.tenant == tenant && x.id == id).map (·.key)

/-- IV of a sealed item (R137). -/
def sealIv (r : Rec) (dir : Byte) : Bytes := sub r.raw 0x10 6 ++ [dir] ++ zeros 5

/-- Associated data of the sealed body: the header with body_tag zeroed (R137). -/
def sealAad (h : Bytes) : Bytes := sub h 0 0x20 ++ zeros 16 ++ sub h 0x30 16

/-! ## Completion -/

/-- Output data in the pieces that the output buffer or list gives (Table 4-6). -/
def scatter : List (Nat × Nat) → Bytes → List (Nat × Bytes)
  | [], _ => []
  | (a, n) :: l, b => if b.isEmpty then [] else (a, b.take n) :: scatter l (b.drop n)

/-- Header of a native response (Table 5-2). -/
def respHeader (r : Rec) (sealedR rep lone : Bool) (st : Status) (detail bodyLen : Nat) (tick : Tick) : Bytes :=
  let n := 64 + bodyLen
  padTo 2 (sub r.raw 0 2) ++ [1, BitVec.ofNat 8 ((if sealedR then 1 else 0) + (if rep then 2 else 0) + (if lone then 4 else 0))] ++
    natLE 4 (n + 4 * ceilDiv n 64) ++ natLE 4 bodyLen ++ natLE 2 (statusCode st) ++ natLE 2 detail ++
    padTo 6 (sub r.raw 0x10 6) ++ padTo 2 (sub r.raw 0x16 2) ++ natLE 8 tick ++ zeros 32

/-- Response body and output data under the session, where the record is sealed and its session exists (R137). -/
def State.sealOut (s : State) (r : Rec) (rep lone : Bool) (st : Status) (detail : Nat) (body out : Bytes) :
    Bytes × Bytes :=
  match (if r.isSealed then r.key.orElse fun _ => s.sessionKey r.tenant (fld r.raw 0x16 2) else none) with
  | some key =>
    let h := respHeader r true rep lone st detail body.length s.tick
    let (ct, tag) := gcmSeal key (sealIv r 0x02) (sealAad h) body
    let o := if out.isEmpty then [] else
      let (oc, ot) := gcmSeal key (sealIv r 0x04) [] out
      oc ++ ot
    (sub h 0 0x20 ++ tag ++ sub h 0x30 16 ++ ct, o)
  | none => (respHeader r false rep lone st detail body.length s.tick ++ body, out)

/-- KH-1 return code (Table 5-12). -/
def kh1Return (st : Status) : Nat :=
  if st = .ok then 0 else if st = .verifyFailed then 4
  else if statusCode st / 256 ∈ [7, 8, 9] then 0x0C else 0x08

/-- amount_1 of a KH-1 response: that of a balance MAC's record, widened and narrowed again (R384). -/
def kh1Amount (r : Rec) (st : Status) : Bytes :=
  if (r.op = 0x10030 ∨ r.op = 0x10031) ∧ (st = .ok ∨ st = .verifyFailed) then
    ((packedVal (sub r.raw 0x10 8)).map fun v => (narrow v).1).getD (zeros 8)
  else zeros 8

/-- The 256-byte KH-1 response (Table 5-11). -/
def kh1Response (r : Rec) (st : Status) (detail : Nat) (out : Bytes) : Bytes :=
  sub r.raw 0 2 ++ natBE 1 (kh1Return st) ++ natBE 1 (statusCode st % 256) ++ sub r.raw 4 4 ++
    natBE 2 (statusCode st) ++ zeros 2 ++ natBE 2 detail ++ natBE 2 (min 176 out.length) ++ kh1Amount r st ++ zeros 40 ++
    padTo 176 out ++ zeros 16

/-- A native CQ entry (Table 4-7). -/
def cqEntry (p : QPair) (r : Rec) (st : Status) (respLen outLen : Nat) : Bytes :=
  natLE 6 r.seq ++ natLE 2 (statusCode st) ++ natLE 4 r.sq.cookie ++ natLE 2 p.sqHead ++
    natLE 2 (if p.phase then 1 else 0) ++ natLE 4 respLen ++ zeros 4 ++ natLE 8 outLen

/-- A CQ entry is written, the indexes advance and the interrupt is counted (R114 to R116). -/
def State.writeCq (s : State) (fn q : Nat) (bytes : Bytes) (noIrq : Bool) : State :=
  let p := s.qp fn q
  let next := p.cqTail + 1
  let p1 := if next = 2 ^ p.sizeLog2 then { p with cqTail := 0, phase := !p.phase } else { p with cqTail := next }
  let p2 := { p1 with inFlight := p.inFlight - 1 }
  let p3 := if noIrq then p2 else
    { p2 with irqPending := p.irqPending + 1, irqFirst := if p.irqPending = 0 then s.tick else p.irqFirst }
  ((s.setQp fn q p3).emit (.cq fn q p.cqTail bytes)).irqCheck fn q

/-- What a record's completion writes: output data, then the response, then the CQ entry, then the interrupt (R114), or
the result message to the member that forwarded it (R474). -/
def State.deliver (s : State) (r : Rec) (st : Status) (detail : Nat) (body out : Bytes) (rep lone : Bool) : State :=
  match r.ref with
  | .forwarded src txn => s.sendMember src r.tenant false txn true false (.result st detail lone body out)
  | .host fn q _ =>
    match r.form with
    | .kh1 => s.writeCq fn q (kh1Response r st detail out) false
    | .native =>
      let out1 := if st = .ok ∨ st = .dataPoisoned then out else []
      let (resp, o) := s.sealOut r rep lone st detail body out1
      let bytes := resp ++ waybills resp
      let o1 := o.take r.sq.outCap
      let s1 := (scatter (if r.outList.isEmpty then [(r.sq.outAddr, r.sq.outCap)] else r.outList) o1).foldl
        (fun s (a, b) => s.emit (.data fn a b (st == .dataPoisoned))) s
      let fits := decide (bytes.length ≤ r.sq.respCap) && s.ttuOk fn r.sq.respAddr bytes.length true
      let s2 := if fits then s1.emit (.response fn r.sq.respAddr bytes) else s1
      s2.writeCq fn q (cqEntry (s.qp fn q) r st (if fits then bytes.length else 0) o1.length) (r.sq.flags.getLsbD 2)

/-- A record that does not run leaves the queue with a completion. -/
def State.conclude (s : State) (r : Rec) (st : Status) (detail : Nat) (rep lone : Bool) : State :=
  let s1 : State := { s with waiting := s.waiting.filter fun x => x.ref != r.ref }
  s1.deliver r st detail [] [] rep lone

/-- Digest of what a capture compares (Table 18-4, kind 6). -/
def outcomeDigest (st : Status) (detail : Nat) (lone : Bool) (body out : Bytes) : Bytes :=
  sha256 (natLE 2 (statusCode st) ++ natLE 2 detail ++ [if lone then 4 else 0] ++ body ++ out)

/-- A replayed record's outcome is compared with the captured one (R552). A record whose outcome the capture does not hold
is not compared. -/
def State.compareOutcome (s : State) (n : Nat) (d : Bytes) : State :=
  match s.rpl.items.findSome? fun it => match it with
    | .outcome k x => if k = n then some x else none
    | _ => none with
  | some x =>
    if x = d then s
    else { s with rpl := { s.rpl with
      divergences := sat32 s.rpl.divergences, diverge := if s.rpl.diverge = 0xFFFFFFFF then n else s.rpl.diverge } }
  | none => s

/-- The capture records a record's outcome, or REPLAY compares it (R548, R552). -/
def State.captureOutcome (s : State) (st : Status) (detail : Nat) (lone : Bool) (body out : Bytes) (i : Option Nat) :
    State :=
  match i with
  | some n =>
    let d := outcomeDigest st detail lone body out
    if s.rpl.inRecord then s.compareOutcome n d else s.capture (.outcome n d)
  | none => s

/-- The run of a record waits in a stage with its prepared result. -/
def State.park (s : State) (run : Run) (st : Stage) (res : Result) : State :=
  { s with running := s.running.map fun x =>
      if x.record.ref == run.record.ref then { run with stage := st, res } else x }

/-- A started record ends: its outcome becomes final and, unless a reset squashed it, its completion is written
(R114, R124 item 5, R141, R463). The changes have been applied, and the pending marks it made go (R357). -/
def State.endRun (s : State) (run : Run) (res : Result) (lone : Bool) : State :=
  let r := run.record
  let s1 : State := { s with
    running := s.running.filter fun x => x.record.ref != r.ref
    board := { s.board with marks := s.board.marks.filter fun m => m.2 != .command r.ref } }
  let s2 := s1.finalOutcome r.tenant r.seq res.status res.detail lone
  let s3 := if s.twin.st = .paired ∧ ¬ s.keel ∧ ¬ res.changes.any Change.mirrored then
      { s2 with twin := { s2.twin with
        batch := s2.twin.batch ++ [⟨r.tenant, r.seq, res.status, res.detail, lone⟩],
        batchTick := if s2.twin.batch.isEmpty then s2.tick else s2.twin.batchTick } }
    else s2
  let s4 := s3.captureOutcome res.status res.detail lone res.body res.out run.capture
  if run.squash then s4 else s4.deliver r res.status res.detail res.body res.out false lone

/-- Slot and nonce that a LEDGER_CREATE drew, as its forwarded record carries them (Table 15-5). -/
def leadValues (cs : List Change) : Nat × Bytes :=
  (cs.findSome? fun c => match c with
    | .head n v => if v.ledger ≠ 0 then some (n, v.nonce) else none
    | _ => none).getD (0, [])

/-- The record as it is forwarded: header and body in clear, without session and tag. DESIGN CHOICE (entry 20). -/
def forwardRecord (run : Run) : Bytes :=
  let h := run.record.raw
  sub h 0 3 ++ [0] ++ sub h 4 18 ++ zeros 2 ++ sub h 0x18 8 ++ zeros 16 ++ sub h 0x30 16 ++ run.body

/-- COMMAND_FORWARD of a run (Table 15-9). -/
def forwardBody (run : Run) (res : Result) : Payload :=
  .forward run.record.tenant (forwardRecord run) run.input (leadValues res.changes).1 (leadValues res.changes).2

/-- The command goes to member `m`, or to its twin when it is unreachable; none when neither can take it (R473, R474). -/
def State.forward (s : State) (run : Run) (m : Nat) (res : Result) : Option State :=
  match ([m, s.twinMember m].filter (· != 0xFF)).find? s.reachable with
  | none => none
  | some d =>
    let (s1, txn) := s.newTxn
    let s2 := s1.sendMember d run.record.tenant false txn false false (forwardBody run res)
    let f : Forward := { txn, ref := run.record.ref, todo := [d], second := d != m, sent := s.tick }
    let s3 : State := { s2 with car := { s2.car with forwards := sat32 s2.car.forwards, fwd := s2.car.fwd ++ [f] } }
    some (s3.park run (.member txn) res)

/-- The command ends here, or goes on to the next member of those that it visits (Table 15-5). -/
def State.complete (s : State) (run : Run) (res : Result) (lone : Bool) : State :=
  match run.visits with
  | [] => s.endRun run res lone
  | m :: ms =>
    if res.status = .ok then
      match s.forward { run with visits := ms } m { res with lone } with
      | some s1 => s1
      | none => s.endRun run { fail .homeUnreachable with lone } lone
    else s.endRun run res lone

/-- Members other than this device and its twin. -/
def State.others (s : State) : List Nat := (List.range s.man.set.memberCount).filter fun m => !s.here m

/-- The lead sends a cellar change to every other member as a move (R475). -/
def State.sendMove (s : State) (ref : Option RecRef) (cs : List Change) : State :=
  let num := s.car.move + 1
  let live := s.others.filter s.reachable
  let (s0, txn) := s.newTxn
  let s1 := live.foldl (fun s m => s.sendMember m 0 true txn false false (.ladingMove num cs)) s0
  { s1 with car := { s1.car with
      move := num
      moves := ({ num, txn, changes := cs, waiting := live, ref, sent := s.tick } :: s1.car.moves).take 65536 } }

/-- Lanes still hold the material of a slot (R176). -/
def State.latchedBy (s : State) (ref : RecRef) (slots : List Nat) : Bool :=
  s.running.any fun x => x.record.ref != ref && x.latched.any slots.contains

/-- The command completes, or waits until every lane that latched what it felled has zeroed its key register
(R183, R185). -/
def State.settleRun (s : State) (run : Run) (res : Result) (lone : Bool) : State :=
  let felled := res.changes.filterMap fun c => match c with
    | .slot i v => if v.state = .felled then some i else none
    | _ => none
  if s.latchedBy run.record.ref felled then s.park run (.latches felled) { res with lone }
  else s.complete run res lone

/-- The command's changes have committed (with the given lone flag): it completes, or first waits for the members of the
caravan that take a cellar change as a move (R475). -/
def State.committed (s : State) (run : Run) (res : Result) (lone : Bool) : State :=
  let cs := res.changes.filter Change.moves
  if 1 < s.man.set.memberCount ∧ s.lead ∧ cs ≠ [] then
    let s1 := s.sendMove (some run.record.ref) cs
    if (s1.car.moves.headD { num := 0 }).waiting.isEmpty then s1.settleRun run res lone
    else s1.park run (.moves s1.car.move) { res with lone }
  else s.settleRun run res lone

/-- Lanes have zeroed key registers: commands that waited for them complete. -/
def State.unlatch (s : State) : State :=
  s.running.foldl (fun s x => match x.stage with
    | .latches l => if s.latchedBy x.record.ref l then s else s.complete x x.res x.res.lone
    | _ => s) s

/-- Ledger and journal sequence that a mirror message names (Table 15-9). -/
def mirrorKey (cs : List Change) : Nat × Nat :=
  (cs.findSome? fun c => match c with
    | .response r => some (r.ledger, r.seq)
    | .head _ v => some (v.ledger, v.nextSeq - 1)
    | _ => none).getD (0, 0)

/-- The outcome that a mirror message carries: none while the command has members still to visit. -/
def mirrorOutcome (run : Run) (res : Result) : Option OutcomeWire :=
  if run.visits.isEmpty then some ⟨run.record.tenant, run.record.seq, res.status, res.detail, false⟩ else none

/-- The command ends with a result: its changes commit on this device, or on both twins while the pair is PAIRED, or they
wait for the end of a resync's hold (R463, R464, R469). A device that is FENCED or in RESYNC commits nothing. -/
def State.finish (s : State) (run : Run) (res : Result) : State :=
  if ¬ res.changes.any Change.mirrored then (s.applyAll res.changes).complete run res res.lone
  else match s.twin.st with
    | .paired =>
      let (s1, txn) := s.newTxn
      let r := run.record
      let o := mirrorOutcome run res
      let isPost := res.changes.any Change.posting
      let num := s1.twin.syncNum + 1
      let msg : Payload := if isPost then .mirrorPosting (mirrorKey res.changes).1 (mirrorKey res.changes).2 o res.changes
        else .cellarSync num o res.changes
      let f : InFlight := { txn, ref := some r.ref, msg, changes := res.changes, first := s.tick, last := s.tick,
                            posting := isPost }
      let s2 := { s1 with twin := { s1.twin with flight := s1.twin.flight ++ [f],
                                                  syncNum := if isPost then s1.twin.syncNum else num } }
      (s2.sendTwin txn false false msg).park run (.mirror txn) res
    | .fenced | .resync => s.complete run (fail .twinFenced) false
    | _ =>
      match s.twin.resync with
      | some x =>
        if x.hold.isSome then s.park run .twin res
        else
          let s1 := { s with twin := { s.twin with resync := some { x with dirty := x.dirty ++ res.changes } } }
          (s1.applyAll res.changes).committed run res (s.twin.st == .loneKeel)
      | none => (s.applyAll res.changes).committed run res (s.twin.st == .loneKeel)

/-! ## Starting (R113, R120, R144, R145) -/

/-- The drover core that a record can start on: the lowest idle one. DESIGN CHOICE (entry 9). In RECOVERY the recovery
program on W0 runs it. -/
def State.freeCore (s : State) : Option Nat :=
  if s.mode = .recovery then (if s.running.isEmpty then some 16 else none)
  else if s.rpl.halted then none
  else (List.range 16).find? fun d =>
    s.unitOn (4 + d / 8) 0 && s.running.all (fun x => x.core != d) && !s.ports.halted.contains (4 + d)

/-- Both records came from one SQ. -/
def sameQueue (a b : Rec) : Bool :=
  match a.ref, b.ref with
  | .host f q _, .host f' q' _ => f == f' && q == q'
  | _, _ => false

/-- Fences and the order of a KH-1 queue let the record start (R113, R120). -/
def State.orderOk (s : State) (r : Rec) : Bool :=
  let earlier (x : Rec) : Bool := sameQueue x r && decide (x.order < r.order) && (r.fence || x.fence || r.form == .kh1)
  s.waiting.all (fun x => !earlier x) && s.running.all (fun x => !earlier x.record)

/-- Records start now (R44, R87, R520, R547, Table 3-1). -/
def State.opens (s : State) : Bool :=
  s.barrier.isNone && s.barrierQ.isEmpty && !s.tmp.severed && s.mode ∈ [.muster, .service, .replay, .recovery] &&
    s.running.all fun x => x.stage != .base

/-- Body and input data in clear, or the status of Table 5-3 row 6. -/
def State.opened (s : State) (r : Rec) : Except Status (Bytes × Bytes) :=
  if r.form = .kh1 then .ok (r.raw, [])
  else if ¬ r.isSealed then .ok (r.body, r.input)
  else match s.sessionKey r.tenant (fld r.raw 0x16 2) with
    | none => .error .sessionUnknown
    | some key =>
      match gcmOpen key (sealIv r 0x01) (sealAad (sub r.raw 0 64)) r.body (sub r.raw 0x20 16) with
      | none => .error .sessionTag
      | some b =>
        if r.input.isEmpty then .ok (b, [])
        else match gcmOpen key (sealIv r 0x03) [] (r.input.take (r.input.length - 16))
            (r.input.drop (r.input.length - 16)) with
          | none => .error .sessionTag
          | some i => .ok (b, i)

/-- The record is a posting of a ledger that a checkpoint copy holds (R373 step 1). -/
def State.heldByCopy (s : State) (r : Rec) : Bool :=
  decide (0x0702 ≤ r.op) && decide (r.op ≤ 0x0705) && !s.board.copying.isEmpty &&
    match s.opened r with
    | .ok (b, _) => s.board.copying.contains (fld b 0 2)
    | .error _ => false

/-- The record can start now. -/
def State.startable (s : State) (r : Rec) : Bool :=
  s.opens && s.orderOk r && s.freeCore.isSome && !s.heldByCopy r

/-- Another record of the tenant with the same number waits or runs (R144 step 2). -/
def State.inFlightElse (s : State) (r : Rec) : Bool :=
  s.waiting.any (fun x => x.ref != r.ref && x.tenant == r.tenant && x.seq == r.seq) ||
    s.running.any fun x => x.record.ref != r.ref && x.record.tenant == r.tenant && x.record.seq == r.seq

/-- The record's deadline window has closed at the present tick (R145). -/
def State.pastDeadline (s : State) (r : Rec) : Bool := r.deadline != 0 && decide (r.arrival + r.deadline ≤ s.tick)

/-- R144, steps 1 to 5. -/
def State.preStart (s : State) (r : Rec) : PreStart :=
  match s.outcome r.tenant r.seq with
  | some o =>
    if ¬ o.notRun ∧ ¬ o.running then .again o
    else if s.inFlightElse r then .stop .sequenceInFlight false
    else if s.pastDeadline r then .stop .deadlineMissed true
    else .go
  | none =>
    if s.inFlightElse r then .stop .sequenceInFlight false
    else if r.seq < 2 ^ 47 ∧ r.seq ≤ s.floor r.tenant then .stop .sequenceStale false
    else if s.pastDeadline r then .stop .deadlineMissed true
    else .go

/-- A record that R144 keeps from starting completes. -/
def State.endPreStart (s : State) (r : Rec) (st : Status) (recorded : Bool) : State :=
  (if recorded then s.notRun r.tenant r.seq st else s).conclude r st 0xFFFF false false

/-- The record starts: its running entry replaces any not-run entry, and it takes a core (R144 step 5). -/
def State.start (s : State) (r : Rec) : State × Run :=
  let cap := if s.rpl.capturing then some s.rpl.records else none
  let rk := if r.isSealed then s.sessionKey r.tenant (fld r.raw 0x16 2) else none
  let run : Run := { record := { r with key := rk }, op := r.op, start := s.tick, core := s.freeCore.getD 0, stage := .twin, capture := cap }
  let s1 := { s with waiting := s.waiting.filter (fun x => x.ref != r.ref), running := s.running ++ [run] }
  let s2 := s1.addOutcome { tenant := r.tenant, seq := r.seq, running := true }
  let s3 := match cap with
    | some n => ({ s2 with rpl := { s2.rpl with records := n + 1, index := some n } } : State).capture (.command n r s.tick)
    | none => s2
  (s3, run)

/-- Table 5-3 row 1. SESSION_OPEN is never sealed (R135). -/
def headerOk (r : Rec) : Bool :=
  r.form == .kh1 ||
    (!(r.op == 0x0101 && r.isSealed) && r.raw.getD 2 0 == 1 && (r.raw.getD 3 0).toNat ≤ 1 && zeroAt r.raw 0x18 8 && zeroAt r.raw 0x30 16 &&
      ((fld r.raw 0x16 2 == 0) == !r.isSealed) && (r.isSealed || zeroAt r.raw 0x20 16) &&
      decide (0 < r.seq) && decide (r.seq < 2 ^ 47))

/-- The catalogued opcode that a record's opcode or function runs as. -/
def nativeOp (op : Nat) : Option Nat := if 0x10000 ≤ op then kh1Native (op - 0x10000) else some op

/-- Opcodes that a device in FENCED, PAIRING or RESYNC accepts outside MUSTER (R465). -/
def fencedOps : List Nat :=
  [0x0103, 0x0104, 0x0105, 0x0207, 0x0706, 0x0901, 0x0903, 0x0904, 0x0A01, 0x0A02, 0x0A03]

/-- R461 and R465: the twin state refuses the opcode. JOURNAL_BLOCK passes for action 0. -/
def State.twinGate (s : State) (op : Nat) (b : Bytes) : Option Status :=
  match s.twin.st with
  | .none | .loneKeel => none
  | .paired => if s.keel then some .twinFenced else none
  | st =>
    if s.mode = .muster ∨ op ∈ fencedOps ∨ (op = 0x0707 ∧ fld b 2 1 = 0) then none
    else some (if st = .pairing then .twinLone else .twinFenced)

/-- Table 5-3 rows 2 to 5. -/
def State.rowsFail (s : State) (op tenant : Nat) : Option Status :=
  match (nativeOp op).bind opRow with
  | none => some .opcodeUnknown
  | some row => firstFail [
      (!row.admin || tenant == 0, .issuerDenied),
      (row.states.contains s.life, .lifecycleLocked),
      (row.modes.contains s.mode, .modeForbidden)]

/-- Table 5-3 rows 1 to 6 and R465, in order. -/
def State.postStart (s : State) (r : Rec) : Except Status (Bytes × Bytes) :=
  if ¬ headerOk r then .error .headerInvalid
  else match s.rowsFail r.op r.tenant with
    | some st => .error st
    | none =>
      match s.opened r with
      | .error st => .error st
      | .ok (b, i) =>
        match s.twinGate ((nativeOp r.op).getD 0) b with
        | some st => .error st
        | none => .ok (b, i)

/-- A job starts on a lane. A cipher job first reseeds the lane's mask expander, and a private big-number job draws for its
blinding; where the entropy unit cannot supply that, it ends with ENTROPY_FAILED (R268, R269, R298, R330). -/
def State.laneStart (s : State) (run : Run) (k : LaneKind) (l : Nat) (res : Result) : State :=
  if k = .digest ∨ k = .decimal ∨ (k = .bigNumber ∧ run.latched = []) then s.park run (.lane k (some l)) res
  else match s.laneDraw k l with
    | some s1 => (if k = .cipher then s1.laneCount .cipher 0x008 else s1).park run (.lane k (some l)) res
    | none => (if k = .cipher then s.laneCount .cipher 0x00C else s).finish run (fail .entropyFailed)

/-- A lane job goes to an idle powered lane, waits for one, or ends when its kind has none (R253). -/
def State.admitJob (s : State) (run : Run) (k : LaneKind) (cycles : Nat) (latched : List Nat) (res : Result) : State :=
  if s.laneAny k then
    let run1 := { run with cycles, latched }
    match s.laneFree k with
    | some l => s.laneStart run1 k l res
    | none => s.park run1 (.lane k none) res
  else s.finish run (fail .laneUnavailable)

/-- What an opcode's meaning answered takes effect. -/
def State.did (s : State) (run : Run) : Did → State
  | .done res => s.finish run res
  | .job k cycles latched res => s.admitJob run k cycles latched res
  | .wait st res => s.park run st res
  | .reset res => if s.rpl.inRecord then s.finish run res else (s.finish run res).internalReset

/-- Status with which a command ends that needs a domain that cannot serve it (R401, R558, R562). -/
def State.needsFail (s : State) : List Nat → Option Status
  | [] => none
  | d :: l => match s.domainFail d with
    | some st => some st
    | none => if d = 16 ∧ s.smc.trained ∧ ¬ s.smc.up0 then some .laneUnavailable else s.needsFail l

/-- The opcode's own meaning runs, once the domains that it needs serve it; a command that needs sealed memory waits for the
end of training (R401). -/
def State.runBody (s : State) (run : Run) (body : Cmd → State → State × Did) : State :=
  let ds := needs ((nativeOp run.op).getD 0) run.body
  match s.needsFail ds with
  | some st => s.finish run (fail st)
  | none =>
    if ds.contains 16 ∧ ¬ s.smc.trained then s.park run .sdram {}
    else
      let r := run.record
      let (s1, d) := body { record := r, tenant := r.tenant, op := run.op, body := run.body, input := run.input
                            tick := s.tick } s
      s1.did run d

/-- A record that has passed the checks of Table 5-3 runs here or at the member that Table 15-5 gives. -/
def State.launch (s : State) (run : Run) (body : Cmd → State → State × Did) : State :=
  let op := (nativeOp run.op).getD 0
  match s.place run.record op run.body run.input with
  | some m => (s.forward run m {}).getD (s.finish run (fail .homeUnreachable))
  | none => s.runBody { run with visits := s.visitList run.record op } body

/-- The shared meaning of every command row: the record named starts when it is waiting, names this opcode and can start;
it then passes the checks of R144 and Table 5-3, and the opcode's own meaning runs (R112 check 5, R140). Otherwise the
record keeps waiting. A record whose opcode is not catalogued has no row: any command row may name it, and it ends with
OPCODE_UNKNOWN. -/
def State.runCommand (s : State) (op : Nat) (body : Cmd → State → State × Did) (ref : RecRef) : State :=
  match s.waiting.find? fun r => r.ref == ref with
  | none => s
  | some r =>
    if (r.op ≠ op ∧ ((nativeOp r.op).bind opRow).isSome) ∨ ¬ s.startable r then s
    else match s.preStart r with
      | .again o => s.conclude r o.status o.detail true o.lone
      | .stop st recorded => s.endPreStart r st recorded
      | .go =>
        let (s1, run) := s.start r
        let s2 := match s1.postStart r with
          | .error st => s1.finish run (fail st)
          | .ok (b, i) => s1.launch { run with body := b, input := i } body
        { s2 with rpl := { s2.rpl with index := none } }

end Sys2Proof.Machine
end

