-- ==== Sys2Proof/Machine/Barrier.lean ====
section
/-! DEFINITION. The start of island commit barriers (R87). -/

namespace Sys2Proof.Machine

/-- Barriers that Table 3-2 gives from a mode. -/
def barrierLegal (life : Life) (old new : Mode) : Bool :=
  match old, new with
  | .muster, .service => life == .owned
  | .service, .drowse => true
  | .drowse, .service => true
  | .service, .replay => true
  | _, _ => false

/-- Domains of an island (Table 1-1). -/
def islandDomains : Nat → List Nat
  | 0 => [2] | 1 => [4, 5, 8, 9] | 2 => [3] | 3 => [6] | 4 => [10, 19] | 5 => [12] | 6 => [13, 14] | 7 => [7, 15]
  | 8 => [16] | 9 => [17, 18] | 10 => [11] | 11 => [1] | 12 => [0] | _ => []

/-- Units of a domain (Table 19-1). -/
def domainUnits : Nat → Nat
  | 8 | 9 => 4 | 10 => 16 | 12 => 8 | 13 | 14 => 16 | 15 => 4 | 17 | 18 => 2 | _ => 1

/-- Some unit of an island's domains is ON. -/
def State.islandOn (s : State) (i : Nat) : Bool :=
  (islandDomains i).any fun d => (List.range (domainUnits d)).any (s.unitOn d)

/-- A barrier starts; an island with no unit ON acknowledges at once (R87 steps 1 and 2). -/
def State.startBarrier (s : State) (b : Barrier) : State :=
  { s with barrier := some { b with request := s.tick, acks := (List.range 13).filter fun i => !s.islandOn i } }

/-- A barrier is asked for: it starts, or waits for the pending one to end (R87). -/
def State.askBarrier (s : State) (target : Mode) (cause : BarrierCause) : State :=
  let b : Barrier := { target, cause }
  if s.barrier.isSome then { s with barrierQ := s.barrierQ ++ [b] } else s.startBarrier b

end Sys2Proof.Machine
end

