-- ==== Sys2Proof/Machine/Epoch.lean ====
section
/-! DEFINITION. The caravan epoch protocol: the lead's change of mode and what a member does with it (R476 to R479,
Table 15-6). -/

namespace Sys2Proof.Machine

/-! ## Messages of the protocol -/

/-- A delivered message of the caravan group is for this device, and a request or a reply as asked (R445, R447). -/
def State.mine (s : State) (m : Msg) (reply : Bool) : Bool :=
  m.reply == reply && m.dest == s.man.set.self && decide (1 ≤ m.port) && decide (m.port ≤ 3)

/-- An answer to a message, along this device's own route to its source (R449). -/
def State.answer (s : State) (m : Msg) (b : Payload) : State := s.sendMember m.src m.tenant m.world m.txn true false b

/-- A caravan request runs at its own epoch; another epoch is refused (Table 15-6). -/
def State.epochGate (s : State) (m : Msg) (k : State → State) : State :=
  if m.epoch = s.car.epoch then k s
  else s.answer m (.epochRefuse (if m.epoch < s.car.epoch then .epochAhead else .epochBehind) s.car.epoch)

/-- EPOCH_PREPARE, EPOCH_COMMIT and EPOCH_ROLLBACK carry the epoch that they are about in the header's epoch field: their
bodies have no other place for it. DEDUCED (entry 21). -/
def State.sendEpoch (s : State) (m txn : Nat) (resend : Bool) (epoch : Nat) (b : Payload) : State :=
  let own := s.car.epoch
  let s1 := ({ s with car := { s.car with epoch } } : State).sendMember m 0 true txn false resend b
  { s1 with car := { s1.car with epoch := own } }

/-! ## Conditions of a mode change -/

/-- Rows 2 to 4 of R90. -/
def State.musterRows (s : State) : Option Status :=
  firstFail [
    (s.vault.keys.all (fun p => !(p.2.present && p.2.imageGen != 0) || s.cel.restored.contains p.1), .musterIncomplete),
    (s.vault.epochs.all (fun p => p.2.ledger == 0 || p.2.epoch == 0 || s.board.restored.contains p.2.ledger), .musterIncomplete),
    (s.twin.st == .none || s.twin.st == .paired || s.twin.st == .loneKeel || s.twin.st == .fenced, .twinLone)]

/-- The conditions of a change to a target mode hold, or the failing status (Table 15-6). A device that holds the mode
already needs no change. -/
def State.modeCondition (s : State) (target : Mode) : Option Status :=
  if s.mode = target then none
  else if ¬ barrierLegal s.life s.mode target then some .modeForbidden
  else if s.mode = .muster then s.musterRows
  else none

/-- A cause of the caravan is set (Table 15-13). -/
def State.carCause (s : State) (b : Nat) : State := s.raise .car b

/-- The device takes an epoch. -/
def State.takeEpoch (s : State) (e : Nat) : State :=
  ({ s with car := { s.car with epoch := e, prepared := none } } : State).carCause 0

/-- A member is marked behind. -/
def State.markBehind (s : State) (m : Nat) : State :=
  if s.car.behind.contains m then s
  else ({ s with car := { s.car with behind := s.car.behind ++ [m] } } : State).carCause 3

/-! ## At the lead (R478) -/

/-- The change's command completes, and the change is over. -/
def State.endChange (s : State) (x : EpochChange) (res : Result) : State :=
  let s1 : State := { s with car := { s.car with change := none } }
  match x.ref.bind fun r => s1.running.find? fun y => y.record.ref == r with
  | some run => s1.finish run res
  | none => s1

/-- EPOCH_ROLLBACK goes to every participant, and the command completes with the status. -/
def State.rollBack (s : State) (x : EpochChange) (st : Status) : State :=
  let live := x.participants.filter s.reachable
  let (s0, txn) := s.newTxn
  let s1 := live.foldl (fun s m => s.sendEpoch m txn false x.epoch .epochRollback) s0
  let s2 : State := { s1 with car := { s1.car with
    rollbacks := sat32 s1.car.rollbacks
    undo := if live.isEmpty then none else some { x with txn, participants := live, done := [], sent := s.tick, phase := 4 } } }
  (s2.carCause 1).endChange x (fail st)

/-- Step 5: the change ends when every participant is done or behind. -/
def State.changeCheck (s : State) : State :=
  match s.car.change with
  | none => s
  | some x =>
    if x.phase = 3 ∧ x.participants.all (fun m => x.done.contains m || s.car.behind.contains m) then
      ({ s with car := { s.car with decision := none } } : State).endChange x {}
    else s

/-- Step 4: EPOCH_COMMIT goes to the participants that have not answered; an unreachable one is behind. -/
def State.sendCommits (s : State) (x : EpochChange) (resend : Bool) : State :=
  let y := { x with phase := 3, sent := s.tick }
  let s1 : State := { s with car := { s.car with change := some y } }
  let s2 := (x.participants.filter fun m => !x.done.contains m && !s.car.behind.contains m).foldl (fun s m =>
    if s.reachable m then s.sendEpoch m x.txn resend x.epoch (.epochCommit x.target) else s.markBehind m) s1
  s2.changeCheck

/-- Step 3: the lead's own barrier has succeeded: it takes the epoch, and commits the decision record on its twin. -/
def State.decideEpoch (s : State) : State :=
  match s.car.change with
  | none => s
  | some x =>
    let e := x.epoch
    let s1 := s.takeEpoch e
    let s2 : State := { s1 with car := { s1.car with decision := some (e, x.target), change := some { x with phase := 2 } } }
    if s2.twin.st = .paired then
      let (s3, txn) := s2.newTxn
      let f : InFlight := { txn, ref := none, msg := .epochDecision e x.target, first := s.tick, last := s.tick
                            posting := true }
      ({ s3 with twin := { s3.twin with flight := s3.twin.flight ++ [f] } } : State).sendTwin txn false false
        (.epochDecision e x.target)
    else s2.sendCommits { x with phase := 2 } false

/-- Step 2: every participant is ready: the lead runs its own barrier. -/
def State.readyCheck (s : State) : State :=
  match s.car.change with
  | none => s
  | some x =>
    if x.phase = 0 ∧ x.participants.all x.ready.contains then
      ({ s with car := { s.car with change := some { x with phase := 1 } } } : State).askBarrier x.target .epoch
    else s

/-- Step 1: EPOCH_PREPARE goes to every member reachable at that moment. -/
def State.epochStart (s : State) (target : Mode) (ref : Option RecRef) : State :=
  let ps := (List.range s.man.set.memberCount).filter fun m => m != s.man.set.self && s.reachable m
  let (s0, txn) := s.newTxn
  let x : EpochChange := { target, epoch := s.car.epoch + 1, ref, txn, start := s.tick, sent := s.tick, participants := ps }
  let s1 := ps.foldl (fun s m => s.sendEpoch m txn false x.epoch (.epochPrepare target)) s0
  ({ s1 with car := { s1.car with change := some x } } : State).readyCheck

/-- The lead's barrier was abandoned. A return from DROWSE has no command to complete and starts again at once (R88). -/
def State.epochAbandoned (s : State) : State :=
  match s.car.change with
  | none => s
  | some x =>
    let s1 := s.rollBack x .busy
    if x.ref.isNone then s1.epochStart x.target none else s1

/-- EPOCH_READY (R478). -/
def State.epochReady (s : State) (m : Msg) : State :=
  match m.body, s.car.change with
  | .epochReady st _, some x =>
    if ¬ s.mine m true then s
    else if m.txn ≠ x.txn ∨ x.phase ≠ 0 ∨ ¬ governs m.stamp s.tick (x.start + 50000) then s.lateDiscard islWarden
    else if st ≠ .ok then s.rollBack x st
    else if ¬ x.participants.contains m.src then s
    else ({ s with car := { s.car with
      change := some { x with ready := m.src :: x.ready.filter (· != m.src) } } } : State).readyCheck
  | .epochReady .., none => if s.mine m true then s.lateDiscard islWarden else s
  | _, _ => s

/-- EPOCH_PREPARE_WINDOW_EXPIRY (R478, R148). -/
def State.prepareWindowEnd (s : State) : State :=
  match s.car.change with
  | some x => if x.phase = 0 ∧ x.start + 50000 + 2 ≤ s.tick then s.rollBack x .busy else s
  | none => s

/-- The lead's EPOCH_COMMIT of its own epoch to a member that is behind (R478, R480). While the decision of the change under
way is not on its twin, the lead waits with it. -/
def State.catchUpMember (s : State) (m : Nat) : State :=
  if s.lead ∧ (s.car.change.map (·.phase)) ≠ some 2 then
    let (s1, txn) := s.newTxn
    s1.sendEpoch m txn false s.car.epoch (.epochCommit s.mode)
  else s

/-! ## At a member (Table 15-6) -/

/-- EPOCH_PREPARE. -/
def State.epochPrepare (s : State) (m : Msg) : State :=
  match m.body with
  | .epochPrepare target =>
    let e := s.car.epoch
    if ¬ s.mine m false then s
    else if m.epoch ≤ e then s.answer m (.epochRefuse .epochAhead e)
    else if e + 2 ≤ m.epoch then s.answer m (.epochRefuse .epochBehind e)
    else match s.car.prepared with
      | some (_, txn) => s.answer m (if txn = m.txn then .epochReady .ok e else .epochRefuse .epochBehind e)
      | none =>
        match s.modeCondition target with
        | some st => s.answer m (.epochReady st e)
        | none => ({ s with car := { s.car with prepared := some (target, m.txn) } } : State).answer m (.epochReady .ok e)
  | _ => s

/-- A member's EPOCH_DONE to the source of a COMMIT. -/
def State.sendDone (s : State) (src txn : Nat) (st : Status) : State :=
  s.sendMember src 0 true txn true false (.epochDone st s.car.epoch)

/-- EPOCH_COMMIT. -/
def State.epochCommit (s : State) (m : Msg) : State :=
  match m.body with
  | .epochCommit target =>
    if ¬ s.mine m false then s
    else if m.epoch ≤ s.car.epoch then s.sendDone m.src m.txn .ok
    else if s.car.committing.isSome then
      { s with car := { s.car with committing := some (m.epoch, m.src, m.txn) } }
    else match s.modeCondition target with
      | some st => s.sendDone m.src m.txn st
      | none =>
        if s.mode = target then (s.takeEpoch m.epoch).sendDone m.src m.txn .ok
        else ({ s with car := { s.car with committing := some (m.epoch, m.src, m.txn) } } : State).askBarrier target .commit
  | _ => s

/-- The barrier of a COMMIT succeeded. -/
def State.commitDone (s : State) : State :=
  match s.car.committing with
  | some (e, src, txn) =>
    ((({ s with car := { s.car with committing := none } } : State).takeEpoch e).sendDone src txn .ok)
  | none => s

/-- The barrier of a COMMIT cannot start: Table 3-2 does not give its transition any more. -/
def State.commitFailed (s : State) : State :=
  match s.car.committing with
  | some (_, src, txn) => ({ s with car := { s.car with committing := none } } : State).sendDone src txn .modeForbidden
  | none => s

/-- EPOCH_ROLLBACK. -/
def State.epochRollback (s : State) (m : Msg) : State :=
  if ¬ s.mine m false then s
  else match s.car.prepared with
    | none => s.sendDone m.src m.txn .ok
    | some _ =>
      if m.epoch = s.car.epoch + 1 then
        (({ s with car := { s.car with prepared := none, rollbacks := sat32 s.car.rollbacks } } : State).carCause 1).sendDone m.src
          m.txn .ok
      else s.epochGate m fun s => s.sendDone m.src m.txn .ok

/-! ## Barriers asked for -/

/-- Barriers asked for start in turn, where Table 3-2 gives them from the mode in force; a command whose barrier it does
not give completes with MODE_FORBIDDEN (R87). -/
def State.nextBarrier : List Barrier → State → State
  | [], s => { s with barrierQ := [] }
  | b :: bs, s =>
    if barrierLegal s.life s.mode b.target then { s with barrierQ := bs }.startBarrier b
    else match b.cause with
      | .command r =>
        match s.running.find? fun x => x.record.ref == r with
        | some run => State.nextBarrier bs (s.finish run (fail .modeForbidden))
        | none => State.nextBarrier bs s
      | .epoch =>
        match s.car.change with
        | some x => State.nextBarrier bs (s.rollBack x .modeForbidden)
        | none => State.nextBarrier bs s
      | .commit => State.nextBarrier bs s.commitFailed
      | _ => State.nextBarrier bs s

end Sys2Proof.Machine
end

