-- ==== Sys2Proof/Machine/Host.lean ====
section
/-! DEFINITION. The host attachment: doorbells, fetching, queue pairs, the TTU, resets of functions and of the interface, and
transfer errors (R93 to R130). -/

namespace Sys2Proof.Machine

/-- Modes in which BAR0 decodes the queue and window registers (R72, R522, R574). -/
def State.queDecoded (s : State) : Bool := s.mode ∈ [.muster, .service, .drowse, .replay, .recovery]

/-- TotalVFs (R45, R96, R608): the VFs are reached in OWNED alone. -/
def State.totalVfs (s : State) : Nat :=
  if s.mode = .recovery ∨ s.bootStage = 15 ∨ s.life ≠ .owned then 0 else s.man.set.tenantCount

/-- A function can be reached: PF0, or an enabled VF that no reset holds (R97, R124 item 1). -/
def State.fnOpen (s : State) (fn : Nat) : Bool :=
  fn == 0 || (s.host.vfEnable && decide (fn ≤ s.host.numVfs) && decide (fn ≤ s.totalVfs) &&
    (mapFind s.host.flr fn).isNone)

/-- A queue pair stops with an error (R108, Table 4-10). -/
def State.stopQueue (s : State) (fn q code : Nat) : State :=
  (s.setQp fn q { s.qp fn q with error := code }).raise .queue (if fn = 0 then 0 else 1)

/-- A doorbell value out of range stops the queue pair, is logged and signals its vector (R108). -/
def State.doorbellRange (s : State) (fn q v : Nat) : State :=
  let p := s.qp fn q
  let s1 := (s.stopQueue fn q 1).logEvent 0x0105 .warn islHost fn .ok [fn, q, v]
  if p.irqEnable then s1.msix fn p.vector else s1

/-- What becomes of a doorbell write before its value is looked at (R72, R99, R108, R520, R564): none where it goes on. -/
def State.doorbellDrop (s : State) (fn q : Nat) : Option State :=
  if ¬ s.queDecoded ∨ ¬ s.fnOpen fn ∨ s.qpCount fn ≤ q then some s
  else if s.tmp.severed then some { s with tmp := { s.tmp with discards := sat32 s.tmp.discards } }
  else if s.mode = .drowse ∧ ¬ s.unitOn 4 0 ∧ ¬ s.unitOn 5 0 then
    some ({ s with pwr := { s.pwr with doorbells := sat32 s.pwr.doorbells } }.raise .pwr 3)
  else if ¬ (s.qp fn q).enabled then
    some { s with host := { s.host with discards := mapInc s.host.discards fn 0xFFFFFFFF } }
  else none

/-- A doorbell write in DROWSE starts the return to SERVICE, in a caravan as an epoch change (R564, Table 3-2,
Table 15-5). -/
def State.wake (s : State) : State :=
  if s.mode ≠ .drowse ∨ s.barrier.isSome ∨ s.car.change.isSome then s
  else if 1 < s.man.set.memberCount ∧ s.lead then s.epochStart .service none
  else s.askBarrier .service .doorbell

/-- SQ_TAIL_DOORBELL (R107 to R109). -/
def State.sqTail (s : State) (fn q v : Nat) : State :=
  match s.doorbellDrop fn q with
  | some s' => s'
  | none =>
    let p := s.qp fn q
    let n := 2 ^ p.sizeLog2
    if n ≤ v then s.doorbellRange fn q v
    else
      let k := (v + n - p.sqTail) % n
      let p1 := { p with sqTail := v, ready := if k = 0 then p.ready else p.ready ++ [(k, s.tick)],
                         readAt := if p.ready.isEmpty then s.tick else p.readAt }
      (s.setQp fn q p1).wake

/-- CQ_HEAD_DOORBELL (R107, R110). -/
def State.cqHead (s : State) (fn q v : Nat) : State :=
  match s.doorbellDrop fn q with
  | some s' => s'
  | none =>
    let p := s.qp fn q
    let n := 2 ^ p.sizeLog2
    if n ≤ v then s.doorbellRange fn q v
    else
      (s.setQp fn q { p with cqHead := v, cqUsed := p.cqUsed - (v + n - p.cqHead) % n }).wake

/-- The queue engine may fetch from the queue pair: entries are ready and a CQ entry is free (R108, R110, R118, R520). -/
def State.fetchable (s : State) (fn q : Nat) : Bool :=
  let p := s.qp fn q
  p.enabled && !p.draining && p.error == 0 && !p.ready.isEmpty && decide (p.cqUsed < 2 ^ p.sizeLog2) && s.queDecoded &&
    s.fnOpen fn && !s.tmp.severed

/-- One announced entry taken from a queue pair: its arrival tick and the pair after it. -/
def takeReady (p : QPair) (now : Tick) : Tick × QPair :=
  let (a, rest) := match p.ready with
    | [] => (now, [])
    | (k, a) :: l => (a, if k ≤ 1 then l else (k - 1, a) :: l)
  (a, { p with ready := rest, sqHead := (p.sqHead + 1) % 2 ^ p.sizeLog2, cqUsed := p.cqUsed + 1,
               inFlight := p.inFlight + 1, readAt := now })

/-- A native SQ entry from its 64 bytes (Table 4-6). -/
def parseSq (b : Bytes) : SqEntry :=
  { recordAddr := fld b 0 8, respAddr := fld b 8 8, inAddr := fld b 0x10 8, outAddr := fld b 0x18 8,
    inLen := fld b 0x20 8, outCap := fld b 0x28 8, recordLen := fld b 0x30 4, respCap := fld b 0x34 4,
    cookie := fld b 0x38 4, flags := BitVec.ofNat 16 (fld b 0x3C 2) }

/-- Addresses and lengths that check 3 of R112 judges: address, length, direction. -/
def checkedRanges (e : SqEntry) (f : Fetched) : List (Nat × Nat × Bool) :=
  let lst (l : List (Nat × Nat)) (w : Bool) := (l.filter fun x => x.2 != 0).map fun x => (x.1, x.2, w)
  [(e.recordAddr, e.recordLen, false), (e.respAddr, e.respCap, true)] ++
    (if e.inLen = 0 then [] else if e.flags.getLsbD 0 then (e.inAddr, 16 * (f.inList.length + 1), false) :: lst f.inList false
      else [(e.inAddr, e.inLen, false)]) ++
    (if e.outCap = 0 then [] else if e.flags.getLsbD 1 then (e.outAddr, 16 * (f.outList.length + 1), false) :: lst f.outList true
      else [(e.outAddr, e.outCap, true)])

/-- The first granule whose waybill differs (R25, R131). -/
def badGranule (data list : Bytes) : Option Nat :=
  ((chunks 64 data).zipIdx.find? fun (g, i) => fld list (4 * i) 4 != (crc32c g).toNat).map (·.2)

/-- Body bytes from which check 4 of R112 reads its sizes: in clear where a session opens them. -/
def State.sizeBody (s : State) (r : Rec) : Bytes :=
  match (if r.isSealed then s.sessionKey r.tenant (fld r.raw 0x16 2) else none) with
  | some key => gcmCtr key (sealIv r 0x01) r.body
  | none => r.body

/-- Response bytes for a body of `n` bytes (R133). -/
def respBytes (n : Nat) : Nat := 64 + n + 4 * ceilDiv (64 + n) 64

/-- Check 4 of R112 (R153). -/
def State.spaceOk (s : State) (r : Rec) : Bool :=
  let b := s.sizeBody r
  let t := if r.isSealed then 16 else 0
  decide (max 128 (respBytes (respMax r.op b)) ≤ r.sq.respCap) &&
    match outNeed r.op b (r.sq.inLen - t) with
    | some 0 => true
    | some n => decide (n + t ≤ r.sq.outCap)
    | none => true

/-- Records that can start and name no catalogued opcode have no row of their own: they complete when they can start
(Table 5-3 row 2). The number bounds the records judged. -/
def State.settle : Nat → State → State
  | 0, s => s
  | n + 1, s =>
    match s.waiting.find? fun r => s.startable r && ((nativeOp r.op).bind opRow).isNone with
    | some r => State.settle n (s.runCommand r.op (fun _ s => (s, .done (fail .opcodeUnknown))) r.ref)
    | none => s

/-- A native record after its SQ entry and record are read: checks 1 to 4 of R112. -/
def State.admitNative (s : State) (r : Rec) (e : SqEntry) (f : Fetched) : State :=
  let early (s : State) (st : Status) := s.deliver { r with raw := [], seq := 0 } st 0xFFFF [] [] false false
  let stop (s : State) (st : Status) := (s.notRun r.tenant r.seq st).deliver r st 0xFFFF [] [] false false
  if e.recordLen < 64 ∨ 65536 < e.recordLen then early s .recordLength
  else if ¬ s.ttuOk r.fn e.recordAddr e.recordLen false then
    early (s.ttuRefuse r.fn e.recordAddr e.recordLen false) .ownerMismatch
  else
    let n := 64 + fld f.record 8 4
    if fld f.record 4 4 ≠ e.recordLen ∨ n + 4 * ceilDiv n 64 ≠ e.recordLen ∨ f.record.length ≠ e.recordLen then
      s.deliver r .recordLength 0xFFFF [] [] false false
    else match badGranule (f.record.take n) (f.record.drop n) with
      | some g =>
        stop ((s.raise .integrity 0).logEvent 0x0202 .alarm islHost r.tenant .waybillMismatch [0, g]) .waybillMismatch
      | none =>
        match (checkedRanges e f).find? fun x => !s.ttuOk r.fn x.1 x.2.1 x.2.2 with
        | some x => stop (s.ttuRefuse r.fn x.1 x.2.1 x.2.2) .ownerMismatch
        | none =>
          if ¬ s.spaceOk r then stop s .responseSpace
          else { s with waiting := s.waiting ++ [r] }

/-- SQ_ENTRY_FETCHED: one entry is taken from the queue pair and its record passes or fails the pre-start checks
(R110 to R112, R119, R121, R131). -/
def State.fetch (s : State) (fn q : Nat) (f : Fetched) : State :=
  if ¬ s.fetchable fn q then s
  else
    let p := s.qp fn q
    let slot := p.sqHead
    let (arrival, p1) := takeReady p s.tick
    let order := s.host.order
    let base : State := { s with host := { s.host with order := order + 1 } }
    let s2 :=
      if p.kh1 then
        let seq := 2 ^ 47 + q * 2 ^ 43 + p.seqCount
        let s1 := base.setQp fn q { p1 with seqCount := p.seqCount + 1 }
        let r : Rec := { ref := .host fn q slot, form := .kh1, order, tenant := fn, fn, q, raw := padTo 256 f.entry, seq,
                         arrival, fetched := s.tick }
        if beNat (sub r.raw 2 2) ≠ 0x0100 then s1.deliver r .recordLength 0xFFFF [] [] false false
        else { s1 with waiting := s1.waiting ++ [r] }
      else
        let e := parseSq f.entry
        let n := 64 + fld f.record 8 4
        let r : Rec := { ref := .host fn q slot, order, tenant := fn, fn, q, sq := e, outList := if e.flags.getLsbD 1
                           then f.outList else [], raw := f.record.take n, input := f.input,
                         seq := fld f.record 0x10 6, arrival, fetched := s.tick }
        (base.setQp fn q p1).admitNative r e f
    s2.settle s2.waiting.length

/-- Fields of a QUE_CTRL write that are open while the queue pair runs (Table 4-4, R106). -/
def ctrlOpen (p : QPair) (v : Word32) : QPair :=
  { p with irqEnable := v.getLsbD 12, aggCount := (v.toNat / 2 ^ 16) % 256, aggTime := v.toNat / 2 ^ 24 }

/-- Fields of a QUE_CTRL write (Table 4-4). -/
def ctrlAll (p : QPair) (v : Word32) : QPair :=
  { ctrlOpen p v with kh1 := v.getLsbD 1, sizeLog2 := (v.toNat / 4) % 16, vector := (v.toNat / 64) % 64 }

/-- The function's vector numbers that a queue pair may take (Table 4-4, R117). -/
def vectorOk (fn v : Nat) : Bool := if fn = 0 then decide (1 ≤ v) && decide (v ≤ 63) else decide (v ≤ 3)

/-- The queue pair's registers can be written. -/
def State.qpOpen (s : State) (fn q : Nat) : Bool := s.queDecoded && s.fnOpen fn && decide (q < s.qpCount fn)

/-- A write of QUE_CTRL with enable = 1 (R106, R122). -/
def State.enableQueue (s : State) (fn q : Nat) (v : Word32) : State :=
  if ¬ s.qpOpen fn q then s
  else
    let p := s.qp fn q
    if p.enabled ∨ p.draining then s.setQp fn q (ctrlOpen p v)
    else
      let p1 := ctrlAll p v
      let n := 2 ^ p1.sizeLog2
      let err :=
        if p1.sizeLog2 = 0 ∨ 12 < p1.sizeLog2 then 4
        else if ¬ vectorOk fn p1.vector then 5
        else if ¬ (s.ttuOk fn p1.sqBase (n * if p1.kh1 then 256 else 64) false ∧
                   s.ttuOk fn p1.cqBase (n * if p1.kh1 then 256 else 32) true) then 3
        else 0
      if err ≠ 0 then s.setQp fn q { p1 with error := err }
      else s.setQp fn q { p1 with enabled := true, error := 0, sqHead := 0, sqTail := 0, cqTail := 0, cqHead := 0,
                                  phase := true, cqUsed := 0, ready := [], keyIndex := fn }

/-- Every unstarted record of a queue pair completes with ABORTED (R118). -/
def State.abortWaiting (s : State) (keep : Rec → Bool) : State :=
  (s.waiting.filter fun r => !keep r).foldl (fun s r => (s.notRun r.tenant r.seq .aborted).conclude r .aborted 0xFFFF false false)
    s

/-- A write of QUE_CTRL with enable = 0 (R118). -/
def State.disableQueue (s : State) (fn q : Nat) (v : Word32) : State :=
  if ¬ s.qpOpen fn q then s
  else
    let p := s.qp fn q
    if p.enabled ∧ ¬ p.draining then
      let s1 := s.setQp fn q { ctrlOpen p v with draining := true }
      s1.abortWaiting fun r => !(r.fn == fn && r.q == q && (match r.ref with | .host .. => true | _ => false))
    else if p.draining then s.setQp fn q (ctrlOpen p v)
    else s.setQp fn q (ctrlAll p v)

/-- in_flight has reached 0 in a draining queue pair (R118). -/
def State.drainEnd (s : State) (fn q : Nat) : State :=
  let p := s.qp fn q
  if p.draining ∧ p.inFlight = 0 then s.setQp fn q { p with enabled := false, draining := false, error := 0 } else s

/-- A write of a TTU window register, named by its offset in the entry (R101, R102, Table 20-11). -/
def State.writeWindow (s : State) (fn w reg : Nat) (v : Word32) : State :=
  if ¬ s.queDecoded then s
  else if (List.range 16).any fun q => (s.qp fn q).enabled || (s.qp fn q).draining then
    { s with host := { s.host with writeRefused := true, lastFn := fn } }
  else
    let x := mapGet {} s.host.win (8 * fn + w)
    let lo (old : Nat) := old / 2 ^ 32 * 2 ^ 32 + v.toNat / 4096 * 4096
    let hi (old : Nat) := old % 2 ^ 32 + v.toNat * 2 ^ 32
    let x1 : Window :=
      if reg = 0x00 then { x with base := lo x.base } else if reg = 0x04 then { x with base := hi x.base }
      else if reg = 0x08 then { x with size := lo x.size } else if reg = 0x0C then { x with size := hi x.size }
      else if reg = 0x10 then { x with ctrl := v.setWidth 2 } else x
    { s with host := { s.host with win := mapPut {} s.host.win (8 * fn + w) x1 } }

/-! ## Resets of functions and of the interface -/

/-- A record came from function `fn` of the host. -/
def fromFn (fn : Nat) (r : Rec) : Bool :=
  match r.ref with
  | .host f _ _ => f == fn
  | .forwarded .. => false

/-- From the reset on, a function's started commands write nothing, its sessions, quorum and digest contexts end and its
outstanding reads are kept out of use (R124, R139, R222, R278). -/
def State.squashFn (s : State) (fn : Nat) : State :=
  let reads := (s.waiting.filter fun r => fromFn fn r && !r.readDone).length +
    (s.running.filter fun x => fromFn fn x.record && !x.record.readDone).length
  { s with
    running := s.running.map fun x => if fromFn fn x.record then { x with squash := true } else x
    sessions := s.sessions.filter fun x => x.tenant != fn
    quorums := mapDel s.quorums fn
    digests := s.digests.filter fun p => p.1 / 256 != fn
    host := { s.host with oldReads := mapPut 0 s.host.oldReads fn (mapGet 0 s.host.oldReads fn + reads) } }

/-- A function's unstarted records are recorded ABORTED_RESET, and its queue pairs, vectors, counters and configuration
return to their reset values; the KH-1 sequence counts stay (R121, R124 items 4 and 7). -/
def State.clearFn (s : State) (fn : Nat) : State :=
  let s1 := (s.waiting.filter (fromFn fn)).foldl (fun s r => s.notRun r.tenant r.seq .abortedReset) s
  { s1 with
    waiting := s1.waiting.filter fun r => !fromFn fn r
    host := { s1.host with
      qp := (List.range 16).foldl (fun m q => mapPut {} m (16 * fn + q) { seqCount := (s1.qp fn q).seqCount }) s1.host.qp
      vectors := s1.host.vectors.filter fun p => p.1 / 64 != fn
      discards := mapDel s1.host.discards fn
      relaxed := mapDel s1.host.relaxed fn
      cplTimeout := mapDel s1.host.cplTimeout fn } }

/-- FLR_START (R124). -/
def State.flrBegin (s : State) (vf : Nat) : State :=
  if ¬ s.fnOpen vf ∨ ¬ s.host.released then s
  else
    let s1 := (s.squashFn vf).capture (.reset (some vf) s.tick)
    { s1 with host := { s1.host with flr := mapSet s1.host.flr vf s.tick } }

/-- FLR_COMPLETE (R125). -/
def State.flrEnd (s : State) (vf : Nat) : State :=
  if (mapFind s.host.flr vf).isNone then s
  else
    let s1 := s.clearFn vf
    { s1 with host := { s1.host with flr := mapDel s1.host.flr vf, flrs := sat32 s1.host.flrs } }.raise .queue 2

/-- VF Enable and NumVFs change; each VF that can no longer be reached is reset (R97). -/
def State.setVfs (s : State) (en : Bool) (num : Nat) : State :=
  if ¬ s.host.released then s
  else
    let gone := (List.range 256).filter fun n => decide (0 < n) && s.host.vfEnable && decide (n ≤ s.host.numVfs) &&
      !(en && decide (n ≤ num))
    let s1 := gone.foldl (fun s n => ((s.squashFn n).clearFn n).capture (.reset (some n) s.tick)) s
    { s1 with host := { s1.host with vfEnable := en, numVfs := min num s.totalVfs } }

/-- HOST_INTERFACE_RESET (R127): R124 for every function, and the configuration space at its reset values. -/
def State.hifReset (s : State) : State :=
  let fns := List.range 256
  let s1 := (fns.foldl (fun s n => (s.squashFn n).clearFn n) s).capture (.reset none s.tick)
  { s1 with host := { s1.host with vfEnable := false, numVfs := 0, linkUp := false, width := 0, speed := 0, flr := [],
                                    resets := sat32 s1.host.resets } }.raise .queue 3

/-! ## Transfer errors -/

/-- Completion timeout of a function in ticks (R129). -/
def State.cplTimeout (s : State) (fn : Nat) : Nat := mapGet 50000 s.host.cplTimeout fn

/-- The waiting record whose read is outstanding, oldest first. -/
def State.readRec (s : State) (fn q : Nat) : Option Rec := s.waiting.find? fun r => fromFn fn r && r.q == q && !r.readDone

/-- The started record whose input read is outstanding. -/
def State.readRun (s : State) (fn q : Nat) : Option Run :=
  s.running.find? fun x => fromFn fn x.record && x.record.q == q && !x.record.readDone && !x.squash

/-- Open tick of the outstanding read of a kind, none where there is none. -/
def State.readIssue (s : State) (fn q : Nat) (k : ReadKind) : Option Tick :=
  match k with
  | .sqEntry => if s.fetchable fn q then some (s.qp fn q).readAt else none
  | .record => (s.readRec fn q).map (·.fetched)
  | .input => ((s.readRec fn q).map (·.fetched)).orElse fun _ => (s.readRun fn q).map (·.record.fetched)

/-- The read failed: Table 4-10. -/
def State.readFail (s : State) (fn q : Nat) (k : ReadKind) : State :=
  match k with
  | .sqEntry => s.stopQueue fn q 2
  | _ =>
    match s.readRec fn q with
    | some r => s.conclude r .dmaFailed 0xFFFF false false
    | none =>
      match (if k = .input then s.readRun fn q else none) with
      | some run => s.finish run (fail .dmaFailed)
      | none => s

/-- The read completed in time. -/
def State.readGood (s : State) (fn q : Nat) (k : ReadKind) : State :=
  match k with
  | .sqEntry => s
  | _ =>
    match s.readRec fn q with
    | some r => { s with waiting := s.waiting.map fun x => if x.ref == r.ref then { x with readDone := true } else x }
    | none =>
      match s.readRun fn q with
      | some run => { s with running := s.running.map fun x =>
          if x.record.ref == run.record.ref then { x with record := { x.record with readDone := true } } else x }
      | none => s

/-- DMA_COMPLETION (R124 item 3, R129, R130, R148). -/
def State.dmaDone (s : State) (fn q : Nat) (k : ReadKind) (stamp : Tick) (good : Bool) : State :=
  match s.readIssue fn q k with
  | some issue =>
    if governs stamp s.tick (issue + s.cplTimeout fn) then (if good then s.readGood fn q k else s.readFail fn q k)
    else (s.lateDiscard islHost).readFail fn q k
  | none =>
    let s1 := s.lateDiscard islHost
    { s1 with host := { s1.host with oldReads := mapPut 0 s1.host.oldReads fn (mapGet 0 s1.host.oldReads fn - 1) } }

/-- COMPLETION_TIMEOUT (R129, R148): it governs once its element reaches two ticks past the close. -/
def State.dmaTimeout (s : State) (fn q : Nat) (k : ReadKind) : State :=
  match s.readIssue fn q k with
  | some issue => if issue + s.cplTimeout fn + 2 ≤ s.tick then s.readFail fn q k else s
  | none => { s with host := { s.host with oldReads := mapPut 0 s.host.oldReads fn (mapGet 0 s.host.oldReads fn - 1) } }

/-- A configuration request (R71, R97, R114, R129). -/
def State.configure (s : State) (fn : Nat) (c : CfgReq) : State :=
  if ¬ s.host.released then s.emit (.config fn true)
  else
    let s1 := s.emit (.config fn false)
    match c with
    | .read => s1
    | .sriov en n => if fn = 0 then s1.setVfs en n else s1
    | .completionTimeout us => { s1 with host := { s1.host with cplTimeout := mapPut 50000 s1.host.cplTimeout fn us } }
    | .relaxedOrdering on => { s1 with host := { s1.host with relaxed := mapPut false s1.host.relaxed fn on } }

/-- COMMAND_DEADLINE_EXPIRY (R145, R148): the deadline governs at two ticks past its close. -/
def State.deadline (s : State) (ref : RecRef) : State :=
  match s.waiting.find? fun r => r.ref == ref with
  | some r =>
    if r.deadline ≠ 0 ∧ r.arrival + r.deadline + 2 ≤ s.tick then s.endPreStart r .deadlineMissed true else s
  | none => s

/-- BAR0_MISALIGNED_ACCESS (R95, Table 20-9): a read gets Completer Abort; a write is discarded and logged. -/
def State.misaligned (s : State) (fn : Nat) (write : Bool) : State :=
  let s1 := { s with host := { s.host with barRefusals := sat32 s.host.barRefusals } }
  if write then s1.logEvent 0x0104 .warn islHost fn .ok [fn] else s1.emit (.abort fn)

/-- A poisoned write to BAR0, or a request that fails ECRC, is discarded and logged (Table 4-10). -/
def State.badTlp (s : State) (fn : Nat) : State := s.logEvent 0x0104 .warn islHost fn .ok [fn]

/-- HOST_INTERFACE_RESET by its cause: a device that does not serve the lead pair ignores PERST_N (R127, R472). -/
def State.hostReset (s : State) (k : HifReset) : State := if k = .perst ∧ ¬ s.lead then s else s.hifReset

/-- PCIE_LINK_UP (R127, Table 20-10). Only the serving twin of the lead pair trains (R472). -/
def State.linkTrained (s : State) (width speed : Nat) : State :=
  if s.lead then { s with host := { s.host with linkUp := true, width, speed } } else s

end Sys2Proof.Machine
end

