-- ==== Sys2Proof/Machine/Cellar.lean ====
section
/-! DEFINITION. The key cellar: chain walks, key material, usage limits, new keys and seasoning's tests (R158 to R201). -/

namespace Sys2Proof.Machine

/-! ## Handles and links -/

/-- Directory index of a handle (Table 6-9). -/
def hIndex (h : Nat) : Nat := h % 2 ^ 18
/-- Directory tag of a handle. -/
def hTag (h : Nat) : Nat := h / 2 ^ 18 % 2 ^ 12
/-- Kind of a handle. -/
def hKind (h : Nat) : Nat := h / 2 ^ 30
/-- A cellar key's handle. -/
def mkHandle (index dtag : Nat) : Nat := index + dtag * 2 ^ 18 + 2 ^ 30

/-- A vault key record. -/
def State.keyRec (s : State) (n : Nat) : KeyRecord := mapGet {} s.vault.keys n
/-- A directory entry. -/
def State.dirEntry (s : State) (i : Nat) : DirEntry := mapGet {} s.cel.dir i

/-- The link from a slot to its parent holds (R174). -/
def State.linkOk (s : State) (p : Parent) : Bool :=
  if p.inVault then (s.keyRec p.index).present && (s.keyRec p.index).generation == p.gen
  else (s.slot p.index).state == .seasoned && (s.slot p.index).generation == p.gen

/-- Every link upward from a slot holds; the number bounds the levels (R158). -/
def State.chainOk (s : State) : Nat → Slot → Bool
  | 0, _ => false
  | n + 1, x => s.linkOk x.parent && (x.parent.inVault || s.chainOk n (s.slot x.parent.index))

/-- The first slot of a chain whose tag fails, from the slot upward (R167). -/
def State.chainFault (s : State) : Nat → Nat → Option Nat
  | 0, _ => none
  | n + 1, i =>
    let x := s.slot i
    if x.tagFault then some i else if x.parent.inVault ∨ x.state = .free then none else s.chainFault n x.parent.index

/-! ## Usage limits (R191 to R195) -/

/-- Cap of a key type (R192). -/
def typeCap (type : Nat) : Nat :=
  if type = 1 ∨ type = 2 ∨ type = 3 ∨ type = 6 then 2 ^ 32 else if type = 4 then 2 ^ 20 else 2 ^ 40 - 1

/-- Effective limit of a key. -/
def State.limit (s : State) (x : Slot) : Nat :=
  if x.limitClass = 0 then typeCap x.type
  else min (typeCap x.type) ((mapFind s.man.set.limits x.limitClass).getD (typeCap x.type))

/-- A limit class that a new key may name (R194). -/
def State.classDefined (s : State) (c : Nat) : Bool := c == 0 || (mapFind s.man.set.limits c).isSome

/-- Units are added to a key's counter and to the advances that go to the twin (R192, R196). -/
def State.addUnits (s : State) (i u : Nat) : State :=
  let x := s.slot i
  if u = 0 then s
  else { s with cel := { s.cel with slots := mapPut {} s.cel.slots i { x with counter := x.counter + u }
                                    advances := s.cel.advances ++ [(i, x.generation, u)] } }

/-! ## Resolving a handle (R173, R174, R607) -/

/-- The directory entry that a handle names for a tenant (R173 step 1); a warden-world job gives no tenant. -/
def State.named (s : State) (tenant : Option Nat) (h : Nat) : Option DirEntry :=
  let e := s.dirEntry (hIndex h)
  if hKind h = 1 ∧ e.valid ∧ e.dtag = hTag h ∧ (tenant = none ∨ tenant = some e.owner) then some e else none

/-- What a resolution asks of the key: the types that fit, the usage bits, and the units where it is a use (R607). -/
structure Need where
  fits : Slot → Bool := fun _ => true
  use : Slot → BitVec 16 := fun _ => 0
  units : Option (Slot → Nat) := none

/-- A word of the chain reads poisoned (R22). -/
def State.chainPoison (s : State) : Nat → Nat → Bool
  | 0, _ => false
  | n + 1, i =>
    let x := s.slot i
    s.poisoned .cellar (8 * i) 8 || x.state != .free &&
      (if x.parent.inVault then s.poisoned .vault (32 + 5 * x.parent.index) 5 else s.chainPoison n x.parent.index)

/-- The gated step on a slot of a given generation (R174): the slot's index, or the first status. -/
def State.gated (s : State) (i gen : Nat) (n : Need) : State × Except Status Nat :=
  match s.chainFault 8 i with
  | some j =>
    let s1 := { s with cel := { s.cel with tagFaults := sat32 s.cel.tagFaults } }
    ((s1.raise .integrity 4).logEvent 0x0205 .alarm islCellar 0x100 .dataPoisoned [j], .error .dataPoisoned)
  | none =>
    let x := s.slot i
    if s.chainPoison 8 i then (s, .error .dataPoisoned)
    else if x.generation ≠ gen ∨ ¬ s.chainOk 8 x then (s, .error .keyOrphaned)
    else if ¬ n.fits x then (s, .error .keyType)
    else if x.usage &&& n.use x ≠ n.use x then (s, .error .usageDenied)
    else match n.units with
      | none => (s, .ok i)
      | some u => if x.counter + u x ≤ s.limit x then (s.addUnits i (u x), .ok i) else (s, .error .keyExhausted)

/-- A handle resolves to its standing slot. Within one step the second directory read of R173 step 3 equals the first. -/
def State.resolve (s : State) (tenant : Option Nat) (h : Nat) (n : Need) : State × Except Status Nat :=
  match s.named tenant h with
  | none => (s, .error .keyHandleUnknown)
  | some e => s.gated e.standing e.standingGen n

/-- A command goes on with a resolved key, or ends with the resolution's status. -/
def State.withKey (s : State) (tenant h : Nat) (n : Need) (k : State → Nat → State × Did) : State × Did :=
  match s.resolve (some tenant) h n with
  | (s1, .ok i) => k s1 i
  | (s1, .error st) => (s1, .done (fail st))

/-- One invocation, or the given TDEA blocks (R191). -/
def units (blocks : Nat) (x : Slot) : Nat := if x.type = 4 then blocks else 1

/-- Usage bits of Table 6-8. -/
def useBit (b : Nat) : BitVec 16 := BitVec.ofNat 16 (2 ^ b)

/-! ## Material -/

/-- ASCII text as bytes. -/
def ascii (t : String) : Bytes := t.toList.map fun c => BitVec.ofNat 8 c.toNat

/-- The wrapping key of a blob (R168). -/
def blobKey (parent : Bytes) (index gen : Nat) : Bytes :=
  hkdf256 parent [] (ascii "KH64-BLOB" ++ natLE 4 index ++ natLE 2 gen) 32

/-- Material of a parent: a vault record's, or a branch's. -/
def State.parentMaterial (s : State) (p : Parent) : Bytes :=
  if p.inVault then (s.keyRec p.index).material else (s.slot p.index).material

/-- Key material of a slot: a bound key's blob is checked and unwrapped (R168, R169). -/
def State.material (s : State) (i : Nat) : Except Status Bytes :=
  let x := s.slot i
  if ¬ x.bound then .ok x.material
  else
    let b := mapGet [] s.cel.blobs x.blobAddr
    if (sha256 b).take 16 ≠ x.blobDigest then .error .dataPoisoned
    else match kwpUnwrap (blobKey (s.parentMaterial x.parent) i x.generation) b with
      | some m => .ok m
      | none => .error .dataPoisoned

/-- A command goes on with a key's material, or ends with DATA_POISONED. -/
def State.withMaterial (s : State) (i : Nat) (k : Bytes → State × Did) : State × Did :=
  match s.material i with
  | .ok m => k m
  | .error st => (s, .done (fail st))

/-! ## Key types (Table 6-6) -/

/-- The type and length are of Table 6-6. -/
def typeOk (type bits : Nat) : Bool :=
  (type == 1 && bits == 128) || (type == 2 && bits == 192) || (type == 3 && bits == 256) || (type == 4 && bits == 192) ||
    (type == 5 && decide (128 ≤ bits) && decide (bits ≤ 1024) && bits % 8 == 0) || (type == 6 && bits == 256) ||
    ((type == 0x10 || type == 0x20) && decide (2048 ≤ bits) && decide (bits ≤ 8192) && bits % 64 == 0) ||
    (type == 0x11 && (bits == 256 || bits == 384 || bits == 521)) ||
    ((type == 0x12 || type == 0x13 || type == 0x22) && bits == 256) ||
    (type == 0x14 && decide (1 ≤ bits) && decide (bits ≤ 1024)) ||
    (type == 0x21 && decide (256 ≤ bits) && decide (bits ≤ 1024))

/-- The type's storage is bound (Table 6-6). -/
def typeBound (type bits : Nat) : Bool := decide (0x10 ≤ type) || (type == 5 && decide (256 < bits))

/-- Length class of a field or modulus (R294). -/
def lenClass (bits : Nat) : Nat := ceilDiv bits 64

/-- Bytes of a key's plaintext: whole bytes of key_bits, or the layout of Table 9-8 (R311), which for an ECC public key
depends on its curve id. -/
def plainLen (type bits id : Nat) : Nat :=
  let w := 8 * lenClass bits
  if type < 0x10 then bits / 8
  else if type = 0x10 then 8 + w + 5 * (w / 2) else if type = 0x11 then 8 + 3 * w else if type = 0x14 then 40 + 3 * w
  else if type = 0x12 ∨ type = 0x13 then 72 else if type = 0x20 then 8 + w else if type = 0x22 then 40
  else if id < 0x80 then 8 + 2 * w else 40 + 2 * w

/-- The named curve's id for a field length. -/
def curveOfBits (bits : Nat) : Nat := if bits = 256 then 1 else if bits = 384 then 2 else if bits = 521 then 3 else 0

/-- An imported plaintext is of the type: its head byte, and for RSA the modulus and exponent of R292. -/
def plainOk (type bits : Nat) (m : Bytes) : Bool :=
  let hd := (m.getD 0 0).toNat
  m.length == plainLen type bits hd &&
    (if type = 0x10 ∨ type = 0x20 then
      hd == 0 && fld m 2 2 == bits && (fld m 4 4 == 3 || fld m 4 4 == 65537) && bitLen (fld m 8 (8 * lenClass bits)) == bits
    else if type = 0x11 then hd == curveOfBits bits
    else if type = 0x12 ∨ type = 0x22 then hd == 4
    else if type = 0x13 then hd == 5
    else if type = 0x14 then decide (0x80 ≤ hd) && decide (hd ≤ 0xBF)
    else if type = 0x21 then hd != 0 && hd == curveOfBits bits || decide (0x80 ≤ hd) && decide (hd ≤ 0xBF)
    else true)

/-- The three parts of a TDEA key without parity bits are pairwise distinct (R264). -/
def tdeaDistinct (k : Bytes) : Bool :=
  let part (i : Nat) := (sub k (8 * i) 8).map (· &&& 0xFE)
  part 0 != part 1 && part 1 != part 2 && part 0 != part 2

/-- Check value, left-aligned in 8 bytes (R180). The spec gives none for the asymmetric types: a free value (entry 10). -/
def checkValue (type : Nat) (m : Bytes) : Bytes :=
  padTo 8 (if type = 4 then (tdeaBlock m (zeros 8)).take 3
    else if type = 5 then (hmac256 m []).take 5
    else if type < 0x10 then (aesCmac m (zeros 16)).take 5
    else Config.checkValue type m)

/-- Length of a check value (R180, R181). -/
def checkLen (type : Nat) : Nat := if type = 4 then 3 else 5

/-! ## New keys -/

/-- The changes that a run holds have not committed yet. -/
def Run.holds (r : Run) : Bool :=
  match r.stage with
  | .moves _ | .latches _ | .member _ => false
  | _ => true

/-- The state as it will stand once every change under way has committed; allocations are made against it (R175). -/
def State.ahead (s : State) : State :=
  s.applyAll ((s.running.filter Run.holds).flatMap (fun r => r.res.changes) ++
    (s.twin.flight.filter fun f => f.ref.isNone).flatMap fun f => f.changes)

/-- A parent named for a new key of tenant `t`: its word and level (R159, R160, R173). -/
def State.parentOf (s : State) (t h : Nat) : State × Except Status (Parent × Nat) :=
  if hKind h = 2 then
    if hTag h = 0 ∧ hIndex h = t ∧ (s.keyRec t).present then
      (s, .ok ({ index := t, inVault := true, gen := (s.keyRec t).generation }, 0))
    else (s, .error .keyHandleUnknown)
  else match s.resolve (some t) h { fits := fun x => x.type == 6 } with
    | (s1, .ok i) => (s1, .ok ({ index := i, gen := (s1.slot i).generation }, (s1.slot i).level))
    | (s1, .error st) => (s1, .error st)

/-- The lowest free slot at or above `i` in a list of slots. -/
def freeFrom : Map Slot → Nat → Nat
  | [], i => i
  | (k, x) :: m, i => if k < i then freeFrom m i else if k = i ∧ x.state ≠ .free then freeFrom m (i + 1) else i

/-- A free slot: the lowest. DESIGN CHOICE (entry 11). -/
def State.freeSlot (s : State) : Option Nat :=
  let i := freeFrom s.ahead.cel.slots 0
  if i < 262144 then some i else none

/-- The lowest invalid directory index at or above `i`. -/
def freeDirFrom : Map DirEntry → Nat → Nat
  | [], i => i
  | (k, x) :: m, i => if k < i then freeDirFrom m i else if k = i ∧ x.valid then freeDirFrom m (i + 1) else i

/-- A free directory index: the lowest. DESIGN CHOICE (entry 11). -/
def State.freeDir (s : State) : Nat := freeDirFrom s.ahead.cel.dir 0

/-- Fresh blob space for `n` bytes: after every blob held. None where the space does not suffice (R169). -/
def State.freeBlob (s : State) (n : Nat) : Option Nat :=
  let m := s.ahead.cel.blobs
  let used := (m.map fun p => p.2.length).sum
  if Config.blobSpace < used + n then none
  else some ((m.map fun p => p.1 + ceilDiv p.2.length 8 * 8).foldl max 0)

/-- A key to write: everything but where it goes. -/
structure NewKey where
  type : Nat
  bits : Nat
  usage : BitVec 16
  owner : Nat
  parent : Parent
  level : Nat
  exportable : Bool
  limitClass : Nat
  plain : Bytes
  state : SlotState := .seasoned
  blinding : Nat × Nat := (0, 0)

/-- The slot write, and the blob of a bound key, of a new key in a free slot (R164, R168). None: no room (CELLAR_FULL). -/
def State.newSlot (s : State) (k : NewKey) : Option (Nat × Slot × List Change) :=
  match s.freeSlot with
  | none => none
  | some i =>
    let gen := (s.ahead.slot i).generation
    let x : Slot := { type := k.type, keyBits := k.bits, usage := k.usage, owner := k.owner, level := k.level,
                      state := k.state, exportable := k.exportable, parent := k.parent, generation := gen,
                      limitClass := k.limitClass }
    if typeBound k.type k.bits then
      let b := kwpWrap (blobKey (s.parentMaterial k.parent) i gen) k.plain
      match s.freeBlob b.length with
      | none => none
      | some a =>
        let y := { x with bound := true, blobAddr := a, blobLen := b.length, blobDigest := (sha256 b).take 16 }
        let bl := if k.type = 0x10 then [Change.blinding i k.blinding] else []
        some (i, y, [.blob a b, .slot i y] ++ bl)
    else
      let y := { x with material := k.plain }
      some (i, y, [.slot i y])

/-- A new key under a new handle: the handle and the changes (R172, Table 6-11). -/
def State.newKey (s : State) (k : NewKey) : Option (Nat × List Change) :=
  match s.newSlot k with
  | none => none
  | some (i, x, cs) =>
    let d := s.freeDir
    let e := s.ahead.dirEntry d
    let tag := (e.dtag + 1) % 4096
    some (mkHandle d tag, cs ++ [.directory d { standing := i, dtag := tag, valid := true, standingGen := x.generation,
                                                owner := k.owner }])

/-- A felled slot: the one write of R178. -/
def Slot.fell (x : Slot) : Slot := { state := .felled, generation := (x.generation + 1) % 65536 }

/-- The changes that fell a slot; a bound key's blob goes with it. -/
def State.fellSlot (s : State) (i : Nat) : List Change :=
  let x := s.slot i
  (if x.bound then [Change.blob x.blobAddr []] else []) ++ [.slot i x.fell]

/-! ## Wrapped keys -/

/-- The pairing of wrapping key and wrapped type is allowed (R200). -/
def pairOk (wrap : Slot) (type : Nat) : Bool := wrap.type == 3 || (wrap.type == 4 && type == 4)

/-- A key wrapped under a wrapping key (R200). -/
def wrapKey (wrapType : Nat) (wrap plain : Bytes) : Bytes :=
  if wrapType = 4 then cbcEnc (tdeaBlock wrap) (zeros 8) (chunks 8 plain) else kwpWrap wrap plain

/-- A wrapped key opened. -/
def unwrapKey (wrapType : Nat) (wrap c : Bytes) : Option Bytes :=
  if wrapType = 4 then (if c.length % 8 = 0 then some (cbcDec (tdeaInv wrap) (zeros 8) (chunks 8 c)) else none)
  else kwpUnwrap wrap c

/-- An RSA blinding pair of a private key's plaintext from drawn bytes (R298): r^e and the inverse of r. -/
def blindPair (plain : Bytes) (r : Bytes) : Nat × Nat :=
  let w := 8 * lenClass (fld plain 2 2)
  let n := fld plain 8 w
  let p := fld plain (8 + w) (w / 2)
  let q := fld plain (8 + w + w / 2) (w / 2)
  let x := leNat r % n
  (powMod n x (fld plain 4 4), powMod n x ((p - 1) * (q - 1) - 1))

/-! ## Response space (R153) -/

/-- The record's buffers cannot hold a response body and output of these lengths: RESPONSE_SPACE with the sizes needed. -/
def spaceFail (c : Cmd) (bodyN out : Nat) : Option Result :=
  let respN := 64 + bodyN + 4 * ceilDiv (64 + bodyN) 64
  let outN := out + if c.record.isSealed ∧ out ≠ 0 then 16 else 0
  match c.record.ref, c.record.form with
  | .host .., .native =>
    if respN ≤ c.record.sq.respCap ∧ outN ≤ c.record.sq.outCap then none
    else some { status := .responseSpace, body := natLE 8 respN ++ natLE 8 outN }
  | _, _ => none

/-- A result whose sizes depend on stored state: it stands when the record's buffers hold it; else the command completes
with RESPONSE_SPACE and the sizes needed. -/
def spaced (c : Cmd) (r : Result) : Did := .done ((spaceFail c r.body.length r.out.length).getD r)

end Sys2Proof.Machine
end

