-- ==== Sys2Proof/Machine/Settings.lean ====
section
/-! DEFINITION. The settings section of the manifest: its records and the rules of each (R77, R98, R194, R211, R244, R349,
R448, R458, R459, R517, R565). -/

namespace Sys2Proof.Machine

/-- Records of a settings section; none where it is not a sequence of padded records (R77). The number bounds the
records. -/
def settingsRecords : Nat → Bytes → Option (List (Nat × Bytes))
  | 0, b => if b.isEmpty then some [] else none
  | n + 1, b =>
    if b.isEmpty then some []
    else
      let len := fld b 2 2
      let pad := pad4 len
      if b.length < 4 + len + pad ∨ ¬ zeroAt b (4 + len) pad then none
      else (settingsRecords n (b.drop (4 + len + pad))).map fun l => (fld b 0 2, sub b 4 len) :: l

/-- Strictly rising numbers. -/
def rising : List Nat → Bool
  | a :: b :: l => decide (a < b) && rising (b :: l)
  | _ => true

/-- Values of Table 19-4. -/
def clockOk (island mhz : Nat) : Bool :=
  let step (lo hi : Nat) := decide (lo ≤ mhz) && decide (mhz ≤ hi) && mhz % 50 == 0
  if island = islHost ∨ island = islLink then mhz == 1000 else if island = islCard then mhz == 200
  else if island = islAlways then mhz == 100 else if island = islBattery then mhz == 0
  else if island = islMemory then mhz ∈ [1200, 1400, 1600]
  else if island = islDrover ∨ island = islBig then step 400 1600
  else if island = islWarden ∨ island = islCipher ∨ island = islDigest then step 300 1200
  else step 250 1000

/-- Record 0x0001 (R565). -/
def setClocks (b : Bytes) (x : Settings) : Option Settings :=
  let v := (List.range 13).map fun i => fld b (4 + 4 * i + 2) 2
  if b.length = 56 ∧ fld b 0 1 = 13 ∧ zeroAt b 1 3 ∧ (List.range 13).all (fun i =>
      fld b (4 + 4 * i) 1 == i && zeroAt b (5 + 4 * i) 1 && clockOk i (v.getD i 0)) then some { x with clocks := v }
  else none

/-- Record 0x0002 (R98). -/
def setTenants (b : Bytes) (x : Settings) : Option Settings :=
  let n := fld b 0 1
  let pf := fld b 1 1
  let v := (List.range 255).map fun i => fld b (4 + i) 1
  if b.length = 260 ∧ 1 ≤ pf ∧ pf ≤ 16 ∧ zeroAt b 2 2 ∧ zeroAt b 0x103 1 ∧ pf + v.sum ≤ 1024 ∧
      (List.range 255).all (fun i => let q := v.getD i 0
        if i + 1 ≤ n then decide (1 ≤ q) && decide (q ≤ 8) else q == 0) then
    some { x with tenantCount := n, pf0Queues := pf, vfQueues := v }
  else none

/-- Codes of a 16-bit route (R448). -/
def routeCodes (r : Nat) : List Nat := (List.range 8).map fun i => r / 4 ^ i % 4

/-- Record 0x0003 (R448). -/
def setRoutes (b : Bytes) (x : Settings) : Option Settings :=
  let self := fld b 0 1
  let n := fld b 1 1
  let peers := (List.range 3).map fun i => fld b (8 + 8 * i) 8
  let entry (i : Nat) : Nat × Nat × Nat × Nat :=
    let o := 0x20 + 16 * i
    (fld b o 1, fld b (o + 1) 1, fld b (o + 2) 2, fld b (o + 8) 8)
  let es := (List.range n).map entry
  let good : Nat × Nat × Nat × Nat → Bool := fun (m, h, r, ser) =>
    let cs := routeCodes r
    decide (m ≤ 63) && ser != 0 && (cs.drop h).all (· == 0) &&
      if m = self then h == 0
      else decide (1 ≤ h) && decide (h ≤ 8) && (cs.take h).all (fun c => decide (1 ≤ c)) &&
        peers.getD (cs.headD 0 - 1) 0 != 0
  if 1 ≤ n ∧ n ≤ 64 ∧ self ≤ 63 ∧ b.length = 32 + 16 * n ∧ zeroAt b 2 6 ∧ rising (es.map (·.1)) ∧
      (es.map (·.1)).contains self ∧ es.all good ∧ (es.map fun e => e.2.2.2).Nodup ∧
      (List.range n).all (fun i => zeroAt b (0x24 + 16 * i) 4) then
    some { x with self, memberCount := n, peers
                  routes := es.map fun (m, h, r, ser) =>
                    (m, { port := (routeCodes r).headD 0, hops := (routeCodes r).take h, serial := ser }) }
  else none

/-- Record 0x0004 (R458, R459); it is judged after record 0x0003. -/
def setTwin (serial twin : Nat) (b : Bytes) (x : Settings) : Option Settings :=
  let keel := fld b 0 8
  let m := fld b 8 4
  let sy := fld b 0xC 4
  let cv := fld b 0x10 4
  let t := (List.range 64).map fun i => fld b (0x20 + i) 1
  let at' (i : Nat) := t.getD i 255
  if b.length = 96 ∧ (keel = 0 ↔ twin = 0) ∧ (keel = 0 ∨ keel = serial ∨ keel = twin) ∧ 10 ≤ m ∧ m ≤ 1000 ∧ 10 ≤ sy ∧
      sy ≤ 10000 ∧ 100 ≤ cv ∧ cv ≤ 100000 ∧ zeroAt b 0x14 12 ∧
      (List.range 64).all (fun i => at' i == 255 || decide (at' i ≤ 63 ∧ at' i ≠ i) && at' (at' i) == i) ∧
      (List.range 64).all (fun i => decide (i < x.memberCount) || at' i == 255) ∧
      (x.memberCount ≠ 1 ∨ at' x.self = 255) ∧
      (x.memberCount = 1 ∨ twin = 0 ∨ ((mapFind x.routes (at' x.self)).map (·.serial)) = some twin) then
    some { x with keelSerial := keel, mirrorTimeout := m, syncTimeout := sy, caravanTimeout := cv, twinOf := t }
  else none

/-- Record 0x0005 (R194). -/
def setLimits (b : Bytes) (x : Settings) : Option Settings :=
  let n := fld b 0 1
  let es := (List.range n).map fun i => (fld b (4 + 8 * i) 1, fld b (7 + 8 * i) 5)
  if n ≤ 63 ∧ b.length = 4 + 8 * n ∧ zeroAt b 1 3 ∧ rising (0 :: es.map (·.1)) ∧
      es.all (fun e => decide (e.1 ≤ 63) && e.2 != 0) ∧ (List.range n).all (fun i => zeroAt b (5 + 8 * i) 2) then
    some { x with limits := es }
  else none

/-- Record 0x0006 (R349); it is judged after record 0x0003. -/
def setAccounts (b : Bytes) (x : Settings) : Option Settings :=
  let n := fld b 0 1
  let homes := (List.range 256).map fun i => fld b (4 + i) 1
  let es := (List.range n).map fun i => (fld b (0x104 + 40 * i) 1, ld63 b (0x10C + 40 * i))
  if n ≤ 254 ∧ b.length = 0x104 + 40 * n ∧ zeroAt b 1 3 ∧ rising (0 :: es.map (·.1)) ∧
      es.all (fun e => decide (e.1 ≤ 254) && e.2.any (fun v => decide (0 ≤ v))) ∧
      (List.range n).all (fun i => zeroAt b (0x105 + 40 * i) 7) ∧
      homes.all (fun h => if x.memberCount = 1 then h == 0 else (x.routes.map (·.1)).contains h) then
    some { x with homes, accountLimits := es.map fun e => (e.1, e.2.getD 0) }
  else none

/-- Longest debounce of a class (Table 17-1). -/
def debounceMax (c : Nat) : Nat :=
  if c ≤ 3 then 1000 else if c ≤ 11 then 1000000 else if c ≤ 15 then 0 else if c = 16 then 1000000
  else if c = 17 then 10000 else if c = 18 then 1000 else if c = 19 then 1000000 else if c = 20 then 10000 else 0

/-- A byte as a two's-complement number. -/
def byteInt (n : Nat) : Int := if n < 128 then n else (n : Int) - 256

/-- Response of a code (Table 17-3). -/
def responseOf (n : Nat) : Response := if n = 0 then .record else if n = 1 then .sever else if n = 2 then .fell else .none

/-- Record 0x0007 (R517). -/
def setTamper (b : Bytes) (x : Settings) : Option Settings :=
  let lo := byteInt (fld b 4 1)
  let hi := byteInt (fld b 5 1)
  if b.length = 288 ∧ zeroAt b 0 2 ∧ zeroAt b 3 1 ∧ zeroAt b 6 26 ∧ -30 ≤ lo ∧ lo ≤ 0 ∧ 85 ≤ hi ∧ hi ≤ 110 ∧
      (List.range 32).all (fun c =>
        let o := 0x20 + 8 * c
        fld b o 1 == c && (if 22 ≤ c then fld b (o + 1) 1 == 3 else decide (fld b (o + 1) 1 ≤ 2)) && zeroAt b (o + 2) 2 &&
          decide (fld b (o + 4) 4 ≤ debounceMax c)) then
    some { x with switchLevel := BitVec.ofNat 8 (fld b 2 1), tempLow := lo, tempHigh := hi
                  tamper := (List.range 32).map fun c =>
                    { response := responseOf (fld b (0x21 + 8 * c) 1), debounce := fld b (0x24 + 8 * c) 4 } }
  else none

/-- Record 0x0008 (R211); it is judged after record 0x0002. -/
def setCustody (b : Bytes) (x : Settings) : Option Settings :=
  let n := fld b 0 2
  let es : List Custody := (List.range n).map fun i =>
    let o := 4 + 80 * i
    { tenant := fld b o 1, m := fld b (o + 1) 1, window := fld b (o + 2) 2, authority := sub b (o + 0x10) 64 }
  if 1 ≤ n ∧ n ≤ 256 ∧ b.length = 4 + 80 * n ∧ zeroAt b 2 2 ∧ rising (es.map (·.tenant)) ∧
      (es.map (·.tenant)).headD 1 = 0 ∧
      es.all (fun e => decide (e.tenant ≤ x.tenantCount ∧ 2 ≤ e.m ∧ e.m ≤ 32 ∧ 30 ≤ e.window ∧ e.window ≤ 900)) ∧
      (List.range n).all (fun i => zeroAt b (8 + 80 * i) 12) then some { x with custody := es }
  else none

/-- Record 0x0009 (R244). -/
def setCards (b : Bytes) (x : Settings) : Option Settings :=
  let cl := (List.range 4).map fun i => fld b i 1
  let ck := (List.range 4).map fun i => fld b (4 + 2 * i) 2
  let oc := fld b 0xC 2
  if b.length = 24 ∧ cl.all (· ≤ 7) ∧ ck.all (fun k => decide (1000 ≤ k ∧ k ≤ 5000)) ∧ 1 ≤ oc ∧ oc ≤ 1000 ∧
      fld b 0xE 1 ≤ 3 ∧ fld b 0xF 1 ≤ 3 ∧ zeroAt b 0x10 8 then
    some { x with cardClasses := cl.map (BitVec.ofNat 8), cardClocks := ck, ocFilter := oc, transitMode := fld b 0xE 1
                  transitFlags := BitVec.ofNat 8 (fld b 0xF 1) }
  else none

/-- The settings of a section, judged for a device serial and the twin serial of its header; none where it is invalid
(R77, check 11 of Table 3-8). -/
def parseSettings (serial twin : Nat) (b : Bytes) : Option Settings :=
  match settingsRecords (b.length / 4) b with
  | none => none
  | some rs =>
    let body (t : Nat) : Bytes := ((rs.find? fun r => r.1 == t).map (·.2)).getD []
    if rs.length = 9 ∧ (List.range 9).all (fun i => rs.any fun r => r.1 == i + 1) then
      (setClocks (body 1) {}).bind fun x => (setTenants (body 2) x).bind fun x => (setRoutes (body 3) x).bind fun x =>
        (setTwin serial twin (body 4) x).bind fun x => (setLimits (body 5) x).bind fun x =>
          (setAccounts (body 6) x).bind fun x => (setTamper (body 7) x).bind fun x => (setCustody (body 8) x).bind fun x =>
            setCards (body 9) x
    else none

/-- The settings whose custody entries are in force: those applied, else in RECOVERY those of the settings section that the
open session has received (R81). -/
def State.custodySettings (s : State) : List Custody :=
  if s.man.applied then s.man.set.custody
  else if s.mode = .recovery then
    match s.man.session with
    | some x =>
      let i := (List.range 16).find? fun i => decide (i < fld x.header 6 2) && fld x.header (0x100 + 64 * i) 2 == 4
      match i with
      | some i => ((parseSettings s.otp.serial (fld x.header 0x18 8) (mapGet [] x.written i)).map (·.custody)).getD []
      | none => []
    | none => []
  else []

end Sys2Proof.Machine
end

