-- ==== Sys2Proof/Machine/Quorum.lean ====
section
/-! DEFINITION. Custody authorities, rosters and quorums (R211 to R226). -/

namespace Sys2Proof.Machine

/-- A tenant's entry of settings record 0x0008 (R211). -/
def State.custodyOf (s : State) (t : Nat) : Option Custody := s.custodySettings.find? fun c => c.tenant == t

/-- A tenant's quorum. -/
def State.quorum (s : State) (t : Nat) : QuorumState := mapGet {} s.quorums t

/-- A tenant's quorum is replaced. -/
def State.setQuorum (s : State) (t : Nat) (q : QuorumState) : State := { s with quorums := mapPut {} s.quorums t q }

/-- Purpose bits, Table 7-6. -/
abbrev purposeLife : Nat := 0
abbrev purposeWarrant : Nat := 1
abbrev purposeRecovery : Nat := 2
abbrev purposeMuster : Nat := 3
abbrev purposeTrunk : Nat := 4
abbrev purposeRestore : Nat := 5
abbrev purposeRoster : Nat := 6
abbrev purposeShares : Nat := 7

/-- A command checks for a complete quorum and consumes a use (Table 7-7, R211, R224). -/
def State.quorumUse (s : State) (t bit : Nat) : State × Option Status :=
  let q := s.quorum t
  if (s.custodyOf t).isNone ∨ q.phase = 0 ∨ ¬ q.purposes.getLsbD bit then (s, some .quorumMissing)
  else if q.phase = 1 then
    (s, some (if q.closeTick ≠ 0 ∧ q.closeTick ≤ s.tick then .quorumWindow else .quorumMissing))
  else if q.closeTick ≤ s.tick then (s.setQuorum t {}, some .quorumWindow)
  else if q.uses ≤ 1 then (s.setQuorum t {}, none)
  else (s.setQuorum t { q with uses := q.uses - 1 }, none)

/-- A command goes on with a quorum's use, or ends with the quorum's status. -/
def State.withQuorum (s : State) (t bit : Nat) (k : State → State × Did) : State × Did :=
  match s.quorumUse t bit with
  | (s1, none) => k s1
  | (s1, some st) => (s1, .done (fail st))

/-- authority_id of a public key (R211). -/
def authorityId (pub : Bytes) : Bytes := (sha256 pub).take 16

/-- A tenant's custody entry in the vault. -/
def State.custodyEntry (s : State) (t : Nat) : CustodyEntry := mapGet {} s.vault.custody t

/-- The pin that fixes a tenant's authority: the vault's for tenant 0, the roster's for another (R217). -/
def State.pinOf (s : State) (t : Nat) : Option Bytes :=
  if t = 0 then (if s.vault.pin = zeros 16 then none else some s.vault.pin)
  else if (s.custodyEntry t).rosterGen = 0 then none
  else (mapFind s.rosters t).map (·.authority)

/-- The authority in force for a tenant (R217): its public key. -/
def State.authority (s : State) (t : Nat) : Option Bytes :=
  match s.pinOf t with
  | some id => (s.custodySettings.find? fun c => authorityId c.authority == id).map (·.authority)
  | none => (s.custodyOf t).map (·.authority)

/-- A card certificate is valid for a tenant (R212, Table 7-2). -/
def State.certOk (s : State) (t : Nat) (cert : Bytes) : Bool :=
  match s.authority t with
  | none => false
  | some pub =>
    cert.length == 160 && sub cert 0 4 == ascii "KHCC" && fld cert 4 2 == 1 && fld cert 6 1 == t && zeroAt cert 7 1 &&
      p256Curve.validPoint 32 (sub cert 0x10 64) && sub cert 0x50 16 == authorityId pub &&
      p256Verify pub (sha256 (sub cert 0 0x60)) (sub cert 0x60 64)

/-- Fingerprint of a certificate (R212). -/
def fingerprint (cert : Bytes) : Bytes := (sha256 cert).take 16

/-! ## Roster images (R215, R216) -/

/-- Key of a roster image's MAC (R215). -/
def rosterKey (nonce : Bytes) (t gen : Nat) : Bytes :=
  hkdf256 nonce (zeros 32) (ascii "KH64-ROSTER" ++ natLE 1 t ++ natLE 2 gen) 32

/-- A roster image (Table 7-5). -/
def State.rosterImage (s : State) (t : Nat) (r : Roster) : Bytes :=
  let b := ascii "KHRI" ++ natLE 2 1 ++ natLE 1 t ++ natLE 1 r.entries.length ++ natLE 2 r.gen ++ zeros 6 ++
    padTo 16 r.authority ++ r.entries.flatMap fun (id, fp, ix) => natLE 8 id ++ padTo 16 fp ++ natLE 1 ix ++ zeros 7
  b ++ hmac256 (rosterKey s.vault.custodyNonce t r.gen) b

/-- A roster from the entries of an image. -/
def parseRoster (b : Bytes) : Roster :=
  { gen := fld b 8 2, authority := sub b 0x10 16,
    entries := (List.range (fld b 7 1)).map fun i =>
      let o := 0x20 + 32 * i
      (fld b o 8, sub b (o + 8) 16, fld b (o + 24) 1) }

/-- Indexes rise strictly, each at most 31. -/
def indexesOk : List (Nat × Bytes × Nat) → Bool
  | [] => true
  | [(_, _, i)] => decide (i ≤ 31)
  | (_, _, i) :: (c, f, j) :: l => decide (i < j) && indexesOk ((c, f, j) :: l)

/-- The image's format obeys Table 7-5, its tenant is the issuer and its MAC verifies. -/
def State.rosterOk (s : State) (t : Nat) (b : Bytes) : Bool :=
  let n := fld b 7 1
  sub b 0 4 == ascii "KHRI" && fld b 4 2 == 1 && fld b 6 1 == t && decide (n ≤ 32) && zeroAt b 0x0A 6 &&
    b.length == 0x40 + 32 * n && indexesOk (parseRoster b).entries &&
    (List.range n).all (fun i => zeroAt b (0x20 + 32 * i + 25) 7) &&
    b.drop (0x20 + 32 * n) == hmac256 (rosterKey s.vault.custodyNonce t (fld b 8 2)) (b.take (0x20 + 32 * n))

/-- The roster loads when it must (R216): the state, the custody entry after it, or the status. -/
def State.loadRoster (s : State) (t : Nat) (input : Bytes) : State × Except Status CustodyEntry :=
  let e := s.custodyEntry t
  if e.rosterGen = 0 ∨ (mapFind s.rosters t).isSome then (s, .ok e)
  else if ¬ s.rosterOk t input then (s, .error .imageInvalid)
  else
    let g := fld input 8 2
    let prev := if e.rosterGen = 1 then 0xFFFF else e.rosterGen - 1
    let load (s : State) : State := { s with rosters := mapSet s.rosters t (parseRoster input) }
    if g = e.rosterGen then (load s, .ok { e with rosterPending := false })
    else if g = prev ∧ e.rosterPending then (load s, .ok { e with rosterGen := g, rosterPending := false })
    else if g < e.rosterGen then (s, .error .imageStale)
    else (s, .error .imageInvalid)

/-- The custody nonce is drawn when it is needed and all zero (R214). -/
def State.needNonce (s : State) (k : State → State × Did) : State × Did :=
  if s.vault.custodyNonce ≠ zeros 32 then k s
  else s.withRandom 32 fun s1 b => k { s1 with vault := { s1.vault with custodyNonce := b } }

/-- The next roster generation (R218). -/
def nextGen (g : Nat) : Nat := if g = 0xFFFF then 1 else g + 1

/-- Changes of a tenant's custody entry, none where it stays. -/
def State.custodyChange (s : State) (t : Nat) (e : CustodyEntry) : List Change :=
  if e = s.custodyEntry t then [] else [.custody t e]

/-! ## Commands -/

/-- Quorum size M of a tenant. -/
def State.quorumM (s : State) (t : Nat) : Nat := ((s.custodyOf t).map (·.m)).getD 0

/-- Entries of the loaded roster. -/
def State.rosterCount (s : State) (t : Nat) : Nat := ((mapFind s.rosters t).map (·.entries.length)).getD 0

/-- QUORUM_BEGIN (R216, R222, Table 7-8). -/
def quorumBegin (c : Cmd) (s : State) : State × Did :=
  let p := fld c.body 0 1
  let u := fld c.body 1 1
  if c.body.length ≠ 8 ∨ p = 0 ∨ u = 0 ∨ 16 < u ∨ ¬ zeroAt c.body 2 6 then (s, .done (fail .bodyInvalid))
  else match s.custodyOf c.tenant with
    | none => (s, .done (fail .custodianUnknown))
    | some cu =>
      match s.loadRoster c.tenant c.input with
      | (s1, .error st) => (s1, .done (fail st))
      | (s1, .ok e) =>
        let s2 := s1.setQuorum c.tenant { phase := 1, purposes := BitVec.ofNat 8 p, uses := u }
        (s2, .done { body := natLE 1 cu.m ++ natLE 1 (s2.rosterCount c.tenant) ++ natLE 2 e.rosterGen ++ zeros 4,
                     changes := s.custodyChange c.tenant e })

/-- QUORUM_STATUS (R226). -/
def quorumStatus (c : Cmd) (s : State) : State × Did :=
  if c.body ≠ [] then (s, .done (fail .bodyInvalid))
  else
    let q := s.quorum c.tenant
    (s, .done {
      body := natLE 1 q.phase ++ natLE 1 q.counted.length ++ natLE 1 (if q.phase = 0 then 0 else q.uses) ++
        natLE 1 q.purposes.toNat ++ natLE 1 (s.quorumM c.tenant) ++ zeros 3 ++ natLE 8 q.openTick ++ natLE 8 q.closeTick
      out := ((mapFind s.rosters c.tenant).map (s.rosterImage c.tenant)).getD [] })

/-- QUORUM_CANCEL (R222). -/
def quorumCancel (c : Cmd) (s : State) : State × Did :=
  if c.body ≠ [] then (s, .done (fail .bodyInvalid)) else (s.setQuorum c.tenant {}, .done {})

/-- The answer of CUSTODIAN_ENROL and CUSTODIAN_REMOVE (Table 7-8). -/
def State.rosterResult (s : State) (t cardId : Nat) (r : Roster) (cs : List Change) : Result :=
  { body := natLE 8 cardId ++ natLE 2 r.gen ++ natLE 1 r.entries.length ++ zeros 5, out := s.rosterImage t r, changes := cs }

/-- CUSTODIAN_REMOVE (R219). -/
def custodianRemove (c : Cmd) (s : State) : State × Did :=
  let id := fld c.body 0 8
  if c.body.length ≠ 8 then (s, .done (fail .bodyInvalid))
  else s.withQuorum c.tenant purposeRoster fun s =>
    match mapFind s.rosters c.tenant with
    | none => (s, .done (fail .custodianUnknown))
    | some r =>
      if r.entries.all fun x => x.1 != id then (s, .done (fail .custodianUnknown))
      else
        let l := r.entries.filter fun x => x.1 != id
        if l.length < s.quorumM c.tenant then (s, .done (fail .quorumMissing))
        else
          let e := s.custodyEntry c.tenant
          let r1 := { r with gen := nextGen e.rosterGen, entries := l }
          let s1 := { s with rosters := mapSet s.rosters c.tenant r1 }
          (s1, .done (s1.rosterResult c.tenant id r1
            [.custody c.tenant { e with rosterGen := r1.gen, rosterPending := false }]))

end Sys2Proof.Machine
end

