-- ==== Sys2Proof/Machine/Tamper.lean ====
section
/-! DEFINITION. Tamper monitors, responses, felling, the wake ledger and the tally (R512 to R533). -/

namespace Sys2Proof.Machine

/-! ## Responses in force (R512, R517, R518) -/

/-- Response codes of Tables 17-3 and 17-6. -/
def responseCode : Response → Nat
  | .record => 0 | .sever => 1 | .fell => 2 | .none => 3

/-- Default response of a class (Table 17-1). -/
def defaultResponse (c : Nat) : Response :=
  if c ≤ 12 ∨ c = 17 ∨ c = 20 ∨ c = 21 then .fell else if c ≤ 19 then .sever else .none

/-- Classes whose response is FELL whenever main power is absent (Table 17-1). -/
def dormantFell (c : Nat) : Bool := decide (c ≤ 12) || c == 16 || c == 18 || c == 19

/-- The response of a class: forced, in force from the settings, or the default. -/
def State.response (s : State) (c : Nat) : Response :=
  if c = 12 ∨ s.mode = .dormant ∧ dormantFell c ∨ c ≤ 3 ∧ s.life = .owned then .fell
  else if s.man.applied then (s.man.set.tamper.getD c {}).response
  else defaultResponse c

/-- Debounce of a class; a glitch class's window is 10 ticks (R514). -/
def State.debounce (s : State) (c : Nat) : Nat :=
  if 13 ≤ c ∧ c ≤ 15 then 10 else if s.man.applied then (s.man.set.tamper.getD c {}).debounce else 0

/-- The battery island samples in the doze regime (R65, R524). -/
def State.dozing (s : State) : Bool :=
  s.mode == .dormant || s.mode == .recovery || !s.man.applied || s.bootStage == 15 || s.life == .factory

/-! ## Severing and felling -/

/-- Records fetched and not started complete with ABORTED (R520 step 2). -/
def State.abortUnstarted (s : State) : State :=
  s.waiting.foldl (fun s r => (s.notRun r.tenant r.seq .aborted).conclude r .aborted 0xFFFF false false) s

/-- SEVER (R520 steps 1 and 2). -/
def State.sever (s : State) : State :=
  if s.tmp.severed then s
  else { s with tmp := { s.tmp with severed := true, tickSever := s.tick } }.abortUnstarted

/-- The vault zeroed and its live marker rewritten (R68, R521). -/
def emptyVault : Vault := { marker := true }

/-- Every item of Table 17-4 is zeroed; with the memory keys every line of sealed memory is lost (R411, R521). -/
def State.zeroArrays (s : State) : State :=
  { s with
    vault := emptyVault
    cel := { s.cel with slots := [], dir := [], bootKeys := [], cache := [], felledAt := [], advances := [], blobs := []
                        blinding := [] }
    board := { postings := s.board.postings, refused := s.board.refused, waits := s.board.waits
               resends := s.board.resends, rollbacks := s.board.rollbacks }
    mem := s.mem.filter fun c => decide (0x08000000 ≤ c.1)
    smc := { s.smc with keys := [], lines := [] }
    rsw := { s.rsw with spare := [] }
    outcomes := [], floors := [], kh1 := [], rosters := [], receipts := [], rounds := []
    rng := { s.rng with st := .starting, blocks := 0, need := 3, since := 0, cipherBuf := 0, bigBuf := 0 }
    lcs := { s.lcs with warrantActive := false } }

/-- FELL (R61, R521, R522, R525): started commands end without completion, and a barrier or BOOT stage is abandoned. The
model takes the assertion at the tick of the decision (entry 15). -/
def State.fell (s : State) : State :=
  if s.mode = .dormant then { s with vault := emptyVault }
  else
    let s1 := s.zeroArrays
    { s1 with
      mode := .felled, bootStage := 0, barrier := none, barrierQ := [], running := [], waiting := []
      pwr := { s1.pwr with req := none }
      man := { s1.man with session := none }
      tmp := { s1.tmp with felled := true, tickFell := s1.tick } }.emit .fellLine

/-! ## The wake ledger (R526, R527) -/

/-- An entry of the wake ledger. -/
def State.wakeEntry (s : State) (i : Nat) : WakeEntry := mapGet {} s.tmp.wake i

/-- Age of an entry in the wake sequence. -/
def State.wakeAge (s : State) (i : Nat) : Nat := (s.tmp.wakeSeq + 65536 - (s.wakeEntry i).seq) % 65536

/-- The entry that a new event takes: one not valid, else the oldest tallied one. -/
def State.wakeSlot (s : State) : Option Nat :=
  ((List.range 16).find? fun i => !(s.wakeEntry i).valid).orElse fun _ =>
    ((List.range 16).filter fun i => (s.wakeEntry i).tallied).foldl (fun b i => match b with
      | none => some i
      | some j => if s.wakeAge j < s.wakeAge i then some i else some j) none

/-- An alarm enters the wake ledger: its wake sequence, or none where the ledger is full. -/
def State.enterWake (s : State) (c : Nat) (r : Response) (detail : Word32) (doze : Bool) : State × Option Nat :=
  match s.wakeSlot with
  | some i =>
    let e : WakeEntry := { cls := c, valid := true, response := responseCode r, doze, batteryOnly := s.mode == .dormant
                           seq := s.tmp.wakeSeq, detail }
    ({ s with tmp := { s.tmp with wake := mapPut {} s.tmp.wake i e, wakeSeq := (s.tmp.wakeSeq + 1) % 65536 } },
      some s.tmp.wakeSeq)
  | none => ({ s with tmp := { s.tmp with overflow := min 255 (s.tmp.overflow + 1) } }, none)

/-! ## Alarms (R516, R519, R523) -/

/-- An event's tally increment waits its turn; none is made in RAW (R531). -/
def State.tallyLater (s : State) (c : Nat) (wake : Option Nat) : State :=
  if s.life = .raw then s else { s with tal := { s.tal with queue := s.tal.queue ++ [{ cls := c, wake }] } }

/-- Ring-log entry of an alarm (R519). -/
def State.alarmEntry (s : State) (c : Nat) (r : Nat) (wake : Option Nat) (detail : Word32) : State :=
  s.logEvent 0x0701 (if r = 0 then .warn else .alarm) islAlways 0x100 .ok [c, r, wake.getD (2 ^ 64 - 1), detail.toNat]

/-- An alarm is recorded: wake ledger, cause, tally and ring log. In DORMANT only the wake ledger is powered. -/
def State.recordAlarm (s : State) (doze : Bool) (a : Nat × Word32) : State :=
  let (c, d) := a
  let r := s.response c
  let s0 := { s with tmp := { s.tmp with raised := s.tmp.raised ||| BitVec.ofNat 32 (2 ^ c) } }
  let (s1, w) := s0.enterWake c r d doze
  if s.mode = .dormant then s1
  else (((s1.raise .tmp c).alarmEntry c (responseCode r) w d).tallyLater c w)

/-- Alarms of one cycle are decided in ascending class order, and the highest response governs (R523). -/
def State.decideAlarms (s : State) (doze : Bool) (l : List (Nat × Word32)) : State :=
  let inOrder := (List.range 22).flatMap fun c => (l.filter fun x => x.1 == c).take 1
  let resp := inOrder.map fun x => s.response x.1
  let s1 := inOrder.foldl (fun s x => s.recordAlarm doze x) s
  if resp.contains .fell then s1.fell else if resp.contains .sever ∧ s.mode ≠ .felled then s1.sever else s1

/-! ## Conditions (R513 to R516) -/

/-- A class's condition is seen to hold from the present tick. -/
def State.seeCondition (s : State) (c : Nat) (d : Word32) : State :=
  { s with tmp := { s.tmp with
      condition := s.tmp.condition ||| BitVec.ofNat 32 (2 ^ c)
      onset := if s.tmp.condition.getLsbD c then s.tmp.onset else mapSet s.tmp.onset c (s.tick, d) } }

/-- A class's condition is seen not to hold, which rearms the class. -/
def State.clearCondition (s : State) (c : Nat) : State :=
  { s with tmp := { s.tmp with
      condition := s.tmp.condition &&& ~~~ BitVec.ofNat 32 (2 ^ c), raised := s.tmp.raised &&& ~~~ BitVec.ofNat 32 (2 ^ c)
      onset := mapDel s.tmp.onset c } }

/-- A condition of the class may raise an alarm now. -/
def State.armed (s : State) (c : Nat) : Bool := !s.tmp.raised.getLsbD c

/-- The monitor samples only in doze windows now. -/
def State.sampled (s : State) (c : Nat) (d : Word32) : Bool := s.dozing && batteryClass c d

/-- TAMPER_CONDITION_ONSET: a debounce of 0 raises the alarm at the first tick. Monitors on main power do not run in
DORMANT, and a dozing monitor sees nothing between samples. -/
def State.tamperOnset (s : State) (c : Nat) (d : Word32) : State :=
  if s.mode = .dormant ∨ s.sampled c d ∨ 22 ≤ c then s
  else
    let s1 := s.seeCondition c d
    if s.debounce c = 0 ∧ s.armed c then s1.decideAlarms false [(c, d)] else s1

/-- TAMPER_CONDITION_CLEAR. -/
def State.tamperClear (s : State) (c : Nat) : State :=
  let d := (mapGet (0, 0) s.tmp.onset c).2
  if s.mode = .dormant ∨ s.sampled c d then s else s.clearCondition c

/-- TAMPER_DEBOUNCE_EXPIRY: the classes named whose conditions have held throughout their windows. A low glitch excursion
that outlasts its window is a loss of main power and has its own row (R514). -/
def State.debounceEnd (s : State) (l : List (Nat × Word32)) : State :=
  s.decideAlarms false (l.filter fun x =>
    let o := mapGet (0, 0) s.tmp.onset x.1
    s.mode != .dormant && s.tmp.condition.getLsbD x.1 && s.armed x.1 && !s.sampled x.1 x.2 &&
      decide (o.1 + s.debounce x.1 ≤ s.tick) && (decide (x.1 < 13) || decide (15 < x.1) || o.2.getLsbD 0))

/-- Main power is lost: the device passes to DORMANT, where only the battery island runs (R59, R514). -/
def State.powerLoss (s : State) : State :=
  if s.mode = .dormant then s else { s.deviceReset s.resetCause with mode := .dormant, bootStage := 0, mainPower := false }

/-- GLITCH_EXCURSION_END (R514). -/
def State.glitchEnd (s : State) (c first : Nat) (d : Word32) : State :=
  if s.mode = .dormant ∨ c < 13 ∨ 15 < c then s
  else if ¬ d.getLsbD 0 ∧ first + 10 ≤ s.tick then s.powerLoss
  else if s.armed c then ((s.seeCondition c d).decideAlarms false [(c, d)]).clearCondition c
  else s.clearCondition c

/-- DOZE_SAMPLE: one sample judges every battery-island monitor (R516, R524, R525). -/
def State.dozeSample (s : State) (held : List (Nat × Word32)) : State :=
  if ¬ s.dozing then s
  else
    let h := held.filter fun x => batteryClass x.1 x.2
    let gone := (List.range 22).filter fun c =>
      s.tmp.condition.getLsbD c && batteryClass c (mapGet (0, 0) s.tmp.onset c).2 && !h.any fun x => x.1 == c
    let s1 := gone.foldl State.clearCondition s
    let new := h.filter fun x => s1.armed x.1
    (h.foldl (fun s x => s.seeCondition x.1 x.2) s1).decideAlarms true new

/-- CLEARS_DONE: every domain but PD0 to PD2 is OFF, and what the others held is lost with them (R522). -/
def State.clearsDone (s : State) : State :=
  if s.mode ≠ .felled ∨ s.tmp.cleared then s
  else
    let off := ((List.range 17).flatMap fun d => (List.range (if d + 3 = 10 ∨ d + 3 = 13 ∨ d + 3 = 14 then 16 else
      if d + 3 = 12 then 8 else if d + 3 = 8 ∨ d + 3 = 9 ∨ d + 3 = 15 then 4 else if d + 3 = 17 ∨ d + 3 = 18 then 2 else 1)).map
        fun u => unitKey (d + 3) u)
    { s with
      pwr := { s.pwr with unit := off.foldl (fun m k => mapSet m k .off) s.pwr.unit }
      tmp := { s.tmp with cleared := true }
      sessions := [], quorums := [], twin := State.reset.twin, car := State.reset.car
      ndl := State.reset.ndl, lanes := State.reset.lanes, digests := [], rng := { State.reset.rng with st := .off }
      cel := State.reset.cel, curves := [], late := [], poison := [], smc := State.reset.smc, rsw := State.reset.rsw
      iso := { State.reset.iso with repair := s.iso.repair }, mem := [], cards := State.reset.cards
      board := State.reset.board, ports := State.reset.ports }

/-! ## The tally (R530, R531) -/

/-- OTP bits of a counter. -/
def State.tallyBits (s : State) (c : Nat) : BitVec 64 := mapGet 0 s.otp.tally c

/-- The lowest clear bit of a counter that has not failed in this boot. -/
def State.tallyBit (s : State) (c : Nat) : Option Nat :=
  (List.range 64).find? fun b => !(s.tallyBits c).getLsbD b && !s.tal.failed.contains (64 * c + b)

/-- The increment at the front of the queue is done: its wake-ledger entry is marked tallied, and an overflow count goes
down with its class 24 increment (R527, R531). -/
def State.tallied (s : State) (j : TallyJob) : State :=
  { s with
    tal := { s.tal with queue := s.tal.queue.drop 1 }
    tmp := { s.tmp with
      overflow := if j.cls = 24 then s.tmp.overflow - 1 else s.tmp.overflow
      wake := match j.wake with
        | none => s.tmp.wake
        | some q => s.tmp.wake.map fun p => (p.1, if p.2.seq = q ∧ p.2.valid then { p.2 with tallied := true } else p.2) } }

/-- A bit of a counter is programmed. -/
def State.setTally (s : State) (c b : Nat) : State :=
  { s with otp := { s.otp with tally := mapPut 0 s.otp.tally c (s.tallyBits c ||| BitVec.ofNat 64 (2 ^ b)) } }

/-- TALLY_INCREMENT: the front increment's bit is written and read back; a second failure moves to the next bit. A
saturated counter takes no bit. -/
def State.tallyStep (s : State) (verified : Bool) : State :=
  match s.tal.queue with
  | [] => s
  | j :: rest =>
    if s.life = .raw ∨ ¬ s.mainPower then s
    else match s.tallyBit j.cls with
      | none => s.tallied j
      | some b =>
        if verified then (s.setTally j.cls b).tallied j
        else if j.retried then
          let s1 := { s with tal := { s.tal with queue := { j with retried := false } :: rest, writeFault := true
                                                 failed := (64 * j.cls + b) :: s.tal.failed } }
          (s1.raise .integrity 7).logEvent 0x0004 .alarm islAlways 0x100 .ok [j.cls, b]
        else { s with tal := { s.tal with queue := { j with retried := true } :: rest } }

/-- An internal event of a class without a response is tallied (R30, R301). -/
def State.countEvent (s : State) (c : Nat) : State := s.tallyLater c none

end Sys2Proof.Machine
end

