-- ==== Sys2Proof/Machine/LifeCycle.lean ====
section
/-! DEFINITION. Life-cycle transitions and debug warrants (R32 to R56, R606). -/

namespace Sys2Proof.Machine

/-! ## Transitions -/

/-- Code of a state, Table 2-2. -/
def lifeCodeWord (n : Nat) : Word32 :=
  if n = 1 then 0x000000FF else if n = 2 then 0x00003FFF else if n = 3 then 0x000FFFFF else if n = 4 then 0x03FFFFFF
  else if n = 5 then 0xFFFFFFFF else 0

/-- The writes of a transition to a target: its new bits ascending, each in copy 0, 1 and 2 (R37). -/
def transitionWrites (old : Word32) (target : Nat) : List (Nat × Nat) :=
  ((List.range 32).filter fun b => (lifeCodeWord target).getLsbD b && !old.getLsbD b).flatMap
    fun b => [(b, 0), (b, 1), (b, 2)]

/-- A glitch detector on VDD_CORE or VDDIO reports (R38). -/
def State.glitching (s : State) : Bool := s.tmp.condition.getLsbD 13 || s.tmp.condition.getLsbD 15

/-- The stored warrant is erased (R43 step 3, R55). -/
def State.eraseWarrant (s : State) : State :=
  { s with vault := { s.vault with warrant := none }, lcs := { s.lcs with warrantActive := false } }

/-- The NOTICE entry of a transition (R43 step 4). -/
def State.logTransition (s : State) (old new : Nat) : State :=
  s.logEvent 0x0003 .notice islWarden 0x100 .ok [old, new]

/-- A transition's writes begin (R43 step 5). -/
def State.program (s : State) (target : Nat) (ref : Option RecRef) : State :=
  { s with lcs := { s.lcs with write := some { target, todo := transitionWrites s.voted target, ref } } }

/-- issuer_id of a P-384 public key, x then y little-endian: the digest of its uncompressed point (Table 2-6). -/
def issuerId (pub : Bytes) : Bytes := (sha384 ([0x04] ++ (sub pub 0 48).reverse ++ (sub pub 48 48).reverse)).take 16

/-- Vendor authority's public key. -/
def vendorPub : Bytes := natLE 96 Config.vendorKey.toNat

/-- Public key of the authority that the state asks for (Table 2-8 order 3). -/
def State.warrantKey (s : State) : Bytes := if s.life = .factory then vendorPub else sub s.man.header 0x80 96

/-- Checks 1 to 5 of Table 2-8 on a warrant, of kind 1, or on a transition certificate, of kind 2 (R52, R56). -/
def State.warrantCheck (s : State) (w : Bytes) (kind : Nat) : Option Status :=
  let key := s.warrantKey
  firstFail [
    (s.life ∈ [.factory, .owned, .retired], .lifecycleLocked),
    (w.length == 160 && sub w 0 4 == ascii "KHDW" && fld w 4 2 == 1 && fld w 7 1 == kind && zeroAt w 0x26 2 &&
      zeroAt w 0x2C 4 && fld w 0x24 1 != 0 && (kind == 1 || (fld w 0x24 1 == 1 && fld w 0x28 4 == 0)), .warrantInvalid),
    (fld w 6 1 == (if s.life = .factory then 1 else 2) && sub w 0x30 16 == issuerId key, .warrantSignature),
    (p384Verify key (sha384 (sub w 0 0x40)) (sub w 0x40 96), .warrantSignature),
    (fld w 8 8 == s.otp.serial && fld w 0x25 1 == (if kind = 1 then lifeCode s.life else 2) &&
      sub w 0x10 16 == s.vault.nonce && fld w 0x20 4 == s.vault.bootCount, .warrantBinding)]

/-- Rights that a state grants (Table 2-7). -/
def grantable (l : Life) : Word32 := if l = .factory then 0x3FFF else 0x3F07

/-- The authorisation of Table 2-4. -/
def State.withTransition (s : State) (c : Cmd) (k : State → State × Did) : State × Did :=
  if s.life = .factory then
    match s.warrantCheck (c.body.drop 8) 2 with
    | some st => (s, .done (fail st))
    | none => k s
  else s.withQuorum 0 purposeLife k

/-- Another life-cycle or warrant request is being handled (R42). -/
def State.lifeBusy (s : State) : Bool := s.lcs.write.isSome

/-- LIFECYCLE_ADVANCE (R42, R43, R606). -/
def lifecycleAdvance (c : Cmd) (s : State) : State × Did :=
  let old := lifeCode s.life
  let target := fld c.body 0 1
  if c.body.length ≠ (if s.life = .factory then 168 else 8) ∨ target ≠ old + 1 ∨ ¬ zeroAt c.body 1 7 then
    (s, .done (fail .bodyInvalid))
  else if s.lifeBusy then (s, .done (fail .busy))
  else s.withTransition c fun s =>
    let s1 := if s.life = .factory ∨ s.life = .owned then s.zeroArrays else s
    let s2 := s1.eraseWarrant.logTransition old target
    if s2.glitching then (s2, .done (fail .busy)) else (s2.program target (some c.record.ref), .wait .otp {})

/-- LCS_ADVANCE, the JTAG instruction, which RAW alone permits (R42, R43). -/
def State.lcsAdvance (s : State) : State :=
  if s.life ≠ .raw ∨ s.lifeBusy ∨ s.glitching ∨ s.mode = .dormant ∨ s.mode = .felled then s
  else (s.logTransition 0 1).program 1 none

/-- One bit of one copy of the code is programmed. -/
def State.setLcsBit (s : State) (b copy : Nat) : State :=
  let m : Word32 := BitVec.ofNat 32 (2 ^ b)
  { s with otp :=
      if copy = 0 then { s.otp with lcs0 := s.otp.lcs0 ||| m }
      else if copy = 1 then { s.otp with lcs1 := s.otp.lcs1 ||| m }
      else { s.otp with lcs2 := s.otp.lcs2 ||| m } }

/-- The command of a transition ends. -/
def State.endTransition (s : State) (w : LcsWrite) (res : Result) : State :=
  match w.ref.bind fun r => s.running.find? fun x => x.record.ref == r with
  | some run => s.finish run res
  | none => s

/-- The write under way ends the transition: the completion, then the internal reset (R43 steps 6 and 7), which an assertion
of SYS_RESET_N that waited replaces (R599). A device that has felled meanwhile writes no completion and stays FELLED (R39). -/
def State.transitionDone (s : State) (w : LcsWrite) : State :=
  let s1 : State := { s with lcs := { s.lcs with write := none } }
  if s.mode = .felled then (if s.resetDue then s1.deviceReset 2 else s1)
  else if s.resetDue then s1.deviceReset 2
  else (s1.endTransition w {}).internalReset

/-- LCS_BIT_WRITE: the write at the front is verified, made once more, or fails for good (R37, R39, R40). -/
def State.lcsBit (s : State) (verified : Bool) : State :=
  match s.lcs.write with
  | none => s
  | some w =>
    match w.todo with
    | [] => s
    | (b, copy) :: rest =>
      if ¬ s.mainPower then s
      else if verified then
        let s1 := s.setLcsBit b copy
        if rest.isEmpty then s1.transitionDone w
        else { s1 with lcs := { s1.lcs with write := some { w with todo := rest, retried := false } } }
      else if w.retried then
        let s1 := ((({ s with lcs := { s.lcs with write := none } } : State).raise .integrity 7).logEvent 0x0004 .alarm
          islAlways 0x100 .ok [b, copy]).endTransition w (fail .computeFault)
        if s.resetDue then s1.deviceReset 2 else s1
      else { s with lcs := { s.lcs with write := some { w with retried := true } } }

/-! ## Warrants -/

/-- A refused warrant is logged (R53). -/
def State.refuseWarrant (s : State) (w : Bytes) (st : Status) : State :=
  s.logEvent 0x0006 .warn islWarden 0x100 st [fld w 0x28 4, fld w 0x30 8, fld w 0x38 8]

/-- ACCEPT_WARRANT (R52, R53, Table 2-8). -/
def acceptWarrant (c : Cmd) (s : State) : State × Did :=
  let w := c.body
  if w.length ≠ 160 then (s, .done (fail .bodyInvalid))
  else if s.lifeBusy then (s, .done (fail .busy))
  else
    let stop (s : State) (st : Status) : State × Did := (s.refuseWarrant w st, .done (fail st))
    match (s.warrantCheck w 1).orElse fun _ =>
        if fld w 0x28 4 &&& (grantable s.life).toNat = fld w 0x28 4 then none else some Status.warrantRights with
    | some st => stop s st
    | none =>
      let (s1, q) := if s.life = .factory then (s, none) else s.quorumUse 0 purposeWarrant
      match q with
      | some st => stop s1 st
      | none =>
        let s2 := { s1 with vault := { s1.vault with warrant := some w }, lcs := { s1.lcs with warrantActive := true } }
        ((s2.logEvent 0x0005 .notice islWarden 0x100 .ok [fld w 0x28 4, fld w 0x30 8, fld w 0x38 8]).raise .system 8, .done {})

/-- DROP_WARRANT (R55): the rights end, and with them what they hold. -/
def dropWarrant (c : Cmd) (s : State) : State × Did :=
  if c.body ≠ [] then (s, .done (fail .bodyInvalid))
  else
    let s1 := s.eraseWarrant
    ({ s1 with ports := { s1.ports with halted := [] }, pwr := { s1.pwr with override := [] } }.raise .system 8, .done {})

/-- RECOVERY_ENTER (R86). -/
def recoveryEnter (c : Cmd) (s : State) : State × Did :=
  if c.body ≠ [] then (s, .done (fail .bodyInvalid)) else ({ s with recoveryReq := true }, .reset {})

end Sys2Proof.Machine
end

