-- ==== Sys2Proof/Machine/SealedMem.lean ====
section
/-! DEFINITION. Sealed memory and the resaw engine (R399 to R422). -/

namespace Sys2Proof.Machine

/-! ## The code of a line (R406) -/

/-- Product in GF(2^8) with polynomial x^8 + x^4 + x^3 + x^2 + 1. -/
def gf8 (a b : Byte) : Byte :=
  ((List.range 8).foldl (fun (z, v) i =>
    (if b.getLsbD i then z ^^^ v else z, if v.getLsbD 7 then (v <<< 1) ^^^ 0x1D else v <<< 1)) ((0 : Byte), a)).1

/-- Power in GF(2^8). -/
def gf8Pow (a : Byte) : Nat → Byte
  | 0 => 1
  | n + 1 => gf8 a (gf8Pow a n)

/-- Inverse in GF(2^8). -/
def gf8Inv (a : Byte) : Byte := gf8Pow a 254

/-- Syndrome `j` of a word, first symbol of the highest degree. -/
def syndrome (c : Bytes) (j : Nat) : Byte := c.foldl (fun acc x => gf8 acc (gf8Pow 2 j) ^^^ x) 0

/-- Solution of a linear system over GF(2^8): rows of coefficients with the right side last. -/
def gf8Solve : Nat → List Bytes → Option Bytes
  | 0, _ => some []
  | n + 1, rows =>
    match rows.find? fun r => r.headD 0 != 0 with
    | none => none
    | some p =>
      let inv := gf8Inv (p.headD 0)
      let others := rows.erase p
      let red (r : Bytes) : Bytes := xorBytes r.tail (p.tail.map (gf8 (gf8 (r.headD 0) inv)))
      (gf8Solve n (others.map red)).map fun xs =>
        gf8 inv ((p.tail.zip xs).foldl (fun acc (a, x) => acc ^^^ gf8 a x) (p.getLastD 0)) :: xs

/-- Locator of the symbol at an index of an 80-symbol word. -/
def locator (i : Nat) : Byte := gf8Pow 2 (79 - i)

/-- Values of the errors at known indexes. -/
def errorValues (c : Bytes) (ix : List Nat) : Option Bytes :=
  gf8Solve ix.length ((List.range ix.length).map fun j => ix.map (fun i => gf8Pow (locator i) j) ++ [syndrome c j])

/-- The word with values added at indexes. -/
def addAt (c : Bytes) (ix : List Nat) (vs : Bytes) : Bytes :=
  (ix.zip vs).foldl (fun c (i, v) => c.set i (c.getD i 0 ^^^ v)) c

/-- The word has no error that the code sees. -/
def codeOk (c : Bytes) : Bool := (List.range 8).all fun j => syndrome c j == 0

/-- Indexes of `v` errors, where the syndromes name exactly so many. -/
def errorPlaces (c : Bytes) (v : Nat) : Option (List Nat) :=
  let rows := (List.range v).map fun r => (List.range (v + 1)).map fun k => syndrome c (r + k)
  match gf8Solve v rows with
  | none => none
  | some l =>
    let ix := (List.range 80).filter fun i =>
      (l.zipIdx.foldl (fun acc (a, k) => acc ^^^ gf8 a (gf8Pow (locator i) k)) (gf8Pow (locator i) v)) == 0
    if ix.length = v then some ix else none

/-- Correction of a word: at the erased indexes, or of up to 4 errors (R407 step 1). -/
def codeCorrect (c : Bytes) (erased : List Nat) : Option Bytes :=
  if codeOk c then some c
  else if erased ≠ [] then
    (errorValues c erased).bind fun vs => if codeOk (addAt c erased vs) then some (addAt c erased vs) else none
  else
    (List.range 4).findSome? fun k => (errorPlaces c (k + 1)).bind fun ix => (errorValues c ix).bind fun vs =>
      if codeOk (addAt c ix vs) then some (addAt c ix vs) else none

/-- Check symbols of 72 message symbols: the values that make every syndrome zero. -/
def checkSymbols (m : Bytes) : Bytes :=
  (errorValues (m ++ zeros 8) ((List.range 8).map (72 + ·))).getD []

/-! ## Lines (R403 to R405) -/

/-- Part `i` of the working keys. -/
def workKey (m : Bytes) (i : Nat) : Bytes := aesBlock m (BitVec.ofNat 8 i :: zeros 15)

/-- Product in GF(2^64) with polynomial x^64 + x^4 + x^3 + x + 1. -/
def gf64 (a b : BitVec 64) : BitVec 64 :=
  ((List.range 64).foldl (fun (z, v) i =>
    (if b.getLsbD i then z ^^^ v else z, if v.getLsbD 63 then (v <<< 1) ^^^ 0x1B else v <<< 1)) ((0 : BitVec 64), a)).1

/-- Tag of a line's ciphertext under a memory key and key index (R405). -/
def lineTag (m : Bytes) (k line : Nat) (ct : Bytes) : Bytes :=
  let h := BitVec.ofNat 64 (leNat ((workKey m 5).take 8)) ||| 1
  let ws := (chunks 8 ct).map (fun w => BitVec.ofNat 64 (leNat w)) ++ [BitVec.ofNat 64 (line + k * 2 ^ 48)]
  let s := ws.foldl (fun acc w => gf64 (acc ^^^ w) h) 0
  let pad := (aesBlock (workKey m 6 ++ workKey m 7) (natLE 8 line ++ natLE 1 k ++ zeros 7)).take 8
  xorBytes (natLE 8 s.toNat) pad

/-- The 80 stored bytes of a line; a poisoned line stores its tag inverted (R406, R409). -/
def lineStore (m : Bytes) (k line : Nat) (plain : Bytes) (poisoned : Bool) : Bytes :=
  let ct := xtsUnit true (workKey m 1 ++ workKey m 2) (workKey m 3 ++ workKey m 4) line plain
  let tag := lineTag m k line ct
  let msg := ct ++ if poisoned then tag.map (~~~ ·) else tag
  msg ++ checkSymbols msg

/-- What a read of a stored line gives. -/
inductive LineRead where
  | good (plain : Bytes) (corrected : Bool)
  | tagFailed
  | codeFailed
deriving DecidableEq, Repr

/-- A stored line read under a memory key and key index (R407). -/
def lineLoad (m : Bytes) (k line : Nat) (raw : Bytes) (erased : List Nat) : LineRead :=
  match codeCorrect raw erased with
  | none => .codeFailed
  | some c =>
    if sub c 64 8 = lineTag m k line (c.take 64) then
      .good (xtsUnit false (workKey m 1 ++ workKey m 2) (workKey m 3 ++ workKey m 4) line (c.take 64)) (c != raw)
    else .tagFailed

/-- The controller serves requests: a channel is up and PD16 is ON. -/
def State.smcReady (s : State) : Bool := s.smc.trained && s.smc.up0 && s.unitOn 16 0

/-- Capacity used in bytes. -/
def State.smcCapacity (s : State) : Nat := (s.smc.config.toNat % 128) * 2 ^ 30

/-- Memory key of an index for a line: a resaw's new key below its boundary (R419). -/
def State.lineKey (s : State) (k line : Nat) : Bytes :=
  if s.rsw.active ∧ s.rsw.key = k ∧ 64 * line < s.rsw.boundary then s.rsw.spare else s.smc.keys.getD k []

/-- Symbols that the mark of the line's channel erases (R402, R407). -/
def State.erased (s : State) (line : Nat) : List Nat :=
  let a := 64 * line
  let mk := if s.smc.up1 ∧ a / 4096 % 2 = 1 then s.smc.mark1 else s.smc.mark0
  if mk.getLsbD 0 ∧ s.smc.config.getLsbD 10 ∧ (mk.toNat / 2) % 2 = a / 64 % 2 then
    (List.range 8).map (Config.deviceSymbol ((mk.toNat / 4) % 16))
  else []

/-- A poisoned line is logged and counted (R414). -/
def State.linePoisoned (s : State) (k line : Nat) (code : Bool) : State :=
  let s1 := { s with smc := { s.smc with
    uncorrectable := if code then sat32 s.smc.uncorrectable else s.smc.uncorrectable
    tagFails := if code then s.smc.tagFails else sat32 s.smc.tagFails } }
  (s1.raise .integrity 3).logEvent 0x0206 .alarm islMemory 0x100 .dataPoisoned [line, k]

/-- A line is read: none where it is poisoned. A corrected line is written back (R407). A line that nothing has written
fails its tag. DESIGN CHOICE (entry 17): R411 says that it reads as poisoned, not by which check. -/
def State.readLine (s : State) (k line : Nat) : State × Option Bytes :=
  let m := s.lineKey k line
  match (match mapFind s.smc.lines line with
      | none => LineRead.tagFailed
      | some raw => lineLoad m k line raw (s.erased line)) with
  | .good p c =>
    (if c then { s with smc := { s.smc with corrected := sat32 s.smc.corrected,
                                             lines := mapSet s.smc.lines line (lineStore m k line p false) } } else s, some p)
  | .tagFailed => (s.linePoisoned k line false, none)
  | .codeFailed => (s.linePoisoned k line true, none)

/-- Line writes of a key index are counted. -/
def State.countWrites (s : State) (k n : Nat) : State :=
  { s with smc := { s.smc with writes := mapPut 0 s.smc.writes k (min (2 ^ 64 - 1) (mapGet 0 s.smc.writes k + n)) } }

/-- A whole line is written (R408). -/
def State.writeLine (s : State) (k line : Nat) (plain : Bytes) : State :=
  { s with smc := { s.smc with lines := mapSet s.smc.lines line (lineStore (s.lineKey k line) k line plain false) } }.countWrites
    k 1

/-! ## Training (R400, R401) -/

/-- SDRAM_TRAINING_DONE: the part that the memory island does. -/
def State.trainingDone (s : State) (ch0 ch1 mismatch : Bool) (config : Word32) : State :=
  if s.smc.trained ∨ s.smc.keys = [] ∨ ¬ s.unitOn 16 0 ∨ s.mode = .dormant ∨ s.mode = .felled then s
  else
    let up0 := ch0
    let up1 := ch1 && !mismatch
    let s1 := { s with smc := { s.smc with up0, up1, trained := true, mismatch,
                                            config := if up0 || up1 then config &&& 0x1F7F else 0 } }
    if up0 || up1 then s1 else (s1.raise .integrity 6).logEvent 0x0207 .alarm islMemory 0x100 .ok []

/-! ## Key indexes of pages (R412) -/

/-- Reset value of a POT entry (Table 16-2). -/
def potReset (i : Nat) : BitVec 16 := if i < 0x10000 then 0x0500 else 0x0100

/-- A POT entry. -/
def State.pot (s : State) (i : Nat) : BitVec 16 := (mapFind s.iso.pot i).getD (potReset i)

/-- A POT entry takes a value. -/
def State.setPot (s : State) (i : Nat) (v : BitVec 16) : State :=
  let s1 := s.freshWords .pot i 1
  { s1 with iso := { s1.iso with pot := mapPut (potReset i) s1.iso.pot i v } }

/-- Key index that matches an entry's owner. -/
def potKey (e : BitVec 16) : Nat := if e.getLsbD 8 then 0 else e.toNat % 256

/-- Sealed pages of a key index, ascending. -/
def State.pagesOf (s : State) (k : Nat) : List Nat :=
  (List.range (s.smcCapacity / 2 ^ 21)).filter fun p => potKey (s.pot (0x10000 + p)) == k

/-! ## The resaw engine (R417 to R421) -/

/-- A resaw of an index starts: the new key is drawn and the boundary stands at the index's first page. -/
def State.resawBegin (s : State) (k : Nat) : State :=
  match s.random 32 with
  | none => s.refused
  | some (s1, b) =>
    { s1 with rsw := { s1.rsw with key := k, active := true, paused := false, startRefused := false, spare := b,
                                    boundary := 2 ^ 21 * (s1.pagesOf k).headD 0, last := s1.tick } }

/-- A trigger waits its turn in ascending key index. -/
def insertAsc (k : Nat) (l : List Nat) : List Nat := l.filter (· < k) ++ [k] ++ l.filter (k < ·)

/-- RESAW_START: a write of RSW_CTRL.start, or a warden trigger for an index (R417). -/
def State.resawStart (s : State) (index : Option Nat) : State :=
  if ¬ s.smcReady ∨ s.smc.keys = [] then s
  else match index with
    | none =>
      if s.rsw.active then { s with rsw := { s.rsw with startRefused := true } } else s.resawBegin s.rsw.ctrlKey
    | some k =>
      if s.rsw.active then { s with rsw := { s.rsw with queue := insertAsc k s.rsw.queue } } else s.resawBegin k

/-- The last window is done (R418): the new key takes the old one's place, and the next trigger starts. -/
def State.resawEnd (s : State) : State :=
  let s1 := { s with
    smc := { s.smc with keys := s.smc.keys.set s.rsw.key s.rsw.spare, writes := mapDel s.smc.writes s.rsw.key }
    rsw := { s.rsw with active := false, spare := [], resaws := sat32 s.rsw.resaws } }
  let s2 := s1.raise .system 7
  match s2.rsw.queue with
  | [] => s2
  | k :: ks => { s2 with rsw := { s2.rsw with queue := ks } }.resawBegin k

/-- Lines of a window under the new key; a line that does not verify becomes stored poison, which an unwritten line is. -/
def State.resawLine (s : State) (line : Nat) : State :=
  match mapFind s.smc.lines line with
  | none => s
  | some raw =>
    match lineLoad (s.smc.keys.getD s.rsw.key []) s.rsw.key line raw (s.erased line) with
    | .good p _ =>
      { s with smc := { s.smc with lines := mapSet s.smc.lines line (lineStore s.rsw.spare s.rsw.key line p false) } }
    | _ => { s with smc := { s.smc with lines := mapDel s.smc.lines line } }

/-- RESAW_WINDOW: one window is locked, rewritten and passed (R418). How many of its lines are poisoned is the SDRAM's. -/
def State.resawWindow (s : State) (poisoned : Nat) : State :=
  if ¬ s.rsw.active ∨ s.rsw.paused ∨ ¬ s.smcReady ∨ s.tick < s.rsw.last + s.rsw.pace then s
  else
    let b := s.rsw.boundary
    let page := b / 2 ^ 21
    let n := min poisoned 64
    let s1 := ((List.range 64).map (b / 64 + ·)).foldl State.resawLine s
    let s2 := { s1 with
      smc := { s1.smc with poisonWrites := min 0xFFFFFFFF (s1.smc.poisonWrites + n) }
      rsw := { s1.rsw with skipped := min 0xFFFFFFFF (s1.rsw.skipped + n), boundary := b + 4096, last := s1.tick } }
    let s3 := s2.countWrites s.rsw.key 64
    if (b + 4096) / 2 ^ 21 = page then s3
    else match (s3.pagesOf s.rsw.key).find? fun p => decide (page < p) with
      | some p => { s3 with rsw := { s3.rsw with boundary := 2 ^ 21 * p } }
      | none => s3.resawEnd

end Sys2Proof.Machine
end

