-- ==== Sys2Proof/Machine/Worlds.lean ====
section
/-! DEFINITION. Worlds, protection units, bank groups, and memory that the bus reaches (R489 to R511). -/

namespace Sys2Proof.Machine

/-! ## Memory of the scratch banks and local RAMs

A byte that nothing has written reads 0 (entry 8); the list holds no zero and its addresses rise strictly. -/

/-- A byte of memory. -/
def memGet (m : List Host.Cell) (a : Nat) : Byte := mapGet 0 m a

/-- Memory with a byte written. -/
def memPut (m : List Host.Cell) (a : Nat) (v : Byte) : List Host.Cell := mapPut 0 m a v

/-- Memory with bytes written from an address. -/
def memStore (m : List Host.Cell) (a : Nat) : Bytes → List Host.Cell
  | [] => m
  | b :: bs => memStore (memPut m a b) (a + 1) bs

/-- The canonical form. -/
def Memory.wf (m : List Host.Cell) : Bool := mapWf 0 m

/-! ## Addresses (R489) -/

/-- POT index of an internal address; none where no paged array lies. -/
def State.potOf (s : State) (a : Nat) : Option Nat :=
  if 0x04000000 ≤ a ∧ a < 0x07000000 then some ((a - 0x04000000) % 0x1000000 / 4096)
  else if 0x08000000 ≤ a ∧ a < 0x08000000 + 0x80000 * 20 then some (0x1000 + (a - 0x08000000) / 4096)
  else if 0x0C000000 ≤ a ∧ a < 0x0C800000 then some (0x2000 + (a - 0x0C000000) / 4096)
  else if 0x0E000000 ≤ a ∧ a < 0x0E100000 then some (0x2800 + (a - 0x0E000000) / 4096)
  else if 0x1000000000 ≤ a ∧ a < 0x1000000000 + s.smcCapacity then some (0x10000 + (a - 0x1000000000) / 2 ^ 21)
  else none

/-- An index of Table 16-1. -/
def State.potIndexOk (s : State) (i : Nat) : Bool :=
  decide (i < 0x1A00) || (decide (0x2000 ≤ i) && decide (i < 0x2900)) ||
    (decide (0x10000 ≤ i) && decide (i < 0x10000 + s.smcCapacity / 2 ^ 21))

/-- Owner of a POT entry: world above tenant. -/
def potOwner (e : BitVec 16) : BitVec 9 := e.setWidth 9
/-- Access field. -/
def potAccess (e : BitVec 16) : Nat := e.toNat / 2 ^ 9 % 4
/-- Share field. -/
def potShare (e : BitVec 16) : Nat := e.toNat / 2 ^ 12 % 4
/-- Lock bit. -/
def potLocked (e : BitVec 16) : Bool := e.getLsbD 11

/-- A transaction of an attribute passes a page (R492). -/
def potPasses (e : BitVec 16) (attr : BitVec 9) (write : Bool) : Bool :=
  (if write then potAccess e == 2 else potAccess e == 1 || potAccess e == 2) &&
    (potOwner e == attr || (potShare e == 1 && attr.getLsbD 8) || (potShare e == 2 && !attr.getLsbD 8))

/-- A target refuses a transaction (R18). -/
def State.busRefuse (s : State) (island : Nat) (attr : BitVec 9) (a : Nat) : State :=
  ({ s with iso := { s.iso with potRefusals := sat32 s.iso.potRefusals } } : State).logEvent 0x0101 .warn island attr.toNat
    .ownerMismatch [a, attr.toNat]

/-- Scratch group of an internal address. -/
def groupOf (a : Nat) : Option Nat :=
  if 0x04000000 ≤ a ∧ a < 0x07000000 then some ((a - 0x04000000) % 0x1000000 / 2 ^ 21) else none

/-- The unit of a bank group (Table 19-1). -/
def groupUnit (g : Nat) : Nat × Nat := (8 + g / 4, g % 4)

/-- A bank group. -/
def State.bank (s : State) (g : Nat) : Group := mapGet {} s.iso.group g

/-- A bank group is replaced. -/
def State.setBank (s : State) (g : Nat) (v : Group) : State :=
  { s with iso := { s.iso with group := mapPut {} s.iso.group g v } }

/-- An access of `n` bytes passes its target: every page's entry allows it, and a bank group is ON and not being handed over
(R492, R500, R503, R505). Answers the state after a refusal, or none. -/
def State.busCheck (s : State) (attr : BitVec 9) (a n : Nat) (write : Bool) : Option State :=
  let pages := [a, a + n - 1].map s.potOf
  let isl := if 0x1000000000 ≤ a then islMemory else if 0x08000000 ≤ a ∧ a < 0x08200000 then islWarden else islDrover
  if pages.any fun p => match p with
      | none => true
      | some i => !potPasses (s.pot i) attr write || s.poisoned .pot i 1 then some (s.busRefuse isl attr a)
  else match groupOf a with
    | some g =>
      if ¬ s.unitOn (groupUnit g).1 (groupUnit g).2 then
        some (({ s with iso := { s.iso with retainRefusals := sat32 s.iso.retainRefusals } } : State).busRefuse isl attr a)
      else if (s.bank g).next.isSome then some (s.busRefuse isl attr a)
      else none
    | none => none

/-- Bytes of an access of the bus: scratch, its aliases and local RAMs hold bytes, sealed lines verify or are poisoned (none),
and the ring log gives its slots' bytes (R489, R502). -/
def State.busLoad (s : State) (a n : Nat) : State × Option Bytes :=
  if 0x1000000000 ≤ a then
    let first := (a - 0x1000000000) / 64
    let last := (a + n - 1 - 0x1000000000) / 64
    let (s1, got) := ((List.range (last + 1 - first)).map (first + ·)).foldl (fun (s, acc) l =>
      let (s', p) := State.readLine s (potKey (s.pot (0x10000 + 64 * l / 2 ^ 21))) l
      (s', match acc, p with
        | some x, some y => some (x ++ y)
        | _, _ => none)) (s, some [])
    (s1, got.map fun b => sub b ((a - 0x1000000000) % 64) n)
  else if 0x0E000000 ≤ a ∧ a < 0x0E100000 then
    let slot (i : Nat) : Bytes := (mapFind s.log.slots i).elim (zeros 64) logBytes
    (s, some ((List.range n).map fun i => (slot ((a + i - 0x0E000000) / 64)).getD ((a + i) % 64) 0))
  else
    let at' (x : Nat) : Nat := if 0x04000000 ≤ x ∧ x < 0x07000000 then 0x04000000 + (x - 0x04000000) % 0x1000000 else x
    (s, some ((List.range n).map fun i => memGet s.mem (at' (a + i))))

/-- A sealed line takes bytes at an offset: whole, or by a read of the line first (R408). -/
def State.storeLine (s : State) (line o : Nat) (b : Bytes) : State :=
  let k := potKey (s.pot (0x10000 + 64 * line / 2 ^ 21))
  if b.length = 64 then s.writeLine k line b
  else match s.readLine k line with
    | (s1, some p) => s1.writeLine k line (p.take o ++ b ++ p.drop (o + b.length))
    | (s1, none) => s1

/-- Bytes of an access that writes. The set alias ORs the bytes in and the clear alias ANDs their complement; other sizes
than 4 and 8 are refused there before (R502). -/
def State.busStore (s : State) (a : Nat) (b : Bytes) : State :=
  if 0x1000000000 ≤ a then
    let x := a - 0x1000000000
    let o := x % 64
    let head := b.take (64 - o)
    let rest := chunks 64 (b.drop (64 - o))
    rest.zipIdx.foldl (fun s (c, i) => s.storeLine (x / 64 + 1 + i) 0 c) (s.storeLine (x / 64) o head)
  else
    let mode := if 0x04000000 ≤ a ∧ a < 0x07000000 then (a - 0x04000000) / 0x1000000 else 0
    let base := if mode = 0 then a else 0x04000000 + (a - 0x04000000) % 0x1000000
    let old := (List.range b.length).map fun i => memGet s.mem (base + i)
    let new := if mode = 1 then List.zipWith (· ||| ·) old b else if mode = 2 then
      List.zipWith (fun x y => x &&& ~~~ y) old b else b
    { s with mem := memStore s.mem base new }

/-! ## The page ownership table (R493, R494) -/

/-- Why a write of an entry is refused; 0 where it is accepted (R493). -/
def State.potCause (s : State) (i : Nat) (v : BitVec 16) : Nat :=
  let e := s.pot i
  let resawn (k : Nat) : Bool := s.rsw.active && s.rsw.key == k
  if ¬ s.potIndexOk i then 5
  else if potLocked e then 1
  else if potAccess v = 3 ∨ potShare v = 3 ∨ (potShare v = 2 ∧ potOwner v ≠ 0) then 2
  else if i < 0x1000 ∧ potOwner v ≠ potOwner e then 3
  else if 0x10000 ≤ i ∧ potKey v ≠ potKey e ∧ (resawn (potKey v) ∨ resawn (potKey e)) then 4
  else 0

/-- POT_ENTRY_EFFECT: an accepted entry takes effect; a sealed page that passes between owners of one key index is first
overwritten with stored poison (R413, R494). -/
def State.potEffect (s : State) : State :=
  match s.iso.potBusy with
  | none => s
  | some (i, v) =>
    let e := s.pot i
    let s1 := { s with iso := { s.iso with potBusy := none } }
    let s2 := if 0x10000 ≤ i ∧ potOwner v ≠ potOwner e ∧ potKey v = potKey e then
        let lo := (i - 0x10000) * 2 ^ 15
        { s1 with smc := { s1.smc with
          lines := s1.smc.lines.filter fun p => !(decide (lo ≤ p.1) && decide (p.1 < lo + 2 ^ 15))
          poisonWrites := min 0xFFFFFFFF (s1.smc.poisonWrites + 2 ^ 15) } }
      else s1
    s2.setPot i v

/-- POT_ENTRY_WRITE at the index of POT_INDEX (R493). -/
def State.potWrite (s : State) (v : BitVec 16) : State :=
  let s0 := s.potEffect
  let w := v &&& 0x3FFF
  let i := s0.iso.potIndex
  let c := s0.potCause i w
  if c = 0 then { s0 with iso := { s0.iso with potBusy := some (i, w), potRefused := 0 } }
  else { s0 with iso := { s0.iso with potRefused := c } }

/-- The entries that the warden writes at BOOT stage 8 (R495). -/
def State.potBoot (s : State) : State :=
  let lock := ((List.range 0x200).map (0x1000 + ·)) ++ ((List.range 0x100).map (0x2800 + ·))
  let s1 := lock.foldl (fun s i => s.setPot i 0x0D00) s
  ((List.range 0x800).map (0x1200 + ·)).foldl (fun s i => s.setPot i 0x0400) s1

/-! ## Protection units (R496, R499) -/

/-- An MPU entry. -/
def State.mpuEntry (s : State) (m e : Nat) : MpuEntry := mapGet {} s.iso.mpu (32 * m + e)

/-- MPU_ENTRY_WRITE: the warden writes any MPU's entries, a drover core those of its own (R499). -/
def State.mpuWrite (s : State) (p : Path) (m e reg : Nat) (v : Word32) : State :=
  let x := s.mpuEntry m e
  let allowed : Bool := match p with
    | .warden _ => true
    | .drover c => m == 4 + c
    | _ => false
  if ¬ allowed ∨ x.attr.getLsbD 7 ∨ s.mode = .dormant ∨ s.mode = .felled then s
  else
    let y := if reg = 0 then { x with base := v } else if reg = 4 then { x with limit := v }
      else if reg = 8 then { x with attr := v.setWidth 8 } else x
    { s with iso := { s.iso with mpu := mapPut {} s.iso.mpu (32 * m + e) y } }

/-- The KH-1 record that a drover core holds, MPU_CTRL.kh1_active (R499). -/
def State.kh1Run (s : State) (core : Nat) : Option RecRef :=
  (s.running.find? fun x => x.core == core && x.record.form == .kh1).map (·.record.ref)

/-- MPU_CTRL.kh1_straddle of a drover core (Table 16-7). -/
def State.straddling (s : State) (core : Nat) : Bool :=
  match s.kh1Run core with
  | some r => s.iso.straddle.contains (core, r)
  | none => false

/-- KH1_STRADDLE_WRITE (R499). -/
def State.setStraddle (s : State) (core : Nat) (on : Bool) : State :=
  match s.kh1Run core with
  | none => s
  | some r =>
    let l := s.iso.straddle.filter fun x => x.1 != core
    { s with iso := { s.iso with straddle := if on then (core, r) :: l else l } }

/-! ## Bank groups (R503) -/

/-- Entries of a group with a new owner. -/
def State.groupPot (s : State) (g : Nat) (owner : BitVec 9) : State :=
  ((List.range 512).map (512 * g + ·)).foldl (fun s i => s.setPot i (0x0400 ||| owner.setWidth 16)) s

/-- A group's words read zero. -/
def State.wipeGroup (s : State) (g : Nat) : State :=
  let lo := 0x04000000 + g * 2 ^ 21
  { s with mem := s.mem.filter fun c => !(decide (lo ≤ c.1) && decide (c.1 < lo + 2 ^ 21)) }

/-- BNK_GROUP_OWNER_WRITE (R503). -/
def State.groupOwner (s : State) (g : Nat) (v : Word32) : State :=
  let x := s.bank g
  let o : BitVec 9 := v.setWidth 9
  if s.mode = .dormant ∨ s.mode = .felled then s
  else if ((List.range 512).any fun i => potLocked (s.pot (512 * g + i))) ∨
      ¬ s.unitOn (groupUnit g).1 (groupUnit g).2 ∨ x.next.isSome then s.setBank g { x with refused := true }
  else if o = x.owner then
    { s.setBank g { x with refused := false } with iso := { (s.setBank g { x with refused := false }).iso with
        handovers := sat32 s.iso.handovers } }
  else s.setBank g { x with refused := false, next := some o }

/-- BANK_GROUP_WIPE_DONE: steps 3 to 5 of R503. -/
def State.groupDone (s : State) (g : Nat) : State :=
  let x := s.bank g
  match x.next with
  | none => s
  | some o =>
    let s1 := ((s.wipeGroup g).groupPot g o).setBank g { x with owner := o, next := none }
    { s1 with iso := { s1.iso with handovers := sat32 s1.iso.handovers } }

/-! ## DMA engines and interrupt lines (R509, R510) -/

/-- Owner of a DMA engine. -/
def State.dmaOwner (s : State) (k : Nat) : BitVec 9 := (mapFind s.iso.dma k).getD (if k < 8 then 0 else 0x100)

/-- ISO_DMA_ASSIGN_WRITE (R509). -/
def State.dmaAssign (s : State) (k : Nat) (v : Word32) : State :=
  if s.mode = .dormant ∨ s.mode = .felled then s
  else if (List.range 32).any fun e => (s.mpuEntry (20 + k) e).attr.getLsbD 7 then
    { s with iso := { s.iso with refused := true } }
  else
    { s with iso := { s.iso with
      refused := false
      dma := mapPut (if k < 8 then 0 else 0x100) s.iso.dma k (v.setWidth 9)
      mpu := s.iso.mpu.filter fun p => p.1 / 32 != 20 + k } }

/-- ISO_IRQ_ROUTE_WRITE (R510). -/
def State.irqRoute (s : State) (l core : Nat) : State :=
  if s.mode = .dormant ∨ s.mode = .felled then s
  else { s with iso := { s.iso with route := mapPut 0 s.iso.route l core,
                                     linesPending := s.iso.linesPending.filter (· != l) } }

end Sys2Proof.Machine
end

