-- ==== Sys2Proof/Machine/Boot.lean ====
section
/-! DEFINITION. Device resets and main power, the stages of BOOT, and RECOVERY (R59 to R86, R528, R538, R599, R603, R608). -/

namespace Sys2Proof.Machine

/-! ## Resets and power -/

/-- The battery island stops: what it holds is lost (R528). -/
def State.batteryLost (s : State) : State :=
  { s with
    vbat := false, vault := {}
    tmp := { s.tmp with overflow := 0, wake := [], wakeSeq := 0, seeded := false, seeds := [], condition := 0, raised := 0,
                        onset := [] } }

/-- MAIN_POWER_LOSS (R59, R514): without a cell the battery island stops too (R528). -/
def State.mainLoss (s : State) : State :=
  if s.mode = .dormant then s
  else if s.vbat ∧ ¬ s.tmp.condition.getLsbD 17 then s.powerLoss else s.powerLoss.batteryLost

/-- VBAT_LOSS_IN_DORMANT (R528). -/
def State.vbatLoss (s : State) : State := if s.mode = .dormant then s.batteryLost else s

/-- CELL_FITTED while main power is absent: the battery island powers up from its reset (R515). -/
def State.cellFitted (s : State) : State :=
  if s.mode = .dormant ∧ ¬ s.vbat then { s.batteryLost with vbat := true } else s

/-- POWER_ON_RESET: main power is within range. While SYS_RESET_N is asserted, BOOT waits (Table 3-2). -/
def State.powerOn (s : State) : State :=
  if s.sysReset ∧ s.mode = .dormant then { s with mainPower := true }
  else ({ s with mainPower := true } : State).deviceReset 1

/-- A bit of OTP is being programmed (R37, R531). -/
def State.otpBusy (s : State) : Bool := s.lcs.write.isSome || (!s.tal.queue.isEmpty && s.life != .raw)

/-- SYS_RESET_N_ASSERT (R599): too short an assertion is ignored; the reset waits for an OTP bit under way. -/
def State.resetAssert (s : State) (ns : Nat) : State :=
  if ns < 1000 ∨ (ns < 10000 ∧ ¬ Config.resetActs ns) then s
  else if s.mode = .dormant then { s with sysReset := true }
  else if s.otpBusy then { s with sysReset := true, resetDue := true }
  else ({ s with sysReset := true } : State).deviceReset 2

/-- SYS_RESET_N_DEASSERT: BOOT starts at tick 0 (R59). -/
def State.resetDeassert (s : State) : State :=
  if ¬ s.sysReset then s
  else if s.mode = .dormant then
    (if s.mainPower then ({ s with sysReset := false } : State).deviceReset 1 else { s with sysReset := false })
  else if s.resetDue then { s with sysReset := false }
  else { s with sysReset := false, tick := 0 }

/-- TALLY_INCREMENT, and the reset that waited for the bit (R531, R599). -/
def State.tallyRow (s : State) (verified : Bool) : State :=
  let s1 := s.tallyStep verified
  if s.resetDue ∧ s.lcs.write.isNone ∧ s1.tal.queue.length < s.tal.queue.length then s1.deviceReset 2 else s1

/-! ## The stages (Table 3-3) -/

/-- A stage of BOOT runs now. -/
def State.inStage (s : State) (n : Nat) : Bool := s.mode == .boot && s.bootStage == n && !s.sysReset

/-- BOOT stops (R64, R70). -/
def State.bootStop (s : State) : State := { s with bootStage := 15, host := { s.host with released := true } }

/-- BOOT goes on with a stage, or stops after the step because of a SEVER (R520). -/
def State.toStage (s : State) (n : Nat) : State := if s.tmp.severed then s.bootStop else { s with bootStage := n }

/-- BOOT enters RECOVERY (R63, R71, R78, R567); a SEVER stops it after the step (R520). -/
def State.enterRecovery (s : State) (cause : Nat) : State :=
  let s1 := { s with man := { s.man with failCause := cause } }
  let s2 := if cause = 11 then s1 else s1.logEvent 0x0007 .warn islWarden 0x100 .ok [cause]
  if s.tmp.severed then s2.bootStop
  else ({ s2 with host := { s2.host with released := true }, bootStage := 0, mode := .recovery } : State).enableAll

/-- The ring log at stage 1 (R538): cleared at a power-on reset, else without the entries that do not check. -/
def State.logBoot (s : State) (bad : List Nat) : State :=
  let s1 : State :=
    if s.resetCause.getLsbD 0 then { s with log := { s.log with slots := [], next := 1 } }
    else
      let keep := s.log.slots.filter fun p => !(p.2.bad || bad.contains p.1)
      let n := s.log.slots.length - keep.length
      { s with log := { s.log with
        slots := keep, checkFails := min 0xFFFFFFFF (s.log.checkFails + n)
        next := keep.foldl (fun m p => max m (p.2.seq + 1)) 1 } }
  s1.logEvent 0x0001 .notice islWarden 0x100 .ok [s1.log.slots.length]

/-- OTP_DECODE, stage 1 (R35, R36, R64, R538). -/
def State.otpDecode (s : State) (bad : List Nat) : State :=
  if ¬ s.inStage 1 then s
  else
    let s1 := ({ s with lcs := { s.lcs with copy0 := s.otp.lcs0, copy1 := s.otp.lcs1, copy2 := s.otp.lcs2 } } : State).logBoot
      bad
    let s2 := if s1.lcs.copy0 = s1.lcs.copy1 ∧ s1.lcs.copy1 = s1.lcs.copy2 then s1
      else s1.logEvent 0x0002 .warn islWarden 0x100 .ok [s1.lcs.copy0.toNat, s1.lcs.copy1.toNat, s1.lcs.copy2.toNat]
    if s2.life = .raw then s2.bootStop else s2.toStage 2

/-- One increment of a counter at stage 2. -/
def State.tallyNow (s : State) (c : Nat) : State :=
  match s.tallyBit c with
  | some b => s.setTally c b
  | none => s

/-- A wake-ledger entry is visited (R66): tallied, marked, and the ring-log entry of an alarm decided on battery alone is
raised (R519). -/
def State.visitWake (s : State) (i : Nat) : State :=
  let e := s.wakeEntry i
  let s1 := s.tallyNow e.cls
  let s2 := { s1 with tmp := { s1.tmp with wake := mapPut {} s1.tmp.wake i { e with tallied := true } } }
  if e.batteryOnly then s2.alarmEntry e.cls e.response (some e.seq) e.detail else s2

/-- Indexes of the untallied entries, oldest first. -/
def State.untallied (s : State) : List Nat :=
  ((List.range 16).filter fun i => (s.wakeEntry i).valid && !(s.wakeEntry i).tallied).mergeSort
    fun i j => decide (s.wakeAge j ≤ s.wakeAge i)

/-- TALLY_CATCH_UP, stage 2 (R66 to R69, R527, R64). -/
def State.catchUp (s : State) : State :=
  if ¬ s.inStage 2 then s
  else
    let s1 := s.untallied.foldl State.visitWake s
    let s2 := (List.range s1.tmp.overflow).foldl (fun s _ => s.tallyNow 24) s1
    let s3 : State := { s2 with tmp := { s2.tmp with overflow := 0 },
                                tal := { s2.tal with queue := s2.tal.queue.filter (·.wake.isNone), catchup := true } }
    let s4 : State := if s3.vault.marker then s3
      else { s3.tallyNow 22 with vault := emptyVault, man := { s3.man with vaultLoss := true } }
    if s4.life = .scrapped ∨ s4.life = .locked then s4.bootStop else s4.toStage 3

/-- The stored warrant is kept while its window of boots holds the counter (R54). -/
def State.warrantWindow (s : State) : State :=
  match s.vault.warrant with
  | none => s
  | some w =>
    let b := fld w 0x20 4
    if b ≤ s.vault.bootCount ∧ s.vault.bootCount < b + fld w 0x24 1 then
      { s with lcs := { s.lcs with warrantActive := true } }
    else s.eraseWarrant

/-- Draws of stages 3 and 4: cellar keys, memory keys, mesh seeds and the boot nonce; none where one is refused. -/
def State.bootDraws (s : State) : Option State :=
  (s.random 96).bind fun (s1, ck) => (s1.random 4096).bind fun (s2, m1) => (s2.random 4096).bind fun (s3, m2) =>
    (s3.random 48).bind fun (s4, seeds) => (s4.random 16).map fun (s5, nonce) =>
      { s5 with
        cel := { s5.cel with bootKeys := chunks 32 ck, ready := true }
        smc := { s5.smc with keys := chunks 32 (m1 ++ m2) }
        tmp := { s5.tmp with seeded := true, seeds := (chunks 4 seeds).map fun b => leNat b % 2 ^ 31 }
        vault := { s5.vault with nonce, bootCount := min 0xFFFFFFFF (s5.vault.bootCount + 1) } }

/-- ENTROPY_START_UP, stages 3 and 4 (R70, R54, R198, R411, R515). -/
def State.entropyBoot (s : State) (kat : Bool) (failed : List (Nat × Bool)) : State :=
  if ¬ s.inStage 3 then s
  else
    let stop (s : State) : State := { s with man := { s.man with failCause := 12 } }.bootStop
    match s.bootEntropy kat failed with
    | (s1, false) => stop s1
    | (s1, true) =>
      match s1.bootDraws with
      | none => stop s1.refused
      | some s2 => ({ s2.warrantWindow with lcs := { s2.warrantWindow.lcs with identity := true } } : State).toStage 5

/-! ## The manifest header (R75, R76, Table 3-8) -/

/-- Longest section of a type (Table 3-6). -/
def sectionLimit (t : Nat) : Nat := if t = 4 then 2 ^ 20 else if 1 ≤ t ∧ t ≤ 3 then 2 ^ 19 else 0

/-- Sections of a header: type, offset, length, digest. -/
def sections (h : Bytes) : List (Nat × Nat × Nat × Bytes) :=
  (List.range (fld h 6 2)).map fun i =>
    let o := 0x100 + 64 * i
    (fld h o 2, fld h (o + 4) 4, fld h (o + 8) 4, sub h (o + 0x10) 48)

/-- Ranges of sections that overlap nowhere. -/
def disjoint : List (Nat × Nat × Nat × Bytes) → Bool
  | [] => true
  | (_, o, n, _) :: l => l.all (fun (_, o', n', _) => decide (o + n ≤ o') || decide (o' + n' ≤ o)) && disjoint l

/-- Section types a state requires (Table 3-6). -/
def requiredTypes (l : Life) : List Nat := [1, if l = .factory then 3 else 2, 4]

/-- Check 2 of Table 3-8. -/
def headerFormat (h : Bytes) (l : Life) (flash : Nat) : Bool :=
  let n := fld h 6 2
  let ss := sections h
  h.length == 2048 && sub h 0 4 == ascii "KHMF" && fld h 4 2 == 1 && decide (1 ≤ n) && decide (n ≤ 16) &&
    fld h 0xC 1 &&& 0xE1 == 0 && decide (fld h 0xD 1 ≤ 15) && decide (fld h 0xE 1 ≤ 7) && decide (fld h 0xF 1 ≤ 63) &&
    zeroAt h 0xE0 32 && zeroAt h 0x500 512 && zeroAt h 0x760 160 && zeroAt h (0x100 + 64 * n) (64 * (16 - n)) &&
    (List.range n).all (fun i => zeroAt h (0x102 + 64 * i) 2 && zeroAt h (0x10C + 64 * i) 4) &&
    ss.all (fun (t, o, len, _) => decide (1 ≤ len) && decide (len ≤ sectionLimit t) && o % 4096 == 0 &&
      decide (0x1000 ≤ o) && decide (o + len ≤ min flash (2 ^ 26))) &&
    disjoint ss && decide (ss.map (·.1)).Nodup && (requiredTypes l).all fun t => (ss.map (·.1)).contains t

/-- Digest of a header (R75). -/
def headerDigest (h : Bytes) : Bytes := sha384 (sub h 0 0x700)

/-- The value of a slot setting equals the highest programmed slot, whose index the field gives (Table 3-9). -/
def lastSlot {α : Type} [DecidableEq α] (l : List α) (ix : Nat) (v : α) : Bool :=
  l.length == ix + 1 && l.getLast? == some v

/-- Check 3 of Table 3-8. -/
def State.headerSigned (s : State) (h : Bytes) : Bool :=
  if s.life = .factory then
    zeroAt h 0xD 3 && p384Verify vendorPub (headerDigest h) (sub h 0x700 96)
  else p384Verify (sub h 0x20 96) (headerDigest h) (sub h 0x700 96)

/-- Checks 2 to 9 of Table 3-8: the fail cause, 0 where the header passes. -/
def State.headerCause (s : State) (h : Bytes) (flash : Nat) : Nat :=
  let own := s.life != .factory
  if ¬ headerFormat h s.life flash then 2
  else if ¬ s.headerSigned h then 3
  else if own ∧ s.otp.mkey = [] then 4
  else if own ∧ ¬ lastSlot s.otp.mkey (fld h 0xD 1) (sha384 (sub h 0x20 96)) then 5
  else if own ∧ ¬ (lastSlot s.otp.debugSlots (fld h 0xE 1) (issuerId (sub h 0x80 96)) ∧
      lastSlot s.otp.twin (fld h 0xF 1) (fld h 0x18 8)) then 5
  else if fld h 8 4 < s.vault.floor then 6
  else if fld h 0x10 8 ≠ 0 ∧ fld h 0x10 8 ≠ s.otp.serial then 7
  else if ¬ (BitVec.ofNat 8 (fld h 0xC 1)).getLsbD (lifeCode s.life) then 8
  else 0

/-- Stage 5 finds the recovery request (R86). -/
def State.takeRequest (s : State) : State :=
  ({ s with recoveryReq := false, man := { s.man with recoveryRequest := true } } : State).enterRecovery 11

/-- MANIFEST_HEADER_READ, stage 5 (R78, R86). -/
def State.headerRead (s : State) (h : Bytes) (flash : Nat) : State :=
  if ¬ s.inStage 5 then s
  else if s.recoveryReq then s.takeRequest
  else
    let c := s.headerCause h flash
    if c ≠ 0 then s.enterRecovery c else ({ s with man := { s.man with header := h } } : State).toStage 6

/-- FLASH_IDENTIFICATION_TIMEOUT (R603, check 1). -/
def State.flashTimeout (s : State) : State :=
  if ¬ s.inStage 5 then s else if s.recoveryReq then s.takeRequest else s.enterRecovery 1

/-! ## Stages 6 to 8 -/

/-- SETTINGS_SECTION_READ, stage 6 (R71, R78, R98, R462, R472, R518, R566). -/
def State.settingsRead (s : State) (data : Bytes) : State :=
  if ¬ s.inStage 6 then s
  else
    let entry := (sections s.man.header).find? fun x => x.1 == 4
    if (entry.map fun x => x.2.2.2) ≠ some (sha384 data) ∨ (entry.map fun x => x.2.2.1) ≠ some data.length then
      s.enterRecovery 9
    else match parseSettings s.otp.serial s.twinSerial data with
      | none => s.enterRecovery 10
      | some x =>
        let s1 : State := { s with
          man := { s.man with set := x, applied := true }, host := { s.host with released := true }
          twin := { s.twin with st := if s.twinSerial = 0 then .none else .pairing } }
        (if s1.host.linkUp ∧ ¬ s1.lead then s1.hifReset else s1).toStage 7

/-- Sections other than the settings, with the bytes read for each. -/
def firmware (h : Bytes) (data : List Bytes) : List ((Nat × Nat × Nat × Bytes) × Bytes) :=
  let ss := (sections h).filter fun x => x.1 != 4
  ss.zip (data ++ List.replicate ss.length [])

/-- The measurement over the header and every section, in section-table order (R73). -/
def measurement (h : Bytes) : Bytes :=
  (headerDigest h :: (sections h).map (·.2.2.2)).foldl (fun m d => sha384 (m ++ d)) (zeros 48)

/-- Firmware is copied to the local RAMs of its cores (Table 3-6). -/
def State.loadFirmware (s : State) (t : Nat) (b : Bytes) : State :=
  let cores := if t = 1 then List.range 4 else (List.range 16).map (4 + ·)
  { s with mem := cores.foldl (fun m c => memStore m (0x08000000 + 0x80000 * c) b) s.mem }

/-- Digest of the firmware that the drover cores run (R561). -/
def droverOf (l : List ((Nat × Nat × Nat × Bytes) × Bytes)) : Bytes :=
  match l.find? fun x => x.1.1 != 1 with
  | some (x, _) => x.2.2.2
  | none => []

/-- A port is enabled when a partner is configured for it (R424). -/
def State.portWanted (s : State) (p : Nat) : Bool :=
  if p = 0 then s.twinSerial != 0 else s.man.set.peers.getD (p - 1) 0 != 0

/-- The warden enables the NDL ports at stage 8 (R424). -/
def State.enablePorts (s : State) : State :=
  (List.range 4).foldl (fun s p => if s.portWanted p then
    s.setPort p { s.port p with enable := true, st := .down, detect := s.tick } else s) s

/-- BOOT ends: MUSTER in ISSUED and OWNED, SERVICE in FACTORY and RETIRED (Table 3-2). -/
def State.bootDone (s : State) : State :=
  let next : Mode := if s.life = .issued ∨ s.life = .owned then .muster else .service
  { s with mode := next, bootStage := 0
           twin := { s.twin with muster := s.tick } }

/-- FIRMWARE_SECTIONS_READ, stages 7 and 8 (R73, R74, R76, R78, R424, R495, R561, R567). -/
def State.firmwareRead (s : State) (data : List Bytes) : State :=
  if ¬ s.inStage 7 then s
  else
    let fw := firmware s.man.header data
    if fw.any fun (x, b) => sha384 b != x.2.2.2 || b.length != x.2.2.1 then s.enterRecovery 9
    else
      let loaded : List ((Nat × Nat × Nat × Bytes) × Bytes) := fw.filter fun (x, _) => x.1 == 1 || x.1 == (if s.life = .factory then 3 else 2)
      let s1 := loaded.foldl (fun s (x, b) => s.loadFirmware x.1 b) s
      let v := fld s.man.header 8 4
      let up := decide (s.vault.floor < v)
      let s2 := { s1 with
        man := { s1.man with
          measure := measurement s.man.header, sectionsLoaded := loaded.length, version := v, floorRaised := up
          droverDigest := droverOf loaded }
        vault := if up then { s1.vault with floor := v } else s1.vault
        recoveryReq := false }
      if s.tmp.severed then s2.bootStop
      else s2.potBoot.enablePorts.enableAll.bootDone

/-! ## RECOVERY (R80 to R86, R608) -/

/-- A slot field of a new header: current (false) or next (true), or the status (R82). -/
def slotClass {α : Type} [DecidableEq α] (l : List α) (limit ix : Nat) (v : α) : Except Status Bool :=
  if lastSlot l ix v then .ok false
  else if ix = l.length then (if limit ≤ ix then .error .manifestCountSpent else .ok true)
  else .error .manifestInvalid

/-- The three slot fields of a header; FACTORY has none. -/
def State.slotClasses (s : State) (h : Bytes) : Except Status (List Bool) :=
  if s.life = .factory then .ok [false, false, false]
  else match slotClass s.otp.mkey 16 (fld h 0xD 1) (sha384 (sub h 0x20 96)) with
    | .error e => .error e
    | .ok a =>
      match slotClass s.otp.debugSlots 8 (fld h 0xE 1) (issuerId (sub h 0x80 96)) with
      | .error e => .error e
      | .ok b =>
        match slotClass s.otp.twin 64 (fld h 0xF 1) (fld h 0x18 8) with
        | .error e => .error e
        | .ok c => .ok [a, b, c]

/-- RECOVERY_BEGIN (R82). -/
def recoveryBegin (c : Cmd) (s : State) : State × Did :=
  let h := c.body
  let stop (st : Status) : State × Did := (s, .done (fail st))
  if h.length ≠ 2048 then stop .bodyInvalid
  else if ¬ headerFormat h s.life (2 ^ 26) then stop .manifestInvalid
  else if ¬ s.headerSigned h then stop .manifestSignature
  else if fld h 8 4 < s.vault.floor then stop .manifestRollback
  else if (fld h 0x10 8 ≠ 0 ∧ fld h 0x10 8 ≠ s.otp.serial) ∨ ¬ (BitVec.ofNat 8 (fld h 0xC 1)).getLsbD (lifeCode s.life) then
    stop .manifestInvalid
  else match s.slotClasses h with
    | .error st => stop st
    | .ok next => ({ s with man := { s.man with session := some { header := h, next } } }, .done {})

/-- RECOVERY_WRITE (R83): a flash offset in the body, the data as input data. -/
def recoveryWrite (c : Cmd) (s : State) : State × Did :=
  let o := fld c.body 0 4
  let d := c.input
  if c.body.length ≠ 8 ∨ ¬ zeroAt c.body 4 4 ∨ d.length < 1024 ∨ 65536 < d.length then (s, .done (fail .bodyInvalid))
  else match s.man.session with
    | none => (s, .done (fail .manifestInvalid))
    | some x =>
      let i := (List.range (fld x.header 6 2)).find? fun i =>
        let e := (sections x.header).getD i (0, 0, 0, [])
        decide (e.2.1 ≤ o) && decide (o + d.length ≤ e.2.1 + e.2.2.1) && o == e.2.1 + (mapGet [] x.written i).length
      match i with
      | none => ({ s with man := { s.man with session := none } }, .done (fail .manifestInvalid))
      | some i =>
        ({ s with man := { s.man with session := some { x with
          written := mapSet x.written i (mapGet [] x.written i ++ d) } } }.emit (.flash o d), .done {})

/-- Every declared section is complete and matches its digest (R84 step 1). -/
def RecoverySession.complete (x : RecoverySession) : Bool :=
  (sections x.header).zipIdx.all fun (e, i) =>
    (mapGet [] x.written i).length == e.2.2.1 && sha384 (mapGet [] x.written i) == e.2.2.2

/-- A commit needs a quorum (R81). -/
def State.commitQuorum (s : State) : Bool :=
  s.life == .owned || s.life == .retired || (s.life == .issued && (s.custodyEntry 0).rosterGen != 0)

/-- Slots classified as next are programmed (R84 step 3). -/
def State.programSlots (s : State) (x : RecoverySession) : State :=
  let h := x.header
  { s with otp := { s.otp with
    mkey := if x.next.getD 0 false then s.otp.mkey ++ [sha384 (sub h 0x20 96)] else s.otp.mkey
    debugSlots := if x.next.getD 1 false then s.otp.debugSlots ++ [issuerId (sub h 0x80 96)] else s.otp.debugSlots
    twin := if x.next.getD 2 false then s.otp.twin ++ [fld h 0x18 8] else s.otp.twin } }

/-- RECOVERY_COMMIT (R84, R85). Slots programmed are current from then on. -/
def recoveryCommit (readBack : Bool) (c : Cmd) (s : State) : State × Did :=
  if c.body ≠ [] then (s, .done (fail .bodyInvalid))
  else match s.man.session with
    | none => (s, .done (fail .manifestInvalid))
    | some x =>
      if ¬ x.complete then (s, .done (fail .manifestDigest))
      else
        let (s1, q) := if s.commitQuorum then s.quorumUse 0 purposeRecovery else (s, none)
        match q with
        | some st => (s1, .done (fail st))
        | none =>
          let s2 := s1.programSlots x
          let s3 := ({ s2 with man := { s2.man with session := some { x with next := [false, false, false] } } } : State)
          let s4 := (s3.emit (.flashErase 0)).emit (.flash 0 x.header)
          if ¬ readBack then (s4, .done (fail .manifestDigest))
          else
            let n := (x.next.zipIdx.map fun (b, i) => if b then 2 ^ i else 0).sum
            (s4.logEvent 0x0008 .notice islWarden 0x100 .ok [fld x.header 8 4, n], .reset {})

/-- RECOVERY_EXIT (Table 3-10). -/
def recoveryExit (c : Cmd) (s : State) : State × Did :=
  if c.body ≠ [] then (s, .done (fail .bodyInvalid)) else ({ s with man := { s.man with session := none } }, .reset {})

end Sys2Proof.Machine
end

