-- ==== Sys2Proof/Machine/RowsBoot.lean ====
section
/-! DEFINITION. The rows of resets, BOOT and RECOVERY (chapters 3 and 17). -/

namespace Sys2Proof.Machine

/-- TALLY_INCREMENT (R531). -/
def execTallyIncrement (t : Tick) (verified : Bool) (s : State) : Host.Outcome State Fault Refusal :=
  s.act t fun s => s.tallyRow verified

/-- POWER_ON_RESET (R60). -/
def execPowerOnReset (t : Tick) (s : State) : Host.Outcome State Fault Refusal :=
  s.act t fun s => s.powerOn

/-- SYS_RESET_N_ASSERT (R599). -/
def execSysResetNAssert (t : Tick) (ns : Nat) (s : State) : Host.Outcome State Fault Refusal :=
  s.act t fun s => s.resetAssert ns

/-- SYS_RESET_N_DEASSERT (R59). -/
def execSysResetNDeassert (t : Tick) (s : State) : Host.Outcome State Fault Refusal :=
  s.act t fun s => s.resetDeassert

/-- MAIN_POWER_LOSS (R514). -/
def execMainPowerLoss (t : Tick) (s : State) : Host.Outcome State Fault Refusal :=
  s.act t fun s => s.mainLoss

/-- VBAT_LOSS_IN_DORMANT (R528). -/
def execVbatLossInDormant (t : Tick) (s : State) : Host.Outcome State Fault Refusal :=
  s.act t fun s => s.vbatLoss

/-- CELL_FITTED (R515). -/
def execCellFitted (t : Tick) (s : State) : Host.Outcome State Fault Refusal :=
  s.act t fun s => s.cellFitted

/-- OTP_DECODE (R35). -/
def execOtpDecode (t : Tick) (badEntries : List Nat) (s : State) : Host.Outcome State Fault Refusal :=
  s.act t fun s => s.otpDecode badEntries

/-- TALLY_CATCH_UP (R66). -/
def execTallyCatchUp (t : Tick) (s : State) : Host.Outcome State Fault Refusal :=
  s.act t fun s => s.catchUp

/-- ENTROPY_START_UP (R70). -/
def execEntropyStartUp (t : Tick) (katPass : Bool) (failed : List (Nat × Bool)) (s : State) : Host.Outcome State Fault Refusal :=
  s.act t fun s => s.entropyBoot katPass failed

/-- MANIFEST_HEADER_READ (R78). -/
def execManifestHeaderRead (t : Tick) (header : Bytes) (flashSize : Nat) (s : State) : Host.Outcome State Fault Refusal :=
  s.act t fun s => s.headerRead header flashSize

/-- FLASH_IDENTIFICATION_TIMEOUT (R603). -/
def execFlashIdentificationTimeout (t : Tick) (s : State) : Host.Outcome State Fault Refusal :=
  s.act t fun s => s.flashTimeout

/-- SETTINGS_SECTION_READ (R78). -/
def execSettingsSectionRead (t : Tick) (data : Bytes) (s : State) : Host.Outcome State Fault Refusal :=
  s.act t fun s => s.settingsRead data

/-- FIRMWARE_SECTIONS_READ (R73). -/
def execFirmwareSectionsRead (t : Tick) (sections : List Bytes) (s : State) : Host.Outcome State Fault Refusal :=
  s.act t fun s => s.firmwareRead sections

/-- RECOVERY_BEGIN (R82). -/
def execRecoveryBegin (t : Tick) (r : RecRef) (s : State) : Host.Outcome State Fault Refusal :=
  if r.ok then s.act t fun s => s.runCommand 0x0110 Sys2Proof.Machine.recoveryBegin r else .fault .noSuchUnit

/-- RECOVERY_WRITE (R83). -/
def execRecoveryWrite (t : Tick) (r : RecRef) (s : State) : Host.Outcome State Fault Refusal :=
  if r.ok then s.act t fun s => s.runCommand 0x0111 Sys2Proof.Machine.recoveryWrite r else .fault .noSuchUnit

/-- RECOVERY_EXIT (R608). -/
def execRecoveryExit (t : Tick) (r : RecRef) (s : State) : Host.Outcome State Fault Refusal :=
  if r.ok then s.act t fun s => s.runCommand 0x0113 Sys2Proof.Machine.recoveryExit r else .fault .noSuchUnit

/-- RECOVERY_COMMIT (R84). -/
def execRecoveryCommit (t : Tick) (r : RecRef) (readBack : Bool) (s : State) : Host.Outcome State Fault Refusal :=
  if r.ok then
    s.act t fun s => s.runCommand 0x0112 (Sys2Proof.Machine.recoveryCommit readBack) r
  else .fault .noSuchUnit

end Sys2Proof.Machine
end

