-- ==== Sys2Proof/Machine/Cipher.lean ====
section
/-! DEFINITION. Cipher lanes: ENCRYPT, DECRYPT, MAC_GENERATE, MAC_VERIFY, TRANSLATE and the KH-1 functions that run as
them (R155, R253 to R270, R286). -/

namespace Sys2Proof.Machine

/-! ## Resolving the keys of a job (R255 step 1) -/

/-- Two keys of one job: neither is charged unless both resolutions pass (R174, R255). -/
def State.withKeys (s : State) (t h1 : Nat) (n1 : Need) (h2 : Nat) (n2 : Slot → Need) (k : State → Nat → Nat → State × Did) :
    State × Did :=
  match s.resolve (some t) h1 n1 with
  | (s1, .error st) => (s1, .done (fail st))
  | (s1, .ok i) =>
    match s1.resolve (some t) h2 (n2 (s1.slot i)) with
    | (s2, .ok j) => k s2 i j
    | (_, .error st) => ((s.resolve (some t) h2 (n2 (s1.slot i))).1, .done (fail st))

/-- AES working keys. -/
def isAes (x : Slot) : Bool := x.type == 1 || x.type == 2 || x.type == 3
/-- TDEA keys. -/
def isTdea (x : Slot) : Bool := x.type == 4

/-- Rounds of an AES key (R267). -/
def aesRounds (x : Slot) : Nat := if x.type = 1 then 10 else if x.type = 2 then 12 else 14

/-! ## Cycle counts (Table 8-3) -/

/-- One AES block. -/
def rk (x : Slot) : Nat := aesRounds x + 1

/-- Setup cycles of a mode. -/
def setupCycles (x : Slot) (enc : Bool) : Nat := if isTdea x ∨ enc then 4 else 4 + rk x

/-- Cycles of a mode over data blocks, without its setup. -/
def blockCycles (x : Slot) (len : Nat) : Nat := if isTdea x then 48 * ceilDiv len 8 else rk x * ceilDiv len 16

/-- Cycles of an ENCRYPT or DECRYPT job: mode, direction, AAD and data lengths, XTS unit length. -/
def cipherCycles (mode : Nat) (enc : Bool) (x : Slot) (aad len unitLen : Nat) : Nat :=
  if mode = 4 then
    let pass := 4 + 2 * rk x + rk x * ceilDiv len 16 + 2
    if enc then pass else pass + 4 + 2 * rk x + 2 * (ceilDiv aad 16 + ceilDiv len 16)
  else if mode = 5 then
    setupCycles x enc + blockCycles x len + rk x * (len / unitLen) * (if unitLen % 16 = 0 then 1 else 2)
  else if mode = 6 ∨ mode = 7 then
    (if enc then 4 else 4 + rk x) + 6 * (ceilDiv len 8 - if enc then 0 else 1) * rk x
  else if mode = 3 then 4 + blockCycles x len
  else setupCycles x enc + blockCycles x len

/-! ## Lengths (Table 8-2) -/

/-- A length within a range and unit, or the status (R257). -/
def lenCheck (len lo hi unit : Nat) : Option Status :=
  if len < lo ∨ hi < len then some .lengthLimit else if len % unit ≠ 0 then some .lengthPartial else none

/-- Range and unit of a mode. -/
def lenRule (mode : Nat) (enc tdea : Bool) (unitLen : Nat) : Nat × Nat × Nat :=
  if mode = 3 then (1, 2 ^ 36, 1)
  else if mode = 5 then (16, 2 ^ 36, unitLen)
  else if mode = 6 then (if enc then (16, 2 ^ 20, 8) else (24, 2 ^ 20 + 8, 8))
  else if mode = 7 then (if enc then (1, 2 ^ 20, 1) else (16, 2 ^ 20 + 8, 8))
  else if tdea then (8, 2 ^ 23, 8) else (16, 2 ^ 36, 16)

/-! ## ENCRYPT and DECRYPT -/

/-- A cipher request, from a native body or a KH-1 record. -/
structure CipherReq where
  handle : Nat
  handleB : Nat := 0
  mode : Nat
  enc : Bool
  ctrW : Nat := 0
  tagLen : Nat := 0
  ivSource : Nat := 0
  aadLen : Nat := 0
  unitLen : Nat := 16
  iv : Bytes := []
  data : Bytes

/-- Fields of the ENCRYPT and DECRYPT body (Table 8-10). -/
def parseCipher (b : Bytes) (enc : Bool) (data : Bytes) : CipherReq :=
  { handle := fld b 0 4, handleB := fld b 4 4, mode := fld b 8 1, enc, ctrW := fld b 9 1, tagLen := fld b 0xA 1
    ivSource := fld b 0xB 1, aadLen := fld b 0x10 8, unitLen := fld b 0x18 4, iv := sub b 0x20 16, data }

/-- The body obeys its layout: fields in range, fields a mode does not use zero (R286). -/
def cipherBodyOk (b : Bytes) (q : CipherReq) : Bool :=
  b.length == 0x30 && decide (1 ≤ q.mode) && decide (q.mode ≤ 7) && zeroAt b 0xC 4 && zeroAt b 0x1C 4 &&
    (if q.mode = 5 then q.handle != q.handleB && decide (16 ≤ q.unitLen) && decide (q.unitLen ≤ 2 ^ 24) && zeroAt b 0x28 8
      else q.handleB == 0 && q.unitLen == 0) &&
    (if q.mode = 3 then q.ctrW == 32 || q.ctrW == 64 || q.ctrW == 128 else q.ctrW == 0) &&
    (if q.mode = 4 then decide (12 ≤ q.tagLen) && decide (q.tagLen ≤ 16) && zeroAt b 0x2C 4 &&
        (if q.enc then decide (q.ivSource ≤ 1) && (q.ivSource == 0 || zeroAt b 0x20 12) else q.ivSource == 0)
      else q.tagLen == 0 && q.ivSource == 0 && q.aadLen == 0) &&
    (if q.mode = 1 ∨ q.mode = 6 ∨ q.mode = 7 then zeroAt b 0x20 16 else true)

/-- Key types of a mode (Table 8-1). -/
def modeFits (mode : Nat) (x : Slot) : Bool :=
  if mode ≤ 2 then isAes x || isTdea x else if mode = 5 then x.type == 1 || x.type == 3 else isAes x

/-- Usage bit of a mode. -/
def modeUse (mode : Nat) (enc : Bool) : BitVec 16 :=
  if mode = 6 ∨ mode = 7 then useBit (if enc then 6 else 7) else useBit (if enc then 0 else 1)

/-- The data a GCM job processes. -/
def gcmLen (q : CipherReq) : Option Nat :=
  let extra := q.aadLen + if q.enc then 0 else q.tagLen
  if q.data.length < extra then none else some (q.data.length - extra)

/-- Steps 2 and 3 of R255 but for the counter: lengths, XTS keys, TDEA parts. -/
def cipherCheck (q : CipherReq) (x : Slot) (k k2 : Bytes) : Option Status :=
  let lens :=
    if q.mode = 4 then
      match gcmLen q with
      | none => some Status.lengthLimit
      | some n => if 2 ^ 36 - 32 < n ∨ 2 ^ 36 < q.aadLen then some .lengthLimit else none
    else
      let (lo, hi, u) := lenRule q.mode q.enc (isTdea x) q.unitLen
      lenCheck q.data.length lo hi u
  match lens with
  | some st => some st
  | none =>
    if q.mode = 3 ∧ 2 ^ q.ctrW < beNat q.iv % 2 ^ q.ctrW + ceilDiv q.data.length 16 then some .counterWrap
    else if q.mode = 5 ∧ k = k2 then some .keyType
    else if isTdea x ∧ ¬ tdeaDistinct k then some .keyType
    else if q.mode = 2 ∧ isTdea x ∧ ¬ zeroAt q.iv 8 8 then some .bodyInvalid
    else none

/-- Output data and iv_out of a job that passes every check, or DECRYPT_FAILED (R258 to R263, R265). -/
def cipherRun (q : CipherReq) (x : Slot) (k k2 : Bytes) : Result :=
  let n := if isTdea x then 8 else 16
  let e := if isTdea x then tdeaBlock k else aesBlock k
  let d := if isTdea x then tdeaInv k else aesInv k
  let done (o iv : Bytes) : Result := { body := padTo 16 iv, out := o }
  let opt (o : Option Bytes) : Result := match o with
    | some m => done m []
    | none => fail .decryptFailed
  let lastBlock (b : Bytes) := b.drop (b.length - n)
  if q.mode = 1 then done (ecb n (if q.enc then e else d) q.data) []
  else if q.mode = 2 then
    let o := if q.enc then cbcEnc e (q.iv.take n) (chunks n q.data) else cbcDec d (q.iv.take n) (chunks n q.data)
    done o (lastBlock (if q.enc then o else q.data))
  else if q.mode = 3 then done (ctrMode k q.ctrW q.iv q.data) (ctrBlock q.ctrW q.iv (ceilDiv q.data.length 16))
  else if q.mode = 4 then
    let aad := q.data.take q.aadLen
    let rest := q.data.drop q.aadLen
    let iv := q.iv.take 12
    if q.enc then
      let (c, t) := gcmSeal k iv aad rest
      done (c ++ t.take q.tagLen) (if q.ivSource = 1 then iv else [])
    else
      let m := rest.length - q.tagLen
      opt (gcmOpen k iv aad (rest.take m) (rest.drop m))
  else if q.mode = 5 then done (xtsMode q.enc k k2 q.unitLen (fld q.iv 0 8) q.data) []
  else if q.mode = 6 then (if q.enc then done (kwWrap k q.data) [] else opt (kwUnwrap k q.data))
  else (if q.enc then done (kwpWrap k q.data) [] else opt (kwpUnwrap k q.data))

/-- The job after its keys have resolved: IV drawn where asked, checks, then a cipher lane. -/
def State.cipherGo (s : State) (q : CipherReq) (i : Nat) (j : Option Nat) : State × Did :=
  let x := s.slot i
  let k := x.material
  let k2 := (j.map fun j => (s.slot j).material).getD []
  let go (s : State) (q : CipherReq) : State × Did :=
    match cipherCheck q x k k2 with
    | some st => (s, .done (fail st))
    | none =>
      let len := (if q.mode = 4 then gcmLen q else none).getD q.data.length
      (s, .job .cipher (cipherCycles q.mode q.enc x q.aadLen len q.unitLen) (i :: j.toList) (cipherRun q x k k2))
  if q.mode = 4 ∧ q.enc ∧ q.ivSource = 1 then s.withRandom 12 fun s b => go s { q with iv := b } else go s q

/-- A cipher request: its keys resolve and it runs (R255). -/
def State.cipherJob (s : State) (t : Nat) (q : CipherReq) : State × Did :=
  let u := units (ceilDiv q.data.length 8)
  let need : Need := { fits := modeFits q.mode, use := fun _ => modeUse q.mode q.enc, units := some u }
  if q.mode = 5 then
    s.withKeys t q.handle need q.handleB (fun x => { need with fits := fun y => modeFits 5 y && y.type == x.type })
      fun s i j => s.cipherGo q i (some j)
  else s.withKey t q.handle need fun s i => s.cipherGo q i none

/-- ENCRYPT (R256 to R270). -/
def encrypt (c : Cmd) (s : State) : State × Did :=
  let q := parseCipher c.body true c.input
  if cipherBodyOk c.body q then s.cipherJob c.tenant q else (s, .done (fail .bodyInvalid))

/-- DECRYPT (R256 to R270). -/
def decrypt (c : Cmd) (s : State) : State × Did :=
  let q := parseCipher c.body false c.input
  if cipherBodyOk c.body q then s.cipherJob c.tenant q else (s, .done (fail .bodyInvalid))

/-! ## MACs -/

/-- A MAC request. -/
structure MacReq where
  handle : Nat
  mode : Nat
  macLen : Nat
  verify : Bool
  expected : Bytes := []
  data : Bytes

/-- A MAC over data (R264, Table 8-1). -/
def macOf (mode : Nat) (k m : Bytes) : Bytes := if mode = 0x10 then aesCmac k m else retailMac k m

/-- A MAC request: its key resolves and it runs (R255, R257, R264). -/
def State.macJob (s : State) (t : Nat) (q : MacReq) : State × Did :=
  s.withKey t q.handle
    { fits := fun x => if q.mode = 0x10 then isAes x else isTdea x, use := fun _ => useBit (if q.verify then 3 else 2)
      units := some (units (ceilDiv q.data.length 8)) }
    fun s i =>
      let x := s.slot i
      let k := x.material
      let n := q.data.length
      let bad := if q.mode = 0x10 then lenCheck n 0 (2 ^ 36) 1 else lenCheck n 8 (2 ^ 23) 8
      match bad with
      | some st => (s, .done (fail st))
      | none =>
        if isTdea x ∧ ¬ tdeaDistinct k then (s, .done (fail .keyType))
        else
          let m := (macOf q.mode k q.data).take q.macLen
          let cycles := if q.mode = 0x10 then 4 + rk x + rk x * max 1 (ceilDiv n 16) else 4 + 16 * (n / 8 - 1) + 48
          let res : Result := if q.verify then (if m = q.expected.take q.macLen then {} else fail .verifyFailed)
            else { body := padTo 16 m }
          (s, .job .cipher cycles [i] res)

/-- A native MAC body (Table 8-10). -/
def macBody (b : Bytes) (verify : Bool) : Bool :=
  let mode := fld b 4 1
  let n := fld b 5 1
  b.length == 0x18 && (mode == 0x10 || mode == 0x11) && decide (4 ≤ n) && decide (n ≤ if mode = 0x10 then 16 else 8) &&
    zeroAt b 6 2 && if verify then zeroAt b (8 + n) (16 - n) else zeroAt b 8 16

/-- MAC_GENERATE (R286). -/
def macGenerate (c : Cmd) (s : State) : State × Did :=
  if ¬ macBody c.body false then (s, .done (fail .bodyInvalid))
  else s.macJob c.tenant { handle := fld c.body 0 4, mode := fld c.body 4 1, macLen := fld c.body 5 1, verify := false
                           data := c.input }

/-- MAC_VERIFY (R286). -/
def macVerify (c : Cmd) (s : State) : State × Did :=
  if ¬ macBody c.body true then (s, .done (fail .bodyInvalid))
  else s.macJob c.tenant { handle := fld c.body 0 4, mode := fld c.body 4 1, macLen := fld c.body 5 1, verify := true
                           expected := sub c.body 8 16, data := c.input }

/-! ## TRANSLATE (R265) -/

/-- TRANSLATE. -/
def translate (c : Cmd) (s : State) : State × Did :=
  let b := c.body
  let m1 := fld b 8 1
  let m2 := fld b 9 1
  let n := c.input.length
  if b.length ≠ 0x30 ∨ m1 = 0 ∨ 2 < m1 ∨ m2 = 0 ∨ 2 < m2 ∨ ¬ zeroAt b 0xA 6 ∨ (m1 = 1 ∧ ¬ zeroAt b 0x10 16) ∨
      (m2 = 1 ∧ ¬ zeroAt b 0x20 16) then (s, .done (fail .bodyInvalid))
  else
    let u := units (ceilDiv n 8)
    s.withKeys c.tenant (fld b 0 4) { fits := modeFits m1, use := fun _ => useBit 1, units := some u }
      (fld b 4 4) (fun _ => { fits := modeFits m2, use := fun _ => useBit 0, units := some u })
      fun s i j =>
        let x := s.slot i
        let y := s.slot j
        let (lo1, hi1, u1) := lenRule m1 false (isTdea x) 16
        let (lo2, hi2, u2) := lenRule m2 true (isTdea y) 16
        match lenCheck n (max lo1 lo2) (min hi1 hi2) (max u1 u2) with
        | some st => (s, .done (fail st))
        | none =>
          if (isTdea x ∧ ¬ tdeaDistinct x.material) ∨ (isTdea y ∧ ¬ tdeaDistinct y.material) then (s, .done (fail .keyType))
          else if (isTdea x ∧ ¬ zeroAt b 0x18 8) ∨ (isTdea y ∧ ¬ zeroAt b 0x28 8) then (s, .done (fail .bodyInvalid))
          else
            let plain := (cipherRun { handle := 0, mode := m1, enc := false, iv := sub b 0x10 16, data := c.input } x
              x.material []).out
            let o := (cipherRun { handle := 0, mode := m2, enc := true, iv := sub b 0x20 16, data := plain } y y.material []).out
            let cycles := setupCycles x false + setupCycles y true + blockCycles x n + blockCycles y n
            (s, .job .cipher cycles [i, j]
              { body := padTo 16 (o.drop (o.length - if isTdea y then 8 else 16)), out := o })

/-! ## KH-1 functions (R155) -/

/-- The handle that a KH-1 key number maps to (R154, R155). -/
def State.kh1Handle (s : State) (t k : Nat) : Option Nat :=
  if 4096 ≤ k ∨ mapGet 0 s.kh1 (4096 * t + k) = 0 then none else some (mapGet 0 s.kh1 (4096 * t + k))

/-- A KH-1 function goes on with the handle of its first key and its data; data_len beyond 176 is BODY_INVALID. -/
def State.withKh1 (s : State) (c : Cmd) (k : Nat → Bytes → State × Did) : State × Did :=
  let n := beNat (sub c.body 0x0E 2)
  if 176 < n then (s, .done (fail .bodyInvalid))
  else match s.kh1Handle c.tenant (beNat (sub c.body 8 2)) with
    | none => (s, .done (fail .keyHandleUnknown))
    | some h => k h (sub c.body 0x40 n)

/-- A KH-1 function's modifier. -/
def kh1Mod (c : Cmd) : Nat := beNat (sub c.body 0x0C 2)

/-- A native response body or output becomes the KH-1 data field. -/
def kh1Did (d : State × Did) (f : Result → Bytes) : State × Did :=
  let g (r : Result) : Result := { r with out := if r.status = .ok then f r else [], body := [] }
  match d with
  | (s, .done r) => (s, .done (g r))
  | (s, .job k n l r) => (s, .job k n l (g r))
  | x => x

/-- IV length of the key that a handle names. -/
def State.ivLen (s : State) (t h : Nat) : Nat :=
  match s.named (some t) h with
  | some e => if (s.slot e.standing).type = 4 then 8 else 16
  | none => 16

/-- ENCIPHER and DECIPHER: ECB, or CBC with the IV at the head of the data (Table 5-10). -/
def kh1Cipher (enc : Bool) (c : Cmd) (s : State) : State × Did :=
  s.withKh1 c fun h d =>
    if 1 < kh1Mod c then (s, .done (fail .bodyInvalid))
    else
      let n := if kh1Mod c = 1 then s.ivLen c.tenant h else 0
      kh1Did (s.cipherJob c.tenant { handle := h, mode := kh1Mod c + 1, enc, iv := padTo 16 (d.take n), data := d.drop n })
        (·.out)

/-- ENCIPHER. -/
def encipher (c : Cmd) (s : State) : State × Did := kh1Cipher true c s
/-- DECIPHER. -/
def decipher (c : Cmd) (s : State) : State × Did := kh1Cipher false c s

/-- MAC mode of a KH-1 modifier. -/
def kh1MacMode (c : Cmd) : Nat := if kh1Mod c = 0 then 0x11 else 0x10

/-- MAC_GEN: 8 bytes of MAC over the data. -/
def macGen (c : Cmd) (s : State) : State × Did :=
  s.withKh1 c fun h d =>
    if 1 < kh1Mod c then (s, .done (fail .bodyInvalid))
    else kh1Did (s.macJob c.tenant { handle := h, mode := kh1MacMode c, macLen := 8, verify := false, data := d })
      fun r => r.body.take 8

/-- MAC_VER: the expected MAC in the last 8 bytes of the data. -/
def macVer (c : Cmd) (s : State) : State × Did :=
  s.withKh1 c fun h d =>
    if 1 < kh1Mod c ∨ d.length < 8 then (s, .done (fail .bodyInvalid))
    else kh1Did (s.macJob c.tenant { handle := h, mode := kh1MacMode c, macLen := 8, verify := true,
                                     expected := d.drop (d.length - 8), data := d.take (d.length - 8) }) fun _ => []

end Sys2Proof.Machine
end

