-- ==== Sys2Proof/Machine/Digest.lean ====
section
/-! DEFINITION. Digest lanes: DIGEST, HMAC_GENERATE, HMAC_VERIFY, DIGEST_SAVE and DIGEST_RESTORE, with the stream contexts
and the HMAC state cache (R276 to R286). -/

namespace Sys2Proof.Machine

/-- Number of a one-shot job's context (R277). -/
abbrev oneShot : Nat := 0xFF

/-- Key of a stream context in the state's map. -/
def ctxKey (t ctx : Nat) : Nat := 256 * t + ctx

/-- A stream context. -/
def State.ctx (s : State) (k : Nat) : DigestCtx := mapGet {} s.digests k

/-- The changes name a stream context. -/
def namesCtx (k : Nat) (cs : List Change) : Bool :=
  cs.any fun c => match c with
    | .stream j _ => j == k
    | _ => false

/-- A job of another command uses the context (R279). -/
def State.ctxBusy (s : State) (k : Nat) : Bool := s.running.any fun r => namesCtx k r.res.changes

/-! ## The HMAC state cache (R281 to R283) -/

/-- Set of a slot. -/
def cacheSet (slot : Nat) : Nat := slot % 512

/-- A use of the cache by a job on a slot's key: the entry becomes the most recently used of its set, and a full set loses
its least recently used. Answers whether it hit. -/
def State.cacheUse (s : State) (i alg : Nat) : State × Bool :=
  let e : CacheEntry := { slot := i, gen := (s.slot i).generation, alg }
  let rest := s.cel.cache.filter (· != e)
  if s.cel.cache.contains e then
    (({ s with cel := { s.cel with cache := e :: rest } } : State).laneCount .digest 0x008, true)
  else
    let s1 := s.laneCount .digest 0x00C
    let set := rest.filter fun x => cacheSet x.slot == cacheSet i
    match set.reverse.head?, decide (8 ≤ set.length) with
    | some old, true => (({ s1 with cel := { s1.cel with cache := e :: rest.filter (· != old) } } : State).laneCount .digest
        0x010, false)
    | _, _ => ({ s1 with cel := { s1.cel with cache := e :: rest } }, false)

/-- Cycles a miss costs: two blocks, and the blocks that hash a long key (R282). -/
def missCycles (alg keyLen : Nat) : Nat :=
  digestCycles alg * (2 + if digestBlock alg < keyLen then (digestPad alg keyLen (zeros (keyLen % digestBlock alg))).length /
    digestBlock alg + keyLen / digestBlock alg else 0)

/-! ## Jobs -/

/-- A digest or HMAC request. -/
structure DigestReq where
  ctx : Nat
  alg : Nat
  handle : Nat := 0
  final : Bool
  /-- MAC length of an HMAC job; 0 for a digest. -/
  macLen : Nat := 0
  /-- Expected MAC of HMAC_VERIFY. -/
  expected : Option Bytes := none

/-- The job finishes its message. -/
def DigestReq.ends (q : DigestReq) : Bool := q.final || q.ctx == oneShot || q.expected.isSome

/-- The context that the job starts from: the message under way, or a new one. -/
def startCtx (q : DigestReq) (c : DigestCtx) (chain : Bytes) : DigestCtx :=
  if c.phase = 1 then c else { phase := 1, alg := q.alg, handle := q.handle, chain }

/-- The result of a job at context key `k` (Table 8-8): `old` is the context as it stands, `c` the message the job goes on
with; `outer` finishes an HMAC; `pre` counts the bytes absorbed ahead of the message. -/
def digestResult (q : DigestReq) (k : Nat) (old c : DigestCtx) (pre : Nat) (outer : Bytes → Bytes) (data : Bytes) : Result :=
  let (chain, tail) := absorb q.alg c.chain c.tail data
  let n := c.count + data.length
  let write (v : DigestCtx) : List Change := if q.ctx = oneShot then [] else [.stream k v]
  if q.ends then
    let d := outer (digestEnd q.alg chain tail (pre + n))
    let v : DigestCtx := if old.phase = 0 then {} else { phase := 2 }
    match q.expected with
    | some e =>
      if d.take q.macLen = e.take q.macLen then { body := natLE 16 n, changes := write v }
      else { status := .verifyFailed, changes := write old }
    | none => { body := padTo 64 (if q.macLen = 0 then d else d.take q.macLen) ++ natLE 16 n, changes := write v }
  else { body := zeros 64 ++ natLE 16 n, changes := write { c with count := n, chain, tail } }

/-- Blocks that a job compresses. -/
def digestBlocks (q : DigestReq) (c : DigestCtx) (pre : Nat) (len : Nat) : Nat :=
  let b := digestBlock q.alg
  let n := c.tail.length + len
  n / b + if q.ends then (digestPad q.alg (pre + c.count + len) (zeros (n % b))).length / b else 0

/-- A refusal of the context itself, ahead of R255 step 1: in use (R279), or open with another algorithm or handle. -/
def State.ctxRefused (s : State) (q : DigestReq) (k : Nat) : Option Status :=
  if q.ctx = oneShot then none
  else if s.ctxBusy k then some .busy
  else if (s.ctx k).phase = 1 ∧ ((s.ctx k).alg ≠ q.alg ∨ (s.ctx k).handle ≠ q.handle) then some .bodyInvalid
  else none

/-- A digest or HMAC job after its context and key are admitted. -/
def State.digestGo (s : State) (t : Nat) (q : DigestReq) (latched : List Nat) (extra pre : Nat) (first : Bytes)
    (outer : Bytes → Bytes) (data : Bytes) : State × Did :=
  let k := ctxKey t q.ctx
  let old : DigestCtx := if q.ctx = oneShot then {} else s.ctx k
  let c := startCtx q old first
  if digestMax q.alg < pre + c.count + data.length then (s, .done (fail .lengthLimit))
  else
    (s, .job .digest (digestCycles q.alg * digestBlocks q c pre data.length + extra) latched
      (digestResult q k old c pre outer data))

/-- DIGEST (R278, Table 8-10). -/
def digest (c : Cmd) (s : State) : State × Did :=
  let b := c.body
  let q : DigestReq := { ctx := fld b 0 1, alg := fld b 1 1, final := fld b 2 1 == 1 }
  if b.length ≠ 8 ∨ (15 < q.ctx ∧ q.ctx ≠ oneShot) ∨ ¬ digestCodes.contains q.alg ∨ 1 < fld b 2 1 ∨ ¬ zeroAt b 3 5 then
    (s, .done (fail .bodyInvalid))
  else match s.ctxRefused q (ctxKey c.tenant q.ctx) with
    | some st => (s, .done (fail st))
    | none => s.digestGo c.tenant q [] 0 0 (shaInitial q.alg) id c.input

/-- An HMAC request: its context is judged, its key resolves, and the cache serves it (R280 to R282). -/
def State.hmacJob (s : State) (t : Nat) (q : DigestReq) (data : Bytes) : State × Did :=
  match s.ctxRefused q (ctxKey t q.ctx) with
  | some st => (s, .done (fail st))
  | none =>
    s.withKey t q.handle
      { fits := fun x => x.type == 5, use := fun _ => useBit (if q.expected.isSome then 3 else 2), units := some fun _ => 1 }
      fun s i => s.withMaterial i fun m =>
        let blk := hmacBlock q.alg m
        let opened := q.ctx != oneShot && (s.ctx (ctxKey t q.ctx)).phase == 1
        let inner := absorbBlocks q.alg (shaInitial q.alg) (blk.map (· ^^^ 0x36))
        let out := absorbBlocks q.alg (shaInitial q.alg) (blk.map (· ^^^ 0x5C))
        let outer (d : Bytes) : Bytes := digestEnd q.alg out d (digestBlock q.alg + d.length)
        let (s1, hit) := if (opened && !q.ends) || !s.laneAny .digest then (s, true) else s.cacheUse i q.alg
        s1.digestGo t q [i] ((if hit then 0 else missCycles q.alg m.length) + if q.ends then digestCycles q.alg else 0)
          (digestBlock q.alg) inner outer data

/-- The HMAC body obeys its layout. -/
def hmacBodyOk (b : Bytes) (q : DigestReq) (verify : Bool) : Bool :=
  b.length == (if verify then 0x48 else 8) && (decide (q.ctx ≤ 15) || q.ctx == oneShot) && hmacCodes.contains q.alg &&
    decide (fld b 6 1 ≤ 1) &&
    (if q.ends then decide (8 ≤ q.macLen) && decide (q.macLen ≤ digestOut q.alg) else q.macLen == 0) &&
    (!verify || zeroAt b (8 + q.macLen) (64 - q.macLen))

/-- Fields of an HMAC body (Table 8-10). -/
def parseHmac (b : Bytes) (verify : Bool) : DigestReq :=
  { ctx := fld b 4 1, alg := fld b 5 1, handle := fld b 0 4, final := fld b 6 1 == 1, macLen := fld b 7 1
    expected := if verify then some (sub b 8 64) else none }

/-- HMAC_GENERATE (R280). -/
def hmacGenerate (c : Cmd) (s : State) : State × Did :=
  let q := parseHmac c.body false
  if hmacBodyOk c.body q false then s.hmacJob c.tenant q c.input else (s, .done (fail .bodyInvalid))

/-- HMAC_VERIFY (R280). -/
def hmacVerify (c : Cmd) (s : State) : State × Did :=
  let q := parseHmac c.body true
  if hmacBodyOk c.body q true then s.hmacJob c.tenant q c.input else (s, .done (fail .bodyInvalid))

/-! ## Saving and restoring a context (R284, R285) -/

/-- Key of a tenant's digest state blobs. -/
def State.digestKey (s : State) (t : Nat) : Bytes :=
  hkdf256 (s.keyRec t).material (zeros 32) (ascii "KH64-DIGEST" ++ natLE 1 t) 32

/-- Bytes of a chaining state by algorithm. -/
def chainLen (alg : Nat) : Nat := if alg = 0 then 0 else if alg ≤ 2 then 32 else if alg ≤ 5 then 64 else 200

/-- A body of a context and reserved bytes. -/
def ctxBody (b : Bytes) : Bool := b.length == 8 && decide (fld b 0 1 ≤ 15) && zeroAt b 1 7

/-- The blob of a context (Table 8-9). -/
def stateBlob (key iv : Bytes) (t gen : Nat) (x : DigestCtx) : Bytes :=
  let h := ascii "KHDS" ++ natLE 2 1 ++ natLE 1 t ++ natLE 1 x.alg ++ natLE 4 x.handle ++ natLE 2 gen ++ zeros 18 ++ iv ++
    zeros 4
  let (ct, tag) := gcmSeal key iv h (natLE 16 x.count ++ padTo 200 x.chain)
  h ++ ct ++ tag

/-- DIGEST_SAVE (R284). -/
def digestSave (c : Cmd) (s : State) : State × Did :=
  let k := ctxKey c.tenant (fld c.body 0 1)
  let x := s.ctx k
  if ¬ ctxBody c.body then (s, .done (fail .bodyInvalid))
  else if s.ctxBusy k then (s, .done (fail .busy))
  else if x.phase = 2 then (s, .done (fail .bodyInvalid))
  else if x.tail ≠ [] then (s, .done (fail .lengthPartial))
  else if ¬ (s.keyRec c.tenant).present then (s, .done (fail .keyHandleUnknown))
  else
    let go (s : State) (gen : Nat) : State × Did := s.withRandom 12 fun s iv =>
      (s, .done { out := stateBlob (s.digestKey c.tenant) iv c.tenant gen x })
    if x.handle = 0 then go s 0 else s.withKey c.tenant x.handle {} fun s i => go s (s.slot i).generation

/-- DIGEST_RESTORE (R285). -/
def digestRestore (c : Cmd) (s : State) : State × Did :=
  let k := ctxKey c.tenant (fld c.body 0 1)
  let b := c.input
  if ¬ ctxBody c.body then (s, .done (fail .bodyInvalid))
  else if s.ctxBusy k then (s, .done (fail .busy))
  else if (s.ctx k).phase = 1 then (s, .done (fail .bodyInvalid))
  else if b.length ≠ 280 ∨ sub b 0 4 ≠ ascii "KHDS" ∨ fld b 4 2 ≠ 1 ∨ ¬ zeroAt b 0xE 18 ∨ ¬ zeroAt b 0x2C 4 ∨
      fld b 6 1 ≠ c.tenant then (s, .done (fail .bodyInvalid))
  else if ¬ (s.keyRec c.tenant).present then (s, .done (fail .keyHandleUnknown))
  else match gcmOpen (s.digestKey c.tenant) (sub b 0x20 12) (b.take 0x30) (sub b 0x30 216) (sub b 0x108 16) with
    | none => (s, .done (fail .decryptFailed))
    | some m =>
      let h := fld b 8 4
      let alg := fld b 7 1
      let v : DigestCtx := { phase := 1, alg, handle := h, count := fld m 0 16, chain := (m.drop 16).take (chainLen alg) }
      let good : Result := { body := natLE 16 v.count, changes := [.stream k v] }
      if h = 0 then (s, .done good)
      else match s.resolve (some c.tenant) h {} with
        | (s1, .ok i) =>
          if (s1.slot i).generation = fld b 0xC 2 then (s1, .done good) else (s1, .done (fail .keyOrphaned))
        | (s1, .error _) => (s1, .done (fail .keyOrphaned))

end Sys2Proof.Machine
end

