-- ==== Sys2Proof/Machine/Edwards.lean ====
section
/-! DEFINITION. Ed25519 (RFC 8032) and X25519 (RFC 7748), the Edwards and Montgomery work of the big-number lanes (R291,
R299). -/

namespace Sys2Proof.Machine

/-- The field's modulus. -/
def edP : Nat := 2 ^ 255 - 19
/-- The group's order. -/
def edOrder : Nat := 2 ^ 252 + 27742317777372353535851937790883648493
/-- The curve's constant d. -/
def edD : Nat := subMod edP 0 121665 * invMod edP 121666 % edP
/-- A square root of -1. -/
def edRootM1 : Nat := powMod edP 2 ((edP - 1) / 4)

/-- The point of a y coordinate and the low bit of x; none where there is none. -/
def edLift (y sign : Nat) : Option (Nat × Nat) :=
  let u := subMod edP (y * y) 1
  let v := (edD * y * y + 1) % edP
  let q := u * invMod edP v % edP
  let r := powMod edP q ((edP + 3) / 8)
  let x := if r * r % edP = q then r else r * edRootM1 % edP
  if x * x % edP ≠ q ∨ (x = 0 ∧ sign = 1) then none
  else some (if x % 2 = sign then x else edP - x, y)

/-- The point of 32 bytes, decoded canonically. -/
def edPoint (b : Bytes) : Option (Nat × Nat) :=
  let n := leNat (b.take 32)
  let y := n % 2 ^ 255
  if b.length ≠ 32 ∨ edP ≤ y then none else edLift y (n / 2 ^ 255)

/-- The 32 bytes of a point. -/
def edBytes (p : Nat × Nat) : Bytes := natLE 32 (p.2 + 2 ^ 255 * (p.1 % 2))

/-- Sum of two points. -/
def edAdd (p q : Nat × Nat) : Nat × Nat :=
  let t := edD * (p.1 * q.1 % edP) % edP * (p.2 * q.2 % edP) % edP
  ((p.1 * q.2 + q.1 * p.2) % edP * invMod edP (1 + t) % edP,
    (p.2 * q.2 + p.1 * q.1) % edP * invMod edP (subMod edP 1 t) % edP)

/-- Multiple of a point, over the scalar's `n` low bits. -/
def edMul : Nat → Nat → Nat × Nat → Nat × Nat
  | 0, _, _ => (0, 1)
  | n + 1, k, p =>
    let h := edMul n (k / 2) (edAdd p p)
    if k % 2 = 1 then edAdd h p else h

/-- The base point. -/
def edBase : Nat × Nat := (edLift (4 * invMod edP 5 % edP) 0).getD (0, 1)

/-- The scalar of 32 bytes, clamped. -/
def edClamp (b : Bytes) : Nat := 2 ^ 254 + leNat (b.take 32) % 2 ^ 254 / 8 * 8

/-- The hash of a message as a scalar. -/
def edHash (m : Bytes) : Nat := leNat (digestOf 0x04 m) % edOrder

/-- Public key of a seed. -/
def edPublic (seed : Bytes) : Bytes := edBytes (edMul 256 (edClamp (digestOf 0x04 seed)) edBase)

/-- Signature of a message under a seed. -/
def edSign (seed m : Bytes) : Bytes :=
  let h := digestOf 0x04 seed
  let r := edHash (h.drop 32 ++ m)
  let rb := edBytes (edMul 256 r edBase)
  rb ++ natLE 32 ((r + edHash (rb ++ edPublic seed ++ m) * edClamp h) % edOrder)

/-- The 32 bytes decode canonically to a point. -/
def edDecodes (b : Bytes) : Bool := (edPoint b).isSome

/-- [S]B = R + [k]A, compared on encodings (R299): public key, message, signature. -/
def edVerify (a m sig : Bytes) : Bool :=
  match edPoint a, edPoint (sig.take 32) with
  | some pa, some pr =>
    let k := edHash (sig.take 32 ++ a ++ m)
    edBytes (edMul 256 (leNat (sig.drop 32)) edBase) == edBytes (edAdd pr (edMul 256 k pa))
  | _, _ => false

/-- One step of the ladder over x2, z2, x3, z3 with u-coordinate `x1`. -/
def ladderStep (x1 : Nat) (v : Nat × Nat × Nat × Nat) : Nat × Nat × Nat × Nat :=
  let (x2, z2, x3, z3) := v
  let a := x2 + z2
  let b := subMod edP x2 z2
  let aa := a * a % edP
  let bb := b * b % edP
  let e := subMod edP aa bb
  let da := subMod edP x3 z3 * a % edP
  let cb := (x3 + z3) * b % edP
  let f := da + cb
  let g := subMod edP da cb
  (aa * bb % edP, e * (aa + 121665 * e) % edP, f * f % edP, x1 * (g * g % edP) % edP)

/-- The ladder over the scalar's bits, highest first. -/
def ladder (x1 k : Nat) : Nat → Nat × Nat × Nat × Nat → Nat × Nat × Nat × Nat
  | 0, v => v
  | n + 1, v =>
    let bit := k / 2 ^ n % 2 == 1
    let swap (v : Nat × Nat × Nat × Nat) : Nat × Nat × Nat × Nat :=
      if bit then (v.2.2.1, v.2.2.2, v.1, v.2.1) else v
    ladder x1 k n (swap (ladderStep x1 (swap v)))

/-- X25519 of a scalar and a u-coordinate, whose bit 255 is cleared. -/
def x25519 (k u : Bytes) : Bytes :=
  let x1 := leNat (u.take 32) % 2 ^ 255 % edP
  let v := ladder x1 (edClamp k) 255 (1, 0, x1, 1)
  natLE 32 (v.1 * invMod edP v.2.1 % edP)

end Sys2Proof.Machine
end

