-- ==== Sys2Proof/Machine/Keys.lean ====
section
/-! DEFINITION. The key-management commands (R179 to R187, R200, R201, R154). -/

namespace Sys2Proof.Machine

/-- Answer of a command that makes a key: handle and check value (Table 6-15). -/
def keyResult (h : Nat) (cv : Bytes) (cs : List Change) : Result :=
  { body := natLE 4 h ++ zeros 4 ++ cv, changes := cs }

/-- The level a child of the parent takes, or KEY_TYPE (R158, R159). -/
def childLevel (type level : Nat) : Option Nat :=
  if level + 1 ≤ 7 ∧ ¬ (type = 6 ∧ level + 1 = 7) then some (level + 1) else none

/-- A new key takes a slot, a directory entry and its response; CELLAR_FULL where there is no room. -/
def State.placeKey (s : State) (k : NewKey) : State × Did :=
  match s.newKey k with
  | some (h, cs) => (s, .done (keyResult h (checkValue k.type k.plain) cs))
  | none => (s, .done (fail .cellarFull))

/-- Fields of KEY_GENERATE from an offset: type, limit class, usage, bits, flags, and whether they lie in range. -/
def keyFields (b : Bytes) (o : Nat) : Nat × Nat × BitVec 16 × Nat × Bool × Bool :=
  let u := fld b (o + 2) 2
  let f := fld b (o + 6) 2
  (fld b o 1, fld b (o + 1) 1, BitVec.ofNat 16 u, fld b (o + 4) 2, f == 1,
   decide (u < 2 ^ 15) && decide (f ≤ 1) && decide (fld b (o + 1) 1 ≤ 63))

/-- A parent for a new key of a type: it resolves, is a vault record or a branch, and has room below it. -/
def State.withParent (s : State) (t h type : Nat) (k : State → Parent → Nat → State × Did) : State × Did :=
  match s.parentOf t h with
  | (s1, .error st) => (s1, .done (fail st))
  | (s1, .ok (p, lv)) =>
    match childLevel type lv with
    | none => (s1, .done (fail .keyType))
    | some l => k s1 p l

/-- KEY_GENERATE (R200). -/
def keyGenerate (c : Cmd) (s : State) : State × Did :=
  let (type, cls, usage, bits, ex, ok) := keyFields c.body 4
  if c.body.length ≠ 16 ∨ ¬ ok ∨ ¬ zeroAt c.body 0x0C 4 ∨ ¬ s.classDefined cls then (s, .done (fail .bodyInvalid))
  else if 0x10 ≤ type ∨ ¬ typeOk type bits then (s, .done (fail .keyType))
  else s.withParent c.tenant (fld c.body 0 4) type fun s p l =>
    s.withRandom (bits / 8) fun s1 m =>
      s1.placeKey { type, bits, usage, owner := c.tenant, parent := p, level := l, exportable := ex, limitClass := cls,
                    plain := m }

/-- A variable-length item at an offset: its bytes, and whether count, bytes and padding end the body there (R134). -/
def varItem (b : Bytes) (o : Nat) : Bytes × Bool :=
  let n := fld b o 4
  (sub b (o + 4) n, decide (o + 4 ≤ b.length) && b.length == o + 4 + n + pad4 n && zeroAt b (o + 4 + n) (pad4 n))

/-- A wrapping key that resolves for a use, with its material. -/
def State.withWrap (s : State) (t h useB type plainLen : Nat) (k : State → Slot → Bytes → State × Did) : State × Did :=
  s.withKey t h { fits := fun x => pairOk x type, use := fun _ => useBit useB, units := some (units (ceilDiv plainLen 8)) }
    fun s i => s.withMaterial i fun m => k s (s.slot i) m

/-- A key unwraps and is of the type and length asked (R200, R165). -/
def unwrapped (type bits : Nat) (x : Slot) (wrap c : Bytes) : Except Status Bytes :=
  match unwrapKey x.type wrap c with
  | none => .error .decryptFailed
  | some m => if plainOk type bits m then .ok m else .error .keyType

/-- KEY_IMPORT (R200). -/
def keyImport (c : Cmd) (s : State) : State × Did :=
  let (type, cls, usage, bits, ex, ok) := keyFields c.body 8
  let n := fld c.body 0x10 1
  let (wrapped, vok) := varItem c.body 0x20
  if ¬ ok ∨ ¬ vok ∨ ¬ zeroAt c.body 0x11 7 ∨ ¬ s.classDefined cls ∨ (n ≠ 0 ∧ n ≠ checkLen type) then
    (s, .done (fail .bodyInvalid))
  else if ¬ typeOk type bits then (s, .done (fail .keyType))
  else s.withParent c.tenant (fld c.body 0 4) type fun s p l =>
    s.withWrap c.tenant (fld c.body 4 4) 7 type wrapped.length fun s x wrap =>
      match unwrapped type bits x wrap wrapped with
      | .error st => (s, .done (fail st))
      | .ok m =>
        if n ≠ 0 ∧ (checkValue type m).take n ≠ sub c.body 0x18 n then (s, .done (fail .keyGreenMismatch))
        else
          let key : NewKey := { type, bits, usage, owner := c.tenant, parent := p, level := l, exportable := ex,
                                limitClass := cls, plain := m }
          if type = 0x10 then s.withRandom (bits / 8) fun s r => s.placeKey { key with blinding := blindPair m r }
          else s.placeKey key

/-- KEY_EXPORT (R200). -/
def keyExport (c : Cmd) (s : State) : State × Did :=
  if c.body.length ≠ 8 then (s, .done (fail .bodyInvalid))
  else s.withKey c.tenant (fld c.body 0 4) { use := fun _ => useBit 14 } fun s i =>
    let x := s.slot i
    if ¬ x.exportable then (s, .done (fail .usageDenied))
    else s.withMaterial i fun m =>
      s.withWrap c.tenant (fld c.body 4 4) 6 x.type m.length fun s w wrap =>
        let o := wrapKey w.type wrap m
        (s, spaced c { body := natLE 4 o.length ++ o ++ zeros (pad4 o.length) })

/-- KEY_GREEN (R179). -/
def keyGreen (c : Cmd) (s : State) : State × Did :=
  let h := fld c.body 0 4
  let src := fld c.body 4 1
  let (wrapped, vok) := varItem c.body 0x0C
  if ¬ vok ∨ 1 < src ∨ ¬ zeroAt c.body 5 3 ∨ (src = 0 ∧ (fld c.body 8 4 ≠ 0 ∨ wrapped ≠ [])) then
    (s, .done (fail .bodyInvalid))
  else s.withKey c.tenant h { fits := fun x => !x.bound } fun s i =>
    let x := s.slot i
    let d := hIndex h
    if (s.ahead.dirEntry d).greenLinked then (s, .done (fail .keyGreenPending))
    else
      let place (s : State) (m : Bytes) : State × Did :=
        match s.newSlot { type := x.type, bits := x.keyBits, usage := x.usage, owner := x.owner, parent := x.parent,
                          level := x.level, exportable := x.exportable, limitClass := x.limitClass, plain := m,
                          state := .green } with
        | none => (s, .done (fail .cellarFull))
        | some (g, y, cs) =>
          let e := { s.ahead.dirEntry d with greenLinked := true, greenSlot := g, greenGen := y.generation }
          (s, .done { body := checkValue x.type m, changes := cs ++ [.directory d e] })
      if src = 0 then s.withRandom (x.keyBits / 8) place
      else s.withWrap c.tenant (fld c.body 8 4) 7 x.type wrapped.length fun s w wrap =>
        match unwrapped x.type x.keyBits w wrap wrapped with
        | .error st => (s, .done (fail st))
        | .ok m => place s m

/-- The known-answer test of R181. -/
def knownAnswer (type : Nat) (m kin kout : Bytes) : Bool :=
  if type = 5 then (hmac256 m kin).take 16 == kout
  else if type = 4 then tdeaBlock m (kin.take 8) == kout.take 8
  else aesBlock m kin == kout

/-- The seasoning of R182 and R183: one directory write, the green slot seasoned, the old slot felled. -/
def State.seasonChanges (s : State) (d : Nat) : List Change :=
  let e := s.ahead.dirEntry d
  let g := s.ahead.slot e.greenSlot
  [.directory d { e with standing := e.greenSlot, standingGen := e.greenGen, greenLinked := false, greenSlot := 0,
                         greenGen := 0 },
   .slot e.greenSlot { g with state := .seasoned }] ++ s.ahead.fellSlot e.standing

/-- The directory entry without its green key, and the green slot felled. -/
def State.fellGreen (s : State) (d : Nat) : List Change :=
  let e := s.ahead.dirEntry d
  s.ahead.fellSlot e.greenSlot ++ [.directory d { e with greenLinked := false, greenSlot := 0, greenGen := 0 }]

/-- KEY_SEASON (R181 to R183). -/
def keySeason (c : Cmd) (s : State) : State × Did :=
  let h := fld c.body 0 4
  let d := hIndex h
  let test := fld c.body 4 1
  let n := fld c.body 5 1
  if c.body.length ≠ 0x30 ∨ (test ≠ 1 ∧ test ≠ 2) ∨ ¬ zeroAt c.body 6 2 then (s, .done (fail .bodyInvalid))
  else s.withKey c.tenant h { fits := fun x => !x.bound } fun s i =>
    let type := (s.slot i).type
    if (test = 1 ∧ n ≠ checkLen type) ∨ (test = 2 ∧ n ≠ 0) then (s, .done (fail .bodyInvalid))
    else
      let e := s.ahead.dirEntry d
      if ¬ e.greenLinked then (s, .done (failD .keyGreenMismatch 1))
      else match s.ahead.gated e.greenSlot e.greenGen {} with
        | (_, .error st) => (s, .done (fail st))
        | (_, .ok g) =>
          let m := (s.ahead.slot g).material
          let pass := if test = 1 then (checkValue type m).take n == sub c.body 8 n
            else knownAnswer type m (sub c.body 0x10 16) (sub c.body 0x20 16)
          if pass then (s, .done { changes := s.seasonChanges d })
          else (s, .done { failD .keyGreenMismatch 0 with changes := s.fellGreen d })

/-- KEY_FELL (R185 to R187). -/
def keyFell (c : Cmd) (s : State) : State × Did :=
  let h := fld c.body 0 4
  let d := hIndex h
  let f := fld c.body 4 4
  if c.body.length ≠ 8 ∨ 1 < f then (s, .done (fail .bodyInvalid))
  else if hKind h = 2 then (s, .done (fail .usageDenied))
  else s.withKey c.tenant h {} fun s _ =>
    let e := s.ahead.dirEntry d
    if f = 1 then
      if e.greenLinked then (s, .done { changes := s.fellGreen d })
      else (s, .done (failD .keyGreenMismatch 1))
    else
      let green := if e.greenLinked then s.ahead.fellSlot e.greenSlot else []
      (s, .done { changes := s.ahead.fellSlot e.standing ++ green ++ [.directory d { dtag := e.dtag }] })

/-- KEY_INFO (R200). -/
def keyInfo (c : Cmd) (s : State) : State × Did :=
  if c.body.length ≠ 4 then (s, .done (fail .bodyInvalid))
  else s.withKey c.tenant (fld c.body 0 4) {} fun s i =>
    s.withMaterial i fun m =>
      let x := s.slot i
      let e := s.dirEntry (hIndex (fld c.body 0 4))
      let flags := (if x.exportable then 1 else 0) + (if e.greenLinked then 2 else 0) + (if x.bound then 4 else 0)
      let b := natLE 1 x.type ++ natLE 1 x.limitClass ++ natLE 2 x.keyBits ++ natLE 2 x.usage.toNat ++
        natLE 1 x.level ++ natLE 1 2 ++ natLE 2 x.generation ++ natLE 2 flags ++ zeros 4 ++ natLE 8 x.counter ++
        natLE 8 (s.limit x) ++ checkValue x.type m
      (s, .done { body := b })

/-- KH1_MAP_SET (R154). -/
def kh1MapSet (c : Cmd) (s : State) : State × Did :=
  let first := fld c.body 0 2
  let n := fld c.body 2 2
  if n = 0 ∨ 1024 < n ∨ 4096 < first + n ∨ c.body.length ≠ 4 + 4 * n then (s, .done (fail .bodyInvalid))
  else (s, .done { changes := (List.range n).map fun i => .kh1 c.tenant (first + i) (fld c.body (4 + 4 * i) 4) })

/-! ## Trunks (R201, R208) -/

/-- The reconstructed trunk held for a record's session (R249). -/
def State.heldTrunk (s : State) (c : Cmd) : Option Bytes :=
  (s.rounds.find? fun r => r.tenant == c.tenant && r.session == fld c.record.raw 0x16 2).bind (·.trunk)

/-- The round of a record's session is used up (R249). -/
def State.dropRound (s : State) (c : Cmd) : State :=
  { s with rounds := s.rounds.filter fun r => !(r.tenant == c.tenant && r.session == fld c.record.raw 0x16 2) }

/-- A command goes on with the new trunk material: drawn, or the reconstructed trunk. -/
def State.withTrunk (s : State) (c : Cmd) (k : State → Bytes → State × Did) : State × Did :=
  if fld c.body 0 1 = 0 then s.withRandom 32 k
  else match s.heldTrunk c with
    | some m => k (s.dropRound c) m
    | none => (s, .done (fail .keyHandleUnknown))

/-- The bound slots under a vault record with the record's new material: each blob unwrapped and wrapped again, and the
slot's descriptor after it (R201). -/
def State.rewrap (s : State) (n : Nat) (m : Bytes) : List (Nat × Slot × Bytes) :=
  let old := (s.keyRec n).material
  s.ahead.cel.slots.filterMap fun (i, x) =>
    if x.bound ∧ (x.state = .green ∨ x.state = .seasoned) ∧ x.parent.inVault ∧ x.parent.index = n then
      match kwpUnwrap (blobKey old i x.generation) (mapGet [] s.ahead.cel.blobs x.blobAddr) with
      | some p =>
        let b := kwpWrap (blobKey m i x.generation) p
        some (i, { x with blobDigest := (sha256 b).take 16, blobLen := b.length }, b)
      | none => none
    else none

/-- Fresh blob space for rewrapped blobs, one after another from an address: the changes. -/
def rewrapChanges : Nat → List (Nat × Slot × Bytes) → List Change
  | _, [] => []
  | a, (i, x, b) :: l =>
    [.blob a b, .slot i { x with blobAddr := a }, .blob x.blobAddr []] ++ rewrapChanges (a + ceilDiv b.length 8 * 8) l

/-- The changes that replace a present record's material: the record and every bound blob below it (R201). -/
def State.replaceTrunk (s : State) (n : Nat) (m : Bytes) : List Change :=
  rewrapChanges ((s.freeBlob 0).getD 0) (s.rewrap n m) ++ [.keyRecord n { s.keyRec n with material := m }]

/-- The share set of a tenant closes (R245). -/
def State.closeSet (s : State) (t : Nat) : List Change :=
  s.custodyChange t { s.custodyEntry t with setOpen := false }

/-- Body of the trunk commands. -/
def trunkBody (b : Bytes) : Bool := b.length == 8 && decide (fld b 0 1 ≤ 1) && zeroAt b 1 7

/-- A trunk or the domain root is written into an absent record (R201). -/
def State.importTrunk (s : State) (c : Cmd) (n : Nat) : State × Did :=
  s.withTrunk c fun s m =>
    let r := s.keyRec n
    let g := (r.generation + 1) % 65536
    let s1 := s.logEvent 0x0301 .notice islWarden 0x100 .ok [c.tenant, g]
    (s1, .done { changes := .keyRecord n { r with material := m, present := true, generation := g } :: s.closeSet n })

/-- TRUNK_IMPORT (R201). -/
def trunkImport (c : Cmd) (s : State) : State × Did :=
  if ¬ trunkBody c.body then (s, .done (fail .bodyInvalid))
  else s.withQuorum c.tenant purposeTrunk fun s =>
    if (s.keyRec c.tenant).present then (s, .done (fail .usageDenied)) else s.importTrunk c c.tenant

/-- DOMAIN_ROOT_SET (R201, R208). -/
def domainRootSet (c : Cmd) (s : State) : State × Did :=
  if ¬ trunkBody c.body then (s, .done (fail .bodyInvalid))
  else s.withQuorum 0 purposeTrunk fun s =>
    if ¬ (s.keyRec 0).present then s.importTrunk c 0
    else s.withTrunk c fun s m =>
      let s1 := s.logEvent 0x0301 .notice islWarden 0x100 .ok [c.tenant, (s.keyRec 0).generation]
      (s1, .done { changes := s1.replaceTrunk 0 m ++ s1.closeSet 0 })

/-! ## The skidder (R188, R189) -/

/-- SKIDDER_VISIT (R188 to R190): the slot at the position is felled when orphaned and freed when felled before the pass
began; after slot 262,143 the next pass begins. -/
def State.skid (s : State) : State :=
  if ¬ s.cel.ready ∨ ¬ s.unitOn 6 0 then s
  else
    let s0 := if s.cel.skidActive then s
      else { s with cel := { s.cel with skidActive := true, passStart := s.cel.commit, skidPos := 0 } }
    let i := s0.cel.skidPos
    let x := s0.slot i
    let s1 :=
      match x.state with
      | .green | .seasoned =>
        if s0.linkOk x.parent then s0
        else
          let s' := s0.applyAll (s0.fellSlot i)
          { s' with cel := { s'.cel with skidFelled := sat32 s'.cel.skidFelled } }
      | .felled =>
        if mapGet 0 s0.cel.felledAt i ≤ s0.cel.passStart then
          { s0 with cel := { s0.cel with slots := mapPut {} s0.cel.slots i { generation := x.generation }
                                         felledAt := mapDel s0.cel.felledAt i } }
        else s0
      | .free => s0
    if i + 1 < 262144 then { s1 with cel := { s1.cel with skidPos := i + 1 } }
    else { s1 with cel := { s1.cel with skidPos := 0, passStart := s1.cel.commit, passes := sat32 s1.cel.passes } }

end Sys2Proof.Machine
end

