-- ==== Sys2Proof/Machine/BigNum.lean ====
section
/-! DEFINITION. Big-number lanes: the public-key commands and loadable curves (R288 to R315). -/

namespace Sys2Proof.Machine

/-! ## Cycles (R294, R295) -/

/-- Cycles of one Montgomery multiplication at a class. -/
def mulCycles (c : Nat) : Nat := max (ceilDiv (5 * c) 2) (ceilDiv (5 * c * c) 32)
/-- RSA private operation. -/
def rsaPrivCycles (c : Nat) : Nat :=
  let h := ceilDiv c 2
  256 * h * mulCycles h + 39 * mulCycles c + 5 * mulCycles h + 8
/-- RSA public operation. -/
def rsaPubCycles (c : Nat) : Nat := 36 * mulCycles c + 8
/-- A curve operation of `n` multiplications for each class step. -/
def curveCycles (n c : Nat) : Nat := n * c * mulCycles c + 8

/-! ## Encodings (RFC 8017) -/

/-- Last byte of the object identifier of a hash code; the arc is 2.16.840.1.101.3.4.2. -/
def hashOid (alg : Nat) : Byte :=
  if alg = 1 then 4 else if alg = 2 then 1 else if alg = 3 then 2 else if alg = 4 then 3 else if alg = 5 then 6
  else if alg = 0x11 then 8 else if alg = 0x12 then 9 else 10

/-- EMSA-PKCS1-v1_5 encoding of a digest. -/
def pkcs1Encode (alg n : Nat) (d : Bytes) : Bytes :=
  let l := d.length
  let info : Bytes := [0x30, BitVec.ofNat 8 (17 + l), 0x30, 0x0D, 0x06, 0x09, 0x60, 0x86, 0x48, 0x01, 0x65, 0x03, 0x04, 0x02,
    hashOid alg, 0x05, 0x00, 0x04, BitVec.ofNat 8 l] ++ d
  [0x00, 0x01] ++ List.replicate (n - info.length - 3) 0xFF ++ [0x00] ++ info

/-- MGF1 over a hash. -/
def mgf1 (alg : Nat) (seed : Bytes) (n : Nat) : Bytes :=
  ((List.range (ceilDiv n (digestOut alg))).flatMap fun i => digestOf alg (seed ++ natBE 4 i)).take n

/-- EMSA-PSS encoding of a digest for a modulus of `bits` bits. -/
def pssEncode (alg bits : Nat) (d salt : Bytes) : Bytes :=
  let em := ceilDiv (bits - 1) 8
  let h := digestOf alg (zeros 8 ++ d ++ salt)
  let n := em - h.length - 1
  let db := zeros (n - salt.length - 1) ++ [0x01] ++ salt
  let m := xorBytes db (mgf1 alg h n)
  let top := 8 * em - (bits - 1)
  (match m with
    | b :: bs => BitVec.ofNat 8 (b.toNat % 2 ^ (8 - top)) :: bs
    | [] => []) ++ h ++ [0xBC]

/-- EMSA-PSS verification: the salt is found in the encoded message, and the encoding made again. -/
def pssOk (alg bits saltLen : Nat) (d em : Bytes) : Bool :=
  let e := em.drop (em.length - ceilDiv (bits - 1) 8)
  let n := e.length - digestOut alg - 1
  let h := sub e n (digestOut alg)
  let db := xorBytes (e.take n) (mgf1 alg h n)
  em == zeros (em.length - e.length) ++ pssEncode alg bits d (db.drop (n - saltLen))

/-- EME-OAEP encoding. -/
def oaepEncode (alg n : Nat) (label seed m : Bytes) : Bytes :=
  let h := digestOut alg
  let db := digestOf alg label ++ zeros (n - m.length - 2 * h - 2) ++ [0x01] ++ m
  let mdb := xorBytes db (mgf1 alg seed (n - h - 1))
  [0x00] ++ xorBytes seed (mgf1 alg mdb h) ++ mdb

/-- EME-OAEP decoding; none for any failure. -/
def oaepDecode (alg : Nat) (label em : Bytes) : Option Bytes :=
  let h := digestOut alg
  let mdb := em.drop (h + 1)
  let seed := xorBytes (sub em 1 h) (mgf1 alg mdb h)
  let db := xorBytes mdb (mgf1 alg seed mdb.length)
  let rest := (db.drop h).dropWhile (· == 0)
  if em.getD 0 1 = 0 ∧ db.take h = digestOf alg label ∧ rest.getD 0 0 = 1 then some (rest.drop 1) else none

/-! ## Keys (Table 9-8) -/

/-- Field bits of an ECC public key given by its curve id, and by its length for a loadable curve. -/
def State.curveAt (s : State) (t id : Nat) : Option CurveSlot :=
  match mapFind s.curves (id - 0x80) with
  | some x => if 0x80 ≤ id ∧ id ≤ 0xBF ∧ x.owner = t then some x else none
  | none => none

/-- The curve of a key's plaintext: a named one, or the loadable curve of its slot with the same digest (R307). -/
def State.keyCurve (s : State) (t : Nat) (m : Bytes) (digestAt : Nat) : Option Curve :=
  let id := fld m 0 1
  if id < 0x80 then namedCurve id
  else (s.curveAt t id).bind fun x => if x.digest = sub m digestAt 32 then some x.curve else none

/-- An RSA public key's modulus and exponent. -/
structure RsaPub where
  bits : Nat
  e : Nat
  n : Nat

/-- The RSA part of a plaintext. -/
def rsaPub (m : Bytes) : RsaPub := { bits := fld m 2 2, e := fld m 4 4, n := fld m 8 (8 * lenClass (fld m 2 2)) }

/-- The key obeys R292. -/
def RsaPub.ok (k : RsaPub) : Bool :=
  decide (2048 ≤ k.bits) && decide (k.bits ≤ 8192) && k.bits % 64 == 0 && (k.e == 3 || k.e == 65537) && bitLen k.n == k.bits

/-- x^d mod n of an RSA private key's plaintext, by its CRT components. -/
def rsaPrivate (m : Bytes) (x : Nat) : Nat :=
  let w := 8 * lenClass (fld m 2 2)
  let h := w / 2
  let p := fld m (8 + w) h
  let q := fld m (8 + w + h) h
  let a := powMod p x (fld m (8 + w + 2 * h) h)
  let b := powMod q x (fld m (8 + w + 3 * h) h)
  b + q * (subMod p a b * fld m (8 + w + 4 * h) h % p)

/-- Public layouts of a key: ECC with an optional curve digest, Ed25519 and X25519. The spec lays out no X25519 public key:
the model takes its form byte, reserved bytes and u, as for Ed25519 (entry 14). -/
def eccPublic (id w : Nat) (q : Point) (digest : Bytes) : Bytes := [BitVec.ofNat 8 id] ++ zeros 7 ++ pointBytes w q ++ digest

/-! ## Signatures -/

/-- Fields common to PK_SIGN and PK_VERIFY. -/
structure SignReq where
  handle : Nat
  scheme : Nat
  hash : Nat
  salt : Nat
  prehashed : Bool

/-- Fields of a PK_SIGN or PK_VERIFY body. -/
def parseSign (b : Bytes) : SignReq :=
  { handle := fld b 0 4, scheme := fld b 4 1, hash := fld b 5 1, salt := fld b 6 1, prehashed := fld b 7 1 == 1 }

/-- The fields lie in range. -/
def SignReq.ok (q : SignReq) (flags : Nat) : Bool :=
  decide (flags ≤ 1) && decide (1 ≤ q.scheme) && decide (q.scheme ≤ 4) &&
    (if q.scheme = 4 then q.hash == 0 && !q.prehashed else digestCodes.contains q.hash) &&
    (if q.scheme = 2 then decide (q.salt ≤ digestOut q.hash) else q.salt == 0)

/-- The job needs a digest lane besides (R293). -/
def SignReq.hashes (q : SignReq) : Bool := q.scheme == 2 || q.scheme == 4 || !q.prehashed

/-- The digest that is signed. -/
def SignReq.digest (q : SignReq) (m : Bytes) : Bytes := if q.prehashed then m else digestOf q.hash m

/-- A scheme's private key types. -/
def privFits (scheme : Nat) (x : Slot) : Bool :=
  if scheme ≤ 2 ∨ scheme = 5 then x.type == 0x10 else if scheme = 3 then x.type == 0x11 || x.type == 0x14
  else if scheme = 4 then x.type == 0x12 else x.type == 0x11 || x.type == 0x13 || x.type == 0x14

/-- A scheme's public key types. -/
def pubFits (scheme : Nat) (x : Slot) : Bool :=
  if scheme ≤ 2 ∨ scheme = 5 then x.type == 0x20 else if scheme = 3 then x.type == 0x21 else x.type == 0x22

/-- A private job goes to a big-number lane, once the record's buffers and the digest lanes allow it (R153, R293). -/
def State.privJob (s : State) (c : Cmd) (i : Nat) (bodyN outN cycles : Nat) (hashes : Bool) (r : Result) : State × Did :=
  match spaceFail c bodyN outN with
  | some f => (s, .done f)
  | none =>
    if hashes ∧ ¬ s.laneAny .digest then (s, .done (fail .laneUnavailable))
    else (s, .job .bigNumber cycles [i] r)

/-- Signature answer: length and signature; zeros of that length with a failure status (R299). -/
def signResult (sig : Bytes) (ok : Bool) : Result :=
  if ok then { body := natLE 4 sig.length ++ zeros 4, out := sig } else fail .inputZero

/-- The squared blinding pair that a private RSA job writes back (R298). -/
def State.squarePair (s : State) (i n : Nat) : List Change :=
  let (a, b) := mapGet (0, 0) s.cel.blinding i
  [.blinding i (a * a % n, b * b % n)]

/-- PK_SIGN with a resolved key and its plaintext. -/
def State.signWith (s : State) (c : Cmd) (q : SignReq) (i : Nat) (m : Bytes) : State × Did :=
  let x := s.slot i
  let cl := lenClass x.keyBits
  if q.scheme ≤ 2 then
    let k := rsaPub m
    let n := k.bits / 8
    if ¬ k.ok then (s, .done (fail .keyType))
    else
      let go (s : State) (salt : Bytes) : State × Did :=
        let d := q.digest c.input
        let em := if q.scheme = 1 then pkcs1Encode q.hash n d else pssEncode q.hash k.bits d salt
        s.privJob c i 8 n (rsaPrivCycles cl) q.hashes
          { signResult (natBE n (rsaPrivate m (beNat em))) true with changes := s.squarePair i k.n }
      if q.scheme = 2 ∧ q.salt ≠ 0 then s.withRandom q.salt go else go s []
  else if q.scheme = 3 then
    let w := 8 * cl
    match s.keyCurve c.tenant m (8 + 3 * w) with
    | none => (s, .done (failD .curveRejected 11))
    | some e => s.withRandom (w + 8) fun s k =>
      let n := ceilDiv (bitLen e.n) 8
      let (r, v) := e.sign (fld m 8 w) (q.digest c.input) (e.scalar k)
      s.privJob c i 8 (2 * n) (curveCycles 1600 cl) q.hashes (signResult (natBE n r ++ natBE n v) (r != 0 && v != 0))
  else if 32768 < c.input.length then (s, .done (fail .lengthLimit))
  else s.privJob c i 8 64 (curveCycles 1280 4) true (signResult (edSign (sub m 8 32) c.input) true)

/-- PK_SIGN (R313). -/
def pkSign (c : Cmd) (s : State) : State × Did :=
  let q := parseSign c.body
  if c.body.length ≠ 8 ∨ ¬ q.ok (fld c.body 7 1) ∨ (q.prehashed ∧ c.input.length ≠ digestOut q.hash) then
    (s, .done (fail .bodyInvalid))
  else s.withKey c.tenant q.handle
    { fits := privFits q.scheme, use := fun _ => useBit 4, units := some fun _ => 1 } fun s i =>
      s.withMaterial i fun m => s.signWith c q i m

/-- Table 9-5 for a verification: the first row that applies, or whether the equation holds. -/
def verifyStatus (q : SignReq) (e : Option Curve) (inline : Bool) (k sig msg : Bytes) : Status :=
  let first (l : List (Bool × Status)) (ok : Bool) : Status :=
    ((l.find? (·.1)).map (·.2)).getD (if ok then .ok else .verifyFailed)
  if q.scheme ≤ 2 then
    let r := rsaPub k
    let x := beNat sig
    let em := natBE (r.bits / 8) (powMod r.n x r.e)
    let d := q.digest msg
    first [(x == 0, .inputZero), (decide (r.n ≤ x), .inputRange), (inline && r.n % 2 == 0, .inputRange)]
      (if q.scheme = 1 then em == pkcs1Encode q.hash (r.bits / 8) d else pssOk q.hash r.bits q.salt d em)
  else if q.scheme = 3 then
    match e with
    | none => .curveRejected
    | some e =>
      let w := 8 * lenClass (bitLen e.p)
      let p := sub k 8 (2 * w)
      let (x, y) := bytesPoint w p
      let n := sig.length / 2
      let r := beNat (sig.take n)
      let v := beNat (sig.drop n)
      first [(p.all (· == 0), .inputZero), (decide (e.p ≤ x) || decide (e.p ≤ y), .inputRange), (!e.on x y, .pointInvalid),
        (r == 0 || v == 0, .inputZero), (decide (e.n ≤ r) || decide (e.n ≤ v), .inputRange)]
        (e.verify (some (x, y)) (q.digest msg) r v)
  else
    let a := sub k 8 32
    first [(!edDecodes a || !edDecodes (sig.take 32), .pointInvalid),
      (decide (edOrder ≤ leNat (sig.drop 32)), .inputRange)] (edVerify a msg sig)

/-- The inline public key of a scheme at the head of the input data: whether its length, form byte, curve id and reserved
bytes are those of Table 9-8 (R313). -/
def inlineOk (scheme : Nat) (s : State) (t : Nat) (k : Bytes) : Bool :=
  let hd := fld k 0 1
  if scheme ≤ 2 ∨ scheme = 5 then hd == 0 && zeroAt k 1 1 && k.length == 8 + 8 * lenClass (fld k 2 2)
  else if scheme = 4 then hd == 4 && zeroAt k 1 7 && k.length == 40
  else zeroAt k 1 7 &&
    if hd < 0x80 then
      match namedCurve hd with
      | some e => k.length == 8 + 16 * lenClass (bitLen e.p)
      | none => false
    else decide (hd ≤ 0xBF) &&
      match s.curveAt t hd with
      | some x => k.length == 40 + 16 * x.cls
      | none => k.length % 16 == 8 && decide (40 + 16 * 4 ≤ k.length) && decide (k.length ≤ 40 + 16 * 16)

/-- PK_VERIFY with its public key. -/
def State.verifyWith (s : State) (c : Cmd) (q : SignReq) (inline : Bool) (k : Bytes) : State × Did :=
  let sigLen := fld c.body 8 4
  let rest := if inline then c.input.drop k.length else c.input
  let sig := rest.take sigLen
  let msg := rest.drop sigLen
  let job (e : Option Curve) (want cycles : Nat) : State × Did :=
    if sigLen ≠ want ∨ rest.length < sigLen then (s, .done (fail .lengthLimit))
    else if q.prehashed ∧ msg.length ≠ digestOut q.hash then (s, .done (fail .bodyInvalid))
    else if q.hashes ∧ ¬ s.laneAny .digest then (s, .done (fail .laneUnavailable))
    else (s, .job .bigNumber cycles [] (fail (verifyStatus q e inline k sig msg)))
  if q.scheme ≤ 2 then
    if ¬ (rsaPub k).ok then (s, .done (fail .keyType))
    else job none ((rsaPub k).bits / 8) (rsaPubCycles (lenClass (rsaPub k).bits))
  else if q.scheme = 3 then
    match s.keyCurve c.tenant k (k.length - 32) with
    | none => (s, .done (failD .curveRejected 11))
    | some e => job (some e) (2 * ceilDiv (bitLen e.n) 8) (curveCycles 768 (lenClass (bitLen e.p)))
  else job none 64 (curveCycles 640 4)

/-- A public key by handle, or inline where the handle is 0. -/
def State.withPublic (s : State) (c : Cmd) (handle keyLen scheme use : Nat) (k : State → Bool → Bytes → State × Did) :
    State × Did :=
  if handle = 0 then
    if keyLen ≤ c.input.length ∧ inlineOk scheme s c.tenant (c.input.take keyLen) then k s true (c.input.take keyLen)
    else (s, .done (fail .bodyInvalid))
  else if keyLen ≠ 0 then (s, .done (fail .bodyInvalid))
  else s.withKey c.tenant handle { fits := pubFits scheme, use := fun _ => useBit use, units := some fun _ => 1 } fun s i =>
    s.withMaterial i fun m => k s false m

/-- PK_VERIFY (R313). -/
def pkVerify (c : Cmd) (s : State) : State × Did :=
  let q := parseSign c.body
  if c.body.length ≠ 16 ∨ ¬ q.ok (fld c.body 7 1) then (s, .done (fail .bodyInvalid))
  else s.withPublic c q.handle (fld c.body 0xC 4) q.scheme 5 fun s inline k => s.verifyWith c q inline k

/-! ## OAEP -/

/-- PK_ENCRYPT (R313). -/
def pkEncrypt (c : Cmd) (s : State) : State × Did :=
  let b := c.body
  let hash := fld b 4 1
  let ln := fld b 8 4
  if b.length ≠ 16 ∨ ¬ digestCodes.contains hash ∨ ¬ zeroAt b 5 3 ∨ 256 < ln then (s, .done (fail .bodyInvalid))
  else s.withPublic c (fld b 0 4) (fld b 0xC 4) 5 0 fun s inline k =>
    let r := rsaPub k
    let rest := if inline then c.input.drop k.length else c.input
    let n := r.bits / 8
    let m := rest.drop ln
    if ¬ r.ok then (s, .done (fail .keyType))
    else if rest.length < ln ∨ n - 2 * digestOut hash - 2 < m.length then (s, .done (fail .lengthLimit))
    else match spaceFail c 8 n with
      | some f => (s, .done f)
      | none =>
        if ¬ s.laneAny .digest then (s, .done (fail .laneUnavailable))
        else s.withRandom (digestOut hash) fun s seed =>
          let ct := natBE n (powMod r.n (beNat (oaepEncode hash n (rest.take ln) seed m)) r.e)
          let res : Result := if inline ∧ r.n % 2 = 0 then fail .inputRange
            else { body := natLE 4 n ++ zeros 4, out := ct }
          (s, .job .bigNumber (rsaPubCycles (lenClass r.bits)) [] res)

/-- PK_DECRYPT (R313, R297). -/
def pkDecrypt (c : Cmd) (s : State) : State × Did :=
  let b := c.body
  let hash := fld b 4 1
  let ln := fld b 8 4
  if b.length ≠ 16 ∨ ¬ digestCodes.contains hash ∨ ¬ zeroAt b 5 3 ∨ ¬ zeroAt b 0xC 4 ∨ 256 < ln then
    (s, .done (fail .bodyInvalid))
  else s.withKey c.tenant (fld b 0 4) { fits := privFits 5, use := fun _ => useBit 1, units := some fun _ => 1 } fun s i =>
    s.withMaterial i fun k =>
      let r := rsaPub k
      let n := r.bits / 8
      let ct := c.input.drop ln
      if ¬ r.ok then (s, .done (fail .keyType))
      else if c.input.length ≠ ln + n then (s, .done (fail .lengthLimit))
      else
        let x := beNat ct
        let res : Result := if x = 0 then fail .inputZero else if r.n ≤ x then fail .inputRange
          else match oaepDecode hash (c.input.take ln) (natBE n (rsaPrivate k x)) with
            | some m => { body := natLE 4 m.length ++ zeros 4, out := m }
            | none => fail .decryptFailed
        s.privJob c i 8 (n - 2 * digestOut hash - 2) (rsaPrivCycles (lenClass r.bits)) true
          { res with changes := s.squarePair i r.n }

/-! ## Key generation (R308 to R310) -/

/-- Inverse of the exponent 65,537 modulo m: the least d with 65537 d = 1 + m k. -/
def rsaInverse (m : Nat) : Nat := (1 + m * ((65537 - invMod 65537 (m % 65537)) % 65537)) / 65537

/-- Plaintext of an RSA private key from its primes (Table 9-8). -/
def rsaPlain (bits p q : Nat) : Bytes :=
  let w := 8 * lenClass bits
  let h := w / 2
  zeros 2 ++ natLE 2 bits ++ natLE 4 65537 ++ natLE w (p * q) ++ natLE h p ++ natLE h q ++ natLE h (rsaInverse (p - 1)) ++
    natLE h (rsaInverse (q - 1)) ++ natLE h (invMod p (q % p))

/-- A generated key's plaintext and public key, and the cycles of its job: RSA with its blinding pair. -/
def State.generate (s : State) (t type bits id : Nat)
    (k : State → Nat → Bytes → Bytes → Nat × Nat → Nat → State × Did) : State × Did :=
  if type = 0x10 then
    s.withRandom (bits / 8) fun s r =>
      let m := rsaPlain bits (Config.rsaPrime (bits / 2) s.draws) (Config.rsaPrime (bits / 2) (s.draws + 1))
      k s bits m (m.take (8 + bits / 8)) (blindPair m r) 0
  else if type = 0x12 then
    s.withRandom 32 fun s r =>
      let a := edPublic r
      k s 256 ([4] ++ zeros 7 ++ r ++ a) ([4] ++ zeros 7 ++ a) (0, 0) (curveCycles 1280 4)
  else if type = 0x13 then
    s.withRandom 32 fun s r =>
      let u := x25519 r (natLE 32 9)
      k s 256 ([5] ++ zeros 7 ++ r ++ u) ([5] ++ zeros 7 ++ u) (0, 0) (curveCycles 768 4)
  else
    let loaded := s.curveAt t id
    match (if id < 0x80 then namedCurve id else loaded.map (·.curve)) with
    | none => (s, .done (failD .curveRejected 11))
    | some e =>
      let fb := bitLen e.p
      let w := 8 * lenClass fb
      let dg := (loaded.map (·.digest)).getD []
      s.withRandom (w + 8) fun s r =>
        let d := e.scalar r
        let q := e.mul d e.base
        k s fb ([BitVec.ofNat 8 id] ++ zeros 7 ++ natLE w d ++ pointBytes w q ++ dg) (eccPublic id w q dg) (0, 0)
          (curveCycles 1600 (lenClass fb))

/-- The curve id of PK_KEYGEN fits the type. -/
def genIdOk (type id : Nat) : Bool :=
  if type = 0x10 then id == 0 else if type = 0x11 then decide (1 ≤ id) && decide (id ≤ 3) else if type = 0x12 then id == 4
  else if type = 0x13 then id == 5 else decide (0x80 ≤ id) && decide (id ≤ 0xBF)

/-- PK_KEYGEN (R308, R313). -/
def pkKeygen (c : Cmd) (s : State) : State × Did :=
  let b := c.body
  let type := fld b 4 1
  let cls := fld b 5 1
  let u := fld b 6 2
  let bits := fld b 8 2
  let id := fld b 0xA 1
  if b.length ≠ 16 ∨ type < 0x10 ∨ 0x14 < type ∨ 63 < cls ∨ 2 ^ 15 ≤ u ∨ 1 < fld b 0xB 1 ∨ ¬ zeroAt b 0xC 4 ∨
      ¬ genIdOk type id ∨ (type ≠ 0x10 ∧ bits ≠ 0) ∨ ¬ s.classDefined cls then (s, .done (fail .bodyInvalid))
  else if type = 0x10 ∧ ¬ typeOk type bits then (s, .done (fail .keyType))
  else s.withParent c.tenant (fld b 0 4) type fun s p l =>
    s.generate c.tenant type bits id fun s fb plain pub pair cycles =>
      match spaceFail c (8 + pub.length) 0 with
      | some f => (s, .done f)
      | none =>
        match s.newKey { type, bits := fb, usage := BitVec.ofNat 16 u, owner := c.tenant, parent := p, level := l
                         exportable := fld b 0xB 1 == 1, limitClass := cls, plain, blinding := pair } with
        | none => (s, .done (fail .cellarFull))
        | some (h, cs) => (s, .job .bigNumber cycles [] { body := natLE 4 h ++ zeros 4 ++ pub, changes := cs })

/-! ## PK_DERIVE (R314) -/

/-- The shared secret of a derivation, or the status of Table 9-5. -/
def sharedSecret (e : Option Curve) (w : Nat) (k peer : Bytes) : Except Status Bytes :=
  match e with
  | none =>
    let z := x25519 (sub k 8 32) (sub peer 8 32)
    if z.all (· == 0) then .error .inputZero else .ok z
  | some e =>
    let p := sub peer 8 (2 * w)
    let (x, y) := bytesPoint w p
    if p.all (· == 0) then .error .inputZero
    else if e.p ≤ x ∨ e.p ≤ y then .error .inputRange
    else if ¬ e.on x y then .error .pointInvalid
    else match e.mul (fld k 8 w) (e.mul e.h (some (x, y))) with
      | none => .error .inputZero
      | some (z, _) => .ok (natBE (ceilDiv (bitLen e.p) 8) z)

/-- The peer's public key has the layout and curve of the private key. -/
def peerOk (k peer : Bytes) (w : Nat) (type : Nat) : Bool :=
  fld peer 0 1 == fld k 0 1 && zeroAt peer 1 7 &&
    (if type = 0x13 then peer.length == 40
      else if type = 0x11 then peer.length == 8 + 2 * w
      else peer.length == 40 + 2 * w && sub peer (8 + 2 * w) 32 == sub k (8 + 3 * w) 32)

/-- PK_DERIVE (R313, R314). -/
def pkDerive (c : Cmd) (s : State) : State × Did :=
  let b := c.body
  let (type, cls, usage, bits, ex, ok) := keyFields b 8
  let n := fld b 0x10 4
  if b.length ≠ 0x58 ∨ ¬ ok ∨ ¬ zeroAt b 0x14 4 ∨ 64 < n ∨ ¬ s.classDefined cls ∨ type = 0 ∨ 5 < type then
    (s, .done (fail .bodyInvalid))
  else if ¬ typeOk type bits then (s, .done (fail .keyType))
  else s.withKey c.tenant (fld b 0 4) { fits := privFits 6, use := fun _ => useBit 8, units := some fun _ => 1 } fun s i =>
    s.withMaterial i fun k =>
      let x := s.slot i
      let cl := lenClass x.keyBits
      let w := 8 * cl
      if ¬ peerOk k c.input w x.type then (s, .done (fail .bodyInvalid))
      else
        let e := if x.type = 0x13 then none else s.keyCurve c.tenant k (8 + 3 * w)
        if x.type ≠ 0x13 ∧ e.isNone then (s, .done (failD .curveRejected 11))
        else s.withParent c.tenant (fld b 4 4) type fun s p l =>
          let cycles := if x.type = 0x13 then curveCycles 768 4 else curveCycles 704 cl
          match sharedSecret e w k c.input with
          | .error st => (s, .job .bigNumber cycles [i] (fail st))
          | .ok z =>
            let m := hkdf256 z (zeros 32) (sub b 0x18 n) (bits / 8)
            match s.newKey { type, bits, usage, owner := c.tenant, parent := p, level := l, exportable := ex
                             limitClass := cls, plain := m } with
            | none => (s, .done (fail .cellarFull))
            | some (h, cs) => (s, .job .bigNumber cycles [i] (keyResult h (checkValue type m) cs))

/-! ## Loadable curves (R305, R306) -/

/-- The first curve check that fails (Table 9-7), by its detail. -/
def curveCheck (bits : Nat) (c : Curve) (w1 w2 : List Nat) : Option Nat :=
  let diff : Nat := if c.h * c.n ≤ c.p + 1 then c.p + 1 - c.h * c.n else c.h * c.n - (c.p + 1)
  let l : List (Bool × Nat) := [
    (decide (256 ≤ bits) && decide (bits ≤ 1024) && bitLen c.p == bits && decide (1 ≤ c.h) && decide (c.h ≤ 16), 1),
    (probablePrime c.p w1, 2), (decide (c.a < c.p) && decide (c.b < c.p), 3),
    ((4 * c.a ^ 3 + 27 * c.b ^ 2) % c.p != 0, 4),
    (!(c.gx == 0 && c.gy == 0) && decide (c.gx < c.p) && decide (c.gy < c.p) && c.on c.gx c.gy, 5),
    (probablePrime c.n w2, 6), (c.mul c.n c.base == none, 7), (decide (diff * diff ≤ 4 * c.p), 8), (c.n != c.p, 9),
    ((List.range 20).all fun k => powMod c.n c.p (k + 1) != 1 % c.n, 10)]
  (l.find? fun x => !x.1).map (·.2)

/-- The lowest free curve slot. -/
def State.freeCurve (s : State) : Option Nat :=
  (List.range 64).find? fun n => (mapFind s.ahead.curves n).isNone

/-- CURVE_LOAD (R305, R306, R313). -/
def curveLoad (c : Cmd) (s : State) : State × Did :=
  let b := c.body
  let act := fld b 0 1
  let id := fld b 1 1
  let bits := fld b 2 2
  let cl := lenClass bits
  let w := 8 * cl
  if b.length ≠ 8 ∨ 1 < act ∨ ¬ zeroAt b 4 4 ∨ (act = 0 ∧ (id ≠ 0 ∨ c.input.length ≠ 6 * w + 1)) ∨ (act = 1 ∧ bits ≠ 0) then
    (s, .done (fail .bodyInvalid))
  else if act = 1 then
    match s.curveAt c.tenant id with
    | some x => (s, .done { body := [BitVec.ofNat 8 id] ++ zeros 7 ++ x.digest, changes := [.curve (id - 0x80) none] })
    | none => (s, .done (failD .curveRejected 11))
  else if bits < 256 ∨ 1024 < bits then (s, .done (failD .curveRejected 1))
  else match s.freeCurve with
    | none => (s, .done (fail .busy))
    | some n => s.withRandom (128 * w) fun s r =>
      let i := c.input
      let e : Curve := { p := fld i 0 w, a := fld i w w, b := fld i (2 * w) w, gx := fld i (3 * w) w, gy := fld i (4 * w) w
                         n := fld i (5 * w) w, h := fld i (6 * w) 1 }
      let ws := (chunks w r).map leNat
      let dg := sha256 (sub b 2 2 ++ i)
      let res : Result := match curveCheck bits e (ws.take 64) (ws.drop 64) with
        | some d => failD .curveRejected d
        | none => { body := [BitVec.ofNat 8 (0x80 + n)] ++ zeros 7 ++ dg
                    changes := [.curve n (some { owner := c.tenant, cls := cl, digest := dg, curve := e })] }
      (s, .job .bigNumber (curveCycles 19520 cl) [] res)

end Sys2Proof.Machine
end

