-- ==== Sys2Proof/Machine/Log.lean ====
section
/-! DEFINITION. The rights of a debug warrant in force, and the ring log's freeze, thaw, export and peek (R50 to R54, R539 to
R545). -/

namespace Sys2Proof.Machine

/-! ## Rights in force -/

/-- The stored warrant, where it applies in this boot (R54). -/
def State.warrant (s : State) : Option Bytes := if s.lcs.warrantActive then s.vault.warrant else none

/-- LCS_WARRANT_RIGHTS (R57). -/
def State.rights (s : State) : BitVec 32 := BitVec.ofNat 32 (((s.warrant).map fun w => fld w 0x28 4).getD 0)

/-- A right of Table 2-7 is in force. -/
def State.right (s : State) (b : Nat) : Bool := s.rights.getLsbD b

/-- A debug right is in force: a stored warrant's, or all test access in RAW once the code is decoded (Table 2-5). -/
def State.debugRight (s : State) (b : Nat) : Bool := (s.life == .raw && s.bootStage != 1) || s.right b

/-! ## Freeze and thaw -/

/-- The log's freeze ends: while an export runs, the freeze becomes the export's own; else the log thaws (R541, R543). -/
def State.endFreeze (s : State) : State :=
  if 0 < s.log.exports then { s with log := { s.log with freeze := none, exportFreeze := true } } else s.thaw false

/-- LOG_FREEZE (R539). -/
def logFreeze (c : Cmd) (s : State) : State × Did :=
  let d := fld c.body 0 4
  if c.body.length ≠ 8 ∨ d = 0 ∨ 10000000 < d ∨ ¬ zeroAt c.body 4 4 then (s, .done (fail .bodyInvalid))
  else if s.log.frozen then (s, .done (fail .busy))
  else ({ s with log := { s.log with freeze := some (s.tick + d) } }, .done { body := natLE 8 s.log.next })

/-- LOG_THAW (R541, R543): it ends a LOG_FREEZE, and leaves an export's own freeze alone. -/
def logThaw (c : Cmd) (s : State) : State × Did :=
  if c.body ≠ [] then (s, .done (fail .bodyInvalid))
  else match s.log.freeze with
    | none => (s, .done { body := zeros 8 })
    | some _ => (s.endFreeze, .done { body := natLE 2 s.log.held.length ++ zeros 2 ++ natLE 4 s.log.counted })

/-- LOG_FREEZE_WINDOW_CLOSE (R539). -/
def State.freezeClose (s : State) : State :=
  match s.log.freeze with
  | some c => if c ≤ s.tick then s.endFreeze else s
  | none => s

/-! ## Export -/

/-- Entries in ascending sequence from a number on, at most `n`. -/
def Log.from (l : Log) (first n : Nat) : List LogEntry :=
  (((l.slots.map (·.2)).filter fun e => decide (first ≤ e.seq)).mergeSort fun a b => decide (a.seq ≤ b.seq)).take n

/-- Bytes of an export before its signature (Table 18-3). -/
def State.exportBytes (s : State) (es : List LogEntry) (challenge : Bytes) : Bytes :=
  ascii "KHLX" ++ natLE 2 1 ++ natLE 2 es.length ++ natLE 8 s.otp.serial ++ natLE 4 s.vault.bootCount ++
    natLE 4 (if s.log.freeze.isSome then 1 else 0) ++ challenge ++ natLE 8 ((es.head?.map (·.seq)).getD 0) ++
    natLE 8 ((es.getLast?.map (·.seq)).getD 0) ++ natLE 8 s.log.next ++
    ((List.range 4).flatMap fun v => natLE 4 (mapGet 0 s.log.dropped v)) ++ natLE 4 s.log.frozenCount ++ zeros 28 ++
    es.flatMap logBytes

/-- LOG_EXPORT: the log freezes, the entries are read and the export is signed on a big-number lane (R542 to R544). The
model reads every entry as the command starts (entry 16). -/
def logExport (c : Cmd) (s : State) : State × Did :=
  let n := fld c.body 8 2
  let first := fld c.body 0 8
  if c.body.length ≠ 48 ∨ n = 0 ∨ 256 < n ∨ ¬ zeroAt c.body 0xA 6 then (s, .done (fail .bodyInvalid))
  else if ¬ s.laneAny .bigNumber then (s, .done (fail .laneUnavailable))
  else s.withRandom 56 fun s k =>
    let es := s.log.from first n
    let b := s.exportBytes es (sub c.body 0x10 32)
    let next := (es.getLast?.map fun e => e.seq + 1).getD first
    ({ s with log := { s.log with exports := s.log.exports + 1, exportFreeze := s.log.freeze.isNone } },
      .job .bigNumber (curveCycles 1600 6) []
        { body := natLE 2 es.length ++ zeros 6 ++ natLE 8 next, out := b ++ s.identitySig (sha384 b) k })

/-- An export ends, and with the last one the freeze that it holds (R543). -/
def State.exportEnd (s : State) (op : Nat) : State :=
  if op ≠ 0x0A03 ∨ s.log.exports = 0 then s
  else
    let s1 := { s with log := { s.log with exports := s.log.exports - 1 } }
    if s1.log.exports = 0 ∧ s1.log.freeze.isNone then s1.thaw false else s1

/-! ## Peek (R545) -/

/-- The path may write LOG_PEEK_INDEX: PF0 in FELLED, the debug port under log_read, the warden world. -/
def State.peekOpen (s : State) : Path → Bool
  | .pf0 => s.mode == .felled
  | .debug => s.debugRight 12
  | .warden _ => s.mode != .felled
  | _ => false

/-- LOG_PEEK_INDEX_WRITE. -/
def State.peek (s : State) (p : Path) (v : Word32) : State :=
  if s.mode ≠ .dormant ∧ s.peekOpen p then
    let i := v.toNat % 16384
    { s with log := { s.log with peek := i, peekData := ((mapFind s.log.slots i).map logBytes).getD (zeros 64) } }
  else s

end Sys2Proof.Machine
end

