-- ==== Sys2Proof/Machine/Lanes.lean ====
section
/-! DEFINITION. The end of lane jobs: results, lane faults and withdrawal, and the waiting jobs (R27, R30, R31, R253, R266 to
R269, R277, R288 to R304). -/

namespace Sys2Proof.Machine

/-- The command whose job a lane runs. -/
def State.laneRun (s : State) (k : LaneKind) (l : Nat) : Option Run := s.running.find? fun r => r.stage == .lane k (some l)

/-- Island of a lane. -/
def laneIsland : LaneKind → Nat
  | .cipher => islCipher | .digest => islDigest | .bigNumber => islBig | .decimal => islLedger

/-- The present time is a residue fault of a lane; the third within 1,000,000 ticks withdraws it (R31). -/
def State.laneFault (s : State) (k : LaneKind) (l : Nat) : State :=
  let key := 64 * kindNum k + l
  let ts := (s.tick :: mapGet [] s.lanes.faults key).take 3
  let s1 := { s with lanes := { s.lanes with faults := mapPut [] s.lanes.faults key ts } }
  if ts.length = 3 ∧ s.tick < ts.getD 2 0 + 1000000 ∧ ¬ s.lanes.withdrawn.contains key then
    (({ s1 with lanes := { s1.lanes with withdrawn := key :: s1.lanes.withdrawn } } : State).raise .integrity 5).logEvent
      0x0204 .alarm (laneIsland k) 0x100 .ok [kindNum k, l]
  else s1

/-- A residue or self-verification fault is logged with its lane and operation, and tallied (R30, R301). -/
def State.faultLog (s : State) (k : LaneKind) (l op tenant : Nat) : State :=
  ((s.raise .integrity 1).logEvent 0x0203 .alarm (laneIsland k) tenant .computeFault [kindNum k, l, op]).countEvent 23

/-- Such a fault, counted for its lane (R31). -/
def State.computeFault (s : State) (k : LaneKind) (l op tenant : Nat) : State := (s.faultLog k l op tenant).laneFault k l

/-- A failed waybill check at a lane (R27). -/
def State.waybillFault (s : State) (k : LaneKind) (l granule tenant : Nat) : State :=
  (s.raise .integrity 0).logEvent 0x0202 .alarm (laneIsland k) tenant .waybillMismatch [kindNum k, l, granule]

/-- What a fault inside a job does, and the result the job then hands on. -/
def State.jobFault (s : State) (k : LaneKind) (l : Nat) (run : Run) : JobFault → State × Result
  | .none => (s, run.res)
  | .residue | .selfVerify =>
    ((if k = .decimal then s.laneCount .decimal 0x00C else s).computeFault k l run.op run.record.tenant, fail .computeFault)
  | .decimal d => ((s.laneCount .decimal 0x00C).computeFault k l run.op run.record.tenant, failD .computeFault d)
  | .sequencer d => ((s.laneCount .decimal 0x010).faultLog k l run.op run.record.tenant, failD .computeFault d)
  | .poisoned w => (if k = .bigNumber then s.badWord .operand w else s, fail .dataPoisoned)
  | .waybill g => (s.waybillFault k l g run.record.tenant, fail .waybillMismatch)
  | .dma => (s, fail .dmaFailed)
  | .bufferChanged => (s, fail .decryptFailed)
  | .ttuRefused => (s.ttuRefuse run.record.fn run.record.sq.outAddr run.record.sq.outCap true, fail .ownerMismatch)

/-- The changes that a job's result still makes: a reset of the function has emptied its stream contexts for good (R278). -/
def keptChanges (run : Run) (res : Result) : Result :=
  if run.squash then { res with changes := res.changes.filter fun c => match c with
    | .stream .. => false
    | _ => true } else res

/-- A job ends: its lane zeroes its key register, the command goes on with the result, and commands that waited for the
register complete (R176). A log export's freeze ends with it (R543). -/
def State.endJob (s : State) (run : Run) (res : Result) : State :=
  ((s.finish { run with latched := [] } (keptChanges run res)).unlatch).exportEnd run.op

/-- CIPHER_JOB_DONE (R267). -/
def State.cipherDone (s : State) (l : Nat) (f : JobFault) : State :=
  match s.laneRun .cipher l with
  | none => s
  | some run =>
    let (s1, res) := (s.laneCount .cipher 0x004).jobFault .cipher l run f
    s1.endJob run res

/-- The result starts a message over in a finished context (Table 8-8). -/
def State.restarts (s : State) (res : Result) : Bool :=
  res.status == .ok && res.changes.any fun c => match c with
    | .stream k _ => (s.ctx k).phase == 2
    | _ => false

/-- DIGEST_JOB_DONE (R277, R279). -/
def State.digestDone (s : State) (l : Nat) (f : JobFault) : State :=
  match s.laneRun .digest l with
  | none => s
  | some run =>
    let (s1, res) := s.jobFault .digest l run f
    (if s1.restarts res then s1.laneCount .digest 0x004 else s1).endJob run res

/-- A counter of a lane block is advanced by a number. -/
def State.laneCountBy (s : State) (k : LaneKind) (off n : Nat) : State :=
  let key := 0x1000 * kindNum k + off
  { s with lanes := { s.lanes with counters := mapPut 0 s.lanes.counters key (min 0xFFFFFFFF
      (mapGet 0 s.lanes.counters key + n)) } }

/-- Counters of a big-number job's end: jobs, wipes, faults and discarded candidates (Table 9-10). -/
def State.countBig (s : State) (f : JobFault) (discards : Nat) : State :=
  let s1 := ((s.laneCount .bigNumber 0x010).laneCount .bigNumber 0x014).laneCountBy .bigNumber 0x020 discards
  if f = .selfVerify then s1.laneCount .bigNumber 0x018 else if f = .residue then s1.laneCount .bigNumber 0x01C else s1

/-- The job is an RSA key generation, whose time is not fixed (R310). -/
def isRsaGen (run : Run) : Bool := run.op == 0x0505 && run.cycles == 0

/-- BIG_NUMBER_JOB_DONE (R290, R295, R301, R304). Only an RSA key generation discards candidates, and only it ends with the
DRBG's failure. -/
def State.bigDone (s : State) (l : Nat) (f : JobFault) (discards : Nat) : State :=
  match s.laneRun .bigNumber l with
  | none => s
  | some run =>
    let s1 := s.countBig f (if isRsaGen run then discards else 0)
    if f = .none ∧ isRsaGen run ∧ s.rng.st ≠ .healthy then s1.endJob run (fail .entropyFailed)
    else
      let (s2, res) := s1.jobFault .bigNumber l run f
      s2.endJob run res

/-- LANE_JOB_DISPATCH: the oldest waiting job of the kind takes the lane; a kind without a powered lane ends it (R253). -/
def State.dispatch (s : State) (k : LaneKind) (l : Nat) : State :=
  match s.running.find? fun r => r.stage == .lane k none with
  | none => s
  | some run =>
    if ¬ s.laneAny k then s.endJob run (fail .laneUnavailable)
    else if l < Sys2Proof.Machine.laneCount k ∧ s.laneOn k l ∧ s.laneIdle k l then s.laneStart run k l run.res
    else s

/-- MASK_RESEED_POINT: a job that has run 65,536 rounds takes a reseed, or stops (R268, R269). -/
def State.reseedPoint (s : State) (l : Nat) : State :=
  match s.laneRun .cipher l with
  | none => s
  | some run =>
    if run.cycles ≤ 65536 then s
    else match s.laneDraw .cipher l with
      | some s1 => s1.laneCount .cipher 0x008
      | none => (s.laneCount .cipher 0x00C).endJob run (fail .entropyFailed)

end Sys2Proof.Machine
end

