-- ==== Sys2Proof/Machine/Cards.lean ====
section
/-! DEFINITION. The custodian card ports: activation, ATR, T=1 and the exchange of Table 7-12 (R227 to R237, R250). -/

namespace Sys2Proof.Machine

/-- A custodian card port. -/
def State.cardPort (s : State) (n : Nat) : CardPort := mapGet {} s.cards.port n

/-- A port is replaced. -/
def State.setCard (s : State) (n : Nat) (p : CardPort) : State :=
  { s with cards := { s.cards with port := mapPut {} s.cards.port n p } }

/-- The port goes on to a step, which begins now. -/
def State.cardStep (s : State) (n : Nat) (p : CardPort) (st : CardStep) : State :=
  s.setCard n { p with step := st, since := s.tick }

/-! ## Activation and deactivation (Table 7-10) -/

/-- Classes a port permits, in the order C, B, A (R228, Table 7-15). -/
def State.portClasses (s : State) (n : Nat) : List Nat :=
  let m := s.man.set.cardClasses.getD n 0
  [3, 2, 1].filter fun c => m.getLsbD (c - 1)

/-- Clock divider after PPS: the smallest d from 40 to 200 with 200 MHz ÷ d at or below 5 MHz and clock_khz (R230). -/
def State.cardDiv (s : State) (n : Nat) : Nat :=
  max 40 (min 200 (ceilDiv 200000 (max 1 (s.man.set.cardClocks.getD n 5000))))

/-- Step 1 of Table 7-10 for the next class. -/
def State.activate (s : State) (n : Nat) (p : CardPort) (c : Nat) (rest : List Nat) : State :=
  (s.emit (.cardSignals n c false false false)).cardStep n
    { p with cls := c, classes := rest, ppsDone := false, fi := 372, di := 1, div := 50, crc := false, ifsc := 32,
             bwi := 4, cwi := 13, guard := 0, ns := false, nr := false, apdu := [], acked := 0, rx := [], done := none,
             tries := 0, resynchs := 0, resynching := false, mult := 1, granted := 0 } (.activating 2)

/-- Step D1: the card is deactivated. -/
def State.deactivate (s : State) (n : Nat) (p : CardPort) : State :=
  match p.step with
  | .idle => s.setCard n p
  | .deactivating _ => s.setCard n p
  | _ => (s.emit (.cardSignals n p.cls false true true)).cardStep n p (.deactivating 2)

/-- The run of a command that holds a port. -/
def State.runOf (s : State) (r : RecRef) : Option Run := s.running.find? fun x => x.record.ref == r

/-- The command on a port ends: ephemerals are zeroed, the card is deactivated and the command completes (R229, R235).
Vault changes it made on the way travel with its result. -/
def State.endCard (s : State) (n : Nat) (res : Result) : State :=
  let p := s.cardPort n
  match p.ref.bind s.runOf with
  | none => s.deactivate n { p with ref := none }
  | some run =>
    let s1 := if res.status = .cardProtocol then s.raise .crd (4 * n + 3) else s
    let s2 := s1.deactivate n { p with ref := none, enrol := none, plain := false, classes := [], eph := 0, nonceD := [],
                                       key := [], nonceC := [], cert := [] }
    s2.finish run { res with changes := run.res.changes ++ res.changes }

/-- The card is deactivated and the next permitted class tried; with none left the command ends (R229). -/
def State.nextClass (s : State) (n : Nat) : State :=
  let p := s.cardPort n
  if p.classes = [] then s.endCard n (fail .cardProtocol) else s.deactivate n p

/-- CARD_ACTIVATION_TIMER: the next timing point of Table 7-10 is reached. -/
def State.cardActivation (s : State) (n : Nat) : State :=
  let p := s.cardPort n
  match p.step with
  | .activating 2 =>
    if p.since + 1000 ≤ s.tick then (s.emit (.cardSignals n p.cls false false true)).cardStep n p (.activating 3) else s
  | .activating 3 =>
    if p.since + 10 ≤ s.tick then (s.emit (.cardSignals n p.cls false true true)).cardStep n p (.activating 4) else s
  | .activating 4 =>
    if p.since + 250 ≤ s.tick then (s.emit (.cardSignals n p.cls true true true)).cardStep n p .atr else s
  | _ => s

/-- CARD_DEACTIVATION_TIMER: D2 to D4. After D4 a command that holds the port activates the card with its next class. -/
def State.cardDeactivation (s : State) (n : Nat) : State :=
  let p := s.cardPort n
  match p.step with
  | .deactivating 2 =>
    if p.since + 10 ≤ s.tick then (s.emit (.cardSignals n p.cls false false true)).cardStep n p (.deactivating 3) else s
  | .deactivating 3 =>
    if p.since + 10 ≤ s.tick then (s.emit (.cardSignals n p.cls false false false)).cardStep n p (.deactivating 4) else s
  | .deactivating 4 =>
    if p.since + 10 ≤ s.tick then
      let s1 := s.emit (.cardSignals n 0 false false false)
      match p.ref, p.classes with
      | some _, c :: rest => s1.activate n p c rest
      | _, _ => s1.setCard n { present := p.present, edge := p.edge, overAt := p.overAt, ref := p.ref, tenant := p.tenant
                               enrol := p.enrol }
    else s
  | _ => s

/-- ATR_TIMEOUT (R228, R229). -/
def State.atrTimeout (s : State) (n : Nat) : State := if (s.cardPort n).step = .atr then s.nextClass n else s

/-! ## Presence and over-current (R237) -/

/-- CARD_INSERTION. -/
def State.cardInsert (s : State) (n : Nat) : State :=
  let p := s.cardPort n
  if ¬ s.unitOn 11 0 ∨ p.present then s else s.setCard n { p with edge := some s.tick }

/-- CARD_INSERTION_RECOGNISED. -/
def State.cardRecognised (s : State) (n : Nat) : State :=
  let p := s.cardPort n
  match p.edge with
  | some e =>
    if s.unitOn 11 0 ∧ e + 100000 ≤ s.tick then (s.setCard n { p with present := true, edge := none }).raise .crd (4 * n)
    else s
  | none => s

/-- The answer that settles the command has ended, so that a removal no longer falls in its phase (R250, Table 7-19). -/
def CardPort.settled (p : CardPort) : Bool := p.done.isSome && (p.step == .bind || (p.step == .confirm && p.enrol.isNone))

/-- CARD_REMOVAL (R237, R250). -/
def State.cardRemove (s : State) (n : Nat) : State :=
  let p := s.cardPort n
  if ¬ s.unitOn 11 0 then s
  else if ¬ p.present then s.setCard n { p with edge := none }
  else
    let s1 := (s.setCard n { p with present := false }).raise .crd (4 * n + 1)
    if p.settled then s1 else s1.endCard n (fail .cardRemoved)

/-- OVERCURRENT_ONSET. -/
def State.overOnset (s : State) (n : Nat) : State :=
  if s.unitOn 11 0 then s.setCard n { s.cardPort n with overAt := some s.tick } else s

/-- OVERCURRENT_FILTER_EXPIRY. -/
def State.overExpiry (s : State) (n : Nat) : State :=
  let p := s.cardPort n
  match p.overAt with
  | some o =>
    if s.unitOn 11 0 ∧ o + s.man.set.ocFilter ≤ s.tick then
      ((s.setCard n { p with overAt := none }).raise .crd (4 * n + 2)).endCard n (fail .cardProtocol)
    else s
  | none => s

/-! ## ATR and PPS (R229, R230) -/

/-- Interface bytes of one group of an ATR: its number, the protocol that the preceding TD names, TA, TB and TC. -/
structure AtrGroup where
  num : Nat
  proto : Nat
  ta : Option Nat
  tb : Option Nat
  tc : Option Nat
deriving DecidableEq, Repr

/-- A byte that a presence bit announces, and what follows it. -/
def atrByte (y : Nat) (bit : Nat) (b : List Nat) : Option Nat × List Nat :=
  if y.testBit bit then (b.head?, b.drop 1) else (none, b)

/-- The groups of an ATR from its presence nibble on, and the bytes after them. -/
def atrGroups : Nat → Nat → Nat → Nat → List Nat → List AtrGroup × List Nat
  | 0, _, _, _, b => ([], b)
  | fuel + 1, num, proto, y, b =>
    let (ta, b1) := atrByte y 0 b
    let (tb, b2) := atrByte y 1 b1
    let (tc, b3) := atrByte y 2 b2
    let (td, b4) := atrByte y 3 b3
    let g : AtrGroup := { num, proto, ta, tb, tc }
    match td with
    | none => ([g], b4)
    | some d =>
      let (gs, r) := atrGroups fuel (num + 1) (d % 16) (d / 16) b4
      (g :: gs, r)

/-- Exclusive or of bytes. -/
def xorAll (b : Bytes) : Byte := b.foldl (· ^^^ ·) 0

/-- The ATR has a legal TS, its length fits and its TCK is correct (R229). -/
def atrOk (a : Bytes) : Bool :=
  let v := a.map BitVec.toNat
  let (gs, r) := atrGroups 8 1 0 (v.getD 1 0 / 16) (v.drop 2)
  (v.getD 0 0 == 0x3B || v.getD 0 0 == 0x3F) && r.length == v.getD 1 0 % 16 + (if gs.any (·.proto != 0) then 1 else 0) &&
    (gs.all (·.proto == 0) || xorAll (a.drop 1) == 0)

/-- Groups of an ATR. -/
def atrOf (a : Bytes) : List AtrGroup :=
  let v := a.map BitVec.toNat
  (atrGroups 8 1 0 (v.getD 1 0 / 16) (v.drop 2)).1

/-- Fi by its code; PRESUMED from ISO/IEC 7816-3, which TA1 follows (entry 18). -/
def fiOf (c : Nat) : Nat :=
  if c = 0 ∨ c = 1 then 372 else if c = 2 then 558 else if c = 3 then 744 else if c = 4 then 1116 else if c = 5 then 1488
  else if c = 6 then 1860 else if c = 9 then 512 else if c = 10 then 768 else if c = 11 then 1024 else if c = 12 then 1536
  else if c = 13 then 2048 else 0

/-- Di by its code; PRESUMED from ISO/IEC 7816-3 (entry 18). -/
def diOf (c : Nat) : Nat :=
  if c = 1 then 1 else if c = 2 then 2 else if c = 3 then 4 else if c = 4 then 8 else if c = 5 then 16 else if c = 6 then 32
  else if c = 7 then 64 else if c = 8 then 12 else if c = 9 then 20 else 0

/-- TA1 names an Fi at most 512 and a Di at most 32 (R230). -/
def rateOk (ta1 : Nat) : Bool :=
  let f := fiOf (ta1 / 16)
  let d := diOf (ta1 % 16)
  decide (0 < f) && decide (f ≤ 512) && decide (0 < d) && decide (d ≤ 32)

/-- PPS request for T=1 with a TA1. -/
def ppsRequest (ta1 : Nat) : Bytes :=
  let b : Bytes := [0xFF, 0x11, BitVec.ofNat 8 ta1]
  b ++ [xorAll b]

/-! ## T=1 blocks (R231 to R234); the coding is PRESUMED from ISO/IEC 7816-3 (entry 18) -/

/-- One bit of the CRC of a T=1 block. -/
def crc16Bit (c : BitVec 16) : BitVec 16 := if c.getLsbD 0 then (c >>> 1) ^^^ 0x8408 else c >>> 1

/-- CRC of a T=1 block. -/
def crc16 (b : Bytes) : BitVec 16 :=
  (b.foldl (fun c x => (List.range 8).foldl (fun c _ => crc16Bit c) (c ^^^ x.setWidth 16)) 0xFFFF) ^^^ 0xFFFF

/-- Check bytes of a block: LRC or CRC. -/
def edc (crc : Bool) (b : Bytes) : Bytes := if crc then natLE 2 (crc16 b).toNat else [xorAll b]

/-- A block with its NAD 0x00 and its check bytes. -/
def t1Block (p : CardPort) (pcb : Nat) (inf : Bytes) : Bytes :=
  let b : Bytes := [0, BitVec.ofNat 8 pcb, BitVec.ofNat 8 inf.length] ++ inf
  b ++ edc p.crc b

/-- A received block is whole: NAD 0x00, length and check bytes right. -/
def t1Good (p : CardPort) (b : Bytes) : Bool :=
  let n := fld b 2 1
  let e := if p.crc then 2 else 1
  fld b 0 1 == 0 && decide (n ≤ 254) && b.length == 3 + n + e && edc p.crc (b.take (3 + n)) == b.drop (3 + n)

/-- A block goes to the card, and its waiting time begins. -/
def State.sendBlock (s : State) (n : Nat) (p : CardPort) (pcb : Nat) (inf : Bytes) : State :=
  (s.emit (.card n (t1Block p pcb inf))).setCard n { p with since := s.tick }

/-- The I-block of the APDU's part that the card has not acknowledged. -/
def State.sendI (s : State) (n : Nat) (p : CardPort) : State :=
  let rest := p.apdu.drop p.acked
  let inf := rest.take p.ifsc
  s.sendBlock n p ((if p.ns then 0x40 else 0) + (if inf.length < rest.length then 0x20 else 0)) inf

/-- An APDU begins. -/
def State.sendApdu (s : State) (n : Nat) (p : CardPort) (st : CardStep) (apdu : Bytes) : State :=
  s.sendI n { p with step := st, apdu, acked := 0, rx := [], done := none, tries := 0, resynchs := 0, mult := 1
                     granted := 0 }

/-- What is sent when a step begins again: S(IFS request), or the APDU from its first block. -/
def State.sendAgain (s : State) (n : Nat) (p : CardPort) : State :=
  if p.step = .ifs then s.sendBlock n p 0xC1 [0xFE] else s.sendI n { p with acked := 0, rx := [], done := none }

/-- Block waiting time in ticks, rounded up (Table 7-11, entry 12). -/
def CardPort.bwt (p : CardPort) : Nat :=
  p.mult * ceilDiv ((11 * p.fi / max 1 p.di + 2 ^ p.bwi * 960 * 372) * p.div) 200

/-- The port waits for a block. -/
def CardPort.waits (p : CardPort) : Bool :=
  p.step ∈ [CardStep.ifs, .select, .readCert, .authenticate, .confirm, .bind] && p.done.isNone

/-- Error recovery (R233): an R-block at most 3 times for one block, then S(RESYNCH) at most 3 times, then the end. -/
def State.recover (s : State) (n : Nat) : State :=
  let p := s.cardPort n
  if ¬ p.waits then s
  else if ¬ p.resynching ∧ p.tries < 3 then
    ({ s with cards := { s.cards with rblocks := sat32 s.cards.rblocks } } : State).sendBlock n
      { p with tries := p.tries + 1 } (if p.nr then 0x90 else 0x80) []
  else if p.resynchs < 3 then
    ({ s with cards := { s.cards with resynchs := sat32 s.cards.resynchs } } : State).sendBlock n
      { p with resynching := true, resynchs := p.resynchs + 1 } 0xC0 []
  else s.endCard n (fail .cardProtocol)

/-- A block of the card counts only when it came before the close of its waiting time (R148, R234). -/
def State.cardInTime (s : State) (n : Nat) (stamp : Tick) : Bool :=
  let p := s.cardPort n
  governs stamp s.tick (p.since + p.bwt)

/-- Bytes a card sent in a captured record are kept (R548). -/
def State.captureCard (s : State) (port : Nat) (ref : Option RecRef) (stamp : Tick) (b : Bytes) : State :=
  match (ref.bind s.runOf).bind (·.capture) with
  | some i => s.capture (.card port i stamp b)
  | none => s

/-- T1_I_BLOCK: the block is taken; a chained one is acknowledged (R232). An answer without a status word ends the command.
DEDUCED (entry 18). -/
def State.t1I (s : State) (n : Nat) (b : Bytes) (stamp : Tick) : State :=
  let p := s.cardPort n
  if ¬ p.waits then s.lateDiscard islCard
  else if ¬ s.cardInTime n stamp then s.lateDiscard islCard
  else
    let pcb := fld b 1 1
    if ¬ t1Good p b ∨ 0x80 ≤ pcb ∨ pcb.testBit 6 != p.nr ∨ p.resynching ∨ p.step = .ifs then s.recover n
    else
      let p1 := { p with rx := p.rx ++ sub b 3 (fld b 2 1), nr := !p.nr, tries := 0, mult := 1
                         ns := if p.rx = [] then !p.ns else p.ns, acked := p.apdu.length }
      let s1 := s.captureCard n p.ref stamp b
      if pcb.testBit 5 then s1.sendBlock n p1 (if p1.nr then 0x90 else 0x80) []
      else if p1.rx.length < 2 then s1.endCard n (fail .cardProtocol)
      else s1.setCard n { p1 with done := some stamp }

/-- T1_R_BLOCK: the next block of a chain, or the same block again (R232). -/
def State.t1R (s : State) (n : Nat) (b : Bytes) (stamp : Tick) : State :=
  let p := s.cardPort n
  if ¬ p.waits ∨ ¬ s.cardInTime n stamp then s.lateDiscard islCard
  else
    let pcb := fld b 1 1
    if ¬ t1Good p b ∨ pcb / 0x40 ≠ 2 ∨ p.resynching ∨ p.step = .ifs then s.recover n
    else if pcb.testBit 4 == p.ns then (s.captureCard n p.ref stamp b).sendI n { p with mult := 1 }
    else if p.acked + p.ifsc < p.apdu.length then
      (s.captureCard n p.ref stamp b).sendI n { p with acked := p.acked + p.ifsc, ns := !p.ns, tries := 0, mult := 1 }
    else s.recover n

/-- BWT_EXPIRY (R233, R148). -/
def State.bwtExpiry (s : State) (n : Nat) : State :=
  let p := s.cardPort n
  if p.waits ∧ p.since + p.bwt + 2 ≤ s.tick then s.recover n else s

/-- S_WTX_REQUEST (R234). -/
def State.wtx (s : State) (n mult : Nat) : State :=
  let p := s.cardPort n
  if ¬ p.waits then s
  else if mult = 0 ∨ 255 < mult ∨ p.resynching then s.recover n
  else
    let asked := ({ p with mult } : CardPort).bwt
    if 30000000 < p.granted + asked then s.endCard n (fail .cardProtocol)
    else
      let s1 := s.captureCard n p.ref s.tick (t1Block p 0xC3 [BitVec.ofNat 8 mult])
      s1.sendBlock n { p with mult, granted := p.granted + asked } 0xE3 [BitVec.ofNat 8 mult]

/-- S_ABORT_REQUEST (R233). -/
def State.sAbort (s : State) (n : Nat) : State :=
  let p := s.cardPort n
  if p.waits then (s.captureCard n p.ref s.tick (t1Block p 0xC2 [])).endCard n (fail .cardProtocol) else s

/-- S_RESYNCH_RESPONSE (R232, R233). -/
def State.resynched (s : State) (n : Nat) : State :=
  let p := s.cardPort n
  if ¬ p.waits ∨ ¬ p.resynching then s
  else (s.captureCard n p.ref s.tick (t1Block p 0xE0 [])).sendAgain n { p with resynching := false, ns := false, nr := false, tries := 0, mult := 1 }

/-! ## From the ATR to the exchange -/

/-- S(IFS request) follows the ATR or the PPS (R231). -/
def State.startIfs (s : State) (n : Nat) (p : CardPort) : State :=
  s.sendBlock n { p with step := .ifs, div := s.cardDiv n, done := none, tries := 0, resynchs := 0, mult := 1 } 0xC1 [0xFE]

/-- The first interface byte of an ATR for T=1 in a group after the second (Table 7-11). -/
def atrT1 (gs : List AtrGroup) (f : AtrGroup → Option Nat) : Option Nat :=
  (gs.find? fun g => g.proto == 1 && decide (3 ≤ g.num) && (f g).isSome).bind f

/-- CARD_ATR (R229, R230, Table 7-11). -/
def State.cardAtr (s : State) (n : Nat) (a : Bytes) : State :=
  let p := s.cardPort n
  if p.step ≠ .atr then s
  else
    let s0 := s.captureCard n p.ref s.tick a
    if ¬ atrOk a then s0.nextClass n
    else
      let gs := atrOf a
      let g1 := gs.headD ⟨1, 0, none, none, none⟩
      let ta2 := (gs.find? fun g => g.num == 2).bind (·.ta)
      let ind := ((gs.find? fun g => g.proto == 15).bind (·.ta)).map (· % 64)
      let p1 := { p with
        ifsc := (atrT1 gs (·.ta)).getD 32, bwi := ((atrT1 gs (·.tb)).getD 0x4D) / 16
        cwi := ((atrT1 gs (·.tb)).getD 0x4D) % 16, crc := ((atrT1 gs (·.tc)).getD 0) % 2 == 1
        guard := g1.tc.getD 0 }
      if ¬ gs.any (fun g => decide (2 ≤ g.num) && g.proto == 1) then s0.endCard n (fail .cardProtocol)
      else if ind.isSome ∧ ¬ (ind.getD 0).testBit (p.cls - 1) then s0.nextClass n
      else if p1.ifsc = 0 ∨ 254 < p1.ifsc ∨ 9 < p1.bwi then s0.endCard n (fail .cardProtocol)
      else match ta2 with
        | some m =>
          let t := g1.ta.getD 0x11
          if m % 16 = 1 ∧ ¬ m.testBit 4 ∧ rateOk t then
            s0.startIfs n { p1 with fi := fiOf (t / 16), di := diOf (t % 16) }
          else s0.endCard n (fail .cardProtocol)
        | none =>
          match g1.ta with
          | some t =>
            if t ≠ 0x11 ∧ rateOk t ∧ ¬ p.plain then
              (s0.emit (.card n (ppsRequest t))).cardStep n { p1 with ta1 := t } .pps
            else s0.startIfs n p1
          | none => s0.startIfs n p1

/-- A PPS that failed: the card is activated again at default values without a PPS (R230). -/
def State.ppsFail (s : State) (n : Nat) : State :=
  let p := s.cardPort n
  s.deactivate n { p with plain := true, classes := p.cls :: p.classes }

/-- PPS_RESPONSE (R230). -/
def State.ppsAnswer (s : State) (n : Nat) (b : Bytes) : State :=
  let p := s.cardPort n
  if p.step ≠ .pps then s
  else
    let s0 := s.captureCard n p.ref s.tick b
    if b = ppsRequest p.ta1 then
      s0.startIfs n { p with ppsDone := true, fi := fiOf (p.ta1 / 16), di := diOf (p.ta1 % 16) }
    else s0.ppsFail n

/-- PPS_TIMEOUT (R230). -/
def State.ppsTimeout (s : State) (n : Nat) : State := if (s.cardPort n).step = .pps then s.ppsFail n else s

/-- APDU of SELECT. -/
def apduSelect : Bytes := [0x00, 0xA4, 0x04, 0x00, 0x07, 0xF0, 0x59, 0x4B, 0x48, 0x36, 0x34]
/-- APDU of READ CERT. -/
def apduReadCert : Bytes := [0x80, 0x10, 0x00, 0x00, 0xA0]

/-- S_IFS_RESPONSE: the T=1 exchange begins with SELECT (R231, Table 7-12). -/
def State.ifsAnswer (s : State) (n : Nat) (b : Bytes) : State :=
  let p := s.cardPort n
  if p.step ≠ .ifs ∨ p.resynching then s
  else if b ≠ [0xFE] then s.recover n
  else (s.captureCard n p.ref s.tick (t1Block p 0xE1 b)).sendApdu n p .select apduSelect

/-! ## The exchange of Table 7-12 -/

/-- The card's whole answer to a step is this data and status word. -/
def CardPort.answered (p : CardPort) (st : CardStep) (data : Bytes) (sw : BitVec 16) : Bool :=
  p.step == st && p.done.isSome && p.rx == data ++ bvBytes sw

/-- The card's answer to a step ends with this status word. -/
def CardPort.answeredSw (p : CardPort) (st : CardStep) (sw : BitVec 16) : Bool :=
  p.answered st (p.rx.take (p.rx.length - 2)) sw

/-- The dev_eph_pub ‖ nonce_d ‖ TOP_SERIAL ‖ dev_cust_pub that AUTHENTICATE carries. -/
def State.authData (s : State) (p : CardPort) : Bytes :=
  pointBytes 32 (p256Curve.mul p.eph p256Curve.base) ++ p.nonceD ++ natLE 8 s.otp.serial ++ s.custodyPub

/-- Key K of the exchange. -/
def State.cardKey (s : State) (p : CardPort) : Bytes :=
  let pub := sub p.cert 0x10 64
  let z := p256Curve.shared 32 p.eph pub ++ p256Curve.shared 32 (Config.custodyScalar s.otp.secret) pub
  hkdf256 z p.nonceD (ascii "KH64-CUSTODY" ++ natLE 8 s.otp.serial) 32

/-- card_id of a certificate. -/
def certId (cert : Bytes) : Nat := fld cert 8 8

/-- The card's entry in the loaded roster: its custodian index (R221). -/
def State.custodian (s : State) (t : Nat) (cert : Bytes) : Option Nat :=
  (mapFind s.rosters t).bind fun r =>
    (r.entries.find? fun e => e.1 == certId cert && e.2.1 == fingerprint cert).map (·.2.2)

/-- R221: the certificate and, where the tenant has a roster, the roster admit the card. -/
def State.cardAdmitted (s : State) (t : Nat) (cert : Bytes) : Bool :=
  s.certOk t cert && ((s.custodyEntry t).rosterGen == 0 || (s.custodian t cert).isSome)

/-- SELECT_ANSWER. -/
def State.selectAnswer (s : State) (n : Nat) (sw : BitVec 16) : State :=
  let p := s.cardPort n
  if ¬ p.answeredSw .select sw then s
  else if sw ≠ 0x9000 then s.endCard n (fail .custodianUnknown)
  else s.sendApdu n p .readCert apduReadCert

/-- READ_CERT_ANSWER (R212, R221, R218 step 4). -/
def State.certAnswer (s : State) (n : Nat) (data : Bytes) (sw : BitVec 16) : State :=
  let p := s.cardPort n
  if ¬ p.answered .readCert data sw then s
  else if sw ≠ 0x9000 ∨ data.length ≠ 160 ∨ ¬ s.certOk p.tenant data then s.endCard n (fail .custodianUnknown)
  else if p.enrol.isSome ∧ ((mapFind s.rosters p.tenant).map fun r => r.entries.any fun e => e.1 == certId data) = some true
    then s.endCard n (fail .bodyInvalid)
  else if p.enrol.isNone ∧ ¬ s.cardAdmitted p.tenant data then s.endCard n (fail .custodianUnknown)
  else
    let d := s.authData p
    s.sendApdu n { p with cert := data } .authenticate
      ([0x80, 0x20, 0x00, 0x00, BitVec.ofNat 8 d.length] ++ d ++ [0x30])

/-- AUTHENTICATE_ANSWER: K is derived, card_mac checked and CONFIRM sent (Table 7-12). -/
def State.authAnswer (s : State) (n : Nat) (data : Bytes) (sw : BitVec 16) : State :=
  let p := s.cardPort n
  if ¬ p.answered .authenticate data sw then s
  else
    let k := s.cardKey p
    let t := s.authData p ++ data.take 16
    if sw ≠ 0x9000 ∨ data.length ≠ 48 ∨ data.drop 16 ≠ hmac256 k (ascii "CARD" ++ t) then s.endCard n (fail .cardAuthFailed)
    else s.sendApdu n { p with key := k, nonceC := data.take 16 } .confirm
      ([0x80, 0x22, 0x00, 0x00, 0x20] ++ hmac256 k (ascii "DEVC" ++ t))

/-- Answer of CARD_AUTHENTICATE (Table 7-8). -/
def authBody (cert : Bytes) (index : Nat) (q : QuorumState) (m flags : Nat) : Bytes :=
  natLE 8 (certId cert) ++ natLE 1 index ++ natLE 1 q.counted.length ++ natLE 1 m ++ natLE 1 flags ++ zeros 4 ++
    natLE 8 q.closeTick

/-- The quorum step of Table 7-7 for an authentication that counts, stamped `a`. -/
def State.countCard (s : State) (t : Nat) (cert : Bytes) (a : Tick) : State × Result :=
  let q := s.quorum t
  let m := s.quorumM t
  let w := ((s.custodyOf t).map (·.window)).getD 0 * 1000000
  let ix := (s.custodian t cert).getD 0xFF
  let ok (s : State) (q : QuorumState) (flags : Nat) : State × Result :=
    (s.setQuorum t q, { body := authBody cert ix q m flags })
  if q.phase = 0 then (s, fail .quorumMissing)
  else if q.phase = 2 then ok s q 2
  else if q.counted = [] then ok s { q with counted := [certId cert], openTick := a, closeTick := a + w } 0
  else if q.closeTick ≤ a then (s.setQuorum t {}, fail .quorumWindow)
  else if q.counted.contains (certId cert) then ok s q 1
  else
    let l := certId cert :: q.counted
    if m ≤ l.length then ok s { q with phase := 2, counted := l, openTick := a, closeTick := a + w } 2
    else ok s { q with counted := l } 0

/-- APDU of BIND. -/
def State.apduBind (s : State) (p : CardPort) (index : Nat) : Bytes :=
  [0x80, 0x30, 0x00, 0x00, 0x4A] ++ s.custodyPub ++ natLE 8 s.otp.serial ++ natLE 1 p.tenant ++ natLE 1 index

/-- CONFIRM_ANSWER (R223, R235, R236 steps 8 and 9). -/
def State.confirmAnswer (s : State) (n : Nat) (sw : BitVec 16) (stamp : Tick) : State :=
  let p := s.cardPort n
  if ¬ p.answeredSw .confirm sw ∨ p.done ≠ some stamp then s
  else if sw ≠ 0x9000 then s.endCard n (fail .cardAuthFailed)
  else match p.enrol with
    | some ix => s.sendApdu n p .bind (s.apduBind p ix)
    | none =>
      let (s1, r) := s.countCard p.tenant p.cert stamp
      s1.endCard n r

/-- A roster entry joins in ascending index order (Table 7-5). -/
def addCustodian (e : Nat × Bytes × Nat) (l : List (Nat × Bytes × Nat)) : List (Nat × Bytes × Nat) :=
  l.filter (fun x => x.2.2 < e.2.2) ++ [e] ++ l.filter fun x => e.2.2 < x.2.2

/-- The entry is added (R218 steps 6 and 7). -/
def State.enrolled (s : State) (t index : Nat) (cert : Bytes) : State × Result :=
  let e := s.custodyEntry t
  let r := (mapFind s.rosters t).getD {}
  let auth := authorityId ((s.authority t).getD [])
  let r1 : Roster := { gen := nextGen e.rosterGen
                       authority := if r.entries = [] then auth else r.authority
                       entries := addCustodian (certId cert, fingerprint cert, index) r.entries }
  let s1 := { s with rosters := mapSet s.rosters t r1 }
  (s1, s1.rosterResult t (certId cert) r1
    ((if r.entries = [] ∧ t = 0 then [.pin auth] else []) ++
      [.custody t { e with rosterGen := r1.gen, rosterPending := true }]))

/-- BIND_ANSWER (R218). -/
def State.bindAnswer (s : State) (n : Nat) (sw : BitVec 16) : State :=
  let p := s.cardPort n
  if ¬ p.answeredSw .bind sw then s
  else if sw ≠ 0x9000 then s.endCard n (fail .cardAuthFailed)
  else
    let (s1, r) := s.enrolled p.tenant (p.enrol.getD 0) p.cert
    s1.endCard n r

/-! ## Commands -/

/-- Port of a command's body, or none where the body breaks Table 7-8 or names a port with an empty class mask (R226). -/
def State.bodyPort (s : State) (b : Bytes) (reservedAt : Nat) : Option Nat :=
  let n := fld b 0 1
  if b.length = 8 ∧ n ≤ 3 ∧ zeroAt b reservedAt (8 - reservedAt) ∧ s.portClasses n ≠ [] then some n else none

/-- The power, busy and presence checks, the draw, and step 1 of Table 7-10 (R226, R235, R236 steps 3 to 6). -/
def State.takeCard (s : State) (c : Cmd) (n : Nat) (enrol : Option Nat) (cs : List Change) : State × Did :=
  let p := s.cardPort n
  let stop (st : Status) : State × Did := (s, .done { fail st with changes := cs })
  match s.domainFail 11 with
  | some st => stop st
  | none =>
    if p.ref.isSome then stop .busy
    else if ¬ p.present then stop .cardAbsent
    else match s.random 56 with
      | none => (s.refused, .done { fail .cardAuthFailed with changes := cs })
      | some (s1, b) =>
        let p1 := { p with ref := some c.record.ref, tenant := c.tenant, enrol, plain := false
                           eph := p256Curve.scalar (b.take 40), nonceD := b.drop 40, classes := s.portClasses n }
        let s2 := match p.step, s.portClasses n with
          | .idle, k :: rest => s1.activate n p1 k rest
          | _, _ => s1.setCard n p1
        (s2, .wait (.card n) { changes := cs })

/-- CARD_AUTHENTICATE (R236). -/
def cardAuthenticate (c : Cmd) (s : State) : State × Did :=
  match s.bodyPort c.body 1 with
  | none => (s, .done (fail .bodyInvalid))
  | some n =>
    if (s.quorum c.tenant).phase = 0 then (s, .done (fail .quorumMissing)) else s.takeCard c n none []

/-- CUSTODIAN_ENROL (R211, R218). -/
def custodianEnrol (c : Cmd) (s : State) : State × Did :=
  let ix := fld c.body 1 1
  match s.bodyPort c.body 2 with
  | none => (s, .done (fail .bodyInvalid))
  | some n =>
    if 31 < ix then (s, .done (fail .bodyInvalid))
    else if (s.custodyOf c.tenant).isNone then (s, .done (fail .custodianUnknown))
    else
      let go (s : State) : State × Did :=
        match s.loadRoster c.tenant c.input with
        | (s1, .error st) => (s1, .done (fail st))
        | (s1, .ok e) =>
          let cs := s.custodyChange c.tenant e
          let s2 := s1.applyAll cs
          if ((mapFind s2.rosters c.tenant).map fun r => r.entries.any fun x => x.2.2 == ix) = some true then
            (s2, .done { fail .bodyInvalid with changes := cs })
          else s2.needNonce fun s => s.takeCard c n (some ix) cs
      if s.quorumM c.tenant ≤ s.rosterCount c.tenant then s.withQuorum c.tenant purposeRoster go else go s

end Sys2Proof.Machine
end

