-- ==== Sys2Proof/Machine/Transit.lean ====
section
/-! DEFINITION. The transit media port and backup shares (R238 to R251). -/

namespace Sys2Proof.Machine

/-! ## Shares (R245, R246) -/

/-- Product in GF(2^8) with polynomial x^8 + x^4 + x^3 + x + 1. -/
def shareMul (a b : Byte) : Byte :=
  ((List.range 8).foldl (fun (z, v) i =>
    (if b.getLsbD i then z ^^^ v else z, if v.getLsbD 7 then (v <<< 1) ^^^ 0x1B else v <<< 1)) ((0 : Byte), a)).1

/-- Power in GF(2^8). -/
def sharePow (a : Byte) : Nat → Byte
  | 0 => 1
  | n + 1 => shareMul a (sharePow a n)

/-- Inverse in GF(2^8). -/
def shareInv (a : Byte) : Byte := sharePow a 254

/-- Coefficient a_j of a set of tenant t (R245). -/
def shareCoeff (m : Bytes) (t set j : Nat) : Bytes :=
  if j = 0 then m else hmac256 m (ascii "KH64-SHAMIR" ++ natLE 1 t ++ natLE 2 set ++ natLE 1 j)

/-- Share x of k coefficients (R245). -/
def shareValue (m : Bytes) (t set k x : Nat) : Bytes :=
  (List.range k).foldl (fun acc j =>
    xorBytes acc ((shareCoeff m t set j).map (shareMul (sharePow (BitVec.ofNat 8 x) j)))) (zeros 32)

/-- Lagrange factor at 0 of the share with index x among the indexes. -/
def shareFactor (xs : List Nat) (x : Nat) : Byte :=
  xs.foldl (fun acc y => if y = x then acc else
    shareMul acc (shareMul (BitVec.ofNat 8 y) (shareInv (BitVec.ofNat 8 y ^^^ BitVec.ofNat 8 x)))) 1

/-- The trunk that shares rebuild (R249). -/
def shareJoin (l : List Share) : Bytes :=
  l.foldl (fun acc s => xorBytes acc ((sub s.body 0x20 32).map (shareMul (shareFactor (l.map (·.index)) s.index)))) (zeros 32)

/-- Share MAC key (R246). -/
def shareKey (m : Bytes) (t set : Nat) : Bytes :=
  hkdf256 m (zeros 32) (ascii "KH64-SHARE" ++ natLE 1 t ++ natLE 2 set) 32

/-- Check value of a trunk, an AES-256 key (R180). -/
def trunkCheck (m : Bytes) : Bytes := checkValue 1 m

/-- Body block of a share (Table 7-16). -/
def shareBody (m : Bytes) (t x k n set gen serial : Nat) : Bytes :=
  padTo 512 (ascii "KHSH" ++ natLE 2 1 ++ natLE 1 t ++ natLE 1 x ++ natLE 1 k ++ natLE 1 n ++ natLE 2 set ++ natLE 2 gen ++
    zeros 2 ++ natLE 8 serial ++ zeros 8 ++ shareValue m t set k x ++ trunkCheck m)

/-- Trailer block of a share without its MAC. -/
def trailerHead (body : Bytes) : Bytes :=
  ascii "KHST" ++ natLE 4 (fld body 0x0A 2 * 256 + fld body 7 1) ++ sha256 body

/-- Trailer block of a share (Table 7-17). -/
def shareTrailer (m : Bytes) (body : Bytes) : Bytes :=
  let h := trailerHead body
  padTo 512 (h ++ hmac256 (shareKey m (fld body 6 1) (fld body 0x0A 2)) (body ++ h))

/-- The MAC of a share verifies under a trunk (R246). -/
def shareMacOk (m body trailer : Bytes) : Bool :=
  sub trailer 0x28 32 == hmac256 (shareKey m (fld body 6 1) (fld body 0x0A 2)) (body ++ trailer.take 0x28)

/-- Card classes, Table 7-18. -/
inductive CardClass where
  | blank | torn | foreign | pending | issued | stale
deriving DecidableEq, Repr

/-- R247: the class of a card for a tenant whose trunk material is `m` (none where there is no trunk). -/
def State.classify (s : State) (t : Nat) (m : Option Bytes) (body trailer : Bytes) : CardClass :=
  let e := s.custodyEntry t
  if body.take 4 ≠ ascii "KHSH" then .blank
  else if trailer.take 0x28 ≠ trailerHead body then .torn
  else if fld body 6 1 ≠ t ∨ fld body 4 2 ≠ 1 then .foreign
  else if e.setOpen ∧ fld body 0x0A 2 = e.shareSet ∧ fld body 0x0C 2 = (s.keyRec t).generation ∧
      (m.map fun k => shareMacOk k body trailer) = some true then
    (if fld body 7 1 = e.sharesIssued + 1 then .pending else if fld body 7 1 ≤ e.sharesIssued then .issued else .stale)
  else .stale

/-! ## The port -/

/-- The transit port is replaced. -/
def State.setTransit (s : State) (p : Transit) : State := { s with cards := { s.cards with transit := p } }

/-- The port waits in a step, from now. -/
def State.sdStep (s : State) (p : Transit) (st : SdStep) : State := s.setTransit { p with step := st, since := s.tick }

/-- A command goes to the card, and the port waits for what follows. -/
def State.sdSend (s : State) (p : Transit) (st : SdStep) (cmd arg : Nat) (data : Bytes := []) : State :=
  (s.emit (.sd cmd arg data)).sdStep p st

/-- The card is powered off. -/
def State.sdOff (s : State) : State :=
  let p := s.cards.transit
  (if p.powered then s.emit (.sdPower false false) else s).setTransit
    { present := p.present, tmpWp := p.tmpWp, permWp := p.permWp }

/-- The share command ends and the card is powered off (R248 step 9). Vault changes made on the way are mirrored with it. -/
def State.endTransit (s : State) (res : Result) : State :=
  let p := s.cards.transit
  let s1 := s.sdOff
  match p.ref.bind s.runOf with
  | some run => s1.finish run { res with changes := run.res.changes ++ res.changes }
  | none => s1

/-- Step 1 of Table 7-14. -/
def State.sdPowerOn (s : State) (p : Transit) : State :=
  (s.emit (.sdPower true false)).sdStep
    { p with powered := true, v18 := false, width4 := false, mode := 0, rca := 0, csd := [], again := false, func := 0
             attempts := 0 } .powerUp

/-- Answer of SHARE_EXPORT (Table 7-18). -/
def State.exportBody (s : State) (p : Transit) : Bytes :=
  natLE 2 p.set ++ natLE 1 p.index ++ natLE 1 (s.custodyEntry p.tenant).sharesIssued ++
    natLE 1 ((if p.tmpWp then 1 else 0) + (if p.permWp then 2 else 0)) ++ zeros 3

/-- A share is counted, or will be: the phase of R248 after step 7. -/
def SdStep.afterCount : SdStep → Bool
  | .cmd27 | .cmd27Token | .cmd27Busy => true
  | _ => false

/-- The phase of Table 7-20 gives CARD_TORN. -/
def SdStep.tears : SdStep → Bool
  | .write _ | .token _ | .busy _ | .verify _ | .verifyData _ => true
  | _ => false

/-- The command ends in CARD_PROTOCOL with the card as it is (R242, R251). -/
def State.sdFail (s : State) (late : Bool) : State :=
  (if late then s.raise .trn 4 else s).endTransit (fail .cardProtocol)

/-- A CRC error is counted; true where the command or block has been repeated already (R242). -/
def State.sdCrc (s : State) : State × Bool :=
  let p := s.cards.transit
  (({ s with cards := { s.cards with crcErrors := sat32 s.cards.crcErrors, transit := { p with again := true } } } :
    State).raise .trn 3, p.again)

/-- Argument of ACMD41 (Table 7-14 step 4). -/
def State.acmdArg (s : State) (p : Transit) : Nat :=
  if 2 ≤ s.man.set.transitMode ∧ ¬ p.only33 then 0x41300000 else 0x40300000

/-- Highest function of CMD6 that transit_mode and the signalling voltage permit (R239). -/
def State.sdTop (s : State) (p : Transit) : Nat := if p.v18 then s.man.set.transitMode else min 1 s.man.set.transitMode

/-- Block address of a share block. -/
def blockAddr (b : Nat) : Nat := 0x800 + b

/-- CSD as CMD27 sends it: the wanted bits set and a fresh CRC7 (R243). -/
def crc7 (b : Bytes) : Nat :=
  (b.foldl (fun (c : Nat) x => (List.range 8).foldl (fun c i =>
    let top := (c / 64 + (if x.getLsbD (7 - i) then 1 else 0)) % 2
    let d := c * 2 % 128
    if top = 1 then (d / 8 * 8 + d % 8) ^^^ 0x09 else d) c) 0) % 128

/-- CSD bytes with write-protect bits [12] and, where asked, [13]. -/
def csdWith (csd : Bytes) (perm : Bool) : Bytes :=
  let b := csd.take 14 ++ [(csd.getD 14 0) ||| (if perm then 0x30 else 0x10)]
  b ++ [BitVec.ofNat 8 (crc7 b * 2 + 1)]

/-- The card asks for the permanent write-protect bit too (transit_flags[0]). -/
def State.wantPerm (s : State) (p : Transit) : Bool := p.ending == .ok && s.man.set.transitFlags.getLsbD 0

/-- Step 8 of R248: CMD27 where a wanted bit is clear, else the end. -/
def State.protect (s : State) (p : Transit) : State :=
  if p.tmpWp ∧ (p.permWp ∨ ¬ s.wantPerm p) then
    s.endTransit (if p.ending = .ok then { body := s.exportBody p } else fail p.ending)
  else s.sdSend p .cmd27 27 0 (csdWith p.csd (s.wantPerm p))

/-- Step 7 of R248: the share counts. -/
def State.countShare (s : State) (p : Transit) : State :=
  let e := s.custodyEntry p.tenant
  let n := e.sharesIssued + 1
  let e1 := { e with sharesIssued := n, setOpen := decide (n < e.shareN) && e.setOpen }
  let s1 := (s.apply (.custody p.tenant e1)).logEvent 0x0302 .notice islWarden 0x100 .ok [p.set, n]
  let run := p.ref.bind s1.runOf
  let s2 : State := match run with
    | some r => s1.park r .transit { r.res with changes := [.custody p.tenant e1] }
    | none => s1
  s2.protect { p with ending := .ok, again := false }

/-- Steps 3 and 4 of R248 for a classified card. -/
def State.exportCard (s : State) (p : Transit) : State :=
  let m := (s.keyRec p.tenant).material
  let e := s.custodyEntry p.tenant
  let c := s.classify p.tenant (some m) p.body p.trailer
  let s1 := if c = .torn then
      ({ s with cards := { s.cards with torn := sat32 s.cards.torn } } : State).raise .trn 2 else s
  let p1 := { p with set := e.shareSet, index := e.sharesIssued + 1, again := false }
  match c with
  | .foreign => s1.endTransit (fail .mediaFormat)
  | .pending => s1.countShare p1
  | .issued => s1.protect { p1 with ending := .mediaProtected }
  | _ =>
    if p.tmpWp ∨ p.permWp then s1.endTransit (fail .mediaProtected)
    else
      let b := shareBody m p.tenant p1.index e.shareK e.shareN e.shareSet (s.keyRec p.tenant).generation s.otp.serial
      s1.sdSend { p1 with newBody := b, newTrailer := shareTrailer m b } (.write 0) 24 (blockAddr 0) b

/-- The session value of the record that runs the command (R249). -/
def runSession (run : Option Run) : Nat := (run.map fun x => fld x.record.raw 0x16 2).getD 0

/-- The round of a tenant and session value. -/
def State.round (s : State) (t sess : Nat) : Round :=
  (s.rounds.find? fun r => r.tenant == t && r.session == sess).getD { tenant := t, session := sess }

/-- A round is replaced. -/
def State.setRound (s : State) (r : Round) : State :=
  { s with rounds := r :: s.rounds.filter fun x => !(x.tenant == r.tenant && x.session == r.session) }

/-- A share as its card carries it. -/
def shareOf (body trailer : Bytes) : Share :=
  { index := fld body 7 1, k := fld body 8 1, n := fld body 9 1, set := fld body 0x0A 2, gen := fld body 0x0C 2, body, trailer }

/-- The rebuilt trunk agrees with the check value and every MAC (R249). -/
def trunkOk (m : Bytes) (l : List Share) : Bool :=
  l.all fun x => sub x.body 0x40 8 == trunkCheck m && shareMacOk m x.body x.trailer

/-- Answer of SHARE_IMPORT (Table 7-18). -/
def importBody (r : Round) (set index k : Nat) : Result :=
  { body := natLE 2 set ++ natLE 1 index ++ natLE 1 r.shares.length ++ natLE 1 k ++
      natLE 1 (if r.trunk.isSome then 1 else 0) ++ zeros 2 }

/-- A classified card joins the round (R247, R249). -/
def State.importCard (s : State) (p : Transit) : State :=
  let c := s.classify p.tenant none p.body p.trailer
  let s1 := if c = .torn then s.raise .trn 2 else s
  if c = .torn then s1.endTransit (fail .cardTorn)
  else if c = .blank ∨ c = .foreign then s1.endTransit (fail .mediaFormat)
  else
    let x := shareOf p.body p.trailer
    let r := s.round p.tenant (runSession (p.ref.bind s.runOf))
    if r.shares.any (fun y => y.set != x.set || y.gen != x.gen || y.k != x.k || y.n != x.n) then
      s1.endTransit (fail .mediaFormat)
    else if r.shares.any (·.index == x.index) then s1.endTransit (importBody r x.set x.index x.k)
    else
      let r1 := { r with shares := r.shares ++ [x] }
      if r1.shares.length = x.k then
        let m := shareJoin r1.shares
        if trunkOk m r1.shares then
          let r2 := { r1 with trunk := some m }
          (s1.setRound r2).endTransit (importBody r2 x.set x.index x.k)
        else (s1.setRound { r with shares := [], trunk := none }).endTransit (fail .verifyFailed)
      else if 16 < r1.shares.length then s1.endTransit (importBody r x.set x.index x.k)
      else (s1.setRound r1).endTransit (importBody r1 x.set x.index x.k)

/-- Both blocks have been read: the command goes on. -/
def State.cardRead (s : State) (p : Transit) : State := if p.export_ then s.exportCard p else s.importCard p

/-- Blocks of the share are read next. -/
def State.sdReady (s : State) (p : Transit) : State := s.sdSend { p with again := false } (.read 0) 17 (blockAddr 0)

/-- CMD6 that checks functions, or what follows the bus width. -/
def State.sdCheck (s : State) (p : Transit) : State :=
  s.sdSend { p with func := s.sdTop p, again := false } .check 6 (0x00FFFFF0 + s.sdTop p)

/-- The card's status says that it is locked (R238); PRESUMED bit 25 of the SD card status (entry 19). -/
def sdLocked (d : Bytes) : Bool := (beNat d).testBit 25

/-- SD_COMMAND_RESPONSE: `data` is the response's content, most significant byte first (R239, R242). -/
def State.sdResponse (s0 : State) (d : Bytes) (good : Bool) : State :=
  let p := s0.cards.transit
  let s := if good ∨ p.step = .acmd41 then s0.captureCard 4 p.ref s0.tick d else s0
  let q := { p with again := false }
  let v := beNat d
  let rca := p.rca * 65536
  let resend : State → State := fun s =>
    let p := s.cards.transit
    match p.step with
    | .cmd8 => s.sdSend p .cmd8 8 0x1AA
    | .app41 | .acmd41 => s.sdSend p .app41 55 0
    | .cmd11 => s.sdSend p .cmd11 11 0
    | .cmd2 => s.sdSend p .cmd2 2 0
    | .cmd3 => s.sdSend p .cmd3 3 0
    | .cmd9 => s.sdSend p .cmd9 9 rca
    | .cmd7 => s.sdSend p .cmd7 7 rca
    | .app6 | .acmd6 => s.sdSend p .app6 55 rca
    | .check => s.sdSend p .check 6 (0x00FFFFF0 + p.func)
    | .select => s.sdSend p .select 6 (0x80FFFFF0 + p.func)
    | .cmd19 => s.sdSend p .cmd19 19 0
    | .read b => s.sdSend p (.read b) 17 (blockAddr b)
    | .verify b => s.sdSend p (.verify b) 17 (blockAddr b)
    | .write b => s.sdSend p (.write b) 24 (blockAddr b) (if b = 0 then p.newBody else p.newTrailer)
    | .cmd27 => s.sdSend p .cmd27 27 0 (csdWith p.csd (s.wantPerm p))
    | _ => s
  let locked : State → State := fun s => s.endTransit (fail .mediaFormat)
  let crc : State := if s.sdCrc.2 then s.sdCrc.1.sdFail false else resend s.sdCrc.1
  if p.step = .acmd41 then
    -- the operating-conditions response carries no CRC
    if ¬ v.testBit 31 then s.sdStep q .acmdWait
    else if ¬ v.testBit 30 then s.endTransit (fail .mediaFormat)
    else if v.testBit 24 ∧ s.acmdArg p = 0x41300000 then s.sdSend q .cmd11 11 0
    else s.sdSend q .cmd2 2 0
  else match p.step with
    | .cmd8 =>
      if ¬ good then crc else if v % 4096 ≠ 0x1AA then s.endTransit (fail .mediaFormat)
      else (s.setTransit q).sdSend { q with acmdAt := s.tick } .app41 55 0
    | .app41 => if ¬ good then crc else s.sdSend q .acmd41 41 (s.acmdArg p)
    | .cmd11 => if ¬ good then crc else (s.emit (.sdPower true true)).sdStep { q with v18 := true } .switch
    | .cmd2 => if ¬ good then crc else s.sdSend q .cmd3 3 0
    | .cmd3 => if ¬ good then crc else s.sdSend { q with rca := v / 65536 % 65536 } .cmd9 9 (v / 65536 % 65536 * 65536)
    | .cmd9 =>
      if ¬ good then crc
      else if fld d 0 1 / 64 ≠ 1 ∧ fld d 0 1 / 64 ≠ 2 then s.endTransit (fail .mediaFormat)
      else s.sdSend { q with csd := d, permWp := (d.getD 14 0).getLsbD 5, tmpWp := (d.getD 14 0).getLsbD 4
                             mode := if p.v18 then 3 else 1 } .cmd7 7 rca
    | .cmd7 => if ¬ good then crc else if sdLocked d then locked s else s.sdStep q .cmd7Busy
    | .app6 => if ¬ good then crc else if sdLocked d then locked s else s.sdSend q .acmd6 6 2
    | .acmd6 => if ¬ good then crc else if sdLocked d then locked s else s.sdCheck { q with width4 := true }
    | .check => if ¬ good then crc else if sdLocked d then locked s else s.sdStep q .checkData
    | .select => if ¬ good then crc else if sdLocked d then locked s else s.sdStep q .selectData
    | .cmd19 => if ¬ good then crc else if sdLocked d then locked s else s.sdStep q .tuning
    | .read b => if ¬ good then crc else if sdLocked d then locked s else s.sdStep p (.readData b)
    | .verify b => if ¬ good then crc else if sdLocked d then locked s else s.sdStep p (.verifyData b)
    | .write b => if ¬ good then crc else if sdLocked d then locked s else s.sdStep p (.token b)
    | .cmd27 => if ¬ good then crc else if sdLocked d then locked s else s.sdStep p .cmd27Token
    | _ => s

/-- Steps that wait for a response. -/
def SdStep.response : SdStep → Bool
  | .cmd8 | .app41 | .acmd41 | .cmd11 | .cmd2 | .cmd3 | .cmd9 | .cmd7 | .app6 | .acmd6 | .check | .select | .cmd19
  | .read _ | .write _ | .verify _ | .cmd27 => true
  | _ => false

/-- SD_RESPONSE_TIMEOUT (R239 step 3, R242). -/
def State.sdNoResponse (s : State) : State :=
  let p := s.cards.transit
  if p.step = .cmd8 then s.endTransit (fail .mediaFormat)
  else if p.step.response then s.sdFail true else s

/-- SD_POWER_UP_TIMER: CMD0, then CMD8 (Table 7-14). -/
def State.sdPowerUp (s : State) : State :=
  let p := s.cards.transit
  if p.step = .powerUp ∧ p.since + 1000 ≤ s.tick then (s.emit (.sd 0 0 [])).sdSend p .cmd8 8 0x1AA else s

/-- ACMD41_RETRY. -/
def State.acmdRetry (s : State) : State :=
  let p := s.cards.transit
  if p.step = .acmdWait ∧ p.since + 10000 ≤ s.tick then s.sdSend p .app41 55 0 else s

/-- ACMD41_TIMEOUT; the status is DEDUCED from R242 (entry 19). -/
def State.acmdTimeout (s : State) : State :=
  let p := s.cards.transit
  if p.step ∈ [SdStep.app41, .acmd41, .acmdWait] ∧ p.acmdAt + 1000000 ≤ s.tick then s.sdFail true else s

/-- VOLTAGE_SWITCH_WAIT (R240). -/
def State.voltWait (s : State) (datHigh : Bool) : State :=
  let p := s.cards.transit
  if p.step = .switch ∧ p.since + 5000 ≤ s.tick then
    (if datHigh then s.sdSend p .cmd2 2 0 else s.sdStep p .datHigh)
  else if p.step = .datHigh ∧ datHigh then s.sdSend p .cmd2 2 0 else s

/-- DAT_HIGH_TIMEOUT (R240). -/
def State.datTimeout (s : State) : State :=
  let p := s.cards.transit
  if p.step = .datHigh ∧ p.since + 1000 ≤ s.tick then
    (s.emit (.sdPower false false)).sdStep { p with powered := false, v18 := false, only33 := true } .cycle
  else s

/-- SD_POWER_CYCLE_WAIT (R240). -/
def State.sdCycle (s : State) : State :=
  let p := s.cards.transit
  if p.step = .cycle ∧ p.since + 10000 ≤ s.tick then s.sdPowerOn p else s

/-- Highest function at or below `f` that a switch-function status supports; the places of its fields are PRESUMED from the
SD specification (entry 19). -/
def sdSupported (d : Bytes) : Nat → Nat
  | 0 => 0
  | f + 1 => if (d.getD 13 0).getLsbD (f + 1) then f + 1 else sdSupported d f

/-- The speed mode of a function at the signalling voltage (Table 7-25). -/
def sdMode (v18 : Bool) (f : Nat) : Nat := if v18 then 3 + f else 1 + f

/-- Data of a read: 512 bytes of a block, or 64 bytes of a switch-function status (R242). -/
def State.sdData (s : State) (d : Bytes) (good : Bool) : State :=
  let p := s.cards.transit
  let q := { p with again := false }
  let crc (k : State → State) : State := if s.sdCrc.2 then s.sdCrc.1.sdFail false else k s.sdCrc.1
  let s0 := s.captureCard 4 p.ref s.tick d
  match p.step with
  | .checkData =>
    if ¬ good then crc fun s => s.sdSend s.cards.transit .check 6 (0x00FFFFF0 + p.func)
    else
      let f := sdSupported d p.func
      s0.sdSend { q with func := f } .select 6 (0x80FFFFF0 + f)
  | .selectData =>
    if ¬ good then crc fun s => s.sdSend s.cards.transit .select 6 (0x80FFFFF0 + p.func)
    else if fld d 16 1 % 16 ≠ p.func then s0.sdFail false
    else
      let p1 := { q with mode := sdMode p.v18 p.func }
      if 2 ≤ p.func then s0.sdSend { p1 with attempts := 1 } .cmd19 19 0 else s0.sdReady p1
  | .readData b =>
    if ¬ good then crc fun s => s.sdSend s.cards.transit (.read b) 17 (blockAddr b)
    else if b = 0 then s0.sdSend { q with body := padTo 512 d } (.read 1) 17 (blockAddr 1)
    else s0.cardRead { q with trailer := padTo 512 d }
  | .verifyData b =>
    if ¬ good then crc fun s => s.sdSend s.cards.transit (.verify b) 17 (blockAddr b)
    else if b = 0 then s0.sdSend { q with body := padTo 512 d } (.verify 1) 17 (blockAddr 1)
    else if p.body = p.newBody ∧ padTo 512 d = p.newTrailer ∧
        shareMacOk (s.keyRec p.tenant).material p.body (padTo 512 d) then s0.countShare q
    else s0.endTransit (fail .cardTorn)
  | _ => s

/-- Steps that wait for read data. -/
def SdStep.reads : SdStep → Bool
  | .checkData | .selectData | .tuning | .readData _ | .verifyData _ => true
  | _ => false

/-- SD_READ_TIMEOUT. -/
def State.sdReadTimeout (s : State) : State :=
  let p := s.cards.transit
  if p.step.reads ∧ p.since + 100000 ≤ s.tick then s.sdFail true else s

/-- SD_TUNING_BLOCK: at most 40 attempts (Table 7-14 step 12). -/
def State.sdTuning (s : State) (good : Bool) : State :=
  let p := s.cards.transit
  if p.step ≠ .tuning then s
  else if good then s.sdReady p
  else if p.attempts < 40 then s.sdSend { p with attempts := p.attempts + 1 } .cmd19 19 0
  else s.sdFail false

/-- SD_CRC_STATUS_TOKEN (R242). -/
def State.sdToken (s : State) (good : Bool) : State :=
  let p := s.cards.transit
  let crc (k : State → State) : State := if s.sdCrc.2 then s.sdCrc.1.sdFail false else k s.sdCrc.1
  match p.step with
  | .token b =>
    if good then s.sdStep p (.busy b)
    else crc fun s => s.sdSend s.cards.transit (.write b) 24 (blockAddr b) (if b = 0 then p.newBody else p.newTrailer)
  | .cmd27Token =>
    if good then s.sdStep p .cmd27Busy
    else crc fun s => s.sdSend s.cards.transit .cmd27 27 0 (csdWith p.csd (s.wantPerm p))
  | _ => s

/-- SD_BUSY_END. -/
def State.sdBusyEnd (s : State) : State :=
  let p := { s.cards.transit with again := false }
  match p.step with
  | .cmd7Busy =>
    if s.man.set.transitFlags.getLsbD 1 then s.sdSend p .app6 55 (p.rca * 65536) else s.sdCheck p
  | .busy b =>
    if b = 0 then s.sdSend p (.write 1) 24 (blockAddr 1) p.newTrailer
    else s.sdSend p (.verify 0) 17 (blockAddr 0)
  | .cmd27Busy =>
    let p1 := { p with tmpWp := true, permWp := p.permWp || s.wantPerm p }
    (s.setTransit p1).endTransit (if p.ending = .ok then { body := s.exportBody p1 } else fail p.ending)
  | _ => s

/-- Steps that wait for the end of busy. -/
def SdStep.busyWait : SdStep → Bool
  | .cmd7Busy | .busy _ | .cmd27Busy => true
  | _ => false

/-- SD_BUSY_TIMEOUT. -/
def State.sdBusyTimeout (s : State) : State :=
  let p := s.cards.transit
  if p.step.busyWait ∧ p.since + 500000 ≤ s.tick then s.sdFail true else s

/-- TRANSIT_INSERTION: the insertion is recognised. -/
def State.transitInsert (s : State) : State :=
  if ¬ s.unitOn 11 0 ∨ s.cards.transit.present then s
  else (s.setTransit { s.cards.transit with present := true }).raise .trn 0

/-- TRANSIT_REMOVAL (R251, Table 7-20). -/
def State.transitRemove (s : State) : State :=
  let p := s.cards.transit
  if ¬ s.unitOn 11 0 ∨ ¬ p.present then s
  else
    let s1 := (s.setTransit { p with present := false }).raise .trn 1
    let r : Result :=
      if p.step.afterCount then
        (if p.ending = .ok then { body := s.exportBody { p with tmpWp := false, permWp := false } } else fail p.ending)
      else fail (if p.step.tears then .cardTorn else .cardRemoved)
    s1.endTransit r

/-! ## Commands -/

/-- The power, busy and presence checks, and the start of initialisation (R226, R248 step 2). -/
def State.takeTransit (s : State) (c : Cmd) (isExport : Bool) (cs : List Change) : State × Did :=
  let p := s.cards.transit
  let stop (st : Status) : State × Did := (s, .done { fail st with changes := cs })
  match s.domainFail 11 with
  | some st => stop st
  | none =>
    if p.ref.isSome then stop .busy
    else if ¬ p.present then stop .cardAbsent
    else (s.sdPowerOn { present := true, ref := some c.record.ref, tenant := c.tenant, export_ := isExport },
      .wait .transit { changes := cs })

/-- SHARE_EXPORT (R248). -/
def shareExport (c : Cmd) (s : State) : State × Did :=
  let act := fld c.body 0 1
  let n := fld c.body 1 1
  let k := fld c.body 2 1
  let t := c.tenant
  if c.body.length ≠ 8 ∨ 1 < act ∨ ¬ zeroAt c.body 3 1 ∨ ¬ zeroAt c.body 6 2 then (s, .done (fail .bodyInvalid))
  else s.withQuorum t purposeShares fun s =>
    let e := s.custodyEntry t
    if ¬ (s.keyRec t).present then (s, .done (fail .keyHandleUnknown))
    else if act = 1 then
      if 2 ≤ k ∧ k ≤ n ∧ n ≤ 16 then
        let e1 := { e with shareSet := nextGen e.shareSet, shareN := n, shareK := k, sharesIssued := 0, setOpen := true }
        let s1 := s.apply (.custody t e1)
        s1.takeTransit c true [.custody t e1]
      else (s, .done (fail .bodyInvalid))
    else if e.setOpen ∧ fld c.body 4 2 = e.shareSet then s.takeTransit c true []
    else (s, .done (fail .bodyInvalid))

/-- SHARE_IMPORT (R249). -/
def shareImport (c : Cmd) (s : State) : State × Did :=
  let act := fld c.body 0 1
  let sess := fld c.record.raw 0x16 2
  if c.body.length ≠ 8 ∨ 1 < act ∨ ¬ zeroAt c.body 1 7 then (s, .done (fail .bodyInvalid))
  else s.withQuorum c.tenant purposeShares fun s =>
    if act = 1 then
      ({ s with rounds := s.rounds.filter fun r => !(r.tenant == c.tenant && r.session == sess) },
        .done { body := zeros 8 })
    else s.takeTransit c false []

end Sys2Proof.Machine
end

