-- ==== Sys2Proof/Machine/RowsCards.lean ====
section
/-! DEFINITION. The rows of custody and cards (chapter 7). -/

namespace Sys2Proof.Machine

/-- CARD_AUTHENTICATE (R236). -/
def execCardAuthenticate (t : Tick) (r : RecRef) (s : State) : Host.Outcome State Fault Refusal :=
  if r.ok then s.act t fun s => s.runCommand 0x0804 Sys2Proof.Machine.cardAuthenticate r else .fault .noSuchUnit

/-- CUSTODIAN_ENROL (R218). -/
def execCustodianEnrol (t : Tick) (r : RecRef) (s : State) : Host.Outcome State Fault Refusal :=
  if r.ok then s.act t fun s => s.runCommand 0x0801 Sys2Proof.Machine.custodianEnrol r else .fault .noSuchUnit

/-- SHARE_EXPORT (R248). -/
def execShareExport (t : Tick) (r : RecRef) (s : State) : Host.Outcome State Fault Refusal :=
  if r.ok then s.act t fun s => s.runCommand 0x0807 Sys2Proof.Machine.shareExport r else .fault .noSuchUnit

/-- SHARE_IMPORT (R249). -/
def execShareImport (t : Tick) (r : RecRef) (s : State) : Host.Outcome State Fault Refusal :=
  if r.ok then s.act t fun s => s.runCommand 0x0808 Sys2Proof.Machine.shareImport r else .fault .noSuchUnit

/-- CARD_INSERTION (R237). -/
def execCardInsertion (t : Tick) (port : Nat) (s : State) : Host.Outcome State Fault Refusal :=
  if port ≤ 3 then s.act t fun s => s.cardInsert port else .fault .noSuchUnit

/-- CARD_INSERTION_RECOGNISED (R237). -/
def execCardInsertionRecognised (t : Tick) (port : Nat) (s : State) : Host.Outcome State Fault Refusal :=
  if port ≤ 3 then s.act t fun s => s.cardRecognised port else .fault .noSuchUnit

/-- CARD_REMOVAL (R250). -/
def execCardRemoval (t : Tick) (port : Nat) (s : State) : Host.Outcome State Fault Refusal :=
  if port ≤ 3 then s.act t fun s => s.cardRemove port else .fault .noSuchUnit

/-- OVERCURRENT_ONSET (R237). -/
def execOvercurrentOnset (t : Tick) (port : Nat) (s : State) : Host.Outcome State Fault Refusal :=
  if port ≤ 3 then s.act t fun s => s.overOnset port else .fault .noSuchUnit

/-- OVERCURRENT_FILTER_EXPIRY (R237). -/
def execOvercurrentFilterExpiry (t : Tick) (port : Nat) (s : State) : Host.Outcome State Fault Refusal :=
  if port ≤ 3 then s.act t fun s => s.overExpiry port else .fault .noSuchUnit

/-- CARD_ACTIVATION_TIMER (R228). -/
def execCardActivationTimer (t : Tick) (port : Nat) (s : State) : Host.Outcome State Fault Refusal :=
  if port ≤ 3 then s.act t fun s => s.cardActivation port else .fault .noSuchUnit

/-- CARD_DEACTIVATION_TIMER (R228). -/
def execCardDeactivationTimer (t : Tick) (port : Nat) (s : State) : Host.Outcome State Fault Refusal :=
  if port ≤ 3 then s.act t fun s => s.cardDeactivation port else .fault .noSuchUnit

/-- ATR_TIMEOUT (R228). -/
def execAtrTimeout (t : Tick) (port : Nat) (s : State) : Host.Outcome State Fault Refusal :=
  if port ≤ 3 then s.act t fun s => s.atrTimeout port else .fault .noSuchUnit

/-- CARD_ATR (R229). -/
def execCardAtr (t : Tick) (port : Nat) (atr : Bytes) (s : State) : Host.Outcome State Fault Refusal :=
  if port ≤ 3 then s.act t fun s => s.cardAtr port atr else .fault .noSuchUnit

/-- PPS_RESPONSE (R230). -/
def execPpsResponse (t : Tick) (port : Nat) (data : Bytes) (s : State) : Host.Outcome State Fault Refusal :=
  if port ≤ 3 then s.act t fun s => s.ppsAnswer port data else .fault .noSuchUnit

/-- PPS_TIMEOUT (R230). -/
def execPpsTimeout (t : Tick) (port : Nat) (s : State) : Host.Outcome State Fault Refusal :=
  if port ≤ 3 then s.act t fun s => s.ppsTimeout port else .fault .noSuchUnit

/-- S_IFS_RESPONSE (R231). -/
def execSIfsResponse (t : Tick) (port : Nat) (data : Bytes) (s : State) : Host.Outcome State Fault Refusal :=
  if port ≤ 3 then s.act t fun s => s.ifsAnswer port data else .fault .noSuchUnit

/-- T1_I_BLOCK (R232). -/
def execT1IBlock (t : Tick) (port : Nat) (block : Bytes) (stamp : Tick) (s : State) : Host.Outcome State Fault Refusal :=
  if port ≤ 3 then s.act t fun s => s.t1I port block stamp else .fault .noSuchUnit

/-- T1_R_BLOCK (R232). -/
def execT1RBlock (t : Tick) (port : Nat) (block : Bytes) (stamp : Tick) (s : State) : Host.Outcome State Fault Refusal :=
  if port ≤ 3 then s.act t fun s => s.t1R port block stamp else .fault .noSuchUnit

/-- T1_BAD_BLOCK (R233). -/
def execT1BadBlock (t : Tick) (port : Nat) (s : State) : Host.Outcome State Fault Refusal :=
  if port ≤ 3 then s.act t fun s => s.recover port else .fault .noSuchUnit

/-- BWT_EXPIRY (R233). -/
def execBwtExpiry (t : Tick) (port : Nat) (s : State) : Host.Outcome State Fault Refusal :=
  if port ≤ 3 then s.act t fun s => s.bwtExpiry port else .fault .noSuchUnit

/-- S_WTX_REQUEST (R234). -/
def execSWtxRequest (t : Tick) (port : Nat) (mult : Nat) (s : State) : Host.Outcome State Fault Refusal :=
  if port ≤ 3 then s.act t fun s => s.wtx port mult else .fault .noSuchUnit

/-- S_ABORT_REQUEST (R233). -/
def execSAbortRequest (t : Tick) (port : Nat) (s : State) : Host.Outcome State Fault Refusal :=
  if port ≤ 3 then s.act t fun s => s.sAbort port else .fault .noSuchUnit

/-- S_RESYNCH_RESPONSE (R233). -/
def execSResynchResponse (t : Tick) (port : Nat) (s : State) : Host.Outcome State Fault Refusal :=
  if port ≤ 3 then s.act t fun s => s.resynched port else .fault .noSuchUnit

/-- SELECT_ANSWER (R235). -/
def execSelectAnswer (t : Tick) (port : Nat) (sw : BitVec 16) (s : State) : Host.Outcome State Fault Refusal :=
  if port ≤ 3 then s.act t fun s => s.selectAnswer port sw else .fault .noSuchUnit

/-- READ_CERT_ANSWER (R235). -/
def execReadCertAnswer (t : Tick) (port : Nat) (data : Bytes) (sw : BitVec 16) (s : State) : Host.Outcome State Fault Refusal :=
  if port ≤ 3 then s.act t fun s => s.certAnswer port data sw else .fault .noSuchUnit

/-- AUTHENTICATE_ANSWER (R235). -/
def execAuthenticateAnswer (t : Tick) (port : Nat) (data : Bytes) (sw : BitVec 16) (s : State) : Host.Outcome State Fault Refusal :=
  if port ≤ 3 then s.act t fun s => s.authAnswer port data sw else .fault .noSuchUnit

/-- CONFIRM_ANSWER (R223). -/
def execConfirmAnswer (t : Tick) (port : Nat) (sw : BitVec 16) (stamp : Tick) (s : State) : Host.Outcome State Fault Refusal :=
  if port ≤ 3 then s.act t fun s => s.confirmAnswer port sw stamp else .fault .noSuchUnit

/-- BIND_ANSWER (R218). -/
def execBindAnswer (t : Tick) (port : Nat) (sw : BitVec 16) (s : State) : Host.Outcome State Fault Refusal :=
  if port ≤ 3 then s.act t fun s => s.bindAnswer port sw else .fault .noSuchUnit

/-- TRANSIT_INSERTION (R238). -/
def execTransitInsertion (t : Tick) (s : State) : Host.Outcome State Fault Refusal :=
  s.act t fun s => s.transitInsert

/-- TRANSIT_REMOVAL (R251). -/
def execTransitRemoval (t : Tick) (s : State) : Host.Outcome State Fault Refusal :=
  s.act t fun s => s.transitRemove

/-- SD_POWER_UP_TIMER (R239). -/
def execSdPowerUpTimer (t : Tick) (s : State) : Host.Outcome State Fault Refusal :=
  s.act t fun s => s.sdPowerUp

/-- SD_COMMAND_RESPONSE (R242). -/
def execSdCommandResponse (t : Tick) (data : Bytes) (crcGood : Bool) (s : State) : Host.Outcome State Fault Refusal :=
  s.act t fun s => s.sdResponse data crcGood

/-- SD_RESPONSE_TIMEOUT (R242). -/
def execSdResponseTimeout (t : Tick) (s : State) : Host.Outcome State Fault Refusal :=
  s.act t fun s => s.sdNoResponse

/-- SD_READ_BLOCK (R242). -/
def execSdReadBlock (t : Tick) (data : Bytes) (crcGood : Bool) (s : State) : Host.Outcome State Fault Refusal :=
  s.act t fun s => s.sdData data crcGood

/-- SD_READ_TIMEOUT (R242). -/
def execSdReadTimeout (t : Tick) (s : State) : Host.Outcome State Fault Refusal :=
  s.act t fun s => s.sdReadTimeout

/-- SD_CRC_STATUS_TOKEN (R242). -/
def execSdCrcStatusToken (t : Tick) (good : Bool) (s : State) : Host.Outcome State Fault Refusal :=
  s.act t fun s => s.sdToken good

/-- SD_BUSY_END (R242). -/
def execSdBusyEnd (t : Tick) (s : State) : Host.Outcome State Fault Refusal :=
  s.act t fun s => s.sdBusyEnd

/-- SD_BUSY_TIMEOUT (R242). -/
def execSdBusyTimeout (t : Tick) (s : State) : Host.Outcome State Fault Refusal :=
  s.act t fun s => s.sdBusyTimeout

/-- ACMD41_RETRY (R239). -/
def execAcmd41Retry (t : Tick) (s : State) : Host.Outcome State Fault Refusal :=
  s.act t fun s => s.acmdRetry

/-- ACMD41_TIMEOUT (R239). -/
def execAcmd41Timeout (t : Tick) (s : State) : Host.Outcome State Fault Refusal :=
  s.act t fun s => s.acmdTimeout

/-- VOLTAGE_SWITCH_WAIT (R240). -/
def execVoltageSwitchWait (t : Tick) (datHigh : Bool) (s : State) : Host.Outcome State Fault Refusal :=
  s.act t fun s => s.voltWait datHigh

/-- DAT_HIGH_TIMEOUT (R240). -/
def execDatHighTimeout (t : Tick) (s : State) : Host.Outcome State Fault Refusal :=
  s.act t fun s => s.datTimeout

/-- SD_POWER_CYCLE_WAIT (R240). -/
def execSdPowerCycleWait (t : Tick) (s : State) : Host.Outcome State Fault Refusal :=
  s.act t fun s => s.sdCycle

/-- SD_TUNING_BLOCK (R239). -/
def execSdTuningBlock (t : Tick) (good : Bool) (s : State) : Host.Outcome State Fault Refusal :=
  s.act t fun s => s.sdTuning good

end Sys2Proof.Machine
end

