-- ==== Sys2Proof/Machine/Pin.lean ====
section
/-! DEFINITION. PIN blocks and card checks (R271 to R275). -/

namespace Sys2Proof.Machine

/-- A PIN block format of Table 8-5. -/
def pinFormat (f : Nat) : Bool := f == 0 || f == 1 || f == 3 || f == 4
/-- The format uses a PAN. -/
def usesPan (f : Nat) : Bool := f != 1
/-- Key types of a format. -/
def pinFits (f : Nat) (x : Slot) : Bool := if f = 4 then isAes x else isTdea x
/-- Block length of a format. -/
def pinLen (f : Nat) : Nat := if f = 4 then 16 else 8

/-- Digits of a PAN field of 10 bytes; none where it breaks its packing. -/
def panDigits (n : Nat) (b : Bytes) : Option (List Nat) :=
  let l := nibbles b
  if (l.take n).all (fun d => decide (d ≤ 9)) ∧ (l.drop n).all (· == 15) then some (l.take n) else none

/-- The 12 rightmost digits without the check digit, zero-filled on the left where the PAN is shorter. -/
def panField12 (pan : List Nat) : List Nat :=
  let d := (pan.take (pan.length - 1)).drop (pan.length - 13)
  List.replicate (16 - d.length) 0 ++ d

/-- The format 4 PAN field. -/
def panField4 (pan : List Nat) : List Nat := ((pan.length - 12) :: (pan ++ List.replicate 32 0)).take 32

/-- Plain PIN field of a block: decrypted, the PAN field taken out (Table 8-5). -/
def openPin (f : Nat) (k : Bytes) (pan : List Nat) (b : Bytes) : List Nat :=
  if f = 4 then nibbles (aesInv k (xorBytes (aesInv k (b.take 16)) (packNibbles (panField4 pan))))
  else
    let p := tdeaInv k (b.take 8)
    nibbles (if f = 1 then p else xorBytes p (packNibbles (panField12 pan)))

/-- Checks 1 to 4 of Table 8-6: the PIN's digits, or the detail. -/
def readPin (f : Nat) (l : List Nat) : Except Nat (List Nat) :=
  let n := l.getD 1 0
  let fill := (l.drop (2 + n)).take (14 - n)
  if l.getD 0 0 ≠ f then .error 1
  else if n < 4 ∨ 12 < n then .error 2
  else if ¬ ((l.drop 2).take n).all (fun d => decide (d ≤ 9)) then .error 3
  else if (f = 0 ∧ ¬ fill.all (· == 15)) ∨ (f = 3 ∧ ¬ fill.all (fun d => decide (10 ≤ d))) ∨
      (f = 4 ∧ ¬ fill.all (· == 10)) then .error 4
  else .ok ((l.drop 2).take n)

/-- A PIN block of a format with drawn fill (Table 8-5). -/
def makePin (f : Nat) (k : Bytes) (pan pin : List Nat) (fill : Bytes) : Bytes :=
  let n := pin.length
  let r := fill.map (·.toNat)
  let fills := if f = 0 then List.replicate 14 15 else if f = 4 then List.replicate 14 10
    else if f = 3 then r.map (fun x => 10 + x % 6) else r.map (· % 16)
  let field := (f :: n :: (pin ++ fills)).take 16
  if f = 4 then aesBlock k (xorBytes (aesBlock k (packNibbles field ++ sub fill 0 8)) (packNibbles (panField4 pan)))
  else if f = 1 then tdeaBlock k (packNibbles field)
  else tdeaBlock k (xorBytes (packNibbles field) (packNibbles (panField12 pan)))

/-- The PAN of a body, where its length is in range. -/
def bodyPan (needed : Bool) (n : Nat) (b : Bytes) : Option (List Nat) :=
  if needed then (if n < 12 ∨ 19 < n then none else panDigits n b)
  else if n = 0 ∧ b.all (· == 0) then some [] else none

/-- A TDEA key of a PIN job has distinct parts (R264). -/
def keyParts (x : Slot) : Bool := !isTdea x || tdeaDistinct x.material

/-- PIN_TRANSLATE over its fields (R273). -/
def State.pinTranslateJob (s : State) (t hIn hOut fIn fOut : Nat) (pan : List Nat) (block : Bytes) : State × Did :=
  s.withKeys t hIn { fits := pinFits fIn, use := fun _ => useBit 9, units := some fun _ => 1 }
    hOut (fun _ => { fits := pinFits fOut, use := fun _ => useBit 9, units := some fun _ => 1 })
    fun s i j =>
      let x := s.slot i
      let y := s.slot j
      if ¬ keyParts x ∨ ¬ keyParts y then (s, .done (fail .keyType))
      else
        let go (s : State) (fill : Bytes) : State × Did :=
          let res : Result := match readPin fIn (openPin fIn x.material pan block) with
            | .error d => failD .pinFormat d
            | .ok pin =>
              if fOut = 1 ∧ fIn ≠ 1 then failD .pinFormat 5
              else { body := padTo 16 (makePin fOut y.material pan pin fill) }
          (s, .job .cipher 512 [i, j] res)
        if fOut = 0 then go s [] else s.withRandom 14 go

/-- PIN_TRANSLATE (R273, Table 8-10). -/
def pinTranslate (c : Cmd) (s : State) : State × Did :=
  let b := c.body
  let f := fld b 8 1
  let g := fld b 9 1
  if b.length ≠ 0x30 ∨ ¬ pinFormat f ∨ ¬ pinFormat g ∨ ¬ zeroAt b 0xB 5 ∨ ¬ zeroAt b 0x1A 6 ∨
      (f ≠ 4 ∧ ¬ zeroAt b 0x28 8) then (s, .done (fail .bodyInvalid))
  else match bodyPan (usesPan f || usesPan g) (fld b 0xA 1) (sub b 0x10 10) with
    | none => (s, .done (fail .bodyInvalid))
    | some pan => s.pinTranslateJob c.tenant (fld b 0 4) (fld b 4 4) f g pan (sub b 0x20 16)

/-- The reference value of R274. -/
def pinReference (k : Bytes) (pan pin : List Nat) : Bytes :=
  (aesCmac k ([0x50, BitVec.ofNat 8 pin.length] ++ packNibbles ((pin ++ List.replicate 12 15).take 12) ++
    packNibbles (panField4 pan))).take 4

/-- PIN_VERIFY over its fields (R274). -/
def State.pinVerifyJob (s : State) (t hPin hVer f : Nat) (gen : Bool) (pan : List Nat) (ref block : Bytes) : State × Did :=
  s.withKeys t hPin { fits := pinFits f, use := fun _ => useBit 9, units := some fun _ => 1 }
    hVer (fun _ => { fits := isAes, use := fun _ => if gen then useBit 9 ||| useBit 2 else useBit 9
                     units := some fun _ => 1 })
    fun s i j =>
      let x := s.slot i
      if ¬ keyParts x then (s, .done (fail .keyType))
      else
        let res : Result := match readPin f (openPin f x.material pan block) with
          | .error d => failD .pinFormat d
          | .ok pin =>
            let v := pinReference (s.slot j).material pan pin
            if gen then { body := v ++ zeros 4 } else if v = ref then { body := zeros 8 } else fail .verifyFailed
        (s, .job .cipher 512 [i, j] res)

/-- PIN_VERIFY (R274, Table 8-10). -/
def pinVerify (c : Cmd) (s : State) : State × Did :=
  let b := c.body
  let f := fld b 8 1
  let g := fld b 9 1
  if b.length ≠ 0x30 ∨ ¬ pinFormat f ∨ 1 < g ∨ ¬ zeroAt b 0xB 5 ∨ ¬ zeroAt b 0x1A 2 ∨ (g = 1 ∧ ¬ zeroAt b 0x1C 4) ∨
      (f ≠ 4 ∧ ¬ zeroAt b 0x28 8) then (s, .done (fail .bodyInvalid))
  else match bodyPan true (fld b 0xA 1) (sub b 0x10 10) with
    | none => (s, .done (fail .bodyInvalid))
    | some pan => s.pinVerifyJob c.tenant (fld b 0 4) (fld b 4 4) f (g == 1) pan (sub b 0x1C 4) (sub b 0x20 16)

/-- Decimalised nibbles of a MAC (R275). -/
def decimalise (m : Bytes) : List Nat :=
  let l := nibbles m
  l.filter (fun d => decide (d ≤ 9)) ++ (l.filter fun d => decide (10 ≤ d)).map (· - 10)

/-- CARD_CHECK_GENERATE and CARD_CHECK_VERIFY (R275). -/
def cardCheck (verify : Bool) (c : Cmd) (s : State) : State × Did :=
  let b := c.body
  let n := fld b 4 1
  let svc := nibbles (sub b 0x14 2)
  let ex := nibbles (sub b 0x18 4)
  if b.length ≠ 0x1C ∨ n < 3 ∨ 5 < n ∨ ¬ zeroAt b 6 2 ∨ ¬ zeroAt b 0x16 2 ∨
      ¬ (nibbles (sub b 0x12 2)).all (fun d => decide (d ≤ 9)) ∨ ¬ (svc.take 3).all (fun d => decide (d ≤ 9)) ∨
      svc.getD 3 0 ≠ 15 ∨ (¬ verify ∧ ¬ zeroAt b 0x18 4) ∨
      (verify ∧ ¬ ((ex.take n).all (fun d => decide (d ≤ 9)) ∧ (ex.drop n).all (· == 15))) then
    (s, .done (fail .bodyInvalid))
  else match bodyPan true (fld b 5 1) (sub b 8 10) with
    | none => (s, .done (fail .bodyInvalid))
    | some _ =>
      s.withKey c.tenant (fld b 0 4) { fits := isAes, use := fun _ => useBit 9, units := some fun _ => 1 } fun s i =>
        let m := aesCmac (s.slot i).material (sub b 8 10 ++ sub b 0x12 2 ++ sub b 0x14 2 ++ zeros 2)
        let v := packNibbles ((decimalise m).take n ++ List.replicate (8 - n) 15)
        let res : Result := if verify then (if v = sub b 0x18 4 then {} else fail .verifyFailed) else { body := v }
        (s, .job .cipher 512 [i] res)

/-- CARD_CHECK_GENERATE. -/
def cardCheckGenerate (c : Cmd) (s : State) : State × Did := cardCheck false c s
/-- CARD_CHECK_VERIFY. -/
def cardCheckVerify (c : Cmd) (s : State) : State × Did := cardCheck true c s

/-! ## KH-1 functions (R155)

Table 5-10 gives the formats in the modifier. Where the PAN and the PIN block stand in the inline data the spec does not
say: the model takes the native body's fields from pan_len on, in order (entry 13). -/

/-- The second key of a KH-1 record. -/
def State.withKh1b (s : State) (c : Cmd) (k : Nat → State × Did) : State × Did :=
  match s.kh1Handle c.tenant (beNat (sub c.body 0x0A 2)) with
  | none => (s, .done (fail .keyHandleUnknown))
  | some h => k h

/-- PIN_XLATE. -/
def pinXlate (c : Cmd) (s : State) : State × Did :=
  s.withKh1 c fun h d => s.withKh1b c fun h2 =>
    let f := kh1Mod c / 16
    let g := kh1Mod c % 16
    if d.length ≠ 38 ∨ ¬ pinFormat f ∨ ¬ pinFormat g then (s, .done (fail .bodyInvalid))
    else match bodyPan (usesPan f || usesPan g) (fld d 0 1) (sub d 6 10) with
      | none => (s, .done (fail .bodyInvalid))
      | some pan => kh1Did (s.pinTranslateJob c.tenant h h2 f g pan (sub d 22 16)) fun r => r.body.take (pinLen g)

/-- PIN_VERIFY of KH-1. -/
def kh1PinVerify (c : Cmd) (s : State) : State × Did :=
  s.withKh1 c fun h d => s.withKh1b c fun h2 =>
    let f := kh1Mod c
    if d.length ≠ 38 ∨ ¬ pinFormat f then (s, .done (fail .bodyInvalid))
    else match bodyPan true (fld d 0 1) (sub d 6 10) with
      | none => (s, .done (fail .bodyInvalid))
      | some pan => kh1Did (s.pinVerifyJob c.tenant h h2 f false pan (sub d 18 4) (sub d 22 16)) fun _ => []

end Sys2Proof.Machine
end

