-- ==== Sys2Proof/Machine/RowsCipher.lean ====
section
/-! DEFINITION. The rows of the cipher commands, native and KH-1 (chapter 8). -/

namespace Sys2Proof.Machine

/-- ENCRYPT (R256). -/
def execEncrypt (t : Tick) (r : RecRef) (s : State) : Host.Outcome State Fault Refusal :=
  if r.ok then s.act t fun s => s.runCommand 0x0301 Sys2Proof.Machine.encrypt r else .fault .noSuchUnit

/-- DECRYPT (R256). -/
def execDecrypt (t : Tick) (r : RecRef) (s : State) : Host.Outcome State Fault Refusal :=
  if r.ok then s.act t fun s => s.runCommand 0x0302 Sys2Proof.Machine.decrypt r else .fault .noSuchUnit

/-- MAC_GENERATE (R286). -/
def execMacGenerate (t : Tick) (r : RecRef) (s : State) : Host.Outcome State Fault Refusal :=
  if r.ok then s.act t fun s => s.runCommand 0x0303 Sys2Proof.Machine.macGenerate r else .fault .noSuchUnit

/-- MAC_VERIFY (R286). -/
def execMacVerify (t : Tick) (r : RecRef) (s : State) : Host.Outcome State Fault Refusal :=
  if r.ok then s.act t fun s => s.runCommand 0x0304 Sys2Proof.Machine.macVerify r else .fault .noSuchUnit

/-- TRANSLATE (R265). -/
def execTranslate (t : Tick) (r : RecRef) (s : State) : Host.Outcome State Fault Refusal :=
  if r.ok then s.act t fun s => s.runCommand 0x0305 Sys2Proof.Machine.translate r else .fault .noSuchUnit

/-- ENCIPHER (R155). -/
def execEncipher (t : Tick) (r : RecRef) (s : State) : Host.Outcome State Fault Refusal :=
  if r.ok then s.act t fun s => s.runCommand 0x10010 Sys2Proof.Machine.encipher r else .fault .noSuchUnit

/-- DECIPHER (R155). -/
def execDecipher (t : Tick) (r : RecRef) (s : State) : Host.Outcome State Fault Refusal :=
  if r.ok then s.act t fun s => s.runCommand 0x10011 Sys2Proof.Machine.decipher r else .fault .noSuchUnit

/-- MAC_GEN (R155). -/
def execMacGen (t : Tick) (r : RecRef) (s : State) : Host.Outcome State Fault Refusal :=
  if r.ok then s.act t fun s => s.runCommand 0x10020 Sys2Proof.Machine.macGen r else .fault .noSuchUnit

/-- MAC_VER (R155). -/
def execMacVer (t : Tick) (r : RecRef) (s : State) : Host.Outcome State Fault Refusal :=
  if r.ok then s.act t fun s => s.runCommand 0x10021 Sys2Proof.Machine.macVer r else .fault .noSuchUnit

/-- PIN_XLATE (R155). -/
def execPinXlate (t : Tick) (r : RecRef) (s : State) : Host.Outcome State Fault Refusal :=
  if r.ok then s.act t fun s => s.runCommand 0x10040 Sys2Proof.Machine.pinXlate r else .fault .noSuchUnit

/-- KH1_PIN_VERIFY (R155). -/
def execKh1PinVerify (t : Tick) (r : RecRef) (s : State) : Host.Outcome State Fault Refusal :=
  if r.ok then s.act t fun s => s.runCommand 0x10041 Sys2Proof.Machine.kh1PinVerify r else .fault .noSuchUnit

/-- PIN_TRANSLATE (R273). -/
def execPinTranslate (t : Tick) (r : RecRef) (s : State) : Host.Outcome State Fault Refusal :=
  if r.ok then s.act t fun s => s.runCommand 0x0B01 Sys2Proof.Machine.pinTranslate r else .fault .noSuchUnit

/-- PIN_VERIFY (R274). -/
def execPinVerify (t : Tick) (r : RecRef) (s : State) : Host.Outcome State Fault Refusal :=
  if r.ok then s.act t fun s => s.runCommand 0x0B02 Sys2Proof.Machine.pinVerify r else .fault .noSuchUnit

/-- CARD_CHECK_GENERATE (R275). -/
def execCardCheckGenerate (t : Tick) (r : RecRef) (s : State) : Host.Outcome State Fault Refusal :=
  if r.ok then s.act t fun s => s.runCommand 0x0B03 Sys2Proof.Machine.cardCheckGenerate r else .fault .noSuchUnit

/-- CARD_CHECK_VERIFY (R275). -/
def execCardCheckVerify (t : Tick) (r : RecRef) (s : State) : Host.Outcome State Fault Refusal :=
  if r.ok then s.act t fun s => s.runCommand 0x0B04 Sys2Proof.Machine.cardCheckVerify r else .fault .noSuchUnit

end Sys2Proof.Machine
end

