-- ==== Sys2Proof/Machine/Images.lean ====
section
/-! DEFINITION. Cellar images and the replacement of a trunk (R202 to R209). -/

namespace Sys2Proof.Machine

/-! ## Slots and directory entries as bytes (Tables 6-3, 6-10) -/

/-- Two-bit slot state. -/
def slotCode : SlotState → Nat
  | .free => 0 | .green => 1 | .seasoned => 2 | .felled => 3

/-- Attributes word (Table 6-4). -/
def slotAttr (x : Slot) : Nat :=
  x.type + x.keyBits * 2 ^ 8 + x.usage.toNat * 2 ^ 24 + x.owner * 2 ^ 40 + x.level * 2 ^ 48 + slotCode x.state * 2 ^ 52 +
    (if x.bound then 2 ^ 54 else 0) + (if x.exportable then 2 ^ 55 else 0)

/-- Parent word (Table 6-5). -/
def parentWord (p : Parent) : Nat := p.index + (if p.inVault then 2 ^ 18 else 0) + p.gen * 2 ^ 32

/-- The 64 bytes of a slot, unmasked, its tag zero (Tables 6-3, 6-7, 6-17). -/
def slotBytes (x : Slot) : Bytes :=
  (if x.bound then natLE 8 x.blobAddr ++ natLE 4 x.blobLen ++ zeros 4 ++ padTo 16 x.blobDigest else padTo 32 x.material) ++
    natLE 8 (slotAttr x) ++ natLE 8 (parentWord x.parent) ++ natLE 2 x.generation ++ natLE 5 x.counter ++
    natLE 1 x.limitClass ++ zeros 8

/-- A slot from its 64 bytes. -/
def parseSlot (b : Bytes) : Slot :=
  let a := fld b 0x20 8
  let p := fld b 0x28 8
  let bits := a / 2 ^ 8 % 2 ^ 14
  let bound := a / 2 ^ 54 % 2 == 1
  let st := a / 2 ^ 52 % 4
  { material := if bound then [] else sub b 0 (bits / 8), type := a % 256, keyBits := bits
    usage := BitVec.ofNat 16 (a / 2 ^ 24), owner := a / 2 ^ 40 % 256, level := a / 2 ^ 48 % 8
    state := if st = 1 then .green else if st = 2 then .seasoned else if st = 3 then .felled else .free
    bound, exportable := a / 2 ^ 55 % 2 == 1
    parent := { index := p % 2 ^ 18, inVault := p / 2 ^ 18 % 2 == 1, gen := p / 2 ^ 32 % 2 ^ 16 }
    generation := fld b 0x30 2, counter := fld b 0x32 5, limitClass := fld b 0x37 1
    blobAddr := if bound then fld b 0 8 else 0, blobLen := if bound then fld b 8 4 else 0
    blobDigest := if bound then sub b 0x10 16 else [] }

/-- The 16 bytes of a directory entry (Table 6-10). -/
def dirBytes (e : DirEntry) : Bytes :=
  natLE 4 (e.standing + e.dtag * 2 ^ 18 + (if e.valid then 2 ^ 30 else 0) + (if e.greenLinked then 2 ^ 31 else 0)) ++
    natLE 2 e.standingGen ++ natLE 1 e.owner ++ zeros 1 ++ natLE 4 e.greenSlot ++ natLE 2 e.greenGen ++ zeros 2

/-- A directory entry from its 16 bytes. -/
def parseDir (b : Bytes) : DirEntry :=
  let w := fld b 0 4
  { standing := w % 2 ^ 18, dtag := w / 2 ^ 18 % 2 ^ 12, valid := w / 2 ^ 30 % 2 == 1, greenLinked := w / 2 ^ 31 == 1
    standingGen := fld b 4 2, owner := fld b 6 1, greenSlot := fld b 8 4 % 2 ^ 18, greenGen := fld b 0xC 2 }

/-! ## Images (R203) -/

/-- Key of a cellar image. -/
def imageKey (trunk : Bytes) (t gen : Nat) : Bytes :=
  hkdf256 trunk (zeros 32) (ascii "KH64-CELLAR" ++ natLE 1 t ++ natLE 4 gen) 32

/-- A slot that an image holds: green or seasoned, its links hold (R202). -/
def State.kept (s : State) (i : Nat) : Bool :=
  ((s.slot i).state == .green || (s.slot i).state == .seasoned) && s.chainOk 8 (s.slot i)

/-- Directory entries of a tenant that an image holds, in ascending index. -/
def State.imageEntries (s : State) (t : Nat) : List (Nat × DirEntry) :=
  s.cel.dir.filter fun (_, e) => e.valid && e.owner == t && s.kept e.standing

/-- Blob record of a bound slot. -/
def blobRecord (i : Nat) (b : Bytes) : Bytes :=
  natLE 4 i ++ natLE 4 b.length ++ b ++ zeros ((8 - b.length % 8) % 8)

/-- The tenant's KH-1 map as an image holds it; none where every entry is zero (R154). -/
def State.mapBytes (s : State) (t : Nat) : Bytes :=
  if (s.kh1.any fun p => p.1 / 4096 == t) then (List.range 4096).flatMap fun k => natLE 4 (mapGet 0 s.kh1 (4096 * t + k)) else []

/-- The image of a tenant's slots (Table 6-16) under a trunk and an image generation. -/
def State.cellarImage (s : State) (t gen : Nat) (trunk : Bytes) : Bytes :=
  let es := s.imageEntries t
  let entry (p : Nat × DirEntry) : Bytes :=
    let (d, e) := p
    let green := e.greenLinked && s.kept e.greenSlot
    let e1 := if green then e else { e with greenLinked := false, greenSlot := 0, greenGen := 0 }
    natLE 4 d ++ zeros 12 ++ dirBytes e1 ++ slotBytes (s.slot e.standing) ++
      (if green then slotBytes (s.slot e.greenSlot) else zeros 64)
  let blobs := (es.map fun p => if (s.slot p.2.standing).bound then
      blobRecord p.2.standing (mapGet [] s.cel.blobs (s.slot p.2.standing).blobAddr) else []).flatten
  let m := s.mapBytes t
  let head := ascii "KHCI" ++ natLE 2 1 ++ natLE 1 t ++ zeros 1 ++ natLE 8 s.otp.serial ++ natLE 4 gen ++
    natLE 2 (s.keyRec t).generation ++ zeros 2 ++ natLE 4 es.length ++ natLE 4 blobs.length ++ natLE 4 m.length ++ zeros 28
  let (ct, tag) := gcmSeal (imageKey trunk t gen) (natLE 4 gen ++ zeros 8) head ((es.map entry).flatten ++ blobs ++ m)
  head ++ ct ++ tag

/-- CELLAR_EXPORT (R202, R209). -/
def cellarExport (c : Cmd) (s : State) : State × Did :=
  let f := fld c.body 0 4
  let r := s.ahead.keyRec c.tenant
  if c.body.length ≠ 8 ∨ 3 < f ∨ ¬ zeroAt c.body 4 4 then (s, .done (fail .bodyInvalid))
  else if ¬ r.present then (s, .done (fail .keyHandleUnknown))
  else if 2 ≤ f then
    (s, .done { body := natLE 4 r.imageGen ++ zeros 4 ++ natLE 8 0
                changes := [.keyRecord c.tenant { r with imagePending := false }] })
  else
    let g := r.imageGen + 1
    let img := s.cellarImage c.tenant g r.material
    (s, spaced c { body := natLE 4 g ++ zeros 4 ++ natLE 8 img.length, out := img
                   changes := [.keyRecord c.tenant { r with imageGen := g, imagePending := true }] })

/-- TRUNK_REPLACE (R201, R208). -/
def trunkReplace (c : Cmd) (s : State) : State × Did :=
  if ¬ trunkBody c.body then (s, .done (fail .bodyInvalid))
  else s.withQuorum c.tenant purposeTrunk fun s =>
    let r := s.keyRec c.tenant
    if ¬ r.present then (s, .done (fail .keyHandleUnknown))
    else s.withTrunk c fun s1 m =>
      let g := r.imageGen + 1
      let cs := s1.replaceTrunk c.tenant m
      let img := (s1.ahead.applyAll cs).cellarImage c.tenant g m
      let res : Result := {
        body := natLE 4 g ++ zeros 4 ++ natLE 8 img.length, out := img
        changes := cs ++ [.keyRecord c.tenant { r with material := m, imageGen := g, imagePending := true }] ++
          s1.closeSet c.tenant }
      match spaced c res with
      | .done ok =>
        if ok.status = .ok then (s1.logEvent 0x0301 .notice islWarden 0x100 .ok [c.tenant, r.generation], .done ok)
        else (s, .done ok)
      | d => (s, d)

/-! ## Restore (R204 to R207) -/

/-- The image's head is well formed for a tenant (Table 6-18 order 1). -/
def imageHeadOk (b : Bytes) (t : Nat) : Bool :=
  decide (0x50 ≤ b.length) && sub b 0 4 == ascii "KHCI" && fld b 4 2 == 1 && fld b 6 1 == t && zeroAt b 7 1 &&
    zeroAt b 0x16 2 && zeroAt b 0x24 28 && (fld b 0x20 4 == 0 || fld b 0x20 4 == 16384)

/-- Whether the image's generation is accepted, and the status where it is not (R205). -/
def imageGenOk (r : KeyRecord) (g : Nat) : Option Status :=
  if r.imageGen = 0 then none
  else if g = r.imageGen ∨ (g + 1 = r.imageGen ∧ r.imagePending) then none
  else if g < r.imageGen then some .imageStale else some .imageInvalid

/-- An image's blob records: slot and wrapped blob; none where one is malformed. The number bounds the records. -/
def parseBlobs : Nat → Bytes → Option (List (Nat × Bytes))
  | 0, b => if b.isEmpty then some [] else none
  | n + 1, b =>
    if b.isEmpty then some []
    else
      let len := fld b 4 4
      let pad := (8 - len % 8) % 8
      if b.length < 8 + len + pad ∨ ¬ zeroAt b (8 + len) pad then none
      else (parseBlobs n (b.drop (8 + len + pad))).map fun l => (fld b 0 4, sub b 8 len) :: l

/-- An entry of an image: directory index and entry, its standing slot, its green slot. -/
structure ImageEntry where
  index : Nat
  dir : DirEntry
  slot : Slot
  green : Option Slot

/-- Entries of an image's plaintext. -/
def parseEntries (b : Bytes) (n : Nat) : List ImageEntry :=
  (List.range n).map fun i =>
    let o := 160 * i
    let e := parseDir (sub b (o + 16) 16)
    { index := fld b o 4, dir := e, slot := parseSlot (sub b (o + 0x20) 64)
      green := if e.greenLinked then some (parseSlot (sub b (o + 0x60) 64)) else none }

/-- Every slot of an image with its index. -/
def entrySlots (es : List ImageEntry) : List (Nat × Slot) :=
  es.flatMap fun e => (e.dir.standing, e.slot) :: match e.green with
    | some g => [(e.dir.greenSlot, g)]
    | none => []

/-- A slot of an image agrees with R158 to R160 and with its entry. -/
def imageSlotOk (t recGen : Nat) (all : List (Nat × Slot)) (x : Slot) : Bool :=
  x.owner == t && typeOk x.type x.keyBits && x.bound == typeBound x.type x.keyBits && decide (1 ≤ x.level) &&
    !(x.type == 6 && x.level == 7) &&
    if x.parent.inVault then x.parent.index == t && x.level == 1 && x.parent.gen == recGen
    else all.any fun (i, p) => i == x.parent.index && p.type == 6 && p.state == .seasoned && p.generation == x.parent.gen &&
      p.level + 1 == x.level

/-- Table 6-18 order 6. -/
def imageOk (t recGen : Nat) (es : List ImageEntry) (blobs : List (Nat × Bytes)) : Bool :=
  let all := entrySlots es
  (es.all fun e => e.dir.valid && e.dir.owner == t && decide (e.index < 262144) && e.dir.standingGen == e.slot.generation &&
      e.slot.state == .seasoned && match e.green with
        | some g => g.state == .green && g.generation == e.dir.greenGen && !g.bound
        | none => true) &&
    (all.all fun p => imageSlotOk t recGen all p.2) && decide (all.map (·.1)).Nodup && decide (es.map (·.index)).Nodup &&
    (all.all fun p => !p.2.bound || blobs.any fun b => b.1 == p.1 && b.2.length == p.2.blobLen &&
      (sha256 b.2).take 16 == p.2.blobDigest) &&
    blobs.all fun b => all.any fun p => p.1 == b.1 && p.2.bound

/-- The slot writes of a restore, bound slots with fresh blob space from an address (R206). -/
def restoreSlots (blobs : List (Nat × Bytes)) : Nat → List (Nat × Slot) → List Change
  | _, [] => []
  | a, (i, x) :: l =>
    if x.bound then
      let b := ((blobs.find? fun p => p.1 == i).map (·.2)).getD []
      [.blob a b, .slot i { x with blobAddr := a }] ++ restoreSlots blobs (a + ceilDiv b.length 8 * 8) l
    else .slot i x :: restoreSlots blobs a l

/-- The changes of an accepted image (R205, R206, R154). -/
def State.restoreChanges (s : State) (t g : Nat) (es : List ImageEntry) (blobs : List (Nat × Bytes)) (m : Bytes) :
    List Change :=
  let r := s.keyRec t
  restoreSlots blobs ((s.freeBlob 0).getD 0) (entrySlots es) ++ es.map (fun e => .directory e.index e.dir) ++
    (List.range 4096).map (fun k => .kh1 t k (fld m (4 * k) 4)) ++
    (if r.imageGen = 0 then [.keyRecord t { r with imageGen := g, imagePending := false }] else []) ++ [.restored t]

/-- Order 4 of Table 6-18: an image of this device or its twin needs no quorum. -/
def State.withForeign (s : State) (t serial : Nat) (forced : Bool) (k : State → State × Did) : State × Did :=
  if (serial = s.otp.serial ∨ (serial ≠ 0 ∧ serial = s.twinSerial)) ∧ ¬ forced then k s
  else s.withQuorum t purposeRestore k

/-- CELLAR_RESTORE (R204 to R207, Table 6-18). -/
def cellarRestore (c : Cmd) (s : State) : State × Did :=
  let b := c.input
  let t := c.tenant
  let r := s.keyRec t
  let g := fld b 0x10 4
  if c.body.length ≠ 8 ∨ ¬ zeroAt c.body 0 8 then (s, .done (fail .bodyInvalid))
  else if ¬ imageHeadOk b t ∨ ¬ r.present ∨ r.generation ≠ fld b 0x14 2 then (s, .done (fail .imageInvalid))
  else match imageGenOk r g with
    | some st => (s, .done (fail st))
    | none =>
      s.withForeign t (fld b 8 8) (r.imageGen == 0) fun s =>
        let body := (b.drop 0x40).take (b.length - 0x50)
        match gcmOpen (imageKey r.material t g) (natLE 4 g ++ zeros 8) (sub b 0 0x40) body (b.drop (b.length - 16)) with
        | none => (s, .done (fail .imageInvalid))
        | some p =>
          let n := fld b 0x18 4
          let nb := fld b 0x1C 4
          let nm := fld b 0x20 4
          if p.length ≠ 160 * n + nb + nm then (s, .done (fail .imageInvalid))
          else match parseBlobs (nb / 8) (sub p (160 * n) nb) with
            | none => (s, .done (fail .imageInvalid))
            | some blobs =>
              let es := parseEntries p n
              if ¬ imageOk t r.generation es blobs then (s, .done (fail .imageInvalid))
              else if es.any (fun e => (s.ahead.dirEntry e.index).valid) ∨
                  (entrySlots es).any (fun x => (s.ahead.slot x.1).state ≠ .free) ∨
                  (s.freeBlob (blobs.map fun x => x.2.length).sum).isNone then (s, .done (fail .cellarFull))
              else (s, .done { body := natLE 4 g ++ natLE 4 (entrySlots es).length
                               changes := s.restoreChanges t g es blobs (p.drop (160 * n + nb)) })

end Sys2Proof.Machine
end

