-- ==== Sys2Proof/Machine/Ledger.lean ====
section
/-! DEFINITION. Ledgers, balance seals, the journal, and the commands that need no posting (R336 to R364). -/

namespace Sys2Proof.Machine

/-! ## Ledgers and the board (R336 to R344) -/

/-- A ledger head. -/
def State.head (s : State) (n : Nat) : Head := mapGet {} s.board.heads n
/-- A ledger descriptor. -/
def State.desc (s : State) (n : Nat) : Descriptor := mapGet {} s.board.desc n
/-- An account context. -/
def State.context (s : State) (i : Nat) : Context := mapGet {} s.board.ctx i
/-- A checkpoint epoch entry of the vault. -/
def State.epochEntry (s : State) (n : Nat) : EpochEntry := mapGet {} s.vault.epochs n

/-- Slot of a ledger that a tenant owns (Table 11-7 row 2). -/
def State.ledgerSlot (s : State) (ledger tenant : Nat) : Option Nat :=
  (s.board.heads.find? fun p => ledger != 0 && p.2.ledger == ledger && p.2.tenant == tenant).map (·.1)

/-- One currency of a descriptor. -/
def Descriptor.currency (d : Descriptor) (code : Nat) : Option Currency := d.currencies.find? fun c => c.code == code

/-- A descriptor from a LEDGER_CREATE body (Table 11-1). -/
def parseDesc (b : Bytes) : Descriptor :=
  { sealHandle := fld b 4 4, journalHandle := fld b 8 4, signHandle := fld b 0xC 4, window := fld b 0x10 4
    channels := (List.range (fld b 3 1)).map fun i => fld b (0x20 + 4 * i) 4
    currencies := (List.range (fld b 2 1)).map fun i =>
      let o := 0x40 + 32 * i
      { code := fld b o 2, exponent := fld b (o + 2) 1
        suspense := if fld b (o + 3) 1 = 1 then some (sub b (o + 0x10) 16) else none }
    raw := b }

/-- Codes rise strictly from above the one before. -/
def codesRise : Nat → List Currency → Bool
  | _, [] => true
  | n, c :: l => decide (n < c.code) && codesRise c.code l

/-- The layout of a LEDGER_CREATE body (Table 11-1). -/
def descOk (b : Bytes) : Bool :=
  let d := parseDesc b
  let nc := fld b 2 1
  let nh := fld b 3 1
  b.length == 320 && decide (1 ≤ fld b 0 2) && decide (1 ≤ nc) && decide (nc ≤ 8) && decide (1 ≤ nh) && decide (nh ≤ 8) &&
    d.window % 65536 == 0 && decide (65536 ≤ d.window) && decide (d.window ≤ 16777216) && zeroAt b 0x14 12 &&
    zeroAt b (0x20 + 4 * nh) (32 - 4 * nh) && zeroAt b (0x40 + 32 * nc) (256 - 32 * nc) &&
    codesRise 0 d.currencies && (d.currencies.all fun c => decide (c.code ≤ 999) && decide (c.exponent ≤ 4)) &&
    (List.range nc).all fun i =>
      let o := 0x40 + 32 * i
      decide (fld b (o + 3) 1 ≤ 1) && zeroAt b (o + 4) 12 && (fld b (o + 3) 1 == 1 || zeroAt b (o + 0x10) 16)

/-- What a ledger asks of an HMAC key: the type and a usage bit (Table 11-1). -/
def hmacNeed (bit : Nat) : Need := { fits := fun x => x.type == 5, use := fun _ => useBit bit }
/-- What a ledger asks of its signing key. -/
def signNeed : Need := { fits := fun x => x.type == 0x11 && x.keyBits == 384, use := fun _ => useBit 4 ||| useBit 13 }

/-- Handles resolve as subjects, in order (R338, R607). -/
def State.withSubjects (s : State) (t : Nat) : List (Nat × Need) → (State → State × Did) → State × Did
  | [], k => k s
  | (h, n) :: l, k =>
    match s.resolve (some t) h n with
    | (s1, .ok _) => s1.withSubjects t l k
    | (s1, .error st) => (s1, .done (fail st))

/-- The lowest free entry of the vault's checkpoint epoch region (R339). -/
def State.freeLedger (s : State) : Option Nat := (List.range 512).find? fun n => (s.epochEntry n).ledger == 0

/-- Slot and nonce of a new ledger: drawn, or those that the lead appended to a forwarded record (R339, Table 15-5). -/
def State.newLedgerValues (s : State) (c : Cmd) (k : State → Nat → Bytes → State × Did) : State × Did :=
  if c.record.nonce.length = 10 then k s (fld c.record.nonce 0 2) (sub c.record.nonce 2 8)
  else match s.ahead.freeLedger with
    | none => (s, .done (fail .ledgerLimit))
    | some n => s.withRandom 8 fun s b => k s n b

/-- LEDGER_CREATE (R336 to R339). -/
def ledgerCreate (c : Cmd) (s : State) : State × Did :=
  let b := c.body
  let d := parseDesc b
  let a := s.ahead
  let id := fld b 0 2
  let held := a.vault.epochs.filter fun p => p.2.ledger != 0
  if ¬ descOk b ∨ held.any (fun p => p.2.ledger == id) then (s, .done (fail .bodyInvalid))
  else if 512 ≤ held.length ∨ 16 ≤ (held.filter fun p => p.2.tenant == c.tenant).length then
    (s, .done (fail .ledgerLimit))
  else s.withSubjects c.tenant ([(d.sealHandle, hmacNeed 10), (d.journalHandle, hmacNeed 13), (d.signHandle, signNeed)] ++
      d.channels.map fun h => (h, hmacNeed 11)) fun s =>
    if 16777216 < ((a.board.heads.filter fun p => p.2.ledger != 0).map fun p => (a.desc p.1).window).sum + d.window then
      (s, .done (fail .ledgerLimit))
    else s.newLedgerValues c fun s n nonce =>
      (s, .done { body := natLE 2 n ++ zeros 6
                  changes := [.epochEntry n { ledger := id, epoch := 0, tenant := c.tenant }, .descriptor n d,
                    .head n { ledger := id, tenant := c.tenant, nextSeq := 1, chain := zeros 32, nonce }] })

/-! ## Balance seals (R347, R348) -/

/-- A usable slot of a ledger key: its index, generation and material, and whether it is the green slot. -/
abbrev LedgerKey := Nat × Nat × Bytes × Bool

/-- The green slot linked to a handle, while its chain holds. -/
def State.greenKey (s : State) (h : Nat) : List LedgerKey :=
  let e := s.dirEntry (hIndex h)
  let x := s.slot e.greenSlot
  if e.greenLinked && x.state == .green && x.generation == e.greenGen && s.chainOk 8 x then
    match s.material e.greenSlot with
    | .ok m => [(e.greenSlot, e.greenGen, m, true)]
    | .error _ => []
  else []

/-- A ledger's key resolves as a subject: its standing slot, then its green slot (R348, R607). -/
def State.ledgerKeys (s : State) (t h bit : Nat) : State × Except Status (List LedgerKey) :=
  match s.resolve (some t) h (hmacNeed bit) with
  | (s1, .error st) => (s1, .error st)
  | (s1, .ok i) =>
    match s1.material i with
    | .error st => (s1, .error st)
    | .ok m => (s1, .ok ((i, (s1.slot i).generation, m, false) :: s1.greenKey h))

/-- A MAC of a ledger: the first 16 bytes of HMAC-SHA-256. -/
def mac16 (key b : Bytes) : Bytes := (hmac256 key b).take 16

/-- Balance and remainder of a seal, none where a field breaks R379 or Table 12-1. -/
def sealAmounts (b : Bytes) : Option (Int × Int) :=
  match ld63 b 0x30, ld63 b 0x50 with
  | some v, some r => if r.natAbs < 10 ^ 24 then some (v, r) else none
  | _, _ => none

/-- The seal verifies under one of the ledger's usable slots (R348). -/
def sealVerifies (keys : List LedgerKey) (b : Bytes) : Bool :=
  keys.any fun (i, g, m, _) => fld b 0x24 4 == i && fld b 0x16 2 == g && sub b 0x70 16 == mac16 m (sub b 0 0x70)

/-- The slot that new seals are made under: the green one while one is linked (R348). -/
def issueKey (keys : List LedgerKey) : LedgerKey := (keys.find? fun k => k.2.2.2).getD (keys.headD (0, 0, [], false))

/-- A seal of a leg's values (Table 11-5). -/
def sealBytes (keys : List LedgerKey) (ledger : Nat) (nonce : Bytes) (g : Leg) : Bytes :=
  let k := issueKey keys
  let b := padTo 16 g.tag ++ natLE 2 ledger ++ natLE 2 g.currency ++ natLE 1 g.exponent ++ zeros 1 ++ natLE 2 k.2.1 ++
    natLE 6 g.version ++ zeros 2 ++ natLE 4 g.index ++ natLE 4 k.1 ++ padTo 8 nonce ++ ld63Bytes g.balance ++
    ld63Bytes g.remainder
  b ++ mac16 k.2.2.1 b

/-- A leg with the values that its seal carries. -/
def legOf (tag : Bytes) (currency : Nat) (absorb : Bool) (amount : Int) (b : Bytes) (num : Nat) : Leg :=
  let (v, r) := (sealAmounts b).getD (0, 0)
  { tag, currency, absorb, amount, seal_ := b, index := fld b 0x20 4, version := fld b 0x18 6, exponent := fld b 0x14 1
    balance := v, remainder := r, num }

/-! ## The journal (R360, R363) -/

/-- A leg record (Table 11-9). -/
def legRecordBytes (r : LegRecord) : Bytes :=
  padTo 16 r.tag ++ natLE 2 r.currency ++ natLE 1 (if r.absorb then 1 else 0) ++ natLE 1 r.home ++ natLE 6 r.version ++
    zeros 6 ++ ld63Bytes r.amount

/-- A journal entry (Table 11-8). -/
def entryBytes (key : Bytes) (ledger seq kind flags epoch : Nat) (id vd prev : Bytes) (legs : List LegRecord) : Bytes :=
  let b := ascii "KHJE" ++ natLE 2 1 ++ natLE 2 ledger ++ natLE 8 seq ++ natLE 1 kind ++ natLE 1 legs.length ++
    natLE 2 flags ++ natLE 2 epoch ++ zeros 2 ++ padTo 16 id ++ padTo 8 vd ++ padTo 32 prev ++ legs.flatMap legRecordBytes
  b ++ mac16 key b

/-- The response body of a posting (R359). -/
def postingBody (seq n : Nat) (cross : Bool) (seals entry : Bytes) : Bytes :=
  natLE 8 seq ++ natLE 1 n ++ natLE 1 (if cross then 1 else 0) ++ zeros 6 ++ seals ++ natLE 4 entry.length ++ entry

/-- The next entry of this device's journal of a ledger, chained to the last one assigned, and the head after it (R360,
R361). The lone flag is the twin state as the entry is formed (R362). -/
def State.nextEntry (s : State) (slot : Nat) (key : Bytes) (kind flags : Nat) (id vd : Bytes) (legs : List LegRecord) :
    Nat × Bytes × Head :=
  let h := s.ahead.head slot
  let e := entryBytes key h.ledger h.nextSeq kind ((if s.twin.st = .loneKeel then 1 else 0) + flags)
    (s.ahead.epochEntry slot).epoch id vd h.chain legs
  (h.nextSeq, e, { h with nextSeq := h.nextSeq + 1, chain := sha256 e })

/-- SEAL_FETCH (R363). -/
def sealFetch (c : Cmd) (s : State) : State × Did :=
  let b := c.body
  let l := fld b 0 2
  let sel := fld b 2 1
  let give (seq : Nat) : State × Did :=
    match s.board.responses.find? fun r => r.ledger == l && r.seq == seq with
    | some r => (s, spaced c { body := r.body })
    | none => (s, .done (failD .bodyInvalid 1))
  if b.length ≠ 32 ∨ 1 < sel ∨ ¬ zeroAt b 3 5 then (s, .done (fail .bodyInvalid))
  else if (s.ledgerSlot l c.tenant).isNone then (s, .done (fail .ledgerUnknown))
  else if sel = 0 then give (fld b 8 8)
  else match s.board.filter.find? fun e => e.ledger == l && e.id == sub b 0x10 16 with
    | some e => give e.seq
    | none => (s, .done (failD .bodyInvalid 2))

/-! ## Journal blocks (R364) -/

/-- Bytes of a block that are signed. -/
def State.blockHead (s : State) (k : JournalBlock) : Bytes :=
  ascii "KHJB" ++ natLE 2 1 ++ natLE 2 k.ledger ++ natLE 8 s.otp.serial ++ natLE 8 k.first ++ natLE 8 k.last ++
    natLE 2 k.epoch ++ zeros 14 ++ padTo 32 k.lastHash

/-- Signature of a block with a private key's plaintext and drawn bytes. -/
def State.blockSig (s : State) (k : JournalBlock) (m r : Bytes) : Bytes :=
  let (x, y) := p384Curve.sign (fld m 8 48) (sha384 (s.blockHead k)) (p384Curve.scalar r)
  natLE 48 x ++ natLE 48 y

/-- A held block is returned as output data, signed first where it is not yet. -/
def State.giveBlock (s : State) (c : Cmd) (slot : Nat) (k : JournalBlock) (cs : List Change) : State × Did :=
  match k.signature with
  | some sig => (s, spaced c { out := s.blockHead k ++ sig, changes := cs })
  | none =>
    s.withKey c.tenant (s.desc slot).signHandle signNeed fun s i =>
      s.withMaterial i fun m =>
        if ¬ s.laneAny .digest then (s, .done (fail .laneUnavailable))
        else s.withRandom 56 fun s r =>
          match spaceFail c 0 176 with
          | some f => (s, .done { f with changes := cs })
          | none =>
            let sig := s.blockSig k m r
            (s, .job .bigNumber (curveCycles 1600 6) [i]
              { out := s.blockHead k ++ sig, changes := cs ++ [.blockSig k.ledger k.last sig] })

/-- The last block held of a ledger. -/
def State.lastBlock (s : State) (ledger : Nat) : Option JournalBlock := s.board.blocks.find? fun k => k.ledger == ledger

/-- JOURNAL_BLOCK (R364). Action 1 closes a block at once; the closing reaches the twin with the completion. -/
def journalBlock (c : Cmd) (s : State) : State × Did :=
  let b := c.body
  let l := fld b 0 2
  let act := fld b 2 1
  if b.length ≠ 16 ∨ 1 < act ∨ ¬ zeroAt b 3 5 then (s, .done (fail .bodyInvalid))
  else match s.ledgerSlot l c.tenant with
    | none => (s, .done (fail .ledgerUnknown))
    | some n =>
      if act = 0 then
        match s.board.blocks.find? fun k => k.ledger == l && decide (k.first ≤ fld b 8 8) && decide (fld b 8 8 ≤ k.last) with
        | some k => s.giveBlock c n k []
        | none => (s, .done (failD .bodyInvalid 1))
      else
        let h := s.head n
        let cs := if h.lastBlock + 1 < h.nextSeq then [Change.head n { h with lastBlock := h.nextSeq - 1 }] else []
        let s1 := s.applyAll cs
        match s1.lastBlock l with
        | some k => s1.giveBlock c n k cs
        | none => (s1, .done (failD .bodyInvalid 1))

/-- JOURNAL_BLOCK_SIGN: the oldest unsigned block of a ledger is signed after the commit that closed it. -/
def State.signBlock (s : State) (ledger : Nat) : State :=
  match s.board.heads.find? fun p => p.2.ledger == ledger, s.board.blocks.reverse.find? fun k =>
      k.ledger == ledger && k.signature.isNone with
  | some (n, h), some k =>
    match s.resolve (some h.tenant) (s.desc n).signHandle signNeed with
    | (s1, .ok i) =>
      match s1.material i, s1.random 56 with
      | .ok m, some (s2, r) =>
        if s2.laneAny .bigNumber && s2.laneAny .digest then s2.apply (.blockSig ledger k.last (s2.blockSig k m r)) else s1
      | _, _ => s1
    | (s1, .error _) => s1
  | _, _ => s

end Sys2Proof.Machine
end

