-- ==== Sys2Proof/Machine/Posting.lean ====
section
/-! DEFINITION. Postings, accruals, openings and state changes: the checks of Table 11-7, pending marks, the decimal job and
what it commits (R345, R346, R351 to R367, R385 to R397). -/

namespace Sys2Proof.Machine

/-! ## Refusals -/

/-- A command ended by a row of Table 11-7 (LED_REFUSED). -/
def State.refuse (s : State) (r : Result) : State × Did :=
  ({ s with board := { s.board with refused := sat32 s.board.refused } }, .done r)

/-- An LD63 or KH-1 field is refused on input (DEC_FORMAT_REFUSALS). -/
def State.formatRefusal (s : State) : State := s.laneCount .decimal 0x014

/-! ## Rows 1 to 4 -/

/-- What is wrong with leg `i` of a POST_LEGS body, given the tags and absorbed currencies before it; none where it is good.
True where it is the format of an LD63 field (Table 11-7 row 1, R379). -/
def legFault (d : Option Descriptor) (b : Bytes) (tags : List Bytes) (absorbed : List Nat) : Option Bool :=
  let tag := sub b 0 16
  let cur := fld b 0x10 2
  let absorb := fld b 0x12 1 == 1
  let suspense : Bool := match d with
    | none => true
    | some d => (d.currency cur).bind (·.suspense) == some tag
  if 1 < fld b 0x12 1 ∨ ¬ zeroAt b 0x13 13 ∨ tags.contains tag then some false
  else match ld63 b 0x20, sealAmounts (sub b 0x40 128) with
    | some a, some _ =>
      if absorb ∧ (a ≠ 0 ∨ absorbed.contains cur ∨ ¬ suspense) then some false else none
    | _, _ => some true

/-- The legs of a POST_LEGS body from leg `i` on, or the first faulty leg and whether its format is at fault. -/
def parseLegs (d : Option Descriptor) : List Bytes → Nat → List Bytes → List Nat → Except (Nat × Bool) (List Leg)
  | [], _, _, _ => .ok []
  | b :: l, i, tags, absorbed =>
    match legFault d b tags absorbed with
    | some f => .error (i, f)
    | none =>
      let absorb := fld b 0x12 1 == 1
      let g := legOf (sub b 0 16) (fld b 0x10 2) absorb ((ld63 b 0x20).getD 0) (sub b 0x40 128) i
      (parseLegs d l (i + 1) (g.tag :: tags) (if absorb then g.currency :: absorbed else absorbed)).map (g :: ·)

/-- Row 3 of Table 11-7. -/
def State.rowThree (s : State) : Option Status :=
  match s.twin.st with
  | .fenced | .resync => some .twinFenced
  | .pairing => some .twinLone
  | _ => none

/-- Row 4 of Table 11-7: the keys that it latches, or the first status. -/
def State.rowFour (s : State) (t : Nat) (d : Descriptor) (ch macOff : Nat) (b : Bytes) :
    State × Except Status (List LedgerKey × LedgerKey) :=
  if ¬ d.channels.contains ch then (s, .error .authMacInvalid)
  else match s.resolve (some t) ch { hmacNeed 11 with units := some fun _ => 1 } with
    | (s1, .error st) => (s1, .error st)
    | (s1, .ok i) =>
      match s1.material i, s1.ledgerKeys t d.sealHandle 10 with
      | .error st, _ => (s1, .error st)
      | _, (s2, .error st) => (s2, .error st)
      | .ok m, (s2, .ok sk) =>
        match s2.ledgerKeys t d.journalHandle 13 with
        | (s3, .error st) => (s3, .error st)
        | (s3, .ok jk) =>
          if mac16 m (sub b 0 macOff ++ zeros 16 ++ b.drop (macOff + 16)) = sub b macOff 16 then
            (s3, .ok (sk, jk.headD (0, 0, [], false)))
          else (s3, .error .authMacInvalid)

/-- Rows 2 to 4 of Table 11-7, and then the rest. -/
def State.frontRows (s : State) (c : Cmd) (ledger ch macOff : Nat)
    (k : State → Nat → Descriptor → List LedgerKey → LedgerKey → State × Did) : State × Did :=
  match s.ledgerSlot ledger c.tenant with
  | none => s.refuse (fail .ledgerUnknown)
  | some n =>
    match s.rowThree with
    | some st => s.refuse (fail st)
    | none =>
      match s.rowFour c.tenant (s.desc n) ch macOff c.body with
      | (s1, .error st) => s1.refuse (fail st)
      | (s1, .ok (sk, jk)) => k s1 n (s1.desc n) sk jk

/-! ## Rows 5 to 11 and pending marks (R354, R357) -/

/-- The posting-id filter refuses the id: the sequence that R359 reports (R354). -/
def State.filterHit (s : State) (slot horizon : Nat) (id : Bytes) : Option Nat :=
  let h := s.head slot
  if horizon < h.floor ∨ horizon + (s.desc slot).window < h.nextSeq ∨ h.nextSeq < horizon then some 0
  else (s.board.filter.find? fun e => e.ledger == h.ledger && e.id == id && decide (horizon ≤ e.seq)).map (·.seq)

/-- A pending mark that another command or a prepared posting made. -/
def State.foreign (s : State) (own : Mark) (on : MarkOn) : Option Mark :=
  (s.board.marks.find? fun m => m.1 == on && m.2 != own).map (·.2)

/-- Marks are made. -/
def State.addMarks (s : State) (own : Mark) (l : List MarkOn) : State :=
  { s with board := { s.board with marks := l.map (fun x => (x, own)) ++ s.board.marks } }

/-- Rows 7 to 9 of Table 11-7, and the contra's currency (R365): the first failure. -/
def State.sealRows (s : State) (p : Posting) : Option Result :=
  let h := s.head p.slot
  let d := s.desc p.slot
  let stop (st : Status) (bad : Leg → Bool) : Option Result := (p.legs.find? bad).map fun g => failD st g.num
  (((stop .sealInvalid fun g => !sealVerifies p.sealKeys g.seal_).orElse fun _ =>
    stop .accountUnknown fun g =>
      let x := s.context g.index
      sub g.seal_ 0 16 != g.tag || fld g.seal_ 0x10 2 != p.ledger || sub g.seal_ 0x28 8 != h.nonce ||
        decide (g.index < 1024) || x.ledger != p.ledger || x.fingerprint != sub g.tag 8 8 || x.acctState == 0).orElse
    fun _ => stop .currencyMismatch fun g =>
      fld g.seal_ 0x12 2 != g.currency || (d.currency g.currency).map (·.exponent) != some g.exponent).orElse
    fun _ =>
      let a := p.legs.headD { tag := [] }
      let b := p.legs.getD 1 { tag := [] }
      if p.kind = 2 ∧ (a.currency ≠ b.currency ∨ a.exponent ≠ b.exponent) then some (failD .currencyMismatch 1) else none

/-- Rows 10 and 11 of Table 11-7 (R367: an accrual fails row 11 only for a closed account; R346: a state change has no
row 11). -/
def State.versionRows (s : State) (p : Posting) : Option Result :=
  let stop (st : Status) (bad : Leg → Bool) : Option Result := (p.legs.find? bad).map fun g => failD st g.num
  (stop .versionStale fun g => (s.context g.index).version != g.version).orElse fun _ =>
    stop .accountState fun g =>
      let st := (s.context g.index).acctState
      (p.kind == 1 && st != 1) || (p.kind == 2 && st == 3)

/-- The transition rules of R346 let the account take the new state. -/
def State.transitionOk (s : State) (p : Posting) : Bool :=
  let g := p.legs.headD { tag := [] }
  let st := (s.context g.index).acctState
  st != 3 && st != p.newState && (p.newState != 3 || (g.balance == 0 && g.remainder == 0))

/-- Cycles of a command's decimal job (R386): its adds, negates and compares, or Table 12-5. -/
def Posting.cycles (p : Posting) : Nat := if p.kind = 2 then accrueCycles else 20 * p.legs.length

/-- The decimal job of a command starts (R385). -/
def Posting.job (p : Posting) : Did := .job .decimal p.cycles (p.sealKeys.map (·.1)) { post := some p }

/-- The first leg of a command whose context another has marked, with the mark (R357). -/
def State.legMark (s : State) (own : Mark) (p : Posting) : Option (Nat × Mark) :=
  p.legs.findSome? fun g => (s.foreign own (.context g.index)).map fun m => (g.num, m)

/-- A command goes on at row 10. -/
def State.postRow10 (s : State) (r : RecRef) (p : Posting) : State × Did :=
  match s.legMark (.command r) p with
  | some (_, .command _) =>
    let n := (p.legs.filter fun g => match s.foreign (.command r) (.context g.index) with
      | some (.command _) => true
      | _ => false).length
    ({ s with board := { s.board with waits := min 0xFFFFFFFF (s.board.waits + n) } }, .wait .context { post := some { p with row := 10 } })
  | some (i, .prepared ..) => s.refuse (failD .busy i)
  | none =>
    match s.versionRows p with
    | some f => s.refuse f
    | none =>
      if p.kind = 4 then
        if s.transitionOk p then (s.addMarks (.command r) (p.legs.map fun g => .context g.index), p.job)
        else (s, .done (failD .accountState 0))
      else (s, p.job)

/-- The four checks of an opening after row 5 (R345). -/
def State.openChecks (s : State) (p : Posting) : Option Result :=
  let g := p.legs.headD { tag := [] }
  let a := s.ahead
  if ((s.desc p.slot).currency g.currency).isNone then some (fail .currencyMismatch)
  else if p.cls ≠ 0 ∧ p.cls ≠ 255 ∧ (mapFind s.man.set.accountLimits p.cls).isNone then some (fail .bodyInvalid)
  else if a.board.tags.any fun t => t.1 == p.ledger && t.2.1 == sub g.tag 8 8 then some (failD .boardFull 1)
  else if 1047552 ≤ (a.board.ctx.filter fun x => x.2.acctState != 0).length then some (failD .boardFull 0)
  else none

/-- A command that has passed row 5, or does not apply it, goes on. Row 6 passes: it runs at its accounts' home (R368). -/
def State.postRow6 (s : State) (r : RecRef) (p : Posting) : State × Did :=
  if p.kind = 3 then
    match s.openChecks p with
    | some f => (s, .done f)
    | none => (s, p.job)
  else match s.sealRows p with
    | some f => s.refuse f
    | none => s.postRow10 r p

/-- A command goes on at row 5. -/
def State.postRow5 (s : State) (r : RecRef) (p : Posting) : State × Did :=
  match s.foreign (.command r) (.posting p.ledger p.id) with
  | some (.command _) => (s, .wait .context { post := some { p with row := 5 } })
  | some (.prepared ..) => s.refuse (fail .busy)
  | none =>
    match s.filterHit p.slot p.horizon p.id with
    | some q => s.refuse { status := .postingReplay, body := natLE 8 q }
    | none => (s.addMarks (.command r) [.posting p.ledger p.id]).postRow6 r p

/-! ## The decimal job (rows 12 to 14, Table 12-5) -/

/-- The sum of a currency's amounts, absorb legs apart. -/
def legSum (l : List Leg) (code : Nat) : Int := ((l.filter fun g => g.currency == code && !g.absorb).map (·.amount)).sum

/-- The first leg of the lowest unbalanced currency (row 12). -/
def unbalanced (l : List Leg) : Option Leg :=
  (l.filter fun g => legSum l g.currency != 0 && !(l.any fun h => h.currency == g.currency && h.absorb)).foldl
    (fun acc g => match acc with
      | none => some g
      | some h => if g.currency < h.currency then some g else some h) none

/-- Effective amounts (R358). -/
def effective (l : List Leg) : List Leg := l.map fun g => if g.absorb then { g with amount := -legSum l g.currency } else g

/-- Limit of an account limit class, none for class 255 (R350). A class that the settings no longer define limits at 0. -/
def State.limitOf (s : State) (cls : Nat) : Option Int :=
  if cls = 255 then none else some ((mapFind s.man.set.accountLimits cls).getD 0)

/-- A leg with its new balance and version (R358). -/
def Leg.applied (g : Leg) : Leg := { g with balance := g.balance + g.amount, version := g.version + 1 }

/-- Rows 13 and 14 for legs with their effective amounts: the legs with their new values, or the first failure. -/
def State.balanceRows (s : State) (l : List Leg) : Except Result (List Leg) :=
  match l.find? fun g : Leg => !(fits63 g.amount && fits63 (g.balance + g.amount)) with
  | some g => .error (failD .ledgerOverflow g.num)
  | none =>
    match l.find? fun g : Leg => decide (g.amount < 0) && match s.limitOf (s.context g.index).limitClass with
        | some lim => decide (g.balance + g.amount < -lim)
        | none => false with
    | some g => .error (failD .limitBreach g.num)
    | none => .ok (l.map Leg.applied)

/-- The accrual of Table 12-5 over the account's and the contra's legs. -/
def accrueLegs (p : Posting) : Except Result (List Leg) :=
  let a := p.legs.headD { tag := [] }
  let b := p.legs.getD 1 { tag := [] }
  match accrueValue a.balance p.rate p.numer p.basis a.remainder with
  | none => .error (failD .ledgerOverflow 0)
  | some (q, r) =>
    if ¬ fits63 (a.balance + q) then .error (failD .ledgerOverflow 0)
    else if ¬ fits63 (b.balance - q) then .error (failD .ledgerOverflow 1)
    else .ok [{ { a with amount := q }.applied with remainder := r }, { b with amount := -q }.applied]

/-- What a command's decimal job comes to: the legs with their new values. -/
def State.arith (s : State) (p : Posting) : Except Result (List Leg) :=
  if p.kind = 1 then
    match unbalanced p.legs with
    | some g => .error (failD .legsUnbalanced g.num)
    | none => s.balanceRows (effective p.legs)
  else if p.kind = 2 then accrueLegs p
  else .ok (p.legs.map Leg.applied)

/-! ## Seals, entry and commit (R358 to R363) -/

/-- The lowest free account context at or above `i`. -/
def freeCtxFrom : Map Context → Nat → Nat
  | [], i => i
  | (k, x) :: m, i => if k < i then freeCtxFrom m i else if k = i ∧ x.acctState ≠ 0 then freeCtxFrom m (i + 1) else i

/-- A context after a leg commits. -/
def State.nextContext (s : State) (p : Posting) (g : Leg) : Context :=
  let e := (s.ahead.epochEntry p.slot).epoch
  if p.kind = 3 then
    { fingerprint := sub g.tag 8 8, ledger := p.ledger, version := 1, limitClass := p.cls, acctState := 1, epoch := e }
  else
    let x := s.context g.index
    { x with version := g.version, epoch := e, acctState := if p.kind = 4 then p.newState else x.acctState }

/-- A leg's record of the journal. -/
def State.legRecord (s : State) (g : Leg) : LegRecord :=
  { tag := g.tag, currency := g.currency, absorb := g.absorb, home := s.homeOf g.tag, version := g.version
    amount := g.amount }

/-- Flags of an entry but the lone flag (Table 11-8). -/
def entryFlags (cross : Bool) (legs : List LegRecord) : Nat :=
  (if cross then 2 else 0) + if legs.any (·.absorb) then 4 else 0

/-- The seals, the entry, the response and the changes of a command whose legs have their new values (R361). -/
def State.formed (s : State) (p : Posting) (legs : List Leg) : Result :=
  let rs := legs.map s.legRecord
  let (seq, e, h) := s.nextEntry p.slot p.journalKey p.kind (entryFlags false rs) p.id p.valueDate rs
  let seals := legs.flatMap (sealBytes p.sealKeys p.ledger h.nonce)
  let body := postingBody seq legs.length false seals e
  { body
    changes := legs.map (fun g => .context g.index (s.nextContext p g)) ++
      (if p.kind = 3 then legs.map fun g => Change.tag p.ledger (sub g.tag 8 8) g.index else []) ++
      (if p.kind = 4 then [] else [.filter { ledger := p.ledger, id := p.id, seq }]) ++
      [.head p.slot h, .response { ledger := p.ledger, seq, id := p.id, kind := p.kind, body }] }

/-- An opening takes its context: the lowest free one (entry 11). -/
def State.formedOpening (s : State) (p : Posting) : Result :=
  match s.openChecks p with
  | some f => f
  | none =>
    let i := freeCtxFrom s.ahead.board.ctx 1024
    s.formed p (p.legs.map fun g => { g with index := i, version := 1 })

/-- A command's decimal job has ended without a fault. -/
def State.postEnd (s : State) (run : Run) (p : Posting) : State :=
  let ref := run.record.ref
  match s.arith p with
  | .error f =>
    let s1 := if f.status = .ledgerOverflow then s.laneCount .decimal 0x008 else s
    (s1.refuse f).1.endJob run f
  | .ok legs =>
    if p.kind = 3 then s.endJob run (s.formedOpening p)
    else if p.kind ≠ 4 ∧ ((s.legMark (.command ref) p).isSome ∨
        p.legs.any fun g => (s.context g.index).version != g.version) then
      let (s1, d) := s.postRow10 ref p
      (s1.did { run with latched := [] } d).unlatch
    else
      let s1 := if p.kind = 4 then s else s.addMarks (.command ref) (p.legs.map fun g => .context g.index)
      s1.endJob run (s1.formed p legs)

/-- DECIMAL_JOB_DONE (R386, R397). -/
def State.decimalDone (s : State) (l : Nat) (f : JobFault) : State :=
  match s.laneRun .decimal l with
  | none => s
  | some run =>
    let s1 := s.laneCount .decimal 0x004
    match f, run.res.post with
    | .none, some p => s1.postEnd run p
    | _, _ =>
      let (s2, res) := s1.jobFault .decimal l run f
      s2.endJob run res

/-! ## Commands -/

/-- ACCOUNT_OPEN (R345). -/
def accountOpen (c : Cmd) (s : State) : State × Did :=
  let b := c.body
  if b.length ≠ 80 ∨ ¬ zeroAt b 5 3 ∨ ¬ zeroAt b 0xC 4 ∨ ¬ zeroAt b 0x28 8 then s.refuse (fail .bodyInvalid)
  else s.frontRows c (fld b 0 2) (fld b 8 4) 0x40 fun s n d sk jk =>
    let cur := fld b 2 2
    s.postRow5 c.record.ref {
      kind := 3, slot := n, ledger := fld b 0 2, tenant := c.tenant, id := sub b 0x30 16, horizon := fld b 0x20 8
      valueDate := zeros 8, sealKeys := sk, journalKey := jk.2.2.1, cls := fld b 4 1
      legs := [{ tag := sub b 0x10 16, currency := cur, exponent := ((d.currency cur).map (·.exponent)).getD 0 }] }

/-- ACCOUNT_SET_STATE (R346). -/
def accountSetState (c : Cmd) (s : State) : State × Did :=
  let b := c.body
  let ns := fld b 2 1
  let x := sub b 0x20 128
  if b.length ≠ 160 ∨ ns = 0 ∨ 3 < ns ∨ ¬ zeroAt b 3 5 ∨ ¬ zeroAt b 0xC 4 then s.refuse (fail .bodyInvalid)
  else if (sealAmounts x).isNone then s.formatRefusal.refuse (fail .bodyInvalid)
  else s.frontRows c (fld b 0 2) (fld b 8 4) 0x10 fun s n _ sk jk =>
    s.postRow6 c.record.ref {
      kind := 4, slot := n, ledger := fld b 0 2, tenant := c.tenant, id := zeros 16, valueDate := zeros 8
      sealKeys := sk, journalKey := jk.2.2.1, newState := ns, legs := [legOf (sub x 0 16) (fld x 0x12 2) false 0 x 0] }

/-- A posting is not homed at one member (R368). -/
def State.crossHome (s : State) (c : Cmd) : Bool :=
  match c.record.ref with
  | .forwarded .. => false
  | .host .. => decide (1 < s.man.set.memberCount) && (s.oneHome ((postingHomes c.op c.body).map s.homeOf)).isNone

/-- ACCRUE (R365 to R367). The leg messages carry no accrual: one that no single member homes ends with HOME_UNREACHABLE. -/
def accrue (c : Cmd) (s : State) : State × Did :=
  let b := c.body
  let x := sub b 0x60 128
  let y := sub b 0xE0 128
  let basis := fld b 2 2
  if b.length ≠ 352 ∨ (basis ≠ 360 ∧ basis ≠ 365 ∧ basis ≠ 366) ∨ 366 < fld b 4 2 ∨ ¬ zeroAt b 6 2 ∨ ¬ zeroAt b 0xC 4 then
    s.refuse (fail .bodyInvalid)
  else match ld63 b 0x40, sealAmounts x, sealAmounts y with
    | some rate, some _, some _ =>
      if sub x 0 16 = sub y 0 16 then s.refuse (failD .bodyInvalid 1)
      else s.frontRows c (fld b 0 2) (fld b 8 4) 0x30 fun s n _ sk jk =>
        if s.crossHome c then s.refuse (fail .homeUnreachable)
        else s.postRow5 c.record.ref {
          kind := 2, slot := n, ledger := fld b 0 2, tenant := c.tenant, id := sub b 0x20 16, horizon := fld b 0x10 8
          valueDate := sub b 0x18 8, sealKeys := sk, journalKey := jk.2.2.1, rate, numer := fld b 4 2, basis
          legs := [legOf (sub x 0 16) (fld x 0x12 2) false 0 x 0, legOf (sub y 0 16) (fld y 0x12 2) false 0 y 1] }
    | _, _, _ => s.formatRefusal.refuse (fail .bodyInvalid)

/-- A POST_LEGS posting that has passed rows 1 to 4 (Table 11-6). -/
def postingOf (c : Cmd) (n : Nat) (sk : List LedgerKey) (jk : LedgerKey) (legs : List Leg) : Posting :=
  let b := c.body
  { kind := 1, slot := n, ledger := fld b 0 2, tenant := c.tenant, id := sub b 0x10 16, horizon := fld b 8 8
    valueDate := sub b 0x20 8, sealKeys := sk, journalKey := jk.2.2.1, legs }

/-- Rows 1 to 4 of POST_LEGS, and then the rest (R352, R356). -/
def State.postFront (s : State) (c : Cmd) (k : State → Posting → State × Did) : State × Did :=
  let b := c.body
  let n := fld b 2 1
  if b.length < 64 ∨ n = 0 ∨ 16 < n ∨ b.length ≠ 64 + 192 * n ∨ ¬ zeroAt b 3 1 ∨ ¬ zeroAt b 0x28 8 then
    s.refuse (fail .bodyInvalid)
  else
    let d := (s.ledgerSlot (fld b 0 2) c.tenant).map s.desc
    match parseLegs d ((List.range n).map fun i => sub b (64 + 192 * i) 192) 0 [] [] with
    | .error (i, fmt) => (if fmt then s.formatRefusal else s).refuse (failD .bodyInvalid i)
    | .ok legs => s.frontRows c (fld b 0 2) (fld b 4 4) 0x30 fun s n _ sk jk => k s (postingOf c n sk jk legs)

/-! ## KH-1 balance MACs (R382 to R384) -/

/-- amount_1 of a KH-1 record, or its refusal (R382, R383). -/
def State.withAmount (s : State) (c : Cmd) (k : State → State × Did) : State × Did :=
  match packedVal (sub c.body 0x10 8) with
  | some _ => k s
  | none => (s.formatRefusal, .done (fail .bodyInvalid))

/-- The bytes of a KH-1 record that a balance MAC covers. -/
def balanceBytes (c : Cmd) : Bytes := sub c.body 0x10 8 ++ sub c.body 0x20 16

/-- BAL_MAC_GEN. -/
def balMacGen (c : Cmd) (s : State) : State × Did :=
  s.withKh1 c fun h _ => s.withAmount c fun s =>
    kh1Did (s.macJob c.tenant { handle := h, mode := 0x11, macLen := 8, verify := false, data := balanceBytes c })
      fun r => r.body.take 8

/-- BAL_MAC_VER. -/
def balMacVer (c : Cmd) (s : State) : State × Did :=
  s.withKh1 c fun h d =>
    if d.length < 8 then (s, .done (fail .bodyInvalid))
    else s.withAmount c fun s =>
      kh1Did (s.macJob c.tenant { handle := h, mode := 0x11, macLen := 8, verify := true, expected := d.take 8
                                  data := balanceBytes c }) fun _ => []

end Sys2Proof.Machine
end

