-- ==== Sys2Proof/Machine/Checkpoint.lean ====
section
/-! DEFINITION. Checkpoints, board images and roll-forward (R373 to R376). -/

namespace Sys2Proof.Machine

/-! ## Board images (R374) -/

/-- The 64 bytes of a head, its pending fields zero (Table 11-3, R374). -/
def headBytes (h : Head) : Bytes :=
  natLE 2 h.ledger ++ natLE 1 h.tenant ++ zeros 5 ++ natLE 8 h.nextSeq ++ padTo 32 h.chain ++ natLE 8 h.floor ++
    natLE 8 h.lastBlock

/-- A head from an image, with the ledger nonce. -/
def parseHead (b nonce : Bytes) : Head :=
  { ledger := fld b 0 2, tenant := fld b 2 1, nextSeq := fld b 8 8, chain := sub b 0x10 32, floor := fld b 0x30 8
    lastBlock := fld b 0x38 8, nonce }

/-- The 32 bytes of an account context (Table 11-4). -/
def contextBytes (x : Context) : Bytes :=
  padTo 8 x.fingerprint ++ natLE 2 x.ledger ++ natLE 6 x.version ++ natLE 1 x.limitClass ++ natLE 1 x.acctState ++
    natLE 2 x.epoch ++ zeros 12

/-- A context from an image. -/
def parseContext (b : Bytes) : Context :=
  { fingerprint := sub b 0 8, ledger := fld b 8 2, version := fld b 0xA 6, limitClass := fld b 0x10 1
    acctState := fld b 0x11 1 % 128, epoch := fld b 0x12 2 }

/-- Key of a board image. -/
def boardKey (trunk : Bytes) (t l e : Nat) : Bytes :=
  hkdf256 trunk (zeros 32) (ascii "KH64-BOARD" ++ natLE 1 t ++ natLE 2 l ++ natLE 2 e) 32

/-- IV of a board image. -/
def boardIv (l e : Nat) : Bytes := natLE 2 e ++ natLE 2 l ++ zeros 8

/-- The image of a ledger's slot for an epoch. Its header, offsets 0x000 to 0x01F, is the associated data. -/
def State.boardImage (s : State) (n epoch : Nat) : Bytes :=
  let h := s.head n
  let r := s.keyRec h.tenant
  let cs := s.board.ctx.filter fun x => x.2.ledger == h.ledger
  let head := ascii "KHBI" ++ natLE 2 1 ++ natLE 1 h.tenant ++ zeros 1 ++ natLE 8 s.otp.serial ++ natLE 2 h.ledger ++
    natLE 2 epoch ++ natLE 2 r.generation ++ natLE 2 n ++ natLE 4 cs.length ++ zeros 4
  let plain := headBytes h ++ padTo 320 (s.desc n).raw ++ padTo 8 h.nonce ++
    cs.flatMap fun x => natLE 4 x.1 ++ zeros 4 ++ contextBytes x.2
  let (ct, tag) := gcmSeal (boardKey r.material h.tenant h.ledger epoch) (boardIv h.ledger epoch) head plain
  head ++ ct ++ tag

/-! ## CHECKPOINT (R373) -/

/-- A run's record as its opcode's meaning sees it. -/
def Run.cmd (run : Run) (t : Tick) : Cmd :=
  { record := run.record, tenant := run.record.tenant, op := run.op, body := run.body, input := run.input, tick := t }

/-- CHECKPOINT, action 0: the copy starts. -/
def State.takeCheckpoint (s : State) (c : Cmd) (n : Nat) : State × Did :=
  let l := (s.head n).ledger
  if (s.epochEntry n).epoch = 0xFFFF then (s, .done (failD .ledgerLimit 1))
  else if ¬ (s.keyRec c.tenant).present then (s, .done (fail .keyHandleUnknown))
  else if s.board.copying.contains l then (s, .done (fail .busy))
  else ({ s with board := { s.board with copying := l :: s.board.copying } }, .wait (.checkpoint l) {})

/-- CHECKPOINT, action 1: the pending epoch is confirmed by an entry of kind 5. -/
def State.confirmCheckpoint (s : State) (c : Cmd) (n : Nat) : State × Did :=
  let h := s.ahead.head n
  let e := (s.ahead.epochEntry n).epoch + 1
  if ¬ h.checkpointPending ∨ h.pendingEpoch ≠ e ∨ fld c.body 4 2 ≠ e then (s, .done (fail .checkpointStale))
  else match s.ledgerKeys c.tenant (s.desc n).journalHandle 13 with
    | (s1, .error st) => (s1, .done (fail st))
    | (s1, .ok jk) =>
      let (_, _, h1) := s1.nextEntry n (jk.headD (0, 0, [], false)).2.2.1 5 0 (zeros 16) (natLE 2 e ++ zeros 6) []
      (s1, .done { changes := [.epochEntry n { ledger := h.ledger, epoch := e, tenant := h.tenant },
        .head n { h1 with floor := h.imageNext, checkpointPending := false, pendingEpoch := 0, imageNext := 0 }] })

/-- CHECKPOINT. -/
def checkpoint (c : Cmd) (s : State) : State × Did :=
  let b := c.body
  let act := fld b 2 1
  if b.length ≠ 8 ∨ 1 < act ∨ ¬ zeroAt b 3 1 ∨ ¬ zeroAt b 6 2 then (s, .done (fail .bodyInvalid))
  else match s.ledgerSlot (fld b 0 2) c.tenant with
    | none => (s, .done (fail .ledgerUnknown))
    | some n => if act = 0 then s.takeCheckpoint c n else s.confirmCheckpoint c n

/-- A posting of the ledger has its sequence and has not committed. -/
def State.assigned (s : State) (l : Nat) : Bool :=
  s.running.any fun x => x.holds && x.res.changes.any fun c => match c with
    | .response r => r.ledger == l
    | _ => false

/-- CHECKPOINT_COPY_DONE: postings that have their sequence have committed; the copy becomes the image of the next epoch, and
postings resume (R373). -/
def State.copyDone (s : State) (l : Nat) : State :=
  match s.running.find? fun x => x.stage == .checkpoint l, s.board.heads.find? fun p => p.2.ledger == l with
  | some run, some (n, h) =>
    if s.assigned l then s
    else
      let e := (s.epochEntry n).epoch + 1
      let s1 := { s with board := { s.board with copying := s.board.copying.filter (· != l) } }
      s1.did run (spaced (run.cmd s.tick) {
        out := s.boardImage n e
        changes := [.head n { h with checkpointPending := true, pendingEpoch := e, imageNext := h.nextSeq }] })
  | _, _ => s

/-! ## BOARD_RESTORE (R375) -/

/-- Table of R375, check 1: the image's header. -/
def boardHeadOk (b : Bytes) (t : Nat) : Bool :=
  decide (0x1A8 + 16 ≤ b.length) && sub b 0 4 == ascii "KHBI" && fld b 4 2 == 1 && fld b 6 1 == t && zeroAt b 7 1 &&
    zeroAt b 0x1C 4 && decide (1 ≤ fld b 0x10 2) && decide (fld b 0x16 2 < 512) &&
    b.length == 0x1A8 + 40 * fld b 0x18 4 + 16

/-- Contexts of an image's plaintext: index and context. -/
def imageContexts (p : Bytes) (n : Nat) : List (Nat × Context) :=
  (List.range n).map fun i => (fld p (0x188 + 40 * i) 4, parseContext (sub p (0x188 + 40 * i + 8) 32))

/-- The changes of an accepted image. Its filter holds nothing, so its floor is the next sequence. -/
def State.boardChanges (s : State) (t n epoch : Nat) (p : Bytes) (cs : List (Nat × Context)) : List Change :=
  let h := parseHead (sub p 0 64) (sub p 0x180 8)
  (match s.ledgerSlot h.ledger t with
    | some m => [Change.head m {}]
    | none => []) ++
    [.epochEntry n { ledger := h.ledger, epoch, tenant := t }, .descriptor n (parseDesc (sub p 64 320)),
      .head n { h with floor := h.nextSeq }] ++
    cs.map (fun x => .context x.1 x.2) ++ cs.map (fun x => .tag h.ledger x.2.fingerprint x.1) ++ [.boardRestored h.ledger]

/-- The image's slot and every board index are free, or held by the ledger that the image replaces. -/
def State.boardFree (s : State) (l n : Nat) (cs : List (Nat × Context)) : Bool :=
  let a := s.ahead
  let mine (x : Nat) : Bool := x == 0 || x == l
  mine (a.head n).ledger && mine (a.epochEntry n).ledger &&
    (a.vault.epochs.all fun e => e.2.ledger != l || e.1 == n) &&
    cs.all fun x => decide (1024 ≤ x.1) && decide (x.1 < 1048576) && mine (a.context x.1).ledger

/-- BOARD_RESTORE. -/
def boardRestore (c : Cmd) (s : State) : State × Did :=
  let b := c.input
  let t := c.tenant
  let r := s.keyRec t
  let l := fld b 0x10 2
  let e := fld b 0x12 2
  let n := fld b 0x16 2
  let held := s.vault.epochs.find? fun p => p.2.ledger == l
  if c.body ≠ [] then (s, .done (fail .bodyInvalid))
  else if ¬ boardHeadOk b t ∨ ¬ r.present ∨ r.generation ≠ fld b 0x14 2 then (s, .done (fail .imageInvalid))
  else if held.any fun p => p.2.epoch != e || p.2.tenant != t then (s, .done (fail .checkpointStale))
  else s.withForeign t (fld b 8 8) held.isNone fun s =>
    match gcmOpen (boardKey r.material t l e) (boardIv l e) (sub b 0 0x20) ((b.drop 0x20).take (b.length - 0x30))
        (b.drop (b.length - 16)) with
    | none => (s, .done (fail .imageInvalid))
    | some p =>
      let cs := imageContexts p (fld b 0x18 4)
      if s.boardFree l n cs then (s, .done { changes := s.boardChanges t n e p cs }) else (s, .done (fail .boardFull))

/-! ## JOURNAL_ROLL_FORWARD (R376) -/

/-- A journal entry as roll-forward reads it. -/
structure Entry where
  raw : Bytes
  seq : Nat
  kind : Nat
  id : Bytes
  prev : Bytes
  legs : List (Bytes × Nat)

/-- The first `n` entries of a byte string; the index of the first malformed one. -/
def parseEntriesJ (ledger : Nat) : Nat → Nat → Bytes → Except Nat (List Entry)
  | 0, i, b => if b.isEmpty then .ok [] else .error (i - 1)
  | n + 1, i, b =>
    let k := fld b 0x11 1
    let len := 0x60 + 64 * k
    if b.length < len ∨ 16 < k ∨ sub b 0 4 ≠ ascii "KHJE" ∨ fld b 4 2 ≠ 1 ∨ fld b 6 2 ≠ ledger then .error i
    else
      let e : Entry := { raw := b.take len, seq := fld b 8 8, kind := fld b 0x10 1, id := sub b 0x18 16
                         prev := sub b 0x30 32
                         legs := (List.range k).map fun j => (sub b (0x50 + 64 * j) 16, fld b (0x50 + 64 * j + 0x14) 6) }
      (parseEntriesJ ledger n (i + 1) (b.drop len)).map (e :: ·)

/-- The first entry whose MAC or chain fails, by its index; `want` is what the next entry must follow. -/
def chainFault (key : Bytes) : Option (Nat × Bytes) → Nat → List Entry → Option Nat
  | _, _, [] => none
  | want, i, e :: l =>
    let n := e.raw.length - 16
    let follows : Bool := match want with
      | none => true
      | some (q, h) => e.seq == q && e.prev == h
    if ¬ follows ∨ mac16 key (e.raw.take n) ≠ e.raw.drop n then some i
    else chainFault key (some (e.seq + 1, sha256 e.raw)) (i + 1) l

/-- Context changes of entries: each leg homed here raises its context's version (R376). -/
def State.rollContexts (s : State) (n : Nat) (es : List Entry) : List Change :=
  let l := (s.head n).ledger
  let ups := es.flatMap fun e => e.legs.filterMap fun (tag, v) =>
    if s.here (s.homeOf tag) then
      (s.board.tags.find? fun t => t.1 == l && t.2.1 == sub tag 8 8).map fun t => (t.2.2, v)
    else none
  ups.map fun u =>
    let x := s.context u.1
    let v := (ups.filter fun w => w.1 == u.1).foldl (fun a w => max a w.2) x.version
    .context u.1 { x with version := v, epoch := (s.epochEntry n).epoch }

/-- The changes of this device's own journal: the head, and the ids of its postings, accruals and openings. -/
def State.rollOwn (s : State) (n : Nat) (es : List Entry) : List Change :=
  let h := s.head n
  match es.getLast? with
  | none => []
  | some e => (es.filter fun x => decide (1 ≤ x.kind) && decide (x.kind ≤ 3)).map
      (fun x => .filter { ledger := h.ledger, id := x.id, seq := x.seq }) ++
        [.head n { h with nextSeq := e.seq + 1, chain := sha256 e.raw }]

/-- JOURNAL_ROLL_FORWARD. -/
def journalRollForward (c : Cmd) (s : State) : State × Did :=
  let b := c.body
  let l := fld b 0 2
  let count := fld b 0x10 4
  if b.length ≠ 24 ∨ ¬ zeroAt b 2 6 ∨ count = 0 ∨ 64 < count ∨ ¬ zeroAt b 0x14 4 then (s, .done (fail .bodyInvalid))
  else match s.ledgerSlot l c.tenant with
    | none => (s, .done (fail .ledgerUnknown))
    | some n =>
      match s.ledgerKeys c.tenant (s.desc n).journalHandle 13 with
      | (s1, .error st) => (s1, .done (fail st))
      | (s1, .ok jk) =>
        match parseEntriesJ l count 0 c.input with
        | .error i => (s1, .done (failD .journalChain i))
        | .ok es =>
          let own := fld b 8 8 = s1.otp.serial
          let h := s1.head n
          match chainFault (jk.headD (0, 0, [], false)).2.2.1 (if own then some (h.nextSeq, h.chain) else none) 0 es with
          | some i => (s1, .done (failD .journalChain i))
          | none => (s1, .done { changes := s1.rollContexts n es ++ if own then s1.rollOwn n es else [] })

end Sys2Proof.Machine
end

