-- ==== Sys2Proof/Machine/CrossHome.lean ====
section
/-! DEFINITION. Cross-home postings: the lead's two phases and the participants (R368 to R372, R453, R454, Table 11-11). -/

namespace Sys2Proof.Machine

/-! ## Messages to members -/

/-- Where a message for member `m`'s pair goes: to the member, or to its twin when it is unreachable. -/
def State.pairTarget (s : State) (m : Nat) : Option Nat := ([m, s.twinMember m].filter (· != 0xFF)).find? s.reachable

/-- A request of a tenant goes to a member's pair. -/
def State.sendPair (s : State) (m tenant txn : Nat) (resend : Bool) (b : Payload) : State :=
  match s.pairTarget m with
  | some d => s.sendMember d tenant false txn false resend b
  | none => s

/-- A leg message that this device serves (R461); a device that does not serve answers TWIN_FENCED. -/
def State.legGate (s : State) (m : Msg) (ledger : Nat) (id : Bytes) (k : State → State) : State :=
  if ¬ s.mine m false then s
  else s.epochGate m fun s => if s.serving then k s else s.answer m (.legRefused ledger id .twinFenced 0xFFFF)

/-! ## At a participant -/

/-- A posting prepared here. -/
def State.preparedHere (s : State) (ledger : Nat) (id : Bytes) : Option Prepared :=
  s.board.prepared.find? fun x => x.ledger == ledger && x.id == id

/-- A cross-home posting settled here. -/
def State.settledHere (s : State) (ledger : Nat) (id : Bytes) : Option Settled :=
  s.board.settled.find? fun x => x.ledger == ledger && x.id == id

/-- Row 5 at the anchor: the first failure. An inner none says that the id waits for a command of this device. -/
def State.anchorRow (s : State) (p : Posting) : Option (Option Result) :=
  match s.foreign (.prepared p.ledger p.id) (.posting p.ledger p.id) with
  | some (.command _) => some none
  | some (.prepared ..) => some (some (fail .busy))
  | none => (s.filterHit p.slot p.horizon p.id).map fun q => some { status := .postingReplay, body := natLE 8 q }

/-- Rows 7 to 11, 13 and 14 at a home: the legs with their new values, or the first failure (none: a leg waits). -/
def State.homeRows (s : State) (p : Posting) : Except (Option Result) (List Leg) :=
  match s.sealRows p with
  | some f => .error (some f)
  | none =>
    match s.legMark (.prepared p.ledger p.id) p with
    | some (_, .command _) => .error none
    | some (i, .prepared ..) => .error (some (failD .busy i))
    | none =>
      match s.versionRows p with
      | some f => .error (some f)
      | none =>
        if ¬ s.laneAny .decimal then .error (some (fail .laneUnavailable))
        else match s.balanceRows p.legs with
          | .error f => .error (some f)
          | .ok l => .ok l

/-- A participant prepares its part (R369 step 2): the posting with its legs' new values, marked pending, or the first
failure (none: it waits under R357). -/
def State.prepare (s : State) (p : Posting) (anchor home : Bool) : State × Except (Option Result) Posting :=
  match s.ledgerSlot p.ledger p.tenant, s.rowThree with
  | none, _ => (s, .error (some (fail .ledgerUnknown)))
  | _, some st => (s, .error (some (fail st)))
  | some n, none =>
    let d := s.desc n
    match s.ledgerKeys p.tenant d.sealHandle 10 with
    | (s1, .error st) => (s1, .error (some (fail st)))
    | (s1, .ok sk) =>
      match s1.ledgerKeys p.tenant d.journalHandle 13 with
      | (s2, .error st) => (s2, .error (some (fail st)))
      | (s2, .ok jk) =>
        let q := { p with slot := n, sealKeys := sk, journalKey := (jk.headD (0, 0, [], false)).2.2.1 }
        match (if anchor then s2.anchorRow q else none) with
        | some f => (s2, .error f)
        | none =>
          match (if home then s2.homeRows q else .ok []) with
          | .error f => (s2, .error f)
          | .ok l =>
            (s2.addMarks (.prepared q.ledger q.id)
              (l.map (fun g => .context g.index) ++ if anchor then [.posting q.ledger q.id] else []),
              .ok { q with legs := l })

/-- The new seals and versions of a prepared posting (LEG_PREPARED). -/
def State.preparedLegs (s : State) (p : Posting) : List PreparedLeg :=
  p.legs.map fun g => { index := g.num, version := g.version
                        balSeal := sealBytes p.sealKeys p.ledger (s.head p.slot).nonce g }

/-- A prepared posting is held. -/
def State.holdPrepared (s : State) (x : Prepared) : State :=
  { s with board := { s.board with prepared := s.board.prepared ++ [x] } }

/-- A prepared posting settles: its marks go and its outcome is kept (R454). -/
def State.dropPrepared (s : State) (x : Prepared) (outcome seq : Nat) (entry : Bytes) : State :=
  { s with board := { s.board with
      marks := s.board.marks.filter fun m => m.2 != .prepared x.ledger x.id
      prepared := s.board.prepared.filter fun y => !(y.ledger == x.ledger && y.id == x.id)
      settled := lastOf 4096 (fun y : Settled => y.ledger == x.ledger)
        ({ ledger := x.ledger, id := x.id, outcome, seq, entry } :: s.board.settled) } }

/-- LEG_PREPARED goes out, in two parts when the legs exceed one message (R453). -/
def State.sendPrepared (s : State) (src tenant txn ledger : Nat) (anchor home : Bool) (id : Bytes) (l : List PreparedLeg) :
    State :=
  let parts := if l.length ≤ 13 then 1 else 2
  let send (s : State) (i : Nat) (x : List PreparedLeg) : State :=
    s.sendMember src tenant false txn true false (.legPrepared ledger anchor home i parts id x)
  if parts = 1 then send s 0 l else send (send s 0 (l.take 13)) 1 (l.drop 13)

/-- A leg of LEG_PREPARE as the home sees it: tag and currency are the seal's. -/
def prepLeg (x : PrepLeg) : Leg :=
  { legOf (sub x.balSeal 0 16) (fld x.balSeal 0x12 2) x.absorb x.amount x.balSeal x.index with }

/-- The parts of a LEG_PREPARE from one source and transaction that are present. -/
def State.partsOf (s : State) (src txn : Nat) : List Msg := s.board.parts.filter fun m => m.src == src && m.txn == txn

/-- A complete LEG_PREPARE is carried out; its parts stay held while it waits for a mark. -/
def State.doPrepare (s : State) (src txn : Nat) : State :=
  match s.partsOf src txn with
  | [] => s
  | m :: ms =>
    let legs := (m :: ms).flatMap fun x => match x.body with
      | .legPrepare _ _ _ _ _ _ _ _ l => l.map prepLeg
      | _ => []
    match m.body with
    | .legPrepare ledger anchor home _ _ id horizon vd _ =>
      let p : Posting := { kind := 1, ledger, tenant := m.tenant, id, horizon, valueDate := vd, legs }
      let drop (s : State) : State := { s with board := { s.board with
        parts := s.board.parts.filter fun x => !(x.src == src && x.txn == txn) } }
      match s.prepare p anchor home with
      | (s1, .error none) => s1
      | (s1, .error (some f)) => (drop s1).answer m (.legRefused ledger id f.status f.detail)
      | (s1, .ok q) =>
        let s2 := (drop s1).holdPrepared { ledger, id, lead := src, txn, anchor, home, post := q }
        s2.sendPrepared src m.tenant txn ledger anchor home id (s2.preparedLegs q)
    | _ => s

/-- LEG_PREPARE (R454). -/
def State.legPrepare (s : State) (m : Msg) : State :=
  match m.body with
  | .legPrepare ledger anchor home part parts id _ _ _ =>
    s.legGate m ledger id fun s =>
      match s.preparedHere ledger id, s.settledHere ledger id with
      | some x, _ =>
        if x.mirror.isSome then s
        else s.sendPrepared m.src m.tenant m.txn ledger anchor home id (s.preparedLegs x.post)
      | none, some y => s.answer m (.legDone ledger id y.outcome .ok y.seq y.entry)
      | none, none =>
        let others := (s.partsOf m.src m.txn).filter fun x => match x.body with
          | .legPrepare _ _ _ q .. => q != part
          | _ => true
        let s1 : State := { s with board := { s.board with
          parts := (s.board.parts.filter fun x => !(x.src == m.src && x.txn == m.txn)) ++
            (if part = 0 then m :: others else others ++ [m]) } }
        if (s1.partsOf m.src m.txn).length < parts then s1 else s1.doPrepare m.src m.txn
  | _ => s

/-! ## At the lead -/

/-- A cross-home posting that runs here. -/
def State.crossOf (s : State) (ledger : Nat) (id : Bytes) : Option CrossHome :=
  s.board.cross.find? fun x => x.post.ledger == ledger && x.post.id == id

/-- A cross-home posting is replaced. -/
def State.setCross (s : State) (x : CrossHome) : State :=
  { s with board := { s.board with cross := s.board.cross.map fun y =>
      if y.post.ledger == x.post.ledger && y.post.id == x.post.id then x else y } }

/-- A cross-home posting and its decision record are no longer needed. -/
def State.dropCross (s : State) (x : CrossHome) : State :=
  { s with board := { s.board with
      cross := s.board.cross.filter fun y => !(y.post.ledger == x.post.ledger && y.post.id == x.post.id)
      decisions := s.board.decisions.filter fun d => !(d.ledger == x.post.ledger && d.id == x.post.id) } }

/-- The command that waits for a cross-home posting. -/
def State.crossRun (s : State) (x : CrossHome) : Option Run :=
  x.ref.bind fun r => s.running.find? fun y => y.record.ref == r && y.stage == .crossHome x.post.ledger x.post.id

/-- The response of a cross-home posting; the seals of homes that have not acknowledged are zero (R372). -/
def State.crossResult (s : State) (x : CrossHome) (detail : Nat) : Result :=
  let seal_ (g : Leg) : Bytes :=
    if x.done.contains (s.pairOf (s.homeOf g.tag)) then
      ((x.legs.find? fun l => l.index == g.num).map (·.balSeal)).getD (zeros 128)
    else zeros 128
  { detail, body := postingBody x.seq x.post.legs.length true (x.post.legs.flatMap seal_) x.entry
    lone := s.twin.st == .loneKeel }

/-- A participant has acknowledged; when all have, the posting ends (R369 step 5). -/
def State.crossDone (s : State) (ledger : Nat) (id : Bytes) (pair seq : Nat) (entry : Bytes) : State :=
  match s.crossOf ledger id with
  | none => s
  | some x =>
    if x.decided.isNone then s
    else
      let y := { x with done := pair :: x.done.filter (· != pair), seq := if entry = [] then x.seq else seq
                        entry := if entry = [] then x.entry else entry }
      if y.participants.all y.done.contains then
        match s.crossRun y with
        | some run => (s.dropCross y).finish run (s.crossResult y 0xFFFF)
        | none => s.dropCross y
      else s.setCross y

/-- A participant's commit is complete: it answers LEG_DONE, or tells the lead when that is this device. -/
def State.settlePart (s : State) (x : Prepared) (outcome seq : Nat) (entry : Bytes) : State :=
  let s1 := s.dropPrepared x outcome seq entry
  if x.lead = s.man.set.self then
    if outcome = 0 then s1.crossDone x.ledger x.id (s.pairOf s.man.set.self) seq entry else s1
  else s1.sendMember x.lead x.post.tenant false x.txn true false (.legDone x.ledger x.id outcome .ok seq entry)

/-- The changes of a participant's commit, with the sequence and entry that an anchor assigns. The kept response holds the
seals made here; the leg messages carry no others. -/
def State.participantChanges (s : State) (x : Prepared) (records : List LegRecord) (vd : Bytes) :
    List Change × Nat × Bytes :=
  let p := x.post
  let ctx := p.legs.map fun g => Change.context g.index (s.nextContext p g)
  if ¬ x.anchor then (ctx, 0, [])
  else
    let (seq, e, h) := s.nextEntry p.slot p.journalKey 1 (entryFlags true records) p.id vd records
    let seals := (List.range records.length).flatMap fun i =>
      match p.legs.find? fun g => g.num == i with
      | some g => sealBytes p.sealKeys p.ledger h.nonce g
      | none => zeros 128
    (ctx ++ [.filter { ledger := p.ledger, id := p.id, seq }, .head p.slot h,
      .response { ledger := p.ledger, seq, id := p.id, kind := 1, body := postingBody seq records.length true seals e }],
      seq, e)

/-- A participant commits on its own twin, and then acknowledges (R369 step 4). -/
def State.commitPrepared (s : State) (x : Prepared) (records : List LegRecord) (vd : Bytes) : State :=
  if x.mirror.isSome then s
  else
    let (cs, seq, e) := s.participantChanges x records vd
    if s.twin.st = .paired ∧ cs ≠ [] then
      let (s1, txn) := s.newTxn
      let msg : Payload := .mirrorPosting x.ledger (mirrorKey cs).2 none cs
      let f : InFlight := { txn, ref := none, msg, changes := cs, first := s.tick, last := s.tick, posting := true }
      let s2 : State := { s1 with
        twin := { s1.twin with flight := s1.twin.flight ++ [f] }
        board := { s1.board with prepared := s1.board.prepared.map fun y =>
          if y.ledger == x.ledger && y.id == x.id then { x with mirror := some txn, seq, entry := e } else y } }
      s2.sendTwin txn false false msg
    else (s.applyAll cs).settlePart x 0 seq e

/-- LEG_COMMIT goes to a participant, or is carried out here. -/
def State.sendCommit (s : State) (d : Decision) (txn : Nat) (resend : Bool) (pair : Nat) : State :=
  let anchor := s.pairOf (s.homeOf d.id) == pair
  if s.here pair then
    match s.preparedHere d.ledger d.id with
    | some x => s.commitPrepared x d.records d.valueDate
    | none => s
  else s.sendPair pair d.tenant txn resend (.legCommit d.ledger anchor
    (d.records.any fun r => s.pairOf r.home == pair) d.id d.valueDate (if anchor then d.records else []))

/-- LEG_COMMIT goes to every participant that has not acknowledged (R369 step 4, R372). -/
def State.commitCross (s : State) (ledger : Nat) (id : Bytes) (resend : Bool) : State :=
  match s.crossOf ledger id, s.board.decisions.find? fun d => d.ledger == ledger && d.id == id with
  | some x, some d =>
    (x.participants.filter fun m => !x.done.contains m).foldl (fun s m => s.sendCommit d x.txn resend m)
      (s.setCross { x with last := s.tick })
  | _, _ => s

/-- Every participant has prepared: the decision record is written, and committed on the twin (R369 step 3). -/
def State.decideCross (s : State) (x : CrossHome) : State :=
  let p := x.post
  let d : Decision := {
    ledger := p.ledger, id := p.id, tenant := p.tenant, participants := x.participants, legs := x.legs
    valueDate := p.valueDate
    records := p.legs.map fun g =>
      { s.legRecord g with version := ((x.legs.find? fun l => l.index == g.num).map (·.version)).getD 0 } }
  let s1 : State := { s.setCross { x with decided := some s.tick } with
    board := { (s.setCross { x with decided := some s.tick }).board with decisions := s.board.decisions ++ [d] } }
  if s.twin.st = .paired then
    let (s2, txn) := s1.newTxn
    let f : InFlight := { txn, ref := none, msg := .crossDecision d, first := s.tick, last := s.tick, posting := true }
    ({ s2 with twin := { s2.twin with flight := s2.twin.flight ++ [f] } } : State).sendTwin txn false false (.crossDecision d)
  else s1.commitCross p.ledger p.id false

/-- A participant has prepared: its legs join; the decision follows the last one. -/
def State.crossPrepared (s : State) (x : CrossHome) (pair : Nat) (legs : List PreparedLeg) : State :=
  let y := { x with prepared := pair :: x.prepared.filter (· != pair)
                    legs := x.legs.filter (fun l => legs.all fun k => k.index != l.index) ++ legs }
  if y.participants.all y.prepared.contains then (s.setCross y).decideCross y else s.setCross y

/-- LEG_ABORT goes to every participant, and the posting ends here. -/
def State.abortCross (s : State) (x : CrossHome) : State :=
  let p := x.post
  let s1 := x.participants.foldl (fun s m =>
    if s.here m then
      match s.preparedHere p.ledger p.id with
      | some y => s.dropPrepared y 1 0 []
      | none => s
    else s.sendPair m p.tenant x.txn false (.legAbort p.ledger p.id)) s
  s1.dropCross x

/-- A cross-home posting fails at a participant: it is aborted, and its command completes with the refusal (R369). -/
def State.crossRefused (s : State) (x : CrossHome) (f : Result) : State :=
  let s1 := s.abortCross x
  match s.crossRun x with
  | some run => (s1.refuse f).1.finish run f
  | none => s1

/-- Participants of a posting, by pair: the anchor and each home. -/
def State.participants (s : State) (p : Posting) : List Nat :=
  ((s.pairOf (s.homeOf p.id)) :: p.legs.map fun g => s.pairOf (s.homeOf g.tag)).dedup

/-- The legs of a posting that a pair homes. -/
def State.legsAt (s : State) (p : Posting) (pair : Nat) : List Leg :=
  p.legs.filter fun g => s.pairOf (s.homeOf g.tag) == pair

/-- LEG_PREPARE goes to a participant, in two parts when its legs exceed one message (R453). -/
def State.sendPrepare (s : State) (p : Posting) (txn : Nat) (resend : Bool) (pair : Nat) : State :=
  let l := (s.legsAt p pair).map fun g => { index := g.num, absorb := g.absorb, amount := g.amount, balSeal := g.seal_ : PrepLeg }
  let parts := if l.length ≤ 10 then 1 else 2
  let send (s : State) (i : Nat) (x : List PrepLeg) : State :=
    s.sendPair pair p.tenant txn resend (.legPrepare p.ledger (s.pairOf (s.homeOf p.id) == pair) (l != []) i parts p.id
      p.horizon p.valueDate x)
  if parts = 1 then send s 0 l else send (send s 0 (l.take 10)) 1 (l.drop 10)

/-- The checks that the lead makes before it sends anything: row 6, the parts of rows 8 and 9 that compare the body with the
seals, and row 12 (R369 step 1). -/
def State.leadRows (s : State) (p : Posting) : Option Result :=
  let stop (st : Status) (bad : Leg → Bool) : Option Result := (p.legs.find? bad).map fun g => failD st g.num
  let reach (m : Nat) : Bool := s.here m || (s.pairTarget m).isSome
  ((((stop .homeUnreachable fun g => !reach (s.homeOf g.tag)).orElse fun _ =>
    if reach (s.homeOf p.id) then none else some (fail .homeUnreachable)).orElse fun _ =>
    stop .accountUnknown fun g => sub g.seal_ 0 16 != g.tag).orElse fun _ =>
    stop .currencyMismatch fun g => fld g.seal_ 0x12 2 != g.currency).orElse fun _ =>
    (unbalanced p.legs).map fun g => failD .legsUnbalanced g.num

/-- A cross-home posting starts at the lead: this device's own part first, then LEG_PREPARE to the others (R369). -/
def State.crossStart (s : State) (r : RecRef) (p : Posting) : State × Did :=
  match s.leadRows p with
  | some f => s.refuse f
  | none =>
    if ¬ s.laneAny .decimal then (s, .done (fail .laneUnavailable))
    else
      let q := { p with legs := effective p.legs }
      let own := s.pairOf s.man.set.self
      let ps := s.participants q
      let (s1, txn) := s.newTxn
      let x : CrossHome := { ref := some r, txn, post := q, participants := ps, first := s.tick, last := s.tick }
      let others (s : State) : State := (ps.filter (· != own)).foldl (fun s m => s.sendPrepare q txn false m) s
      if ps.contains own then
        let mineP := { q with legs := s.legsAt q own }
        let anchor := s.pairOf (s.homeOf q.id) == own
        match s1.prepare mineP anchor (mineP.legs != []) with
        | (s2, .error none) => (s2, .wait .context { post := some { p with row := 0 } })
        | (s2, .error (some f)) => s2.refuse f
        | (s2, .ok z) =>
          let s3 := s2.holdPrepared { ledger := q.ledger, id := q.id, lead := s.man.set.self, txn, anchor
                                      home := mineP.legs != [], post := z }
          let y := { x with prepared := [own], legs := s3.preparedLegs z }
          (others { s3 with board := { s3.board with cross := s3.board.cross ++ [y] } }, .wait (.crossHome q.ledger q.id) {})
      else (others { s1 with board := { s1.board with cross := s1.board.cross ++ [x] } }, .wait (.crossHome q.ledger q.id) {})

/-- POST_LEGS (R352 to R359, R369). -/
def postLegs (c : Cmd) (s : State) : State × Did :=
  s.postFront c fun s p => if s.crossHome c then s.crossStart c.record.ref p else s.postRow5 c.record.ref p

/-- PENDING_MARK_CLEAR: a command that waits for a mark, or a LEG_PREPARE that does, takes its row again once no foreign
mark stands (R357). -/
def State.markClear (s : State) (ref : RecRef) : State :=
  match s.running.find? fun x => x.record.ref == ref && x.stage == .context with
  | none =>
    match ref with
    | .forwarded src txn => s.doPrepare src txn
    | .host .. => s
  | some run =>
    match run.res.post with
    | none => s
    | some p =>
      let stands := if p.row = 5 then (s.foreign (.command ref) (.posting p.ledger p.id)).isSome
        else if p.row = 10 then (s.legMark (.command ref) p).isSome else false
      if stands then s
      else
        let (s1, d) := if p.row = 5 then s.postRow5 ref p else if p.row = 10 then s.postRow10 ref p else s.crossStart ref p
        s1.did run d

/-! ## Messages and windows -/

/-- LEG_PREPARED (R369, R370). An answer that loses to the window is discarded, and its sender receives LEG_ABORT. -/
def State.legPrepared (s : State) (m : Msg) : State :=
  match m.body with
  | .legPrepared ledger _ _ _ parts id legs =>
    if ¬ s.mine m true then s
    else match s.crossOf ledger id with
      | none => (s.lateDiscard islLedger).sendMember m.src m.tenant false m.txn false false (.legAbort ledger id)
      | some x =>
        if x.decided.isSome then s
        else if ¬ governs m.stamp s.tick (x.first + 5000) then
          (s.lateDiscard islLedger).sendMember m.src m.tenant false m.txn false false (.legAbort ledger id)
        else
          let held := s.partsOf m.src m.txn
          let fresh := held.all fun h => h.body != m.body
          let all := held ++ (if fresh then [m] else [])
          if all.length < parts then { s with board := { s.board with parts := s.board.parts ++ if fresh then [m] else [] } }
          else
            let l := all.flatMap fun h => match h.body with
              | .legPrepared _ _ _ _ _ _ l => l
              | _ => []
            let s1 : State := { s with board := { s.board with
              parts := s.board.parts.filter fun h => !(h.src == m.src && h.txn == m.txn) } }
            s1.crossPrepared x (s.pairOf m.src) (if parts = 1 then legs else l)
  | _ => s

/-- LEG_REFUSED (R369). -/
def State.legRefused (s : State) (m : Msg) : State :=
  match m.body with
  | .legRefused ledger id st detail =>
    if ¬ s.mine m true then s
    else match s.crossOf ledger id with
      | none => s.lateDiscard islLedger
      | some x =>
        if x.decided.isSome then s
        else if governs m.stamp s.tick (x.first + 5000) then
          s.crossRefused x { failD st detail with body := if st = .postingReplay then zeros 8 else [] }
        else s.lateDiscard islLedger
  | _ => s

/-- LEG_COMMIT (R454). -/
def State.legCommit (s : State) (m : Msg) : State :=
  match m.body with
  | .legCommit ledger _ _ id vd legs =>
    s.legGate m ledger id fun s =>
      match s.preparedHere ledger id, s.settledHere ledger id with
      | some x, _ => s.commitPrepared { x with lead := m.src, txn := m.txn } legs vd
      | none, some y => s.answer m (.legDone ledger id y.outcome .ok y.seq y.entry)
      | none, none =>
        (s.logEvent 0x0506 .alarm islLedger m.tenant .prepareRolledBack [ledger, m.src]).answer m
          (.legDone ledger id 2 .prepareRolledBack 0 [])
  | _ => s

/-- LEG_ABORT (R454). -/
def State.legAbort (s : State) (m : Msg) : State :=
  match m.body with
  | .legAbort ledger id =>
    s.legGate m ledger id fun s =>
      match s.preparedHere ledger id, s.settledHere ledger id with
      | some x, _ => if x.mirror.isSome then s else s.settlePart { x with lead := m.src, txn := m.txn } 1 0 []
      | none, some y => s.answer m (.legDone ledger id y.outcome .ok y.seq y.entry)
      | none, none =>
        let s1 : State := { s with board := { s.board with
          parts := s.board.parts.filter fun x => !(x.src == m.src && x.txn == m.txn) } }
        s1.answer m (.legDone ledger id 1 .ok 0 [])
  | _ => s

/-- LEG_DONE (R372). An unknown outcome acknowledges too: the participant will never commit the posting. -/
def State.legDone (s : State) (m : Msg) : State :=
  match m.body with
  | .legDone ledger id _ _ seq entry =>
    if s.mine m true then s.crossDone ledger id (s.pairOf m.src) seq entry else s
  | _ => s

/-- One entry of a LEG_REPORT is answered (R371, Table 11-11). -/
def State.reportEntry (s : State) (m : Msg) (e : Nat × Bytes) : State :=
  match s.board.decisions.find? fun d => d.ledger == e.1 && d.id == e.2 with
  | some d =>
    let pair := s.pairOf m.src
    let anchor := s.pairOf (s.homeOf d.id) == pair
    s.sendMember m.src d.tenant false m.txn false false (.legCommit d.ledger anchor
      (d.records.any fun r => s.pairOf r.home == pair) d.id d.valueDate (if anchor then d.records else []))
  | none =>
    if (s.crossOf e.1 e.2).isSome then s
    else s.sendMember m.src m.tenant false m.txn false false (.legAbort e.1 e.2)

/-- LEG_REPORT (R371). -/
def State.legReport (s : State) (m : Msg) : State :=
  match m.body with
  | .legReport entries =>
    if ¬ s.mine m false then s
    else s.epochGate m fun s => if s.lead then entries.foldl (fun s e => s.reportEntry m e) s else s
  | _ => s

/-- A participant reports its prepared postings to the lead, 64 in a message (R371). -/
def State.reportPrepared (s : State) : State :=
  let other := s.board.prepared.filter fun x => x.lead != s.man.set.self
  let go (s : State) (l : List Prepared) : State :=
    let (s1, txn) := s.newTxn
    s1.sendPair 0 0 txn false (.legReport (l.map fun x => (x.ledger, x.id)))
  (List.range (ceilDiv other.length 64)).foldl (fun s i => go s ((other.drop (64 * i)).take 64)) s

/-- PREPARE_WINDOW_EXPIRY (R370). -/
def State.prepareExpiry (s : State) (ledger : Nat) (id : Bytes) : State :=
  match s.crossOf ledger id with
  | none => s
  | some x =>
    if x.decided.isSome ∨ s.tick < x.first + 5000 + 2 then s
    else
      let s1 := s.abortCross x
      let s2 : State := { s1 with board := { s1.board with rollbacks := sat32 s1.board.rollbacks } }
      match s.crossRun x with
      | some run => s2.finish run (fail .prepareRolledBack)
      | none => s2

/-- DECISION_WINDOW_EXPIRY (R372). -/
def State.decisionExpiry (s : State) (ledger : Nat) (id : Bytes) : State :=
  match s.crossOf ledger id with
  | none => s
  | some x =>
    match x.decided, s.crossRun x with
    | some d, some run =>
      if s.tick < d + 50000 + 2 then s
      else (s.setCross { x with ref := none }).finish run (s.crossResult x 0xFFFE)
    | _, _ => s

/-- The lead's messages of a cross-home posting go out again when their window closes (R372, R456). -/
def State.crossResend (s : State) (x : CrossHome) : State :=
  if s.tick < x.last + s.man.set.caravanTimeout + 2 then s
  else if x.decided.isSome then
    if s.twin.flight.any (fun f => match f.msg with
      | .crossDecision d => d.ledger == x.post.ledger && d.id == x.post.id
      | _ => false) then s else s.commitCross x.post.ledger x.post.id true
  else
    (x.participants.filter fun m => !x.prepared.contains m && !s.here m).foldl (fun s m => s.sendPrepare x.post x.txn true m)
      (s.setCross { x with last := s.tick })

end Sys2Proof.Machine
end

