-- ==== Sys2Proof/Machine/Twin.lean ====
section
/-! DEFINITION. Twin pairing: states, mirroring, loss of the twin and the takeover of the lead (R458 to R465, R471, R472,
R476, R481). -/

namespace Sys2Proof.Machine

/-! ## Ports as the twin sees them -/

/-- A port goes DOWN with a cause (R425, R426): its session ends, and DETECT waits (R427). -/
def State.portDown (s : State) (n cause wait : Nat) : State :=
  let p := s.port n
  if p.st = .disabled then s
  else
    let q : Port := { st := .down, enable := p.enable, cause, connect := p.connect, counters := p.counters
                      down := if p.connected then s.tick else p.down, detect := s.tick + wait }
    let s1 := s.setPort n q
    if p.connected then s1.raise .ndl (4 * n + 1) else s1

/-- A cause of the pair is set (Table 15-13). -/
def State.twnCause (s : State) (b : Nat) : State := s.raise .twn b

/-- Window of a transaction that waits for the twin (R458, R464). -/
def State.flightWindow (s : State) (f : InFlight) : Nat :=
  if f.posting then s.man.set.mirrorTimeout else s.man.set.syncTimeout

/-! ## TWIN_STATE -/

/-- This device's TWIN_STATE (Table 15-9). -/
def State.ownState (s : State) : Payload :=
  .twinState s.otp.serial s.man.set.keelSerial s.twin.st s.mode s.twin.detached s.car.epoch s.vault.bootCount

/-- TWIN_STATE is sent as a request. -/
def State.tellTwin (s : State) : State :=
  let (s1, txn) := s.newTxn
  s1.sendTwin txn false false s1.ownState

/-! ## What a commit on the twin goes on with -/

/-- A transaction commits on this device, and what waits for it goes on (Table 11-10, R464). -/
def State.commitFlight (s : State) (f : InFlight) (lone : Bool) : State :=
  let s1 : State := { s with twin := { s.twin with flight := s.twin.flight.filter fun g => g.txn != f.txn } }
  let s2 := s1.applyAll f.changes
  match f.ref with
  | some r =>
    match s2.running.find? fun x => x.record.ref == r && x.stage == .mirror f.txn with
    | some run => s2.committed run run.res lone
    | none => s2
  | none =>
    match f.msg with
    | .crossDecision d => s2.commitCross d.ledger d.id false
    | .epochDecision .. =>
      match s2.car.change with
      | some x => if x.phase = 2 then s2.sendCommits x false else s2
      | none => s2
    | _ =>
      match s2.board.prepared.find? fun x => x.mirror == some f.txn with
      | some x => s2.settlePart x 0 x.seq x.entry
      | none => s2

/-- A transaction fails, as the device fences: its command completes with TWIN_FENCED (Table 11-10, R464). -/
def State.failFlight (s : State) (f : InFlight) : State :=
  match f.ref with
  | some r =>
    match s.running.find? fun x => x.record.ref == r && x.stage == .mirror f.txn with
    | some run => s.endRun run (fail .twinFenced) false
    | none => s
  | none =>
    let l := s.board.prepared.map fun x => if x.mirror = some f.txn then { x with mirror := none } else x
    { s with board := { s.board with prepared := l } }

/-- A device that fences leads no cross-home posting and no change of mode any more: their commands complete with
TWIN_FENCED. -/
def State.leaveLead (s : State) : State :=
  let s1 := s.board.cross.foldl (fun s x =>
    match s.crossRun x with
    | some run => (s.dropCross x).endRun run (fail .twinFenced) false
    | none => s.dropCross x) s
  match s1.car.change with
  | some x => s1.endChange x (fail .twinFenced)
  | none => s1

/-- ROUTE_PROBE goes to every member (R452, R476). -/
def State.probeAll (s : State) : State :=
  let (s0, txn) := s.newTxn
  ((List.range s.man.set.memberCount).filter fun m => m != s.man.set.self).foldl
    (fun s m => s.sendMember m 0 true txn false false .routeProbe) s0

/-- The keel of the lead pair takes the lead role (R476). Move numbers go on from those it holds. -/
def State.takeLead (s : State) : State :=
  let s1 := s.carCause 4
  let others := (List.range s.man.set.memberCount).filter fun m => m != s.man.set.self
  let s2 := match s1.car.decision, s1.car.prepared with
    | some (e, target), _ =>
      let (s2, txn) := s1.newTxn
      let x : EpochChange := { target, epoch := e, txn, start := s.tick, sent := s.tick, participants := others, phase := 3 }
      let s3 := if s2.car.epoch < e ∧ s2.car.committing.isNone then
          (if s2.mode = target then s2.takeEpoch e
           else if barrierLegal s2.life s2.mode target then
             ({ s2 with car := { s2.car with committing := some (e, s.man.set.self, txn) } } : State).askBarrier target .commit
           else s2)
        else s2
      s3.sendCommits x false
    | none, some (target, _) =>
      let x : EpochChange := { target, epoch := s1.car.epoch + 1, participants := others }
      ({ s1 with car := { s1.car with prepared := none } } : State).rollBack x .ok
    | none, none => s1
  s2.probeAll

/-- The device leaves PAIRED, as keel or to fence (R462, R464, R472, R476). -/
def State.leavePaired (s : State) (keel : Bool) : State :=
  let fl := s.twin.flight
  let wasLead := s.pairOf s.man.set.self == 0 && s.serving
  let s1 : State := { s with twin := { s.twin with
    st := if keel then .loneKeel else .fenced, lone := s.tick, batch := [], applied := [], resync := none
    flight := if keel then fl else [] } }
  let s2 := (s1.twnCause (if keel then 1 else 2)).logEvent 0x0601 .notice islWarden 0x100 .ok [s.twinSerial]
  if keel then
    let s3 := fl.foldl (fun s f => s.commitFlight f true) s2
    if ¬ wasLead ∧ s3.lead ∧ 1 < s.man.set.memberCount then s3.takeLead else s3
  else
    let s3 := fl.foldl State.failFlight s2
    if wasLead then s3.leaveLead.hifReset else s3

/-- The device fences outside PAIRED. -/
def State.fence (s : State) : State :=
  if s.twin.st = .paired then s.leavePaired false
  else (({ s with twin := { s.twin with st := .fenced, resync := none } } : State).twnCause 2).captureTwin

/-! ## Acknowledgements and timeouts -/

/-- An acknowledgement meets its window (R148, R362, R464). -/
def State.twinAck (s : State) (m : Msg) (posting : Bool) : State :=
  let isl := if posting then islLedger else islCellar
  if m.port ≠ 0 ∨ ¬ m.reply then s
  else match s.twin.flight.find? fun f => f.txn == m.txn && f.posting == posting with
    | none => s.lateDiscard isl
    | some f => if governs m.stamp s.tick (f.last + s.flightWindow f) then s.commitFlight f false else s.lateDiscard isl

/-- MIRROR_ACK (R362). -/
def State.mirrorAck (s : State) (m : Msg) : State := s.twinAck m true

/-- A transaction's window closes: its message goes out again with the resend flag (R362, R456, R464). -/
def State.twinResend (s : State) (txn : Nat) (posting : Bool) : State :=
  match s.twin.flight.find? fun f => f.txn == txn && f.posting == posting with
  | none => s
  | some f =>
    if s.tick < f.last + s.flightWindow f + 2 then s
    else
      let ledger := match f.msg with
        | .mirrorPosting .. => true
        | _ => false
      let s1 : State := { s with
        twin := { s.twin with
          flight := s.twin.flight.map fun g => if g.txn = txn then { g with last := s.tick } else g
          resends := if ledger then s.twin.resends else sat32 s.twin.resends }
        board := if ledger then { s.board with resends := sat32 s.board.resends } else s.board }
      s1.sendTwin txn false true f.msg

/-- MIRROR_TIMEOUT (R362). -/
def State.mirrorTimeout (s : State) (txn : Nat) : State := s.twinResend txn true

/-- UNACKNOWLEDGED_TIMEOUT (R462): the oldest message has waited 10,000 ticks. -/
def State.unacknowledged (s : State) : State :=
  match s.twin.flight with
  | f :: _ =>
    if s.twin.st = .paired ∧ f.first + 10000 + 2 ≤ s.tick then (s.leavePaired s.keel).portDown 0 6 1000 else s
  | [] => s

/-- TWIN_DISCONNECT_TIMEOUT (R462): port 0 is not ACTIVE again by d + 10,000. -/
def State.disconnectTimeout (s : State) : State :=
  if s.twin.st = .paired ∧ (s.port 0).st ≠ .active ∧ (s.port 0).st ≠ .retrain ∧ (s.port 0).down + 10000 ≤ s.tick then
    s.leavePaired s.keel
  else s

/-- PAIRING_TIMEOUT (R462): port 0 has not been ACTIVE since MUSTER entry. -/
def State.pairingTimeout (s : State) : State :=
  if s.twin.st = .pairing ∧ s.twin.muster + 10000000 ≤ s.tick ∧ (s.port 0).connect = 0 ∧ ¬ (s.port 0).connected then
    if s.keel then ({ s with twin := { s.twin with st := .loneKeel } } : State).twnCause 1
    else s.fence
  else s

/-! ## At the standby -/

/-- A mirrored change takes effect at the twin: of a custody entry only roster_gen and share_state travel (Table 15-4). -/
def State.mirrorApply (s : State) (c : Change) : State :=
  match c with
  | .custody t v =>
    s.apply (.custody t { mapGet {} s.vault.custody t with
      rosterGen := v.rosterGen, sharesIssued := v.sharesIssued, rosterPending := v.rosterPending, setOpen := v.setOpen })
  | c => s.apply c

/-- The standby of the lead pair keeps the numbering of moves: each mirrored cellar change is one. DESIGN CHOICE
(entry 22). -/
def State.countMove (s : State) (cs : List Change) : State :=
  let mv := cs.filter Change.moves
  if 1 < s.man.set.memberCount ∧ s.pairOf s.man.set.self = 0 ∧ mv ≠ [] then
    { s with car := { s.car with
      move := s.car.move + 1
      moves := ({ num := s.car.move + 1, changes := mv } :: s.car.moves).take 65536 } }
  else s

/-- A request of the twin takes effect once, by its transaction, and is acknowledged on every copy (Table 14-10). A device
that is not PAIRED takes none. -/
def State.fromTwin (s : State) (m : Msg) (ack : Option Payload) (k : State → State) : State :=
  let reply (s : State) : State := match ack with
    | some b => s.sendTwin m.txn true false b
    | none => s
  if s.twin.st ≠ .paired ∨ m.port ≠ 0 ∨ m.reply then s
  else if s.twin.applied.contains m.txn then reply s
  else
    let s1 := k s
    reply { s1 with twin := { s1.twin with applied := (m.txn :: s1.twin.applied).take 65536 } }

/-- The outcome that a mirror message carries joins the history (R463). -/
def State.mirrorOutcome (s : State) (o : Option OutcomeWire) : State :=
  match o with
  | some x => s.apply (.outcome x)
  | none => s

/-- A mirror of this sequence is the ledger's next, or one already applied (R362). -/
def State.mirrorNext (s : State) (ledger seq : Nat) : Bool :=
  match s.board.heads.find? fun p => p.2.ledger == ledger with
  | some p => decide (seq ≤ p.2.nextSeq)
  | none => true

/-- MIRROR_POSTING (R362). -/
def State.mirrorIn (s : State) (m : Msg) : State :=
  match m.body with
  | .mirrorPosting ledger seq o cs =>
    if s.mirrorNext ledger seq then
      s.fromTwin m (some (.mirrorAck ledger seq)) fun s => (cs.foldl State.mirrorApply s).mirrorOutcome o
    else s
  | _ => s

/-- CELLAR_SYNC (R464). -/
def State.cellarSync (s : State) (m : Msg) : State :=
  match m.body with
  | .cellarSync n o cs =>
    s.fromTwin m (some (.cellarSyncAck n)) fun s => ((cs.foldl State.mirrorApply s).mirrorOutcome o).countMove cs
  | _ => s

/-- DECISION_RECORD (R464). -/
def State.decisionRecord (s : State) (m : Msg) : State :=
  match m.body with
  | .crossDecision d => s.fromTwin m (some (.mirrorAck d.ledger 0)) fun s => s.apply (.decision d)
  | .epochDecision e t => s.fromTwin m (some (.mirrorAck 0 0)) fun s => s.apply (.epochDecision e t)
  | _ => s

/-- COUNTER_ADVANCE (R196): the units join the counter of the key they are of, once. -/
def State.counterAdvance (s : State) (m : Msg) : State :=
  match m.body with
  | .counterAdvance l =>
    s.fromTwin m none fun s => l.foldl (fun s (i, g, u) =>
      let x := s.slot i
      if x.generation = g ∧ x.state ≠ .free ∧ x.state ≠ .felled then
        { s with cel := { s.cel with slots := mapPut {} s.cel.slots i { x with counter := x.counter + u } } }
      else s) s
  | _ => s

/-- COUNTER_ADVANCE_SEND (R196). -/
def State.sendAdvances (s : State) : State :=
  if s.twin.st ≠ .paired ∨ s.cel.advances = [] then s
  else
    let (s1, txn) := s.newTxn
    let l := s.cel.advances
    ({ s1 with cel := { s1.cel with advances := [], advanceTick := s.tick } } : State).sendTwin txn false false
      (.counterAdvance l)

/-- OUTCOME_BATCH_SYNC (R463). -/
def State.sendBatch (s : State) : State :=
  if s.twin.st ≠ .paired ∨ s.twin.batch = [] then s
  else
    let (s1, txn) := s.newTxn
    let n := s.twin.syncNum + 1
    let msg : Payload := .cellarSync n none (s.twin.batch.map .outcome)
    let f : InFlight := { txn, msg, first := s.tick, last := s.tick }
    ({ s1 with twin := { s1.twin with batch := [], syncNum := n, flight := s1.twin.flight ++ [f] } } : State).sendTwin txn
      false false msg

/-! ## Following the serving twin (R481) -/

/-- The next barrier that leads from the mode in force towards the twin's mode, in the order of Table 3-2. -/
def followStep (own peer : Mode) : Option Mode :=
  match own, peer with
  | .muster, .service | .muster, .drowse => some .service
  | .service, .drowse => some .drowse
  | .drowse, .service => some .service
  | _, _ => none

/-- The standby of a pair outside a caravan follows its serving twin's mode. -/
def State.follow (s : State) (peer : Mode) : State :=
  if s.twin.st ≠ .paired ∨ s.serving ∨ 1 < s.man.set.memberCount ∨ s.barrier.isSome then s
  else match followStep s.mode peer with
    | some t => if barrierLegal s.life s.mode t then s.askBarrier t .following else s
    | none => s

/-- TWIN_STATE (R466, R471, R481, Table 15-3). -/
def State.twinStateIn (s : State) (m : Msg) : State :=
  match m.body with
  | .twinState _ keel st mode det _ _ =>
    if m.port ≠ 0 ∨ s.twin.st = .none then s
    else
      let reset := st == .pairing && !det
      let cleared := !det && (s.twin.peerDetached || reset)
      let s1 : State := { s with twin := { s.twin with
        peer := some st, peerMode := some mode, peerDetached := det
        detached := if cleared then false else s.twin.detached } }
      let s2 := if keel ≠ s.man.set.keelSerial then
          let s' := s1.fence.twnCause 5
          if m.reply ∧ s.twin.st = .fenced then s' else s'.logEvent 0x0602 .alarm islWarden 0x100 .ok [s.man.set.keelSerial, keel]
        else if det ∧ s1.twin.st = .paired then
          (({ s1 with twin := { s1.twin with detached := true } } : State).leavePaired s1.keel)
        else s1.follow mode
      if m.reply then s2 else s2.sendTwin m.txn true false s2.ownState
  | _ => s

end Sys2Proof.Machine
end

