-- ==== Sys2Proof/Machine/Power.lean ====
section
/-! DEFINITION. Power requests and the attention registers (R556 to R571). -/

namespace Sys2Proof.Machine

/-- PF0 BAR0 decodes every window (R574). -/
def State.allDecoded (s : State) : Bool := s.mode ∈ [.muster, .service, .drowse, .replay]

/-! ## Requests (R559) -/

/-- A write of PWR_DOMAIN_REQ: stored, or discarded and counted while a request pends. -/
def State.powerWrite (s : State) (d st : Nat) (units : BitVec 16) (discard : Bool) (rsv : Byte) : State :=
  if ¬ s.allDecoded then s
  else if s.pwr.req.isSome then { s with pwr := { s.pwr with refusals := sat32 s.pwr.refusals } }
  else
    let v := d % 32 + 32 * (st % 4) + (if discard then 128 else 0) + 256 * units.toNat
    { s with pwr := { s.pwr with reqReg := BitVec.ofNat 32 v, req := some { domain := d % 32, state := st % 4, units, discard, rsv } } }

/-- State that a request asks for. -/
def PowerReq.target (r : PowerReq) : Power := if r.state = 0 then .on else if r.state = 1 then .retain else .off

/-- Units that a request names. -/
def PowerReq.named (r : PowerReq) : List Nat := (List.range 16).filter fun u => r.units.getLsbD u

/-- Named units whose state the request would change. -/
def State.changing (s : State) (r : PowerReq) : List Nat := r.named.filter fun u => s.unit r.domain u != r.target

/-- Power owner of a unit as an attribute (Table 19-1), none for PD0 to PD2. -/
def State.powerOwner (s : State) (d u : Nat) : Option Nat :=
  if d ≤ 2 then none else if d = 3 then some 0x100
  else if d = 8 ∨ d = 9 then some (s.bank (4 * (d - 8) + u)).owner.toNat else some 0

/-- The lowest unit that check 3 refuses, with the owner field of its log entry. -/
def State.ownerRefused (s : State) (r : PowerReq) : Option Nat :=
  if r.state = 0 then none
  else (r.named.find? fun u => s.powerOwner r.domain u != some 0).map fun u => (s.powerOwner r.domain u).getD 0xFFFF

/-- Domains whose contents an OFF loses by consent. -/
def losable (d : Nat) : Bool := d == 6 || d == 7 || d == 16

/-- Check 2 of Table 19-2. -/
def PowerReq.valid (r : PowerReq) : Bool :=
  decide (r.domain ≤ 19) && decide (r.state ≤ 2) && r.units != 0 &&
    decide (r.units.toNat < 2 ^ domainUnits r.domain) && r.rsv == 0 && (!r.discard || (r.state == 2 && losable r.domain))

/-- Check 6 of Table 19-2. -/
def State.coresKept (s : State) (r : PowerReq) : Bool :=
  if r.domain ≠ 4 ∧ r.domain ≠ 5 then true
  else
    let other := s.unit (9 - r.domain) 0
    if r.state = 0 then s.unit r.domain 0 != .off || other == .on
    else other == .on || (s.mode == .drowse && r.state == 1 && other == .retain)

/-- A started command writes a slot or a directory entry. -/
def writesCellar (cs : List Change) : Bool := cs.any fun c => match c with
  | .slot .. | .directory .. => true
  | _ => false

/-- A unit is busy (Table 19-3). A command waits in the model only between its rows, so a transaction, a line access or a
DRBG request never stands open. -/
def State.unitBusy (s : State) (d u : Nat) : Bool :=
  let opOf (x : Run) : Nat := (nativeOp x.op).getD 0
  match d with
  | 4 | 5 => s.running.any (fun x => x.core / 8 == d - 4) || s.ports.halted.any fun c => decide (4 ≤ c) && (c - 4) / 8 == d - 4
  | 6 => s.running.any (fun x => x.latched != [] || writesCellar x.res.changes || opOf x == 0x0209 || opOf x == 0x020A) ||
      !s.cel.cache.isEmpty
  | 7 => s.running.any (fun x => decide (0x0701 ≤ opOf x) && decide (opOf x ≤ 0x070A)) || !s.board.marks.isEmpty ||
      !s.board.prepared.isEmpty || !s.board.copying.isEmpty
  | 8 | 9 => (s.bank (4 * (d - 8) + u)).next.isSome
  | 10 => !s.laneIdle .cipher u
  | 11 => (List.range 4).any (fun n => (s.cardPort n).ref.isSome || (s.cardPort n).step != .idle) ||
      s.cards.transit.ref.isSome || s.cards.transit.powered
  | 12 => !s.laneIdle .digest u
  | 13 => !s.laneIdle .bigNumber u
  | 14 => !s.laneIdle .bigNumber (16 + u)
  | 15 => !s.laneIdle .decimal u
  | 16 => (s.rsw.active && !s.rsw.paused) || (s.unitOn 16 0 && !s.smc.trained)
  | 17 | 18 => (s.port (2 * (d - 17) + u)).connected
  | 19 => s.rng.startup != 0
  | _ => false

/-- Checks 1 to 7 of Table 19-2, in order. -/
def State.powerCheck (s : State) (r : PowerReq) : Option Status :=
  firstFail [
    (s.mode ∈ [.muster, .service, .drowse], .modeForbidden),
    (r.valid, .bodyInvalid),
    ((s.ownerRefused r).isNone, .ownerMismatch),
    (!(r.state == 2 && losable r.domain && !r.discard), .bodyInvalid),
    (!r.discard || s.twin.st ∈ [.none, .loneKeel, .fenced], .busy),
    (s.coresKept r, .busy),
    ((s.changing r).all (fun u => !s.unitBusy r.domain u), .busy)]

/-! ## Changes of state (R557, R562, R570) -/

/-- A unit takes a state. -/
def State.setUnit (s : State) (d u : Nat) (p : Power) : State :=
  { s with pwr := { s.pwr with unit := mapPut .on s.pwr.unit (unitKey d u) p } }

/-- Leaf bits whose domain is not ON are lost (R570). -/
def State.pruneLeaves (s : State) : State :=
  allLeaves.foldl (fun s l =>
    let kept := (List.range 32).foldl (fun acc b => if s.leafOn l b && (s.cause l).getLsbD b then
      acc ||| BitVec.ofNat 32 (2 ^ b) else acc) (0 : Word32)
    { s with irq := { s.irq with cause := mapPut 0 s.irq.cause (leafNum l) kept } }) s

/-- What a unit loses as it leaves ON or RETAIN for OFF (Table 19-1, R557), or as an NDL port leaves ON. -/
def State.unitLoss (s : State) (d u : Nat) (p : Power) : State :=
  if d = 17 ∨ d = 18 then
    let n := 2 * (d - 17) + u
    let q := s.port n
    if q.st = .disabled then s
    else
      let q1 : Port := { st := .down, enable := q.enable, cause := q.cause, down := q.down, connect := q.connect, counters := q.counters, detect := q.detect }
      s.setPort n q1
  else if p ≠ .off then s
  else match d with
  | 4 | 5 =>
    let lo := 0x08000000 + 0x80000 * (4 + 8 * (d - 4))
    { s with mem := s.mem.filter fun c => !(decide (lo ≤ c.1) && decide (c.1 < lo + 8 * 0x80000)) }
  | 6 => { s with cel := { s.cel with slots := [], dir := [], cache := [], felledAt := [], blinding := [], advances := [] } }
  | 7 => { s with board := { s.board with heads := [], ctx := [], tags := [], filter := [] } }
  | 8 | 9 => s.wipeGroup (4 * (d - 8) + u)
  | 13 => if (List.range 16).all fun u => s.unit 13 u == .off then { s with curves := [] } else s
  | 16 => { s with
      smc := { s.smc with up0 := false, up1 := false, trained := false, mismatch := false, config := 0, keys := [], lines := [], writes := [] }
      rsw := { s.rsw with active := false, paused := false, spare := [], queue := [] } }
  | 19 => { s with rng := { s.rng with need := 3, blocks := 0, since := 0, fifo := [], cipherBuf := 0, bigBuf := 0 } }
  | _ => s

/-- Units leave for RETAIN or OFF. -/
def State.unitsLeave (s : State) (d : Nat) (us : List Nat) (p : Power) : State :=
  let s1 := us.foldl (fun s u => s.setUnit d u p) s
  let s2 := us.foldl (fun s u => s.unitLoss d u p) s1
  let s3 : State := if d = 19 ∧ us ≠ [] then { s2 with rng := { s2.rng with st := .off } } else s2
  s3.pruneLeaves

/-- A discard has been applied (R562). -/
def State.discarded (s : State) (d : Nat) : State :=
  ({ s with pwr := { s.pwr with muster := true, discarded := d :: s.pwr.discarded.filter (· != d) } } : State).raise .pwr 2

/-- POWER_REQUEST_DECISION: the warden decides the request, once no barrier pends (R559, R560). RETAIN and OFF take effect
here, ON at the end of the request. -/
def State.powerDecide (s : State) : State :=
  match s.pwr.req with
  | none => s
  | some r =>
    if s.barrier.isSome ∨ r.decided.isSome ∨ s.mode = .felled ∨ s.mode = .dormant then s
    else
      let close (s : State) (st : Status) : State := { s with pwr := { s.pwr with req := some { r with decided := some st } } }
      match s.powerCheck r with
      | some st =>
        let s1 : State := { s with pwr := { s.pwr with refusals := sat32 s.pwr.refusals } }
        if st = .ownerMismatch then
          close (s1.logEvent 0x0101 .warn islWarden 0 .ownerMismatch
            [r.domain, r.units.toNat, (s.ownerRefused r).getD 0xFFFF]) st
        else close s1 st
      | none =>
        let us := s.changing r
        if r.state = 0 then close s .ok
        else
          let s1 := s.unitsLeave r.domain us r.target
          close (if r.discard ∧ us ≠ [] then s1.discarded r.domain else s1) .ok

/-! ## Ready after ON (R557, R561, R562) -/

/-- PD16 returns from OFF with fresh memory keys and trains again; none where the DRBG cannot draw them. -/
def State.memoryKeys (s : State) : Option State :=
  match s.random 4096 with
  | none => none
  | some (s1, a) => (s1.random 4096).map fun x => { x.1 with smc := { x.1.smc with keys := chunks 32 (a ++ x.2) } }

/-- PD19 returns: its sources run their start-up tests, and the tests of R322 come before the DRBG is instantiated or
reseeded. -/
def State.entropyBack (s : State) (was : Power) (pass : Bool) : State :=
  let s1 : State := { s with rng := { s.rng with
    healthy := 0, startup := 0x03FFFFFF, quarantined := [], blocks := 0, need := if was = .off then 3 else 2, st := .starting } }
  if pass then s1 else ({ s1 with rng := { s1.rng with katFailed := true } } : State).drbgFail

/-- One unit has returned to ON: the state after it, or the status with which the request ends and the unit stays OFF. -/
def State.unitBack (s : State) (d u : Nat) (copyGood testsPass : Bool) : Except Status State :=
  let was := s.unit d u
  let on := s.setUnit d u .on
  if was = .on then .ok s
  else if (d = 4 ∨ d = 5) ∧ was = .off then
    (if copyGood then
      let lo := 0x08000000 + 0x80000 * (4 + 8 * (d - 4))
      let from' := 0x08000000 + 0x80000 * (4 + 8 * (5 - d))
      let copied := s.mem.filter fun c => decide (from' ≤ c.1) && decide (c.1 < from' + 8 * 0x80000)
      .ok { on with mem := copied.foldl (fun m c => memPut m (c.1 - from' + lo) c.2) on.mem }
    else .error .computeFault)
  else if d = 16 ∧ was = .off then
    (match on.memoryKeys with
    | some s1 => .ok s1
    | none => .error .entropyFailed)
  else if d = 16 then .ok { on with rsw := { on.rsw with paused := on.rsw.paused && on.mode != .service } }
  else if d = 17 ∨ d = 18 then
    let n := 2 * (d - 17) + u
    let q := on.port n
    .ok (if q.st = .disabled then on else on.setPort n { q with st := .down, detect := on.tick })
  else if d = 19 then .ok (on.entropyBack was testsPass)
  else .ok on

/-- Units return one after another; the first failure ends the request. -/
def State.unitsBack (copyGood testsPass : Bool) (d : Nat) : List Nat → State → State × Status
  | [], s => (s, .ok)
  | u :: us, s =>
    match s.unitBack d u copyGood testsPass with
    | .ok s1 => State.unitsBack copyGood testsPass d us s1
    | .error st => ((if st = .entropyFailed then s.refused else s), st)

/-- POWER_REQUEST_END: the result is written (R560). -/
def State.powerEnd (s : State) (copyGood testsPass : Bool) : State :=
  match s.pwr.req with
  | none => s
  | some r =>
    match r.decided with
    | none => s
    | some st =>
      let (s1, st1) := if st = .ok ∧ r.state = 0 then State.unitsBack copyGood testsPass r.domain (s.changing r) s else (s, st)
      let s2 := ({ s1 with pwr := { s1.pwr with req := none, status := st1 } } : State).raise .pwr 0
      if st1 = .ownerMismatch then s2.raise .pwr 1 else s2

/-! ## Clocks (R566) -/

/-- Nominal clock of an island in MHz. -/
def nominalClock (i : Nat) : Nat := (({} : Settings).clocks).getD i 0

/-- The value that PWR_CLK_OVERRIDE_n may take for an island. -/
def overrideOk (i mhz : Nat) : Bool :=
  mhz == 0 || (i ∈ [islDrover, islBig, islWarden, islCipher, islDigest, islCellar, islLedger] && decide (100 ≤ mhz) &&
    decide (10 * mhz ≤ 11 * nominalClock i) && mhz % 50 == 0)

/-- The clock in force. -/
def State.clock (s : State) (i : Nat) : Nat :=
  let o := mapGet 0 s.pwr.override i
  if o ≠ 0 then o else s.man.set.clocks.getD i 0

/-! ## Attention registers (R568, R569) -/

/-- PF0 writes IRQ_GROUP_g (W1C): a value that stays non-zero sends vector 0 again. -/
def State.groupClear (s : State) (g : Nat) (v : Word32) : State :=
  if s.mode ∈ [.dormant, .boot, .felled] then s
  else
    let s1 : State := { s with irq := { s.irq with group := mapPut 0 s.irq.group g (s.group g &&& ~~~ v) } }
    if s1.msixActive then s1.msix 0 0 else s1

/-- The warden clears bits of a leaf. -/
def State.leafClear (s : State) (l : Leaf) (v : Word32) : State :=
  if s.mode ∈ [.dormant, .felled] then s
  else { s with irq := { s.irq with cause := mapPut 0 s.irq.cause (leafNum l) (s.cause l &&& ~~~ v) } }

end Sys2Proof.Machine
end

