-- ==== Sys2Proof/Machine/Resync.lean ====
section
/-! DEFINITION. Resync of a twin pair, and the twin's command bodies (R465 to R471, R487). -/

namespace Sys2Proof.Machine

/-! ## Content (Table 15-4) -/

/-- All of the mirrored content, in an order in which it can be written. -/
def State.twinContent (s : State) : List Change :=
  s.cel.slots.map (fun p => Change.slot p.1 p.2) ++ s.cel.dir.map (fun p => .directory p.1 p.2) ++
    s.cel.blobs.map (fun p => .blob p.1 p.2) ++ (List.range 256).map (fun n => .keyRecord n (mapGet {} s.vault.keys n)) ++
    (List.range 512).map (fun n => .epochEntry n (mapGet {} s.vault.epochs n)) ++
    (List.range 256).map (fun t => .custody t (mapGet {} s.vault.custody t)) ++
    s.kh1.map (fun p => .kh1 (p.1 / 4096) (p.1 % 4096) p.2) ++ s.board.desc.map (fun p => .descriptor p.1 p.2) ++
    s.board.heads.map (fun p => .head p.1 p.2) ++ s.board.ctx.map (fun p => .context p.1 p.2) ++
    s.board.tags.reverse.map (fun x => .tag x.1 x.2.1 x.2.2) ++ s.board.filter.reverse.map (fun e => .filter e) ++
    s.board.responses.reverse.map (fun r => .response r) ++ s.board.decisions.map (fun d => .decision d) ++
    (match s.car.decision with
      | some (e, t) => [.epochDecision e t]
      | none => []) ++
    ((s.outcomes.filter fun o => !o.running && !o.notRun).reverse.map fun o =>
      .outcome ⟨o.tenant, o.seq, o.status, o.detail, o.lone⟩) ++ s.floors.map fun p => .floor p.1 p.2

/-- The target's content before it takes bulk data (R468). The vault's records are replaced by the source's, one by one. -/
def State.discardContent (s : State) : State :=
  { s with
    cel := { s.cel with slots := [], dir := [], blobs := [], blinding := [], felledAt := [], cache := [], advances := [] }
    kh1 := []
    car := { s.car with decision := none }
    board := { s.board with desc := [], heads := [], ctx := [], tags := [], filter := [], responses := [], blocks := []
                            decisions := [], prepared := [], settled := [], marks := [], parts := [] } }

/-- A change of a resync takes effect at the target; it is no new posting. -/
def State.loadChange (s : State) (c : Change) : State :=
  let s1 := s.mirrorApply c
  { s1 with board := { s1.board with postings := s.board.postings } }

/-! ## Start (R466, R469) -/

/-- This device is the source: the LONE_KEEL twin, else the twin that is not the keel. -/
def State.isSource (s : State) : Bool :=
  s.twin.st == .loneKeel || (s.twin.peer != some .loneKeel && !s.keel)

/-- The conditions of R466, by what the last TWIN_STATE said. -/
def State.resyncDue (s : State) : Bool :=
  let p := s.port 0
  let own := s.twin.st
  p.st == .active && !s.twin.detached && !s.twin.peerDetached && s.twin.resync.isNone && own != .none && own != .paired &&
    match s.twin.peer with
    | none => false
    | some peer =>
      peer != .paired && peer != .none &&
        ((own == .pairing && (peer == .pairing || peer == .loneKeel || peer == .resync)) || (own == .loneKeel && peer == .pairing) ||
         (((own == .fenced && peer == .loneKeel) || (own == .loneKeel && peer == .fenced)) &&
            decide (p.connect + 100000 ≤ s.tick)) ||
         s.twin.repair)

/-- A pass leaves (R469): the lines it carries, under a transaction of its own. -/
def State.sendPass (s : State) (x : Resync) (pass : Nat) (cs : List Change) (hold : Bool) : State :=
  let (s1, txn) := s.newTxn
  let counters := (s.cel.advances.map fun a => a.1).eraseDups.map fun i => Change.slot i (s.slot i)
  let l := cs ++ if pass = 0 then [] else counters
  let msg : Payload := .resyncBulk pass hold l.length l
  let y : Resync := { x with pass, txn, sent := s.tick, lines := l.length, msg, dirty := []
                             hold := if hold then some s.tick else x.hold }
  ({ s1 with
    cel := { s1.cel with advances := [] }
    twin := { s1.twin with resync := some y, lines := s1.twin.lines + l.length } } : State).sendTwin txn false false msg

/-- The device enters RESYNC as target (R468, R469 step 1). -/
def State.becomeTarget (s : State) : State :=
  let s1 := s.discardContent
  { s1 with twin := { s1.twin with st := .resync, resync := some { start := s.tick } } }

/-- RESYNC_START (R466, R469 steps 1 to 3). -/
def State.resyncStart (s : State) : State :=
  if ¬ s.resyncDue then s
  else
    let s1 : State := { s.tellTwin with twin := { s.tellTwin.twin with lines := 0, repair := false } }
    if s.isSource then
      s1.sendPass { source := true, start := s.tick } 0 s.twinContent false
    else
      s1.becomeTarget

/-! ## Passes -/

/-- Both twins enter PAIRED. -/
def State.enterPaired (s : State) : State :=
  let s1 : State := { s with twin := { s.twin with
    st := .paired, resync := none, applied := [], flight := [], batch := [], resyncs := sat32 s.twin.resyncs } }
  ((s1.twnCause 0).twnCause 3).captureTwin

/-- Commits that the hold kept go on (R469 step 6, R470). -/
def State.releaseHeld (s : State) : State :=
  (s.running.filter fun x => x.stage == .twin).foldl (fun s x => s.finish x x.res) s

/-- The restores that R90 asks for count as made at the target (R467). -/
def State.countRestored (s : State) : State :=
  { s with
    cel := { s.cel with
      restored := (s.cel.restored ++ (s.vault.keys.filter fun p => p.2.present).map fun p => p.1).eraseDups }
    board := { s.board with
      restored := (s.board.restored ++ (s.vault.epochs.filter fun p => p.2.ledger != 0).map fun p => p.2.ledger).eraseDups } }

/-- RESYNC_BULK (R469): the target writes a pass and acknowledges it. The first pass of a resync that the twin has started
makes a FENCED or PAIRING device its target. -/
def State.resyncBulk (s : State) (m : Msg) : State :=
  match m.body with
  | .resyncBulk pass final n cs =>
    let ack (s : State) : State := s.sendTwin m.txn true false (.resyncAck pass final)
    if m.port ≠ 0 ∨ m.reply then s
    else if s.twin.applied.contains m.txn then ack s
    else
      let s0 := if pass = 0 ∧ s.twin.resync.isNone ∧ (s.twin.st = .fenced ∨ s.twin.st = .pairing) ∧ ¬ s.twin.detached then
          s.becomeTarget else s
      match s0.twin.resync with
      | none => s0
      | some x =>
        if x.source ∨ s0.twin.st ≠ .resync then s0
        else
          let s1 := cs.foldl State.loadChange s0
          let s2 : State := { s1 with twin := { s1.twin with
            lines := (if pass = 0 then 0 else s1.twin.lines) + n, resync := some { x with pass }
            applied := m.txn :: s1.twin.applied } }
          if final then
            let s3 := s2.enterPaired.countRestored
            ack ({ s3 with twin := { s3.twin with applied := [m.txn] } } : State)
          else ack s2
  | _ => s

/-- RESYNC_ACK (R469 steps 4 to 6). A LONE_KEEL source that served the lead pair stops serving as the pair is PAIRED, and its
PCI Express link goes down (R461, R472). -/
def State.resyncAck (s : State) (m : Msg) : State :=
  if m.port ≠ 0 ∨ ¬ m.reply then s
  else match s.twin.resync with
    | none => s.lateDiscard islCellar
    | some x =>
      if ¬ x.source ∨ m.txn ≠ x.txn ∨ ¬ governs m.stamp s.tick (x.sent + s.man.set.syncTimeout) then s.lateDiscard islCellar
      else if x.hold.isSome then
        let s1 := s.enterPaired.tellTwin.releaseHeld
        if s.lead ∧ ¬ s1.lead then s1.leaveLead.hifReset else s1
      else if x.pass = 0 ∨ (4096 ≤ x.lines ∧ x.pass < 8) then s.sendPass x (x.pass + 1) x.dirty false
      else s.sendPass x (x.pass + 1) x.dirty true

/-- SYNC_TIMEOUT (R464): a CELLAR_SYNC or a resync pass goes out again. -/
def State.syncTimeout (s : State) (txn : Nat) : State :=
  match s.twin.resync with
  | some x =>
    if x.source ∧ x.txn = txn then
      if s.tick < x.sent + s.man.set.syncTimeout + 2 then s
      else ({ s with twin := { s.twin with resync := some { x with sent := s.tick } } } : State).sendTwin txn false true x.msg
    else s.twinResend txn false
  | none => s.twinResend txn false

/-- CELLAR_SYNC_ACK (R464). -/
def State.cellarAck (s : State) (m : Msg) : State := s.twinAck m false

/-- A resync is abandoned (R470). -/
def State.abandonResync (s : State) : State :=
  match s.twin.resync with
  | none => s
  | some x =>
    let s1 := ({ s with twin := { s.twin with resync := none } } : State).twnCause 4
    if x.source then s1.releaseHeld
    else
      let s2 : State := { s1 with twin := { s1.twin with st := if s.mode = .muster then .pairing else .fenced } }
      s2.logEvent 0x0603 .warn islWarden 0x100 .ok [x.pass]

/-- RESYNC_WINDOW_EXPIRY (R470). -/
def State.resyncWindow (s : State) : State :=
  match s.twin.resync with
  | some x => if x.start + 2000000 ≤ s.tick then s.abandonResync else s
  | none => s

/-- RESYNC_HOLD_EXPIRY (R470). -/
def State.resyncHold (s : State) : State :=
  match s.twin.resync.bind (·.hold) with
  | some h => if h + 5000 ≤ s.tick then s.abandonResync else s
  | none => s

/-! ## Command bodies (Table 15-8) -/

/-- The body names a member of the caravan. -/
def State.memberBody (s : State) (b : Bytes) : Bool :=
  b.length == 8 && zeroAt b 1 7 && decide (fld b 0 1 < s.man.set.memberCount)

/-- Code of a twin state, Table 15-2. -/
def twinCode : TwinState → Nat
  | .none => 0 | .pairing => 1 | .paired => 2 | .loneKeel => 3 | .fenced => 4 | .resync => 5

/-- TWIN_STATUS (R487). -/
def twinStatus (c : Cmd) (s : State) : State × Did :=
  if ¬ s.memberBody c.body then (s, .done (fail .bodyInvalid))
  else
    let b (x : Bool) : Nat := if x then 1 else 0
    let r := natLE 1 (twinCode s.twin.st) ++ natLE 1 (b s.keel) ++ natLE 1 (b s.serving) ++
      natLE 1 (b s.twin.detached + 2 * b s.twin.resync.isSome) ++ zeros 4 ++ natLE 8 s.twinSerial ++ natLE 8 s.twin.lone ++
      natLE 4 s.twin.lines ++ zeros 4
    (s, .done { body := r })

/-- TWIN_DETACH (R471): the command completes, and the pair then parts. -/
def twinDetach (c : Cmd) (s : State) : State × Did :=
  if ¬ s.memberBody c.body then (s, .done (fail .bodyInvalid))
  else if s.twin.resync.isSome then (s, .done (fail .busy))
  else if s.twin.st ≠ .paired then (s, .done (fail .twinLone))
  else
    let s1 := match s.running.find? fun x => x.record.ref == c.record.ref with
      | some run => s.finish run {}
      | none => s
    let s2 : State := { s1 with twin := { s1.twin with detached := true, repair := false } }
    (s2.tellTwin.leavePaired s2.keel, .wait .twin {})

/-- TWIN_REPAIR (R466, R471). A PAIRED pair needs none. -/
def twinRepair (c : Cmd) (s : State) : State × Did :=
  if ¬ s.memberBody c.body then (s, .done (fail .bodyInvalid))
  else if s.twin.resync.isSome then (s, .done (fail .busy))
  else if (s.port 0).st ≠ .active then (s, .done (fail .twinLone))
  else if s.twin.st = .paired then (s, .done {})
  else
    let s1 : State := { s with twin := { s.twin with detached := false, peerDetached := false, repair := true } }
    (s1.tellTwin, .done {})

/-- Epoch state, Table 15-12. -/
def State.epochState (s : State) : Nat :=
  match s.car.change with
  | some x => if x.phase ≤ 1 then 1 else 2
  | none => if s.car.decision.isSome then 2 else if s.car.prepared.isSome then 1 else 0

/-- CARAVAN_STATUS (R487). What the twin state of another member is, no message tells the lead: a free value. -/
def caravanStatus (c : Cmd) (s : State) : State × Did :=
  if c.body ≠ [] then (s, .done (fail .bodyInvalid))
  else
    let own := s.man.set.self
    let row (m : Nat) : Bytes :=
      natLE 1 m ++ natLE 1 (if s.reachable m then 1 else 0) ++
        (if m = own then natLE 1 (twinCode s.twin.st) else [Config.memberTwinState m s.tick]) ++
        natLE 1 ((if s.car.stale.contains m then 1 else 0) + if s.car.behind.contains m then 2 else 0) ++
        natLE 4 (if m = own then s.car.epoch else mapGet 0 s.car.epochs m)
    let r := natLE 4 s.car.epoch ++ natLE 1 s.man.set.memberCount ++ natLE 1 s.epochState ++ zeros 2 ++
      (List.range s.man.set.memberCount).flatMap row
    (s, .done { body := r })

end Sys2Proof.Machine
end

