-- ==== Sys2Proof/Machine/Caravan.lean ====
section
/-! DEFINITION. The caravan: forwarded commands, moves, members that are behind or ahead, reachability (R449, R452, R473 to
R480). -/

namespace Sys2Proof.Machine

/-! ## Forwarded commands (R474) -/

/-- The run that waits for a forwarded command's result. -/
def State.fwdRun (s : State) (f : Forward) : Option Run :=
  s.running.find? fun x => x.record.ref == f.ref && x.stage == .member f.txn

/-- A forwarded command is no longer waited for. -/
def State.dropFwd (s : State) (txn : Nat) : State :=
  { s with car := { s.car with
      fwd := s.car.fwd.filter fun f => f.txn != txn, retry := s.car.retry.filter fun x => x.2 != txn } }

/-- A forwarded command's record is replaced. -/
def State.setFwd (s : State) (f : Forward) : State :=
  let l := s.car.fwd.map fun g => if g.txn = f.txn then f else g
  { s with car := { s.car with fwd := l } }

/-- COMMAND_FORWARD goes out again to the member it is at. -/
def State.resendFwd (s : State) (f : Forward) : State :=
  match s.fwdRun f with
  | none => s.dropFwd f.txn
  | some run =>
    (s.setFwd { f with sent := s.tick }).sendMember (f.todo.headD 0) run.record.tenant false f.txn false true
      (forwardBody run run.res)

/-- The member cannot take the command: its twin is tried once, else the command completes with HOME_UNREACHABLE. -/
def State.otherTwin (s : State) (f : Forward) : State :=
  match s.fwdRun f with
  | none => s.dropFwd f.txn
  | some run =>
    let m := s.twinMember (f.todo.headD 0)
    if ¬ f.second ∧ m ≠ 0xFF ∧ s.reachable m then
      (s.setFwd { f with todo := [m], second := true, sent := s.tick }).sendMember m run.record.tenant false f.txn false false
        (forwardBody run run.res)
    else (s.dropFwd f.txn).endRun run (fail .homeUnreachable) run.res.lone

/-- COMMAND_FORWARD: the record waits here as any record does and runs under its opcode's row. In MUSTER an opcode that
MUSTER permits runs at any epoch (Table 15-6). A copy that is here already answers when it ends. -/
def State.commandForward (s : State) (m : Msg) : State :=
  match m.body with
  | .forward tenant record input slot nonce =>
    let run (s : State) : State :=
      if ¬ s.serving then s.answer m (.result .twinFenced 0xFFFF false [] [])
      else
        let ref := RecRef.forwarded m.src m.txn
        if s.waiting.any (fun x => x.ref == ref) || s.running.any (fun x => x.record.ref == ref) then s
        else
          let r : Rec := { ref, order := s.host.order, tenant, raw := record, input, seq := fld record 0x10 6
                           arrival := m.stamp, fetched := s.tick, readDone := true, nonce := natLE 2 slot ++ nonce }
          let s1 : State := { s with waiting := s.waiting ++ [r], host := { s.host with order := s.host.order + 1 } }
          s1.settle s1.waiting.length
    let inMuster := s.mode == .muster && ((opRow (fld record 0 2)).map fun x => x.modes.contains .muster) == some true
    if ¬ s.mine m false then s else if inMuster then run s else s.epochGate m run
  | _ => s

/-- What a member's result makes of the command's own: for a command that visits members, their outputs follow one another;
for one that runs at a member, the member's answer is the command's. -/
def memberResult (visiting : Bool) (own : Result) (st : Status) (d : Nat) (lone : Bool) (body out : Bytes) : Result :=
  if visiting ∧ st = .ok then
    { own with body := if own.body = [] then body else own.body, out := own.out ++ out, lone := own.lone || lone }
  else { own with status := st, detail := d, lone, body, out }

/-- Opcodes that visit every member (Table 15-5). -/
def visitOps : List Nat := [0x0701, 0x0707, 0x0708, 0x070A]

/-- COMMAND_RESULT (R474, R480). -/
def State.commandResult (s : State) (m : Msg) : State :=
  match m.body with
  | .result st d lone body out =>
    if ¬ s.mine m true then s
    else match s.car.fwd.find? fun f => f.txn == m.txn && f.todo.contains m.src with
      | none => s.lateDiscard islWarden
      | some f =>
        if ¬ governs m.stamp s.tick (f.sent + s.man.set.caravanTimeout) then s.lateDiscard islWarden
        else
          let s1 := if s.car.behind.contains m.src then s.catchUpMember m.src else s
          if st = .twinFenced then s1.otherTwin f
          else match s1.fwdRun f with
            | none => s1.dropFwd f.txn
            | some run =>
              let visiting := visitOps.contains ((nativeOp run.op).getD 0)
              let own := memberResult visiting run.res st d lone body out
              let res := if visiting then (spaceFail (run.cmd s.tick) own.body.length own.out.length).getD own else own
              (s1.dropFwd f.txn).complete run res res.lone
  | _ => s

/-! ## Moves (R475) -/

/-- The commands whose moves every reachable member has acknowledged complete. -/
def State.moveCheck (s : State) : State :=
  let due := s.car.moves.filter fun v => v.ref.isSome && (v.waiting.all fun m => !s.reachable m)
  let l := s.car.moves.map fun v => if v.waiting.all fun m => !s.reachable m then { v with ref := none } else v
  due.foldl (fun s v =>
    match s.running.find? fun x => v.ref == some x.record.ref && x.stage == .moves v.num with
    | some run => s.settleRun run run.res run.res.lone
    | none => s) { s with car := { s.car with moves := l } }

/-- A member is told every move after a number. -/
def State.resendMoves (s : State) (m last : Nat) : State :=
  (s.car.moves.reverse.filter fun v => decide (last < v.num)).foldl (fun s v =>
    s.sendMember m 0 true v.txn false true (.ladingMove v.num v.changes)) s

/-- LADING_MOVE: applied in number order, not mirrored, and acknowledged. Move 1, sent for the first time, begins a sweep. -/
def State.ladingMove (s : State) (m : Msg) : State :=
  match m.body with
  | .ladingMove num cs =>
    if ¬ s.mine m false then s
    else s.epochGate m fun s =>
      let fresh := num == s.car.move + 1 || (num == 1 && !m.resend)
      let s1 : State := if fresh then { s.applyAll cs with car := { (s.applyAll cs).car with move := num } } else s
      s1.answer m (.ladingAck s1.car.move)
  | _ => s

/-- LADING_ACK: the member has applied every move up to the number; it is sent those it lacks, or is stale. -/
def State.ladingAck (s : State) (m : Msg) : State :=
  match m.body with
  | .ladingAck last =>
    if ¬ s.mine m true then s
    else match s.car.moves.find? fun v => v.txn == m.txn with
      | none => s.lateDiscard islCellar
      | some v =>
        if ¬ governs m.stamp s.tick (v.sent + s.man.set.caravanTimeout) then s.lateDiscard islCellar
        else
          let l := s.car.moves.map fun w => if w.num ≤ last then { w with waiting := w.waiting.filter (· != m.src) } else w
          let s1 : State := { s with car := { s.car with moves := l } }
          let s2 := if v.num ≤ last then s1
            else if (s.car.moves.any fun w => w.num == last + 1) then s1.resendMoves m.src last
            else (({ s1 with car := { s1.car with stale := s1.car.stale ++ [m.src] } } : State).carCause 3).carCause 2
          s2.moveCheck
  | _ => s

/-- The sweep of MUSTER: move numbers start again and the whole cellar goes to every member. DESIGN CHOICE (entry 23): as
MUSTER_COMPLETE is accepted. -/
def State.sweep (s : State) : State :=
  let all := s.cel.slots.map (fun p => Change.slot p.1 p.2) ++ s.cel.dir.map (fun p => .directory p.1 p.2) ++
    s.cel.blobs.map (fun p => .blob p.1 p.2) ++ s.vault.keys.map fun p => .keyRecord p.1 p.2
  ({ s with car := { s.car with stale := [], move := 0, moves := [] } } : State).sendMove none all

/-! ## Members behind or ahead (R480) -/

/-- A request to a member goes out again, by its transaction. -/
def State.retryTxn (s : State) (m txn : Nat) : State :=
  let s0 : State := { s with car := { s.car with retries := sat32 s.car.retries } }
  match s.car.fwd.find? fun f => f.txn == txn with
  | some f => s0.resendFwd f
  | none =>
    match s.car.moves.find? fun v => v.txn == txn with
    | some v => s0.sendMember m 0 true txn false true (.ladingMove v.num v.changes)
    | none =>
      match s.board.cross.find? fun x => x.txn == txn with
      | some x =>
        if x.decided.isSome then s0.commitCross x.post.ledger x.post.id true
        else s0.sendPrepare x.post txn true (s.pairOf m)
      | none =>
        match s.car.change with
        | some x => if x.txn = txn ∧ x.phase = 0 then s0.sendEpoch m txn true x.epoch (.epochPrepare x.target) else s0
        | none => s0

/-- A member is treated as unreachable until the next device reset. -/
def State.exclude (s : State) (m : Nat) : State :=
  ({ s with car := { s.car with excluded := s.car.excluded ++ [m] } } : State).carCause 2

/-- Requests that wait for members that cannot be reached any more: a forward goes to the twin, moves and changes of mode go
on without the member. -/
def State.unreached (s : State) : State :=
  let s1 := (s.car.fwd.filter fun f => !s.reachable (f.todo.headD 0)).foldl State.otherTwin s
  let s2 := match s1.car.change with
    | some x =>
      if x.phase = 3 then
        ((x.participants.filter fun m => !x.done.contains m && !s1.reachable m).foldl State.markBehind s1).changeCheck
      else if x.phase = 0 then
        let ps := x.participants.filter fun m => !s1.car.excluded.contains m
        ({ s1 with car := { s1.car with change := some { x with participants := ps } } } : State).readyCheck
      else s1
    | none => s1
  s2.moveCheck

/-- EPOCH_REFUSE (R480). -/
def State.epochRefuse (s : State) (m : Msg) : State :=
  match m.body with
  | .epochRefuse st e =>
    if ¬ s.mine m true ∨ ¬ s.lead then s
    else
      let s0 : State := { s with car := { s.car with epochs := mapPut 0 s.car.epochs m.src e } }
      if st = .epochBehind then
        let s1 : State := { s0 with car := { s0.car with retry := (m.src, m.txn) :: s0.car.retry.filter (· != (m.src, m.txn)) } }
        (s1.markBehind m.src).catchUpMember m.src
      else if s0.car.retried.contains m.src then
        let s1 := (s0.exclude m.src).carCause 5
        (s1.logEvent 0x0604 .alarm islWarden 0x100 .epochAhead [m.src, e]).unreached
      else
        let s1 := s0.board.cross.foldl (fun s x => if x.decided.isSome then s.commitCross x.post.ledger x.post.id true else s) s0
        let s2 := match s1.car.change with
          | some x => if x.phase = 3 then s1.sendCommits x true else s1
          | none => s1
        ({ s2 with car := { s2.car with retried := m.src :: s2.car.retried } } : State).retryTxn m.src m.txn
  | _ => s

/-- EPOCH_DONE (R478, R480): of the change under way, of a rollback, or of a COMMIT that catches a member up. -/
def State.epochDone (s : State) (m : Msg) : State :=
  match m.body with
  | .epochDone st e =>
    if ¬ s.mine m true then s
    else
      let okay := st == .ok && e == s.car.epoch
      let due := s.car.retry.filter fun x => x.1 == m.src
      let s0 : State := { s with car := { s.car with
        epochs := mapPut 0 s.car.epochs m.src e
        behind := if okay then s.car.behind.filter (· != m.src) else s.car.behind
        retry := s.car.retry.filter fun x => x.1 != m.src } }
      let undone := match s.car.undo with
        | some x => decide (x.txn = m.txn)
        | none => false
      if undone then
        match s0.car.undo with
        | some x =>
          let y := { x with done := m.src :: x.done }
          { s0 with car := { s0.car with undo := if y.participants.all y.done.contains then none else some y } }
        | none => s0
      else
        let s1 := match s0.car.change with
          | some x =>
            if x.phase = 3 ∧ x.txn = m.txn then
              if governs m.stamp s.tick (x.sent + s.man.set.caravanTimeout) then
                let s1 := if okay then s0 else s0.markBehind m.src
                ({ s1 with car := { s1.car with change := some { x with done := m.src :: x.done } } } : State).changeCheck
              else s0.lateDiscard islWarden
            else if okay then s0 else s0.markBehind m.src
          | none => if okay then s0 else s0.markBehind m.src
        if okay then due.foldl (fun s x => s.retryTxn x.1 x.2) s1
        else due.foldl (fun s x =>
          match s.car.fwd.find? fun f => f.txn == x.2 with
          | some f => s.otherTwin f
          | none => s) s1
  | _ => s

/-! ## Probes (R452) -/

/-- ROUTE_PROBE: answered, with this device's LEG_REPORT to a member of the lead pair (R371, R476). -/
def State.routeProbe (s : State) (m : Msg) : State :=
  if ¬ s.mine m false then s
  else
    let s1 := s.answer m (.routeEcho s.otp.serial s.car.epoch)
    if s.pairOf m.src = 0 then s1.reportPrepared else s1

/-- ROUTE_ECHO (R452, R478). -/
def State.routeEcho (s : State) (m : Msg) : State :=
  match m.body with
  | .routeEcho serial e =>
    if ¬ s.mine m true then s
    else if ((mapFind s.man.set.routes m.src).map (·.serial)) ≠ some serial then
      ((s.exclude m.src).logEvent 0x0505 .alarm islWarden 0x100 .ok [m.src, serial]).unreached
    else
      let s1 : State := { s with car := { s.car with epochs := mapPut 0 s.car.epochs m.src e } }
      if s.lead ∧ e < s.car.epoch then s1.catchUpMember m.src else s1
  | _ => s

/-! ## The caravan window (R474, R475, R478) -/

/-- EPOCH_ROLLBACK goes out again to the participants that have not answered. -/
def State.resendUndo (s : State) (u : Option EpochChange) (txn : Nat) : State :=
  match u with
  | some x =>
    if x.txn = txn ∧ x.sent + s.man.set.caravanTimeout + 2 ≤ s.tick then
      (x.participants.filter fun m => !x.done.contains m).foldl (fun s m => s.sendEpoch m txn true x.epoch .epochRollback)
        ({ s with car := { s.car with undo := some { x with sent := s.tick } } } : State)
    else s
  | none => s

/-- CARAVAN_TIMEOUT: the window of a transaction closes, and its message goes out again with the resend flag. -/
def State.caravanTimeout (s : State) (txn : Nat) : State :=
  let closed (sent : Tick) : Bool := decide (sent + s.man.set.caravanTimeout + 2 ≤ s.tick)
  match s.car.fwd.find? fun f => f.txn == txn with
  | some f =>
    if ¬ closed f.sent then s else if s.reachable (f.todo.headD 0) then s.resendFwd f else s.otherTwin f
  | none =>
    match s.car.moves.find? fun v => v.txn == txn with
    | some v =>
      if ¬ closed v.sent ∨ v.waiting = [] then s
      else
        let s1 := match s.running.find? fun x => v.ref == some x.record.ref && x.stage == .moves v.num with
          | some run => s.settleRun run run.res run.res.lone
          | none => s
        let l := s1.car.moves.map fun w => if w.num = v.num then { w with ref := none, sent := s.tick } else w
        v.waiting.foldl (fun s m => s.sendMember m 0 true txn false true (.ladingMove v.num v.changes))
          { s1 with car := { s1.car with moves := l } }
    | none =>
      match s.board.cross.find? fun x => x.txn == txn with
      | some x => s.crossResend x
      | none =>
        match s.car.change, s.car.undo with
        | some x, u =>
          if x.txn = txn ∧ closed x.sent then
            if x.phase = 3 then s.sendCommits x true
            else if x.phase = 0 then
              (x.participants.filter fun m => !x.ready.contains m).foldl (fun s m =>
                s.sendEpoch m txn true x.epoch (.epochPrepare x.target))
                ({ s with car := { s.car with change := some { x with sent := s.tick } } } : State)
            else s
          else s.resendUndo u txn
        | none, u => s.resendUndo u txn

/-! ## Ports that come and go -/

/-- Members whose route leaves through a port. -/
def State.membersBehind (s : State) (p : Nat) : List Nat :=
  (List.range s.man.set.memberCount).filter fun m => m != s.man.set.self && s.routePort m == some p

/-- A connected port has been lost: what the twin and the caravan do about it (R449, R470, R478). -/
def State.portLost (s : State) (p : Nat) : State :=
  if p = 0 then s.abandonResync
  else
    let s1 := if (s.membersBehind p).any fun m => !s.car.excluded.contains m && !s.car.stale.contains m then s.carCause 2 else s
    s1.unreached

/-- A port goes DOWN, with everything that follows. -/
def State.dropPort (s : State) (p cause wait : Nat) : State :=
  let s1 := s.portDown p cause wait
  if (s.port p).connected then s1.portLost p else s1

/-- A port has become ACTIVE: TWIN_STATE to the twin, or probes to the members; a participant reports what it has prepared
(R371, R452, R466). -/
def State.portUp (s : State) (p : Nat) : State :=
  if p = 0 then s.tellTwin
  else
    let (s1, txn) := s.newTxn
    let s2 := ((List.range s.man.set.memberCount).filter fun m => m != s.man.set.self).foldl
      (fun s m => s.sendMember m 0 true txn false false .routeProbe) s1
    s2.reportPrepared

end Sys2Proof.Machine
end

