-- ==== Sys2Proof/Machine/Replay.lean ====
section
/-! DEFINITION. Replay capture, its base, and how REPLAY begins and ends (R546 to R555). -/

namespace Sys2Proof.Machine

/-! ## Capture -/

/-- R546 check 2. -/
def State.captureAlone (s : State) : Bool := (s.twin.st == .none || s.twin.st == .loneKeel) && s.man.set.memberCount == 1

/-- CAPTURE_START (R546, R547 step 1). -/
def captureStart (c : Cmd) (s : State) : State × Did :=
  let limit := fld c.body 0 4
  let flags := fld c.body 4 4
  if c.body.length ≠ 8 ∨ 4096 < limit ∨ 1 < flags then (s, .done (fail .bodyInvalid))
  else match firstFail [
      (!s.rpl.capturing && s.running.all (fun x => x.stage != .base), .busy),
      (!s.rpl.captured || flags == 1, .bodyInvalid),
      (s.captureAlone, .modeForbidden),
      (Config.captureFits limit, .busy)] with
    | some st => (s, .done (if st = .busy then fail st else failD st 1))
    | none => ({ s with rpl := { s.rpl with spillLimit := limit } }, .wait .base {})

/-- The base as it stands (R547 step 2). -/
def State.copyBase (s : State) : Base :=
  { cel := s.cel, kh1 := s.kh1, curves := s.curves, board := s.board, outcomes := s.outcomes, floors := s.floors
    sessions := s.sessions, rosters := s.rosters, quorums := s.quorums, digests := s.digests, receipts := s.receipts }

/-- CAPTURE_BASE_COPY_DONE: the started commands have ended and the base is copied; recording starts (R547). -/
def State.baseDone (s : State) : State :=
  match s.running with
  | [run] =>
    if run.stage ≠ .base then s
    else
      let s1 : State := { s with
        base := some s.copyBase
        rpl := { s.rpl with capturing := true, captured := false, full := false, records := 0, bytes := 0, spilled := false
                            items := [], index := none } }
      ((s1.logEvent 0x0802 .notice islHost 0x100 .ok []).captureTwin).finish run {}
  | _ => s

/-- CAPTURE_STOP (R547). -/
def captureStop (c : Cmd) (s : State) : State × Did :=
  if c.body ≠ [] then (s, .done (fail .bodyInvalid))
  else (s.stopCapture false, .done { body := natLE 4 s.rpl.records ++ zeros 4 ++ natLE 8 s.rpl.bytes })

/-! ## Entering and leaving REPLAY -/

/-- REPLAY_START (R550): the barrier to REPLAY is asked for. -/
def replayStart (c : Cmd) (s : State) : State × Did :=
  if c.body.length ≠ 8 ∨ ¬ zeroAt c.body 4 4 then (s, .done (fail .bodyInvalid))
  else if ¬ s.rpl.capturing ∧ ¬ s.rpl.captured then (s, .done (failD .bodyInvalid 1))
  else if ¬ s.captureAlone then (s, .done (failD .modeForbidden 1))
  else
    let s1 := s.stopCapture false
    let s2 : State := { s1 with rpl := { s1.rpl with last := fld c.body 0 4 } }
    (s2.askBarrier .replay (.command c.record.ref), .wait .barrier {})

/-- The custodian ports deactivate and the transit card is powered off. -/
def State.cardsOff (s : State) : State :=
  ((List.range 4).foldl (fun s n => s.deactivate n (s.cardPort n)) s).sdOff

/-- Every structure of the base takes the captured copy (R551). -/
def State.loadBase (s : State) (b : Base) : State :=
  { s with cel := b.cel, kh1 := b.kh1, curves := b.curves, board := b.board, outcomes := b.outcomes, floors := b.floors
           sessions := b.sessions, rosters := b.rosters, quorums := b.quorums, digests := b.digests, receipts := b.receipts }

/-- What the device does on entering REPLAY (R551). -/
def State.enterReplay (s : State) : State :=
  let s1 := ((List.range 4).foldl (fun s n => if (s.port n).enable then s.dropPort n 6 1000 else s) s).cardsOff
  let s2 : State := { s1 with rpl := { s1.rpl with vault := some s1.vault, position := 0, broke := false } }
  match s2.base with
  | some b => s2.loadBase b
  | none => s2

/-- Event 0x0805 with what the replay found (R553). -/
def State.replayEnded (s : State) : State :=
  s.logEvent 0x0805 .notice islHost 0x100 .ok [s.rpl.position, s.rpl.diverge, s.rpl.divergences]

/-- REPLAY_STOP (R553). -/
def replayStop (c : Cmd) (s : State) : State × Did :=
  if c.body ≠ [] then (s, .done (fail .bodyInvalid))
  else (s.replayEnded, .reset { body := natLE 4 s.rpl.position ++ natLE 4 s.rpl.diverge ++ natLE 4 s.rpl.divergences ++ zeros 4 })

/-- RPL_BREAK_WRITE by the debug port under replay_break (R554). -/
def State.breakWrite (s : State) (v : Word32) : State :=
  if s.mode ≠ .dormant ∧ s.debugRight 13 then { s with rpl := { s.rpl with brk := v.toNat, broke := false } } else s

end Sys2Proof.Machine
end

