-- ==== Sys2Proof/Machine/Modes.lean ====
section
/-! DEFINITION. Island commit barriers from start to end, and the commands that change the mode (R87 to R90, R341, R421, R478,
R481, R520). -/

namespace Sys2Proof.Machine

/-! ## Commands -/

/-- A change of mode made as lead of the caravan, or by this device alone (R89). -/
def State.changeMode (s : State) (c : Cmd) (target : Mode) : State × Did :=
  if 1 < s.man.set.memberCount ∧ s.lead then (s.epochStart target (some c.record.ref), .wait .epoch {})
  else (s.askBarrier target (.command c.record.ref), .wait .barrier {})

/-- The caravan already makes a change (R478). -/
def State.changing? (s : State) : Bool := decide (1 < s.man.set.memberCount) && s.lead && s.car.change.isSome

/-- MUSTER_COMPLETE (R90). -/
def musterComplete (c : Cmd) (s : State) : State × Did :=
  if c.body ≠ [] then (s, .done (fail .bodyInvalid))
  else if s.changing? then (s, .done (fail .busy))
  else s.withQuorum 0 purposeMuster fun s =>
    match s.musterRows with
    | some st => (s, .done (fail st))
    | none => (if 1 < s.man.set.memberCount ∧ s.lead then s.sweep else s).changeMode c .service

/-- DROWSE_ENTER (R59). -/
def drowseEnter (c : Cmd) (s : State) : State × Did :=
  if c.body ≠ [] then (s, .done (fail .bodyInvalid))
  else if s.changing? then (s, .done (fail .busy))
  else s.changeMode c .drowse

/-! ## Barriers -/

/-- BARRIER_START: a barrier that waits starts once none is pending (R87). -/
def State.barrierStart (s : State) : State := if s.barrier.isSome then s else State.nextBarrier s.barrierQ s

/-- The command that asked for a barrier. -/
def State.barrierRun (s : State) (b : Barrier) : Option Run :=
  match b.cause with
  | .command r => s.running.find? fun x => x.record.ref == r
  | _ => none

/-- The island still has a job of a started command (R87 step 2). Every started command but those that wait for a barrier is
a job of the drover island. -/
def State.islandBusy (s : State) (i : Nat) : Bool :=
  let lane (k : LaneKind) : Bool := s.running.any fun x => match x.stage with
    | .lane j _ => j == k
    | _ => false
  if i = islDrover then s.running.any fun x => x.stage != .barrier && x.stage != .epoch
  else if i = islCipher then lane .cipher
  else if i = islDigest then lane .digest
  else if i = islBig then lane .bigNumber
  else if i = islLedger then lane .decimal
  else if i = islCard then (List.range 4).any (fun n => (s.cardPort n).ref.isSome) || s.cards.transit.ref.isSome
  else false

/-- The resaw engine goes on after a barrier, but not in DROWSE and not severed (R421, R520). -/
def State.resumeResaw (s : State) : State :=
  { s with rsw := { s.rsw with paused := s.rsw.active && (s.mode == .drowse || (s.tmp.severed && s.tmp.drained)) } }

/-- Entries whose epoch is 0 are freed as MUSTER ends (R341). -/
def State.freeEpochs (s : State) : State :=
  { s with vault := { s.vault with epochs := s.vault.epochs.filter fun p => p.2.epoch != 0 } }

/-- A change of mode of the serving twin outside a caravan is told to the standby (R481). -/
def State.tellMode (s : State) : State :=
  if s.twin.st = .paired ∧ s.serving ∧ s.man.set.memberCount ≤ 1 then s.tellTwin else s

/-- What asked for the barrier goes on (R87, R478, Table 15-6, R481). -/
def State.barrierNext (s : State) (b : Barrier) : State :=
  match b.cause with
  | .command r =>
    match s.running.find? fun x => x.record.ref == r with
    | some run => s.finish run {}
    | none => s
  | .doorbell => s
  | .epoch => s.decideEpoch
  | .commit => s.commitDone
  | .following =>
    match s.twin.peerMode with
    | some m => s.follow m
    | none => s

/-- Every island has acknowledged: the mode changes (R87 step 3). A DROWSE that finds records waiting starts the return. -/
def State.barrierDone (s : State) (b : Barrier) : State :=
  let old := s.mode
  let s1 : State := { s with barrier := none, mode := b.target }
  let s2 := ((s1.raise .system 0).logEvent 0x0009 .notice islAlways 0x100 .ok [modeCode old, modeCode b.target]).resumeResaw
  let s3 := (if old = .muster ∧ b.target = .service then s2.freeEpochs else s2).tellMode.barrierNext b
  if b.target = .replay then s3.enterReplay
  else if b.target = .drowse ∧ s3.waiting ≠ [] then s3.wake
  else s3

/-- BARRIER_ACK: an island's acknowledgement governs before the close of the window (R87, R88, R148). -/
def State.barrierAck (s : State) (island : Nat) (stamp : Tick) : State :=
  match s.barrier with
  | none => s.lateDiscard islAlways
  | some b =>
    if ¬ governs stamp s.tick (b.request + 100000) then s.lateDiscard islAlways
    else if s.islandBusy island then s
    else
      let b1 := { b with acks := island :: b.acks.filter (· != island) }
      let s1 : State := { s with
        barrier := some b1
        rsw := { s.rsw with paused := s.rsw.paused || (s.rsw.active && island == islMemory) } }
      if (List.range 13).all b1.acks.contains then s1.barrierDone b1 else s1

/-- BARRIER_TIMEOUT: the barrier is abandoned; what has no command to complete starts again (R88, R478, Table 15-6). -/
def State.barrierTimeout (s : State) : State :=
  match s.barrier with
  | none => s
  | some b =>
    if s.tick < b.request + 100000 + 2 then s
    else
      let s1 := ((({ s with barrier := none } : State).raise .system 1)).resumeResaw
      match b.cause with
      | .command r =>
        match s1.running.find? fun x => x.record.ref == r with
        | some run => s1.finish run (fail .busy)
        | none => s1
      | .doorbell | .commit => s1.startBarrier b
      | .epoch => s1.epochAbandoned
      | .following => s1

/-! ## The end of a severed device's commands -/

/-- SEVER_DRAIN_DONE (R520 step 4). -/
def State.severDrain (s : State) : State :=
  if ¬ s.tmp.severed ∨ s.tmp.drained ∨ s.running ≠ [] ∨ s.mode = .felled ∨ s.mode = .dormant then s
  else
    let down (s : State) (n : Nat) : State :=
      let s1 := s.dropPort n 6 0
      s1.setPort n { s1.port n with st := .disabled, enable := false }
    let s1 := ((List.range 4).foldl down s).cardsOff
    { s1 with rsw := { s1.rsw with paused := s1.rsw.active }, tmp := { s1.tmp with drained := true } }

end Sys2Proof.Machine
end

