-- ==== Sys2Proof/Machine/Wire.lean ====
section
/-! DEFINITION. Messages as bytes: header, bodies, waybills and parts (R445, R453, R487, Tables 14-9, 14-12, 15-9). Where the
spec gives a body no layout, the one here is the model's (entry 24). -/

namespace Sys2Proof.Machine

/-- Type of a message (Table 14-10). -/
def payloadType : Payload → Nat
  | .empty => 0 | .routeProbe => 0x0003 | .routeEcho .. => 0x0004
  | .mirrorPosting .. => 0x0101 | .mirrorAck .. => 0x0102 | .cellarSync .. => 0x0103 | .cellarSyncAck .. => 0x0104
  | .counterAdvance .. => 0x0105 | .resyncBulk .. => 0x0106 | .resyncAck .. => 0x0107 | .twinState .. => 0x0108
  | .crossDecision .. => 0x0109 | .epochDecision .. => 0x0109
  | .legPrepare .. => 0x0201 | .legPrepared .. => 0x0202 | .legRefused .. => 0x0203 | .legCommit .. => 0x0204
  | .legAbort .. => 0x0205 | .legDone .. => 0x0206 | .legReport .. => 0x0207
  | .epochPrepare .. => 0x0210 | .epochReady .. => 0x0211 | .epochCommit .. => 0x0212 | .epochRollback => 0x0213
  | .epochRefuse .. => 0x0214 | .epochDone .. => 0x0215
  | .forward .. => 0x0220 | .result .. => 0x0221 | .ladingMove .. => 0x0230 | .ladingAck .. => 0x0231

/-- Outcome entry of a mirror message. -/
def outcomeBytes (o : Option OutcomeWire) : Bytes :=
  match o with
  | some x => natLE 1 x.tenant ++ zeros 1 ++ natLE 6 x.seq ++ natLE 2 (statusCode x.status) ++ natLE 2 x.detail ++ zeros 4
  | none => zeros 16

/-- Kind, index and content of a CELLAR_SYNC record. -/
def changeParts : Change → Nat × Nat × Bytes
  | .slot i v => (0, i, slotBytes v)
  | .directory i v => (1, i, dirBytes v)
  | .blob a d => (2, a, natLE 4 d.length ++ d)
  | .keyRecord n v =>
    (3, n, padTo 32 v.material ++ natLE 2 v.generation ++ natLE 1 (if v.present then 1 else 0) ++
      natLE 1 (if v.imagePending then 1 else 0) ++ natLE 4 v.imageGen)
  | .epochEntry n v => (4, n, natLE 2 v.ledger ++ natLE 2 v.epoch ++ natLE 1 v.tenant ++ zeros 3)
  | .custody t v =>
    (5, t, natLE 2 v.rosterGen ++ natLE 2 v.shareSet ++ natLE 1 (v.shareN - 1 + 16 * (v.shareK - 1)) ++
      natLE 1 (v.sharesIssued + (if v.rosterPending then 32 else 0) + if v.setOpen then 64 else 0))
  | .outcome o => (6, 0, outcomeBytes (some o))
  | .kh1 t k h => (7, 4096 * t + k, natLE 4 h)
  | _ => (0xFF, 0, [])

/-- A CELLAR_SYNC record. -/
def changeBytes (c : Change) : Bytes :=
  let (k, i, b) := changeParts c
  natLE 1 k ++ zeros 3 ++ natLE 4 i ++ b

/-- Role of a participant. -/
def roleByte (anchor home : Bool) : Bytes := natLE 1 ((if anchor then 1 else 0) + if home then 2 else 0)

/-- Response body or descriptor that MIRROR_POSTING carries, and its kind. -/
def postingPart (cs : List Change) : Nat × Bytes :=
  (cs.findSome? fun c => match c with
    | .response r => some (r.kind, r.body)
    | .descriptor _ d => some (0, d.raw)
    | _ => none).getD (5, [])

/-- Body of a message. -/
def payloadBytes : Payload → Bytes
  | .empty => []
  | .routeProbe | .epochRollback => zeros 8
  | .routeEcho serial e => natLE 8 serial ++ natLE 4 e ++ zeros 4
  | .mirrorPosting l q o cs =>
    natLE 2 l ++ natLE 1 (postingPart cs).1 ++ zeros 5 ++ natLE 8 q ++ outcomeBytes o ++ (postingPart cs).2
  | .mirrorAck l q => natLE 2 l ++ zeros 6 ++ natLE 8 q
  | .cellarSync n o cs => natLE 8 n ++ natLE 2 cs.length ++ zeros 6 ++ outcomeBytes o ++ cs.flatMap changeBytes
  | .cellarSyncAck n => natLE 8 n
  | .counterAdvance l =>
    natLE 2 l.length ++ zeros 6 ++ l.flatMap fun (i, g, u) => natLE 4 i ++ natLE 2 g ++ zeros 2 ++ natLE 8 u
  | .resyncBulk p f n cs =>
    natLE 1 p ++ natLE 1 (if f then 1 else 0) ++ zeros 6 ++ natLE 4 n ++ zeros 4 ++ cs.flatMap changeBytes
  | .resyncAck p f => natLE 1 p ++ natLE 1 (if f then 1 else 0) ++ zeros 6
  | .twinState serial keel st mode det e b =>
    natLE 8 serial ++ natLE 8 keel ++ natLE 1 (twinCode st) ++ natLE 1 (modeCode mode) ++ natLE 1 (if det then 1 else 0) ++
      zeros 1 ++ natLE 4 e ++ natLE 4 b ++ zeros 4
  | .crossDecision d =>
    natLE 1 1 ++ zeros 7 ++ natLE 2 d.ledger ++ natLE 1 d.tenant ++ natLE 1 d.participants.length ++
      natLE 1 d.legs.length ++ zeros 3 ++ padTo 16 d.id ++ padTo 8 d.valueDate ++ d.participants.flatMap (natLE 1) ++
      d.legs.flatMap (fun l => natLE 1 l.index ++ zeros 1 ++ natLE 6 l.version ++ padTo 128 l.balSeal) ++
      d.records.flatMap legRecordBytes
  | .epochDecision e t => natLE 1 2 ++ zeros 7 ++ natLE 4 e ++ natLE 1 (modeCode t) ++ zeros 3
  | .legPrepare l a h part parts id hz vd legs =>
    natLE 2 l ++ roleByte a h ++ natLE 1 part ++ natLE 1 parts ++ natLE 1 legs.length ++ zeros 2 ++ padTo 16 id ++
      natLE 8 hz ++ padTo 8 vd ++ legs.flatMap fun g =>
        natLE 1 g.index ++ natLE 1 (if g.absorb then 1 else 0) ++ zeros 6 ++ ld63Bytes g.amount ++ padTo 128 g.balSeal
  | .legPrepared l a h part parts id legs =>
    natLE 2 l ++ roleByte a h ++ natLE 1 part ++ natLE 1 parts ++ natLE 1 legs.length ++ zeros 2 ++ padTo 16 id ++
      legs.flatMap fun g => natLE 1 g.index ++ zeros 1 ++ natLE 6 g.version ++ padTo 128 g.balSeal
  | .legRefused l id st d => natLE 2 l ++ zeros 2 ++ natLE 2 (statusCode st) ++ natLE 2 d ++ padTo 16 id
  | .legCommit l a h id vd legs =>
    natLE 2 l ++ roleByte a h ++ natLE 1 legs.length ++ zeros 4 ++ padTo 16 id ++ padTo 8 vd ++ legs.flatMap legRecordBytes
  | .legAbort l id => natLE 2 l ++ zeros 6 ++ padTo 16 id
  | .legDone l id o st q e =>
    natLE 2 l ++ zeros 1 ++ natLE 1 o ++ natLE 2 (statusCode st) ++ zeros 2 ++ padTo 16 id ++ natLE 8 q ++
      if e = [] then [] else natLE 4 e.length ++ e
  | .legReport l => natLE 1 l.length ++ zeros 7 ++ l.flatMap fun (n, id) => natLE 2 n ++ zeros 6 ++ padTo 16 id
  | .epochPrepare t | .epochCommit t => natLE 1 (modeCode t) ++ zeros 7
  | .epochReady st e | .epochDone st e | .epochRefuse st e => natLE 2 (statusCode st) ++ zeros 2 ++ natLE 4 e
  | .forward _ r i slot nonce => zeros 8 ++ natLE 2 slot ++ zeros 6 ++ padTo 8 nonce ++ zeros 16 ++ r ++ i
  | .result st d lone b o =>
    zeros 3 ++ natLE 1 (if lone then 4 else 0) ++ natLE 4 (64 + b.length) ++ natLE 4 b.length ++ natLE 2 (statusCode st) ++
      natLE 2 d ++ zeros 48 ++ b ++ o
  | .ladingMove n cs => natLE 8 n ++ cs.flatMap changeBytes
  | .ladingAck n => natLE 8 n

/-- A body in the parts in which it is sent (R487). -/
def bodyParts (b : Bytes) : List Bytes :=
  if b.length ≤ 1832 then [b]
  else
    let l := chunks 1824 b
    l.zipIdx.map fun (x, i) => natLE 4 i ++ natLE 4 l.length ++ x

/-- Route of a member as Table 14-9 lays it out: 2 bits for each hop. -/
def routeWord (hops : List Nat) : Nat := (hops.zipIdx.map fun (c, i) => c * 4 ^ i).sum

/-- Header and body with the waybill list, padded to whole flits (R445). -/
def sealMessage (hb : Bytes) : Bytes :=
  let w := hb ++ waybills hb
  w ++ zeros ((32 - w.length % 32) % 32)

/-- Bytes of a message whose header and body of `n` bytes with waybills and padding fill. -/
def messageLen (n : Nat) : Nat := ceilDiv (32 + n + 4 * ceilDiv (32 + n) 64) 32 * 32

/-- One message of a type with one part of its body. -/
def State.messageBytes (s : State) (m : Msg) (type : Nat) (b : Bytes) : Bytes :=
  let r := mapGet {} s.man.set.routes m.dest
  let hops := if m.port = 0 then [] else r.hops
  sealMessage (natLE 2 type ++ natLE 1 ((if m.reply then 1 else 0) + if m.resend then 2 else 0) ++ zeros 1 ++
    natLE 1 m.dest ++ natLE 1 m.src ++ natLE 2 (routeWord hops) ++ natLE 1 hops.length ++ natLE 1 m.keyIndex ++
    natLE 2 (m.tenant + if m.world then 256 else 0) ++ natLE 2 (messageLen b.length) ++ natLE 2 b.length ++ natLE 8 m.txn ++
    natLE 4 m.epoch ++ zeros 4 ++ b)

/-- The messages that a parsed message goes out as. -/
def State.wire (s : State) (m : Msg) : List Bytes :=
  (bodyParts (payloadBytes m.body)).map (s.messageBytes m (payloadType m.body))

/-! ## Arrival (R446) -/

/-- Fields of a message header. -/
def msgDest (b : Bytes) : Nat := fld b 4 1

/-- Format and length of a header that arrived on a port (R445 to R447, R451). -/
def headerFits (port : Nat) (b : Bytes) : Bool :=
  let n := fld b 0x0E 2
  decide (64 ≤ b.length) && decide (fld b 2 1 ≤ 3) && decide (fld b 3 1 ≤ 8) && decide (fld b 8 1 ≤ 8) && zeroAt b 0x1C 4 &&
    decide (n ≤ 1832) && fld b 0x0C 2 == messageLen n && b.length == messageLen n && fld b 0x0A 2 / 512 == 0 &&
    (if port = 0 then fld b 4 1 == 0xFF && fld b 5 1 == 0xFF && fld b 8 1 == 0 else fld b 4 1 != 0xFF)

/-- The key index matches the attribute (R412). -/
def keyFits (b : Bytes) : Bool := fld b 9 1 == if fld b 0x0A 2 / 256 % 2 = 1 then 0 else fld b 0x0A 2 % 256

/-- The first granule of a message whose waybill differs. -/
def messageGranule (b : Bytes) : Option Nat :=
  let n := 32 + fld b 0x0E 2
  badGranule (b.take n) (b.drop n)

/-- A message is refused (R446). -/
def State.refuseMessage (s : State) (port : Nat) : State :=
  ((({ s with ndl := { s.ndl with refusals := sat32 s.ndl.refusals } } : State).raise .ndl 17).logEvent 0x0503 .alarm islLink
    0x100 .ok [port])

/-- A released message is checked, and waits for the island or the port that it is for. -/
def State.admitMessage (s : State) (port : Nat) (stamp : Tick) (b : Bytes) : State :=
  match messageGranule b with
  | some g => (s.raise .integrity 0).logEvent 0x0202 .alarm islLink 0x100 .waybillMismatch [port, g]
  | none =>
    if ¬ (headerFits port b ∧ keyFits b) then s.refuseMessage port
    else { s with ndl := { s.ndl with inbox := s.ndl.inbox ++ [(port, stamp, b)] } }

/-- An island takes a message: the link no longer holds it. -/
def State.took (s : State) (type : Nat) (m : Msg) : State :=
  let fits (x : Nat × Tick × Bytes) : Bool :=
    x.1 == m.port && fld x.2.2 0 2 == type && fld x.2.2 0x10 8 == m.txn && fld x.2.2 5 1 == m.src
  { s with ndl := { s.ndl with inbox := s.ndl.inbox.filter fun x => !fits x } }

/-- A message is handed to its island, which acts while the operating mode runs it (Table 3-1). -/
def State.receive (s : State) (type : Nat) (m : Msg) (k : State → State) : State :=
  if s.mode ∈ [.dormant, .boot, .recovery, .felled] then s else k (s.took type m)

end Sys2Proof.Machine
end

