-- ==== Sys2Proof/Machine/Ndl.lean ====
section
/-! DEFINITION. The Ndourbo link: training, keying, flits, replay, convoys and forwarding (R423 to R457). -/

namespace Sys2Proof.Machine

/-! ## Ports -/

/-- A per-port counter of Table 14-13 advances. -/
def Port.count (p : Port) (off : Nat) : Port := { p with counters := mapInc p.counters off 0xFFFFFFFF }

/-- The port's power unit is ON (R423, Table 19-1). -/
def State.portPowered (s : State) (n : Nat) : Bool := s.unitOn (17 + n / 2) (n % 2)

/-- The link island works in the mode in force. -/
def State.linkRuns (s : State) : Bool := decide (s.mode ∉ [.dormant, .boot, .recovery, .felled])

/-- The link session holds flits: KEYING, ACTIVE or RETRAIN (R425). -/
def Port.session (p : Port) : Bool := p.st == .keying || p.connected

/-- Step and window of training (Table 14-3). -/
def stepWindow (step : Nat) : Nat := if step = 3 then 1000 else if step = 5 then 2000 else 100

/-- A step of training begins. -/
def Port.toStep (p : Port) (step : Nat) (t : Tick) : Port := { p with step, stepTick := t, seen := [] }

/-- The port enters RETRAIN (R439). -/
def State.retrain (s : State) (n : Nat) : State :=
  let p := s.port n
  if p.st = .active ∨ p.st = .keying then
    s.setPort n ({ p.count 0x024 with st := .retrain, retrains := 0 }.toStep 2 s.tick)
  else s

/-! ## Sending (R436, R441 to R444) -/

/-- Direction of the traffic that this device sends: 0 from the lower serial (R432). -/
def State.direction (s : State) (peer : Nat) : Nat := if s.otp.serial < peer then 0 else 1

/-- Serial that the port expects of its partner (R430). -/
def State.expectedPeer (s : State) (n : Nat) : Nat := if n = 0 then s.twinSerial else s.man.set.peers.getD (n - 1) 0

/-- Convoy key (R432). -/
def convoyKey (secret : Bytes) (k d g : Nat) : Bytes :=
  hkdf384 secret [] (ascii "KH64-CONVOY" ++ natLE 1 k ++ natLE 1 d ++ natLE 2 g) 32

/-- Opener of a convoy (Table 14-8). -/
def openerBytes (num g k count msgs : Nat) : Bytes :=
  natLE 8 num ++ natLE 2 g ++ natLE 1 k ++ natLE 1 count ++ natLE 1 msgs ++ zeros 19

/-- IV of a convoy (R442). -/
def convoyIv (num g k d : Nat) : Bytes := natLE 8 num ++ natLE 2 g ++ natLE 1 k ++ natLE 1 d

/-- Key index and bytes of what waits to leave; a message in parts counts one item for each. -/
def State.txBytes (s : State) : TxItem → List (Nat × Bytes)
  | .own m => (s.wire m).map fun b => (m.keyIndex, b)
  | .passing k b => [(k, b)]

/-- The messages that go into the next convoy: one key index, at most 62 flits (R444). -/
def convoyOf : Nat → Nat → List (Nat × Bytes) → List Bytes × List (Nat × Bytes)
  | _, _, [] => ([], [])
  | k, room, (j, b) :: l =>
    if j = k ∧ b.length / 32 ≤ room then
      let (x, y) := convoyOf k (room - b.length / 32) l
      (b :: x, y)
    else ([], (j, b) :: l)

/-- A convoy's flits join the replay buffer and leave. -/
def State.sendConvoy (s : State) (n : Nat) (k : Nat) (ms : List Bytes) : State :=
  let p := s.port n
  let data := ms.flatten
  let count := data.length / 32
  let clear := p.st == .keying
  let pair := mapGet 0 p.txPair k
  let num := if clear then 0 else pair % 2 ^ 32
  let g := if clear then 0xFFFF else pair / 2 ^ 32
  let d := s.direction (s.expectedPeer n)
  let op := openerBytes num g k count ms.length
  let (ct, tag) := if clear then (data, zeros 16) else gcmSeal (convoyKey p.secret k d g) (convoyIv num g k d) op data
  let flits := (2, op) :: (chunks 32 ct).map (fun b => (3, b)) ++ [(4, tag ++ zeros 16)]
  let q := { p.count 0x030 with
    txPair := if clear then p.txPair else mapPut 0 p.txPair k (pair + 1)
    opened := p.opened + 1, txSeq := (p.txSeq + flits.length) % 4096, replay := p.replay ++ flits }
  (s.setPort n q).emit (.flits n p.txSeq flits.length)

/-- Convoys leave while the port holds a credit and its replay buffer has room (R436, R441). The number bounds them. -/
def State.pumpItems (n : Nat) : Nat → List (Nat × Bytes) → State → State × List (Nat × Bytes)
  | 0, l, s => (s, l)
  | _, [], s => (s, [])
  | fuel + 1, (k, b) :: l, s =>
    let p := s.port n
    let (ms, rest) := convoyOf k 62 ((k, b) :: l)
    if (p.opened + 16 - p.peerFreed) % 16 < 8 ∧ ms ≠ [] ∧ p.replay.length + 2 + ms.flatten.length / 32 ≤ 256 then
      State.pumpItems n fuel rest (s.sendConvoy n k ms)
    else (s, (k, b) :: l)

/-- What waits on a port leaves as far as it can. -/
def State.pump (s : State) (n : Nat) : State :=
  let p := s.port n
  if p.st ≠ .active ∧ p.st ≠ .keying then s
  else
    let items := p.txQ.flatMap s.txBytes
    let (s1, rest) := State.pumpItems n items.length items s
    s1.setPort n { s1.port n with txQ := rest.map fun x => .passing x.1 x.2 }

/-! ## Keying (R429 to R432) -/

/-- A link message in a clear convoy (R442). -/
def State.sendClear (s : State) (n type : Nat) (b : Bytes) : State :=
  let m : Msg := { port := n, body := .empty }
  let p := s.port n
  let bytes := s.messageBytes { m with port := 0 } type b
  ((s.setPort n { p with txQ := p.txQ ++ [.passing 0 bytes] }).emit (.linkBytes n bytes)).pump n

/-- This device's offer and the partner's, in the order of their serials, with whether this device is lo. -/
def State.offers (s : State) (n : Nat) : Bytes × Bytes × Bool :=
  let p := s.port n
  if s.otp.serial < s.expectedPeer n then (p.offer, p.peerOffer, true) else (p.peerOffer, p.offer, false)

/-- Body of a KEY_CONFIRM from the device with a serial (R431). -/
def State.confirmBody (s : State) (n serial : Nat) : Bytes :=
  let (lo, hi, _) := s.offers n
  hmac384 (s.port n).secret (ascii "CONFIRM" ++ natLE 8 serial ++ sha384 (lo ++ hi))

/-- Both offers are here: the link secret, and KEY_CONFIRM (R431). -/
def State.agree (s : State) (n : Nat) : State :=
  let p := s.port n
  if p.offer = [] ∨ p.peerOffer = [] ∨ p.secret ≠ [] then s
  else
    let (lo, hi, own) := s.offers n
    let z := natBE 48 (((p384Curve.mul p.ephemeral (some (bytesPoint 48 (sub p.peerOffer 0x100 96)))).map Prod.fst).getD 0)
    let (a, b) := if own then (s.otp.serial, s.expectedPeer n) else (s.expectedPeer n, s.otp.serial)
    let secret := hkdf384 z (sub lo 0x160 32 ++ sub hi 0x160 32) (ascii "KH64-NDL" ++ natLE 8 a ++ natLE 8 b) 48
    let s1 := s.setPort n { p with secret }
    s1.sendClear n 0x0002 (s1.confirmBody n s.otp.serial)

/-- KEY_OFFER is made and sent, once a big-number lane is powered (R430, R432). -/
def State.makeOffer (s : State) (n : Nat) : State :=
  let p := s.port n
  if p.st ≠ .keying ∨ p.offer ≠ [] ∨ ¬ s.laneAny .bigNumber then s
  else match s.random 144 with
    | none => s.refused
    | some (s1, b) =>
      let eph := p384Curve.scalar (sub b 0 56)
      let body := padTo 256 s.otp.cert ++ pointBytes 48 (p384Curve.mul eph p384Curve.base) ++ sub b 56 32 ++ natLE 1 n ++ zeros 7
      let offer := body ++ s.identitySig (sha384 body) (sub b 88 56)
      ((s1.setPort n { p with offer, ephemeral := eph }).sendClear n 0x0001 offer).agree n

/-- The port enters KEYING: a link session begins (R425, R436). -/
def State.enterKeying (s : State) (n : Nat) : State :=
  let p := s.port n
  let q : Port := { st := .keying, enable := p.enable, reversed := p.reversed, polarity := p.polarity, cause := p.cause
                    down := p.down, connect := p.connect, counters := p.counters, step := 5, stepTick := s.tick }
  (s.setPort n q).makeOffer n

/-- An offer or confirm is refused (R430, R431). -/
def State.keyFail (s : State) (n serial : Nat) : State :=
  let s1 := s.setPort n ((s.port n).count 0x02C)
  ((s1.raise .ndl (4 * n + 2)).logEvent 0x0501 .warn islLink 0x100 .ok [n, serial]).dropPort n 3 100000

/-- The device certificate verifies (R429). -/
def certVerifies (c : Bytes) : Bool :=
  sub c 0 4 == ascii "KHDC" && fld c 4 2 == 1 && zeroAt c 6 2 && zeroAt c 0x80 32 && sub c 0x70 16 == issuerId vendorPub &&
    p384Verify vendorPub (sha384 (c.take 0xA0)) (sub c 0xA0 96)

/-- The checks of R430. -/
def State.offerOk (s : State) (n : Nat) (o : Bytes) : Bool :=
  o.length == 488 && certVerifies (o.take 256) && fld o 8 8 == s.expectedPeer n &&
    ((fld o 0x180 1 == 0) == (n == 0)) && p384Verify (sub o 0x10 96) (sha384 (o.take 0x188)) (sub o 0x188 96) &&
    p384Curve.validPoint 48 (sub o 0x100 96)

/-- KEY_OFFER (R430). -/
def State.keyOffer (s : State) (n : Nat) (o : Bytes) : State :=
  let p := s.port n
  if p.st ≠ .keying ∨ p.peerOffer ≠ [] then s
  else if ¬ s.offerOk n o then s.keyFail n (fld o 8 8)
  else ((s.setPort n { p with peerOffer := o }).makeOffer n).agree n

/-- KEY_CONFIRM (R431). -/
def State.keyConfirm (s : State) (n : Nat) (b : Bytes) : State :=
  let p := s.port n
  let peer := s.expectedPeer n
  if p.st ≠ .keying ∨ p.secret = [] then s
  else if b ≠ s.confirmBody n peer then s.keyFail n peer
  else
    let q := { p with st := .active, confirmed := true, ephemeral := 0, peer, connect := s.tick }
    ((s.setPort n q).raise .ndl (4 * n)).portUp n

/-! ## Training (R427, R428) -/

/-- NDL_DETECT_TIMER. -/
def State.detect (s : State) (n : Nat) (terminated : Bool) : State :=
  let p := s.port n
  if p.st ≠ .down ∨ ¬ s.linkRuns ∨ ¬ s.portPowered n ∨ s.tick < p.detect then s
  else if terminated then s.setPort n ({ p with st := .training, reversed := false, polarity := 0 }.toStep 2 s.tick)
  else s.setPort n { p with detect := s.tick + 1000 }

/-- KEY_FAIL_BACKOFF_EXPIRY (R430). -/
def State.backoffEnd (s : State) (n : Nat) : State :=
  let p := s.port n
  if p.st = .down ∧ p.detect ≤ s.tick then s.setPort n { p with detect := s.tick } else s

/-- A training sequence with the lane's polarity corrected: the port after it, and whether it counts for the step in force.
In steps 2 and 3 the partner sends TSA, so its inverse shows an inverted lane. -/
def Port.judge (p : Port) (lane : Nat) (ts : BitVec 80) : Port × Bool :=
  let inv := ts.extractLsb' 0 16 == 0x3C5A
  let q := if p.step < 4 then { p with polarity := if inv then p.polarity ||| BitVec.ofNat 4 (2 ^ lane)
                                                  else p.polarity &&& ~~~ BitVec.ofNat 4 (2 ^ lane) } else p
  let x := if q.polarity.getLsbD lane then ~~~ ts else ts
  let marker := x.extractLsb' 0 16
  let num := (x.extractLsb' 16 2).toNat
  let rev := num == 3 - lane
  let good := x.extractLsb' 32 48 == (0xAAAAAAAAAAAA : BitVec 48)
  if p.step = 2 then (q, marker == 0xC3A5 && good)
  else if p.step = 3 then (q, marker == 0xC3A5 && good && x.getLsbD 23)
  else ({ q with reversed := if marker == 0x3C5A && lane == 0 then rev else q.reversed },
    marker == 0x3C5A && good && (num == lane || rev))

/-- Consecutive sequences that end a step. -/
def stepCount (step : Nat) : Nat := if step = 2 then 64 else 16

/-- RETRAIN ends: the session goes on with every unacknowledged flit (R439). -/
def State.retrainDone (s : State) (n : Nat) : State :=
  let p := s.port n
  let q := { p with st := if p.confirmed then .active else .keying, retrains := 0, step := 5 }
  let s1 := s.setPort n q
  if p.replay = [] then s1 else s1.emit (.flits n p.txAck p.replay.length)

/-- A step has ended. -/
def State.stepEnd (s : State) (n : Nat) : State :=
  let p := s.port n
  if p.st = .retrain then
    (if p.step = 2 then s.setPort n { p with step := 4, seen := [] } else s.retrainDone n)
  else if p.step = 4 then s.enterKeying n
  else s.setPort n (p.toStep (p.step + 1) s.tick)

/-- TRAINING_SEQUENCE (R428). -/
def State.trainingSeq (s : State) (n lane : Nat) (ts : BitVec 80) : State :=
  let p := s.port n
  if p.st ≠ .training ∧ p.st ≠ .retrain then s
  else
    let (q, good) := p.judge lane ts
    let q1 := { q with seen := mapPut 0 q.seen lane (if good then mapGet 0 q.seen lane + 1 else 0) }
    let s1 := s.setPort n q1
    if (List.range 4).all fun l => decide (stepCount p.step ≤ mapGet 0 q1.seen l) then s1.stepEnd n else s1

/-- TRAINING_WINDOW_EXPIRY (R427). -/
def State.trainingWindow (s : State) (n : Nat) : State :=
  let p := s.port n
  if (p.st = .training ∨ p.st = .keying) ∧ p.stepTick + stepWindow p.step ≤ s.tick then s.dropPort n 1 1000 else s

/-- LANE_LOCK_LOSS (R439). -/
def State.lockLoss (s : State) (n : Nat) : State :=
  let p := s.port n
  if p.st = .training then s.dropPort n 2 1000 else s.retrain n

/-- RETRAIN_WINDOW_EXPIRY (R439). -/
def State.retrainWindow (s : State) (n : Nat) : State :=
  let p := s.port n
  if p.st ≠ .retrain ∨ s.tick < p.stepTick + 200 then s
  else if 2 ≤ p.retrains then s.dropPort n 5 1000
  else s.setPort n ({ p.count 0x024 with retrains := p.retrains + 1 }.toStep 2 s.tick)

/-! ## Flits (R433 to R440) -/

/-- Byte string of a flit. -/
def flitBytes (f : BitVec 320) : Bytes := natLE 40 f.toNat

/-- The flit's CRC holds and its type is not reserved (R437). -/
def flitGood (b : Bytes) : Bool := fld b 36 4 == (crc32c (b.take 36)).toNat && decide (fld b 0 1 / 32 ≤ 4)

/-- seq and ack of a flit (Table 14-6). -/
def flitSeq (b : Bytes) : Nat := fld b 33 2 % 2 ^ 12
/-- ack of a flit. -/
def flitAck (b : Bytes) : Nat := fld b 34 2 / 2 ^ 4

/-- The ack and freed fields of a good flit are taken (R436, R441). -/
def Port.acked (p : Port) (b : Bytes) : Port :=
  let n := (flitAck b + 4096 - p.txAck) % 4096
  let q := { p with peerFreed := fld b 0 1 / 2 % 16 }
  if 0 < n ∧ n ≤ p.replay.length then { q with txAck := flitAck b, replay := p.replay.drop n, replays := 0 } else q

/-- One NAK for each expected number (R437). -/
def State.sendNak (s : State) (n : Nat) : State :=
  let p := s.port n
  if p.nakSent then s
  else
    (s.setPort n { p.count 0x01C with nakSent := true, published := p.rxSeq, rxCount := 0 }).emit (.nak n p.rxSeq)

/-- A convoy is refused (R444). -/
def State.convoyFail (s : State) (n : Nat) : State :=
  let s1 := s.setPort n ((s.port n).count 0x028)
  ((s1.raise .ndl (4 * n + 3)).logEvent 0x0502 .alarm islLink 0x100 .ok [n]).dropPort n 4 1000

/-- An accepted flit joins the convoy under reception; one that fits none refuses the convoy. -/
def State.assemble (s : State) (n type : Nat) (b : Bytes) : State :=
  let p := s.port n
  match type, p.opener with
  | 2, none => s.setPort n { p with opener := some b, data := [] }
  | 3, some _ => s.setPort n { p with data := p.data ++ b }
  | 4, some o => s.setPort n { p with opener := none, data := [], closed := p.closed ++ [(o, p.data, b, s.tick)] }
  | _, _ => s.convoyFail n

/-- A sequenced flit with the expected number is accepted, and the ack published when it is due (R437). -/
def State.acceptFlit (s : State) (n type : Nat) (b : Bytes) : State :=
  let p := s.port n
  let seq := (p.rxSeq + 1) % 4096
  let due := decide (8 ≤ p.rxCount + 1) || type == 4
  let q := { p with rxSeq := seq, nakSent := false, rxCount := if due then 0 else p.rxCount + 1
                    published := if due then seq else p.published }
  let s1 := s.setPort n q
  (if due then s1.emit (.ack n seq) else s1).assemble n type (sub b 1 32)

/-- Every unacknowledged flit from the oldest is resent; after four replays without an advance the port enters RETRAIN
(R438, R439). -/
def State.replayFrom (s : State) (n : Nat) : State :=
  let p := s.port n
  if p.replay = [] then s
  else if 4 ≤ p.replays then s.retrain n
  else (s.setPort n { p.count 0x020 with replays := p.replays + 1 }).emit (.flits n p.txAck p.replay.length)

/-- FLIT_RECEIVED (R437). -/
def State.flitIn (s : State) (n : Nat) (f : BitVec 320) : State :=
  let b := flitBytes f
  let p := s.port n
  if ¬ p.session ∨ p.st = .retrain then s
  else if ¬ flitGood b then (s.setPort n (p.count 0x018)).sendNak n
  else
    let type := fld b 0 1 / 32
    let s1 := s.setPort n (p.acked b)
    let s2 :=
      if type = 0 then s1
      else if type = 1 then s1.replayFrom n
      else if flitSeq b = p.rxSeq then s1.acceptFlit n type b
      else s1.sendNak n
    (s2.makeOffer n).pump n

/-- NAK_RECEIVED (R438). -/
def State.nakIn (s : State) (n : Nat) (f : BitVec 320) : State :=
  if fld (flitBytes f) 0 1 / 32 = 1 then s.flitIn n f else s

/-- REPLAY_TIMER_EXPIRY (R438). -/
def State.replayTimer (s : State) (n : Nat) : State :=
  if (s.port n).session ∧ (s.port n).st ≠ .retrain then s.replayFrom n else s

/-! ## Convoys (R441 to R444) -/

/-- Messages of a convoy's data, by their length fields; the number bounds them. -/
def splitMessages : Nat → Bytes → Option (List Bytes)
  | 0, b => if b.isEmpty then some [] else none
  | fuel + 1, b =>
    if b.isEmpty then some []
    else
      let n := fld b 0x0C 2
      if n < 64 ∨ n % 32 ≠ 0 ∨ b.length < n then none
      else (splitMessages fuel (b.drop n)).map fun l => b.take n :: l

/-- The data of a convoy whose checks hold: its messages, and the pair it took (none for a clear convoy). -/
def State.convoyOpen (s : State) (n : Nat) (o data c : Bytes) : Option (List Bytes × Option (Nat × Nat)) :=
  let p := s.port n
  let num := fld o 0 8
  let g := fld o 8 2
  let k := fld o 0x0A 1
  let count := fld o 0x0B 1
  let msgs := fld o 0x0C 1
  let d := 1 - s.direction (s.expectedPeer n)
  if ¬ zeroAt o 0x0D 19 ∨ ¬ zeroAt c 0x10 16 ∨ count = 0 ∨ 62 < count ∨ msgs = 0 ∨ 62 < msgs ∨ data.length ≠ 32 * count then none
  else if g = 0xFFFF then
    if p.st ≠ .keying ∨ ¬ zeroAt c 0 16 then none
    else match splitMessages 62 data with
      | some l => if l.length = msgs ∧ l.all (fun m => fld m 0 2 == 1 || fld m 0 2 == 2) then some (l, none) else none
      | none => none
  else if p.secret = [] ∨ 2 ^ 32 * g + num ≠ mapGet 0 p.rxPair k ∨ 2 ^ 32 ≤ num then none
  else match gcmOpen (convoyKey p.secret k d g) (convoyIv num g k d) o data (c.take 16) with
    | none => none
    | some pt =>
      match splitMessages 62 pt with
      | some l => if l.length = msgs then some (l, some (k, 2 ^ 32 * g + num + 1)) else none
      | none => none

/-- CONVOY_TAG_CHECK (R444): the oldest closed convoy is released or refused. Released messages are handed on with the stamp
of their CLOSE (R455). -/
def State.tagCheck (s : State) (n : Nat) : State :=
  let p := s.port n
  match p.closed with
  | [] => s
  | (o, data, c, stamp) :: rest =>
    match s.convoyOpen n o data c with
    | none => s.convoyFail n
    | some (l, pair) =>
      let q := { p.count 0x034 with
        closed := rest, freed := (p.freed + 1) % 16
        rxPair := match pair with
          | some (k, v) => mapPut 0 p.rxPair k v
          | none => p.rxPair }
      l.foldl (fun s m => s.admitMessage (if pair.isNone then 0 else n) stamp m) (s.setPort n q)

/-! ## Forwarding (R450) -/

/-- A message is dropped in forwarding. -/
def State.dropMessage (s : State) (b : Bytes) : State :=
  ((({ s with ndl := { s.ndl with drops := sat32 s.ndl.drops } } : State).raise .ndl 16).logEvent 0x0504 .warn islLink 0x100 .ok
    [msgDest b, fld b 5 1])

/-- MESSAGE_FORWARD (R450). -/
def State.forwardMessage (s : State) (n : Nat) (b : Bytes) : State :=
  if ¬ s.linkRuns ∨ n = 0 ∨ msgDest b = s.man.set.self then s
  else
    let s1 : State := { s with ndl := { s.ndl with inbox := s.ndl.inbox.filter fun x => !(x.1 == n && x.2.2 == b) } }
    match messageGranule b with
    | some g => (s1.raise .integrity 0).logEvent 0x0202 .alarm islLink 0x100 .waybillMismatch [n, g]
    | none =>
      let hop := fld b 3 1 + 1
      let egress := fld b 6 2 / 4 ^ hop % 4
      if fld b 8 1 ≤ hop ∨ egress = 0 ∨ (s1.port egress).st ≠ .active then s1.dropMessage b
      else
        let hb := b.take 3 ++ natLE 1 hop ++ sub b 4 (28 + fld b 0x0E 2)
        let m := sealMessage hb
        let p := s1.port egress
        ((s1.setPort egress { p with txQ := p.txQ ++ [.passing (fld b 9 1) m] }).emit (.linkBytes egress m)).pump egress

/-! ## Registers (Table 14-14) -/

/-- NDL_PORT_ENABLE (R424). -/
def State.portEnable (s : State) (n : Nat) (on : Bool) : State :=
  let p := s.port n
  if ¬ s.linkRuns then s
  else if on then
    if p.enable ∨ s.tmp.severed ∨ ¬ s.portWanted n ∨ ¬ s.portPowered n then s
    else s.setPort n { p with enable := true, st := .down, detect := s.tick }
  else
    let s1 := s.dropPort n (s.port n).cause 0
    s1.setPort n { s1.port n with enable := false, st := .disabled }

/-- NDL_RETRAIN (R439). -/
def State.retrainWrite (s : State) (n : Nat) : State := if s.linkRuns then s.retrain n else s

/-- NDL_DROP (R457). -/
def State.dropWrite (s : State) (n : Nat) : State :=
  if s.linkRuns ∧ (s.port n).st ≠ .down then s.dropPort n 6 1000 else s

end Sys2Proof.Machine
end

