-- ==== Sys2Proof/Machine/Registers.lean ====
section
/-! DEFINITION. The value of every register of the windows of Table 20-1, as a view of the state (R57, R91, R92, R105, R210,
R252, R287, R315, R335, R377, R398, R422, R457, R488, R511, R533, R555, R571, R578 to R582). -/

namespace Sys2Proof.Machine

/-- A bit of a register. -/
def bit (b : Bool) (i : Nat) : Nat := if b then 2 ^ i else 0

/-- A map of bits. -/
def bitMap (n : Nat) (f : Nat → Bool) : Nat := ((List.range n).map fun i => bit (f i) i).sum

/-! ## Function windows (R578, R579) -/

/-- Queue pairs for which a function window has registers. -/
def windowQueues (fn : Nat) : Nat := if fn = 0 then 16 else 8

/-- Vectors of a function. -/
def windowVectors (fn : Nat) : Nat := if fn = 0 then 64 else 4

/-- HIF_TENANT_ID (Table 20-4). -/
def State.tenantId (s : State) (fn : Nat) : Nat := fn + 2 ^ 8 * s.qpCount fn + 2 ^ 16 * windowVectors fn

/-- HIF_TENANT_STATUS (Table 20-5). -/
def State.tenantStatus (s : State) : Nat :=
  modeCode s.mode + 2 ^ 4 * lifeCode s.life + bit s.tmp.severed 7 + 2 ^ 8 * twinCode s.twin.st + bit s.pwr.muster 11 +
    bit (s.rng.st == .healthy) 12

/-- QUE_CTRL (Table 4-4). -/
def ctrlWord (p : QPair) : Nat :=
  bit p.enabled 0 + bit p.kh1 1 + 2 ^ 2 * p.sizeLog2 + 2 ^ 6 * p.vector + bit p.irqEnable 12 + 2 ^ 16 * p.aggCount +
    2 ^ 24 * p.aggTime

/-- QUE_STATUS (Table 4-5). -/
def statusWord (p : QPair) : Nat :=
  bit p.enabled 0 + bit p.draining 1 + 2 ^ 2 * p.error + 2 ^ 8 * p.keyIndex + 2 ^ 16 * p.inFlight

/-- 64-bit values of a function window, by the offset of the low half. -/
def State.fnPair (s : State) (fn o : Nat) : Option Nat :=
  let q := o / 0x40
  if q < windowQueues fn then
    let p := s.qp fn q
    let r := o % 0x40
    let v := if r = 0x00 then some p.sqBase else if r = 0x08 then some p.cqBase
      else if r = 0x20 then some (if p.kh1 then (2 ^ 47 + q * 2 ^ 43 + p.seqCount) % 2 ^ 48 else 0) else none
    if q < s.qpCount fn then v else v.map fun _ => 0
  else none

/-- Other registers of a function window (Table 20-3). -/
def State.fnReg (s : State) (fn o : Nat) : Option Nat :=
  let q := o / 0x40
  if q < windowQueues fn then
    let p := s.qp fn q
    let r := o % 0x40
    let v := if r = 0x10 then some (ctrlWord p) else if r = 0x14 then some (statusWord p)
      else if r = 0x18 then some p.sqHead else if r = 0x1C then some p.cqTail else none
    if q < s.qpCount fn then v else v.map fun _ => 0
  else if 0x1000 ≤ o ∧ o < 0x1000 + 8 * windowQueues fn then some 0
  else if o = 0x2000 then some (s.tenantId fn)
  else if o = 0x2004 then some s.tenantStatus
  else if o = 0x2008 then some (mapGet 0 s.host.discards fn)
  else if 0x3000 ≤ o ∧ o < 0x3000 + 0x10 * windowVectors fn then
    let e := mapGet {} s.host.vectors (64 * fn + (o - 0x3000) / 0x10)
    let r := o % 0x10
    some (if r = 0 then e.addr % 2 ^ 32 else if r = 4 then e.addr / 2 ^ 32 else if r = 8 then e.data else bit e.masked 0)
  else if o = 0x3800 ∨ o = 0x3804 then
    let lo := if o = 0x3800 then 0 else 32
    some (bitMap 32 fun i => decide (lo + i < windowVectors fn) && (mapGet {} s.host.vectors (64 * fn + lo + i)).pending)
  else none

/-! ## Windows 0x00 to 0x04 -/

/-- TOP (Table 20-6). -/
def State.topReg (s : State) (o : Nat) : Option Nat :=
  if o = 0x000 then some (0x006400A0 + 2 ^ 8 * (s.otp.grade % 4))
  else if o = 0x00C then
    some (modeCode s.mode + bit s.barrier.isSome 3 + 2 ^ 4 * ((s.barrier.map fun b => modeCode b.target).getD 0) +
      2 ^ 8 * s.bootStage)
  else if o = 0x018 then some s.resetCause.toNat
  else none

/-- Boots that the stored warrant has left (Table 2-10). -/
def State.bootsLeft (s : State) : Nat :=
  match s.warrant with
  | some w => min 255 (fld w 0x20 4 + fld w 0x24 1 - s.vault.bootCount)
  | none => 0

/-- States in which the LCS block hides the boot count and nonce (Table 2-9). -/
def State.sealedLife (s : State) : Bool := s.life == .raw || s.life == .scrapped || s.life == .locked

/-- LCS (Table 2-9). -/
def State.lcsReg (s : State) (o : Nat) : Option Nat :=
  if o = 0x000 then
    some (lifeCode s.life + bit (!(s.lcs.copy0 == s.lcs.copy1 && s.lcs.copy1 == s.lcs.copy2)) 3 + bit s.lcs.write.isSome 4 +
      bit s.warrant.isSome 5 + 2 ^ 8 * s.bootsLeft)
  else if o = 0x004 then some s.voted.toNat
  else if o = 0x008 then some s.lcs.copy0.toNat
  else if o = 0x00C then some s.lcs.copy1.toNat
  else if o = 0x010 then some s.lcs.copy2.toNat
  else if o = 0x014 then some (if s.sealedLife then 0 else s.vault.bootCount)
  else if 0x018 ≤ o ∧ o ≤ 0x024 then some (if s.sealedLife then 0 else fld s.vault.nonce (o - 0x018) 4)
  else if o = 0x028 then some s.rights.toNat
  else none

/-- MAN (Table 3-12). -/
def State.manReg (s : State) (o : Nat) : Option Nat :=
  if o = 0x000 then
    some (s.man.failCause + bit s.man.recoveryRequest 4 + bit s.man.vaultLoss 5 + bit s.man.floorRaised 6 +
      2 ^ 8 * s.man.sectionsLoaded)
  else if o = 0x004 then some (s.otp.mkey.length + 2 ^ 8 * s.otp.debugSlots.length + 2 ^ 16 * s.otp.twin.length)
  else if o = 0x008 then some s.man.version
  else if o = 0x00C then some s.vault.floor
  else if 0x010 ≤ o ∧ o ≤ 0x03C then some (fld s.man.measure (o - 0x010) 4)
  else none

/-- TAL (Table 17-7). -/
def State.talReg (s : State) (o : Nat) : Option Nat :=
  if o < 0x080 then
    let n := bitMap 64 (fun b => (s.tallyBits (o / 4)).getLsbD b)
    let count := ((List.range 64).filter fun b => n.testBit b).length
    some (count + bit (count == 64) 7)
  else if o = 0x200 then
    let busy := !s.tal.queue.isEmpty && s.mainPower && s.life != .raw
    some (bit busy 0 + bit s.tal.writeFault 1 + bit s.tal.catchup 2 +
      2 ^ 8 * min 31 (if busy then s.tal.queue.length - 1 else s.tal.queue.length))
  else none

/-- HIF (Table 20-9). -/
def State.hifReg (s : State) (o : Nat) : Option Nat :=
  let h := s.host
  if o = 0x000 then
    some (bit h.linkUp 0 + 2 * (h.width % 4) + 2 ^ 3 * (h.speed % 8) + bit h.vfEnable 6 + 2 ^ 8 * h.numVfs + 2 ^ 16 * s.totalVfs)
  else if o = 0x004 then some h.barRefusals
  else if o = 0x008 then some (mapGet 0 s.late islHost)
  else if o = 0x00C then some h.flrs
  else if o = 0x010 then some h.resets
  else none

/-- The window table of the TTU (R582). -/
def State.ttuReg (s : State) (o : Nat) : Option Nat :=
  if o % 0x20 = 0x10 then some (mapGet {} s.host.win (o / 0x20)).ctrl.toNat else none

/-- TTU_STATUS and TTU_REFUSALS. -/
def State.ttuStatus (s : State) (o : Nat) : Option Nat :=
  if o = 0x000 then some (bit s.host.writeRefused 0 + 2 ^ 8 * s.host.lastFn)
  else if o = 0x004 then some s.host.ttuRefusals
  else none

/-! ## Power, attention, tamper, log and replay -/

/-- State code of a unit (Table 19-6). -/
def powerCode : Power → Nat
  | .on => 1 | .retain => 2 | .off => 3

/-- PWR (Table 19-6). A clock generator reads locked: the model leaves out the time in which it relocks. -/
def State.pwrReg (s : State) (o : Nat) : Option Nat :=
  if o = 0x000 then some s.pwr.reqReg.toNat
  else if o = 0x004 then some (statusCode s.pwr.status + bit s.pwr.req.isSome 16)
  else if o = 0x008 then some (bit s.pwr.muster 0)
  else if o = 0x00C then some (s.cause .pwr).toNat
  else if o = 0x010 then some (s.causeEn .pwr).toNat
  else if o = 0x014 then some s.pwr.refusals
  else if o = 0x018 then some s.pwr.doorbells
  else if 0x040 ≤ o ∧ o < 0x090 then
    let d := (o - 0x040) / 4
    some ((List.range (domainUnits d)).map fun u => 4 ^ u * powerCode (s.unit d u)).sum
  else if 0x100 ≤ o ∧ o < 0x134 then
    let n := (o - 0x100) / 4
    some (s.clock n + bit (mapGet 0 s.pwr.override n != 0) 16 + bit true 17)
  else if 0x140 ≤ o ∧ o < 0x174 then some (mapGet 0 s.pwr.override ((o - 0x140) / 4))
  else none

/-- IRQ (Table 19-6). -/
def State.irqReg (s : State) (o : Nat) : Option Nat :=
  if o = 0x000 then some s.irqSummary
  else if o = 0x004 then some s.irq.msixEn.toNat
  else if o = 0x008 then some s.irq.attnEn.toNat
  else if 0x010 ≤ o ∧ o < 0x030 then some (s.group ((o - 0x010) / 4)).toNat
  else if o = 0x040 then some (s.cause .integrity).toNat
  else if o = 0x044 then some (s.causeEn .integrity).toNat
  else if o = 0x048 then some (s.cause .system).toNat
  else if o = 0x04C then some (s.causeEn .system).toNat
  else if o = 0x050 then some (s.cause .queue).toNat
  else if o = 0x054 then some (s.causeEn .queue).toNat
  else none

/-- A wake-ledger entry (Table 17-6). -/
def wakeWord (e : WakeEntry) : Nat :=
  e.cls + bit e.valid 5 + bit e.tallied 6 + 2 ^ 7 * e.response + bit e.doze 9 + bit e.batteryOnly 10 + 2 ^ 16 * e.seq +
    2 ^ 32 * e.detail.toNat

/-- TMP (Table 17-7). The temperatures are free values. -/
def State.tmpReg (s : State) (o : Nat) : Option Nat :=
  let pend := ((List.range 16).filter fun i => (s.wakeEntry i).valid && !(s.wakeEntry i).tallied).length
  if o = 0x000 then
    some (bit s.dozing 0 + bit s.tmp.severed 1 + bit s.tmp.felled 2 + bit s.man.applied 3 + 2 ^ 5 * pend)
  else if o = 0x004 then some (s.cause .tmp).toNat
  else if o = 0x008 then some (s.causeEn .tmp).toNat
  else if o = 0x00C then some (s.tmp.condition.toNat % 2 ^ 22)
  else if o = 0x020 then some s.tmp.overflow
  else if o = 0x024 then some s.tmp.discards
  else if 0x040 ≤ o ∧ o < 0x058 then some (Config.temperature ((o - 0x040) / 4) s.tick).toNat
  else none

/-- LOG (Tables 18-5, 18-6): LOG_PEEK_DATA reads as zero outside FELLED, but for log_read (R545). -/
def State.logReg (s : State) (debug : Bool) (o : Nat) : Option Nat :=
  let l := s.log
  if o = 0x000 then
    let alarms := (l.slots.filter fun p => p.2.severity = .alarm).length
    some (bit l.frozen 0 + bit l.exportFreeze 1 + bit l.forcedThaw 2 + 2 ^ 4 * l.held.length + 2 ^ 16 * alarms)
  else if 0x010 ≤ o ∧ o < 0x020 then some (mapGet 0 l.dropped ((o - 0x010) / 4))
  else if o = 0x020 then some l.frozenCount
  else if o = 0x024 then some l.checkFails
  else if o = 0x040 then some l.peek
  else if 0x080 ≤ o ∧ o < 0x0C0 then
    some (if s.mode = .felled ∨ (debug ∧ s.debugRight 12) then fld l.peekData (o - 0x080) 4 else 0)
  else none

/-- RPL (Tables 18-5, 18-7). -/
def State.rplReg (s : State) (o : Nat) : Option Nat :=
  let r := s.rpl
  if o = 0x000 then
    some (bit r.capturing 0 + bit r.captured 1 + bit r.full 2 + bit (s.mode == .replay) 3 + bit r.halted 4 +
      bit (r.divergences != 0) 5)
  else if o = 0x004 then some r.records
  else if o = 0x010 then some r.position
  else if o = 0x014 then some r.diverge
  else if o = 0x018 then some r.divergences
  else if o = 0x01C then some r.suppressed
  else if o = 0x020 then some r.brk
  else none

/-! ## Cellar, custody and cards -/

/-- CEL (Tables 6-19, 6-20). -/
def State.celReg (s : State) (o : Nat) : Option Nat :=
  let c := s.cel
  let on := s.unitOn 6 0
  let used := (c.slots.filter fun p => p.2.state ≠ .free).length
  if o = 0x000 then
    some (bit c.ready 0 + bit (c.skidActive && on) 1 +
      bit (on && s.running.any fun x => (nativeOp x.op).getD 0 == 0x020A) 2 + 2 ^ 8 * c.skidPos)
  else if o = 0x004 then some (262144 - used)
  else if o = 0x008 then some (c.slots.filter fun p => p.2.state = .felled).length
  else if o = 0x00C then some c.passes
  else if o = 0x010 then some c.skidFelled
  else if o = 0x014 then some c.retries
  else if o = 0x018 then some c.tagFaults
  else if o = 0x01C then some (mapGet 0 s.corrected 1)
  else if o = 0x020 then some (mapGet 0 s.late islCellar)
  else none

/-- CUS, as it shows a tenant (Tables 7-21, 7-22). -/
def State.cusReg (s : State) (tn o : Nat) : Option Nat :=
  let q := s.quorum tn
  let e := s.custodyEntry tn
  if o = 0x000 then some s.cards.sel
  else if o = 0x004 then
    some (q.phase + 2 ^ 2 * q.counted.length + 2 ^ 8 * (if q.phase = 0 then 0 else q.uses) + 2 ^ 16 * q.purposes.toNat +
      2 ^ 24 * s.quorumM tn)
  else if o = 0x010 then
    some (e.rosterGen + 2 ^ 16 * s.rosterCount tn + bit (mapFind s.rosters tn).isSome 22 + bit e.rosterPending 23)
  else none

/-- A card is activated at a custodian port. -/
def CardPort.active (p : CardPort) : Bool :=
  match p.step with
  | .idle | .activating _ | .deactivating _ => false
  | _ => true

/-- CRD (Tables 7-21, 7-24). -/
def State.crdReg (s : State) (o : Nat) : Option Nat :=
  let on := s.unitOn 11 0
  if o = 0x000 then some (s.cause .crd).toNat
  else if o = 0x004 then some (s.causeEn .crd).toNat
  else if 0x010 ≤ o ∧ o < 0x050 then
    let p := s.cardPort ((o - 0x010) / 0x10)
    if o % 0x10 = 0 then
      some (bit p.present 0 + bit (p.active && on) 1 + 2 ^ 2 * p.cls + bit p.ppsDone 4 + bit p.crc 5 + 2 ^ 8 * p.ifsc +
        2 ^ 16 * p.bwi + 2 ^ 20 * p.cwi)
    else if o % 0x10 = 4 then some (p.fi + 2 ^ 10 * p.di + 2 ^ 16 * p.div)
    else none
  else if o = 0x050 then some s.cards.rblocks
  else if o = 0x054 then some s.cards.resynchs
  else if o = 0x058 then some (mapGet 0 s.late islCard)
  else none

/-- TRN (Tables 7-21, 7-25). -/
def State.trnReg (s : State) (o : Nat) : Option Nat :=
  let t := s.cards.transit
  if o = 0x000 then some (s.cause .trn).toNat
  else if o = 0x004 then some (s.causeEn .trn).toNat
  else if o = 0x008 then
    some (bit t.present 0 + bit t.powered 1 + bit t.v18 2 + bit t.width4 3 + 2 ^ 4 * t.mode + bit t.tmpWp 7 + bit t.permWp 8)
  else if o = 0x00C then some s.cards.crcErrors
  else if o = 0x010 then some s.cards.torn
  else none

/-! ## Lanes, entropy and ledgers -/

/-- Powered lanes of a kind. -/
def State.lanesPowered (s : State) (k : LaneKind) : Nat :=
  bitMap (Sys2Proof.Machine.laneCount k) fun l => s.unitOn (laneUnit k l).1 (laneUnit k l).2

/-- Lanes of a kind that run a job. -/
def State.lanesBusy (s : State) (k : LaneKind) : Nat :=
  bitMap (Sys2Proof.Machine.laneCount k) fun l => s.unitOn (laneUnit k l).1 (laneUnit k l).2 && !s.laneIdle k l

/-- Withdrawn lanes of a kind. -/
def State.lanesWithdrawn (s : State) (k : LaneKind) : Nat :=
  bitMap (Sys2Proof.Machine.laneCount k) fun l => s.lanes.withdrawn.contains (64 * kindNum k + l)

/-- A lane block's counter. -/
def State.laneCounter (s : State) (k : LaneKind) (o : Nat) : Nat := mapGet 0 s.lanes.counters (0x1000 * kindNum k + o)

/-- CPH (Tables 8-11, 8-12). -/
def State.cphReg (s : State) (o : Nat) : Option Nat :=
  if o = 0x000 then some (s.lanesPowered .cipher + 2 ^ 16 * s.lanesBusy .cipher)
  else if o = 0x004 ∨ o = 0x008 ∨ o = 0x00C then some (s.laneCounter .cipher o)
  else if o = 0x010 then some (mapGet 0 s.late islCipher)
  else none

/-- DIG (Tables 8-11, 8-13). -/
def State.digReg (s : State) (o : Nat) : Option Nat :=
  if o = 0x000 then some (s.lanesPowered .digest + 2 ^ 8 * s.lanesBusy .digest + 2 ^ 16 * s.cel.cache.length)
  else if o = 0x004 ∨ o = 0x008 ∨ o = 0x00C ∨ o = 0x010 then some (s.laneCounter .digest o)
  else if o = 0x014 then some (mapGet 0 s.late islDigest)
  else none

/-- BIG (Tables 9-10 to 9-13). -/
def State.bigReg (s : State) (o : Nat) : Option Nat :=
  if o = 0x000 then some (s.lanesPowered .bigNumber)
  else if o = 0x004 then some (s.lanesBusy .bigNumber)
  else if o = 0x008 then some (s.lanesWithdrawn .bigNumber)
  else if o = 0x00C then some s.curves.length
  else if 0x010 ≤ o ∧ o ≤ 0x020 then some (s.laneCounter .bigNumber o)
  else if o = 0x024 then some (mapGet 0 s.late islBig)
  else none

/-- DRBG state codes, Table 10-3. -/
def drbgCode : DrbgState → Nat
  | .off => 0 | .starting => 1 | .healthy => 2 | .failed => 3

/-- Key of the entropy block's LATE_DISCARD counter. -/
abbrev islEntropy : Nat := 13

/-- RNG (Tables 10-6 to 10-8). RNG_FIFO_DATA has a row of its own and no value here. -/
def State.rngReg (s : State) (o : Nat) : Option Nat :=
  let r := s.rng
  if o = 0x000 then
    some (drbgCode r.st + bit r.katFailed 2 + bit s.rpl.capturing 3 + 2 ^ 8 * r.fifo.length + bit r.reseedDue 16)
  else if o = 0x004 then some r.healthy.toNat
  else if o = 0x008 then some r.rct
  else if o = 0x00C then some r.apt
  else if o = 0x010 then some r.reseeds
  else if o = 0x014 then some r.requests
  else if o = 0x018 then some r.refusals
  else if o = 0x020 then some (mapGet 0 s.late islEntropy)
  else none

/-- LED (Tables 11-12, 11-13). -/
def State.ledReg (s : State) (o : Nat) : Option Nat :=
  let b := s.board
  if o = 0x000 then
    some ((b.heads.filter fun p => p.2.ledger ≠ 0).length + bit (s.unitOn 7 0 && !b.copying.isEmpty) 10 +
      2 ^ 16 * min 65535 b.prepared.length)
  else if o = 0x004 then some (1047552 - (b.ctx.filter fun p => p.2.acctState ≠ 0).length)
  else if o = 0x008 then some b.postings
  else if o = 0x00C then some b.refused
  else if o = 0x010 then some b.waits
  else if o = 0x014 then some b.resends
  else if o = 0x018 then some b.rollbacks
  else if o = 0x01C then some (mapGet 0 s.late islLedger)
  else none

/-- DEC (Tables 12-7, 12-8). -/
def State.decReg (s : State) (o : Nat) : Option Nat :=
  if o = 0x000 then
    some (s.lanesPowered .decimal + 2 ^ 4 * s.lanesBusy .decimal + 2 ^ 8 * s.lanesWithdrawn .decimal)
  else if 0x004 ≤ o ∧ o ≤ 0x014 then some (s.laneCounter .decimal o)
  else none

/-! ## Sealed memory, the link, twins and the caravan -/

/-- SMC (Tables 13-3 to 13-5). -/
def State.smcReg (s : State) (o : Nat) : Option Nat :=
  let m := s.smc
  if o = 0x000 then
    some (bit (m.trained && (m.up0 || m.up1)) 0 + bit m.up0 1 + bit m.up1 2 + bit (m.trained && !(m.up0 || m.up1)) 3 +
      bit m.mismatch 4)
  else if o = 0x004 then some m.config.toNat
  else if o = 0x008 then some m.mark0.toNat
  else if o = 0x00C then some m.mark1.toNat
  else if o = 0x010 then some m.corrected
  else if o = 0x014 then some m.uncorrectable
  else if o = 0x018 then some m.tagFails
  else if o = 0x01C then some m.poisonWrites
  else if o = 0x020 then some m.keyRefusals
  else if o = 0x024 then some (mapGet 0 s.late islMemory)
  else none

/-- RSW (Tables 13-3, 13-6, 13-7). A window is one step of the model, so none is seen locked. -/
def State.rswReg (s : State) (o : Nat) : Option Nat :=
  let r := s.rsw
  let on := s.unitOn 16 0
  if o = 0x000 then some (r.ctrlKey + 2 ^ 16 * r.pace)
  else if o = 0x004 then some (r.key + bit (r.active && on) 8 + bit (r.paused && on) 9 + bit r.startRefused 11)
  else if o = 0x010 then some r.resaws
  else if o = 0x014 then some r.skipped
  else if o = 0x018 then some r.waits
  else if o = 0x01C then some r.maxWait
  else none

/-- State codes of a port, Table 14-2. -/
def portCode : PortState → Nat
  | .down => 0 | .training => 1 | .keying => 2 | .active => 3 | .retrain => 4 | .disabled => 5

/-- Convoy credits that a port holds (R441). -/
def Port.credits (p : Port) : Nat := 8 - (p.opened + 16 - p.peerFreed) % 16

/-- NDL (Tables 14-13 to 14-15). -/
def State.ndlReg (s : State) (o : Nat) : Option Nat :=
  if o < 0x400 then
    let p := s.port (o / 0x100)
    let r := o % 0x100
    if r = 0x000 then some (bit p.enable 0)
    else if r = 0x004 then
      some (portCode p.st + bit p.connected 3 + bit p.reversed 4 + 2 ^ 5 * p.polarity.toNat + 2 ^ 9 * p.credits + 2 ^ 13 * p.cause)
    else if 0x018 ≤ r ∧ r ≤ 0x034 then some (mapGet 0 p.counters r)
    else none
  else if o = 0x400 then some (s.cause .ndl).toNat
  else if o = 0x404 then some (s.causeEn .ndl).toNat
  else if o = 0x408 then some s.ndl.drops
  else if o = 0x40C then some s.ndl.refusals
  else if o = 0x410 then some (mapGet 0 s.late islLink)
  else none

/-- TWN (Tables 15-10, 15-11). -/
def State.twnReg (s : State) (o : Nat) : Option Nat :=
  if o = 0x000 then
    some (twinCode s.twin.st + bit s.keel 3 + bit (s.man.applied && s.serving) 4 + bit s.twin.detached 5 +
      bit s.twin.resync.isSome 6 + 2 ^ 8 * s.twinMember s.man.set.self)
  else if o = 0x00C then some s.twin.lines
  else if o = 0x010 then some s.twin.resyncs
  else if o = 0x014 then some s.twin.resends
  else if o = 0x018 then some (s.cause .twn).toNat
  else if o = 0x01C then some (s.causeEn .twn).toNat
  else none

/-- CAR (Tables 15-10, 15-12). -/
def State.carReg (s : State) (o : Nat) : Option Nat :=
  if o = 0x000 then some s.car.epoch
  else if o = 0x004 then
    some (if s.man.applied then s.epochState + bit s.lead 2 + bit (s.pairOf s.man.set.self == 0 && !s.lead) 3 +
      2 ^ 4 * s.man.set.self + 2 ^ 10 * s.man.set.memberCount else 0)
  else if o = 0x020 then some s.car.forwards
  else if o = 0x024 then some s.car.retries
  else if o = 0x028 then some s.car.rollbacks
  else if o = 0x02C then some (s.cause .car).toNat
  else if o = 0x030 then some (s.causeEn .car).toNat
  else none

/-! ## Protection and banks -/

/-- POT (Table 16-6). -/
def State.potReg (s : State) (o : Nat) : Option Nat :=
  if o = 0x000 then some s.iso.potIndex
  else if o = 0x004 then some (s.pot s.iso.potIndex).toNat
  else if o = 0x008 then some (bit s.iso.potBusy.isSome 0 + 2 * s.iso.potRefused)
  else if o = 0x00C then some s.iso.potRefusals
  else none

/-- MPU registers, 0x400 × m plus the offset (R511). -/
def State.mpuReg (s : State) (o : Nat) : Option Nat :=
  let m := o / 0x400
  let r := o % 0x400
  if 32 ≤ m then none
  else if r = 0x000 then
    some (if 4 ≤ m ∧ m ≤ 19 then bit (s.straddling (m - 4)) 0 + bit (s.kh1Run (m - 4)).isSome 1 else 0)
  else if r = 0x004 then some (mapGet 0 s.iso.faultInfo m).toNat
  else if r = 0x008 then some (mapGet 0 s.iso.faultAddr m).toNat
  else if r = 0x00C then some (mapGet 0 s.iso.faults m)
  else if 0x100 ≤ r ∧ r < 0x300 then
    let e := s.mpuEntry m ((r - 0x100) / 0x10)
    if r % 0x10 = 0 then some e.base.toNat else if r % 0x10 = 4 then some e.limit.toNat
    else if r % 0x10 = 8 then some e.attr.toNat else none
  else none

/-- BNK (Tables 16-6, 16-10). -/
def State.bnkReg (s : State) (o : Nat) : Option Nat :=
  if o < 0x080 then
    let g := o / 0x10
    let b := s.bank g
    let p := s.unit (groupUnit g).1 (groupUnit g).2
    let r := o % 0x10
    if r = 0 then some b.owner.toNat
    else if r = 4 then
      some (bit (b.next.isSome && p == .on) 0 + bit (b.next.isSome && p == .on) 1 + bit b.refused 2 + bit (p == .retain) 3)
    else if r = 8 then some (mapGet 0 s.iso.repair g).toNat
    else none
  else if o = 0x080 then some s.iso.handovers
  else if o = 0x084 then some s.iso.retainRefusals
  else none

/-- ISO (Table 16-6). -/
def State.isoReg (s : State) (o : Nat) : Option Nat :=
  if o < 0x030 then some (s.dmaOwner (o / 4)).toNat
  else if 0x100 ≤ o ∧ o < 0x300 then some (mapGet 0 s.iso.route ((o - 0x100) / 4))
  else if o = 0x300 then some (bit s.iso.refused 0)
  else if o = 0x304 then some s.iso.irqDiscards
  else none

/-! ## Every window (R572, R576) -/

/-- 64-bit values by the offset of their low half, as the windows hold them. -/
def State.pair64 (s : State) (tn w o : Nat) : Option Nat :=
  if w = 0x00 then (if o = 0x004 then some s.otp.serial else if o = 0x010 then some s.tick else none)
  else if w = 0x03 then
    (if 0x100 ≤ o ∧ o < 0x200 ∧ o % 8 = 0 then some (s.tallyBits ((o - 0x100) / 8)).toNat else none)
  else if w = 0x05 then s.fnPair 0 o
  else if w = 0x06 then
    let x := mapGet {} s.host.win (o / 0x20)
    (if o % 0x20 = 0x00 then some x.base else if o % 0x20 = 0x08 then some x.size else none)
  else if w = 0x0A then
    (if o = 0x010 then some s.tmp.tickFell else if o = 0x018 then some s.tmp.tickSever
     else if 0x080 ≤ o ∧ o < 0x100 ∧ o % 8 = 0 then some (wakeWord (s.wakeEntry ((o - 0x080) / 8))) else none)
  else if w = 0x0B then (if o = 0x004 then some s.log.next else none)
  else if w = 0x0C then (if o = 0x008 then some s.rpl.bytes else none)
  else if w = 0x0E then (if o = 0x008 then some (s.quorum tn).closeTick else none)
  else if w = 0x17 then
    (if 0x800 ≤ o ∧ o < 0x1000 ∧ o % 8 = 0 then some (mapGet 0 s.smc.writes ((o - 0x800) / 8)) else none)
  else if w = 0x18 then (if o = 0x008 then some (s.rsw.boundary / 4096 * 4096) else none)
  else if w = 0x19 then
    (if o < 0x400 ∧ o % 0x100 = 0x008 then some (s.port (o / 0x100)).peer
     else if o < 0x400 ∧ o % 0x100 = 0x010 then some (s.port (o / 0x100)).down else none)
  else if w = 0x1A then (if o = 0x004 then some s.twin.lone else none)
  else if w = 0x1B then
    (if o = 0x008 then some (bitMap 64 fun m => decide (m < s.man.set.memberCount) && s.reachable m)
     else if o = 0x010 then some (bitMap 64 fun m => s.car.behind.contains m || s.car.stale.contains m)
     else if o = 0x018 then some s.car.move else none)
  else none

/-- 32-bit registers of a window. -/
def State.reg32 (s : State) (debug : Bool) (tn w o : Nat) : Option Nat :=
  match w with
  | 0x00 => s.topReg o | 0x01 => s.lcsReg o | 0x02 => s.manReg o | 0x03 => s.talReg o | 0x04 => s.hifReg o
  | 0x05 => s.fnReg 0 o | 0x06 => s.ttuReg o | 0x07 => s.ttuStatus o | 0x08 => s.pwrReg o | 0x09 => s.irqReg o
  | 0x0A => s.tmpReg o | 0x0B => s.logReg debug o | 0x0C => s.rplReg o | 0x0D => s.celReg o | 0x0E => s.cusReg tn o
  | 0x0F => s.crdReg o | 0x10 => s.trnReg o | 0x11 => s.cphReg o | 0x12 => s.digReg o | 0x13 => s.bigReg o
  | 0x14 => s.rngReg o | 0x15 => s.ledReg o | 0x16 => s.decReg o | 0x17 => s.smcReg o | 0x18 => s.rswReg o
  | 0x19 => s.ndlReg o | 0x1A => s.twnReg o | 0x1B => s.carReg o | 0x1C => s.potReg o | 0x1D => s.mpuReg o
  | 0x1E => s.bnkReg o | 0x1F => s.isoReg o
  | _ => none

/-- The value of the register at a PF0 BAR0 offset, with a pair's half from its current value; none where no register is. -/
def State.reg (s : State) (debug : Bool) (tn off : Nat) : Option Nat :=
  let w := off / 0x10000
  let o := off % 0x10000
  if off % 4 ≠ 0 then none
  else match s.pair64 tn w o with
    | some v => some (v % 2 ^ 32)
    | none => match (if 4 ≤ o then s.pair64 tn w (o - 4) else none) with
      | some v => some (v / 2 ^ 32)
      | none => s.reg32 debug tn w o

end Sys2Proof.Machine
end

