-- ==== Sys2Proof/Machine/Access.lean ====
section
/-! DEFINITION. Reads and writes of registers by every access path (R573 to R578), the I3C port (R585, R604), the JTAG port
(R605) and the debug port (R50, R51). -/

namespace Sys2Proof.Machine

/-! ## Who reaches what -/

/-- PF0 BAR0 decodes a window now (R46, R72, R522, R545, R574). -/
def State.decodes (s : State) (w : Nat) : Bool :=
  (s.host.released || s.mode == .felled) && s.mode != .dormant &&
    (if s.sealedLife then w ∈ [0x00, 0x01, 0x03]
     else match s.mode with
      | .boot => w ∈ [0x00, 0x01, 0x02, 0x03]
      | .felled => w ∈ [0x00, 0x01, 0x03, 0x0A, 0x0B]
      | .recovery => w ∈ [0x00, 0x01, 0x02, 0x03, 0x04, 0x05, 0x06, 0x07, 0x09]
      | _ => decide (w < 0x20))

/-- World 0, tenant 0 may read the register (Table 20-1). -/
def pf0Reads (w o : Nat) : Bool :=
  decide (w ≤ 0x0C) || (decide (0x11 ≤ w) && decide (w ≤ 0x1B) && !(w == 0x14 && o == 0x01C)) ||
    (w == 0x1E && (o % 0x10 == 4 || decide (0x080 ≤ o)))

/-- The register at an offset holds: the offset of RNG_FIFO_DATA included. -/
def State.regAt (s : State) (p : Path) (off : Nat) : Option Nat :=
  match p with
  | .pf0 => if s.decodes (off / 0x10000) then (if off = 0x14001C then some 0 else s.reg false s.cards.sel off) else none
  | .vf n => if s.queDecoded ∧ s.fnOpen n ∧ off % 4 = 0 then
      (match s.fnPair n off with
      | some v => some (v % 2 ^ 32)
      | none => match (if 4 ≤ off then s.fnPair n (off - 4) else none) with
        | some v => some (v / 2 ^ 32)
        | none => s.fnReg n off) else none
  | .i3c => none
  | .debug => if s.mode = .dormant then none else s.reg true s.cards.sel off
  | .warden _ => if s.mode = .dormant ∨ ¬ s.unitOn 3 0 then none else s.reg false s.cards.sel off
  | .drover c => if s.mode = .dormant ∨ ¬ s.unitOn (4 + c / 8) 0 then none
      else if off = 0x14001C then some 0 else s.reg false s.cards.sel off

/-- The path may read a register that exists. A drover core reads as world 0, tenant 0, and so does the debug port under
drover_mem (R51). -/
def State.mayRead (s : State) (p : Path) (off : Nat) : Bool :=
  let w := off / 0x10000
  let o := off % 0x10000
  match p with
  | .pf0 | .drover _ => pf0Reads w o
  | .vf _ | .i3c | .warden _ => true
  | .debug => s.debugRight 4 || (s.debugRight 12 && w == 0x0B) || (s.debugRight 1 && pf0Reads w o)

/-- The 64-bit value whose low half stands at a path's offset. -/
def State.pairAt (s : State) (p : Path) (off : Nat) : Option Nat :=
  match p with
  | .vf n => s.fnPair n off
  | .i3c => none
  | _ => s.pair64 s.cards.sel (off / 0x10000) (off % 0x10000)

/-! ## Reads (R573, R576) -/

/-- Number of an access path in the map of captures. -/
def pathNum : Path → Nat
  | .pf0 => 0 | .i3c => 1 | .debug => 2 | .vf n => 0x10 + n | .warden c => 0x200 + c | .drover c => 0x300 + c

/-- Key of a path's capture of the pair at an offset. -/
def captureKey (p : Path) (off : Nat) : Nat := pathNum p * 2 ^ 24 + off

/-- One 4-byte read of a register that the path may read: a read of X_LO captures the pair, a read of X_HI gives the
captured half (R576). -/
def State.readWord (s : State) (p : Path) (off v : Nat) : State × Nat :=
  match s.pairAt p off with
  | some x => ({ s with captures := mapSet s.captures (captureKey p off) x }, x % 2 ^ 32)
  | none =>
    match (if 4 ≤ off then s.pairAt p (off - 4) else none) with
    | some x =>
      match mapFind s.captures (captureKey p (off - 4)) with
      | some c => (s, c / 2 ^ 32)
      | none => ({ s with captures := mapSet s.captures (captureKey p (off - 4)) x }, x / 2 ^ 32)
    | none => (s, v)

/-- An access that the path may not make (R18, R573). -/
def State.accessRefused (s : State) (p : Path) (off : Nat) : State :=
  match p with
  | .pf0 => { s with host := { s.host with barRefusals := sat32 s.host.barRefusals } }
  | .drover _ => (s.logEvent 0x0101 .warn islAlways 0 .ownerMismatch [off, 0]).emit .fault
  | _ => s

/-- A 4-byte read: the state after it and the value that it returns. -/
def State.read4 (s : State) (p : Path) (off : Nat) : State × Nat :=
  match s.regAt p off with
  | none => (s, 0)
  | some v => if s.mayRead p off then s.readWord p off v else (s.accessRefused p off, 0)

/-- Function through which a path comes, for BAR0 accesses. -/
def barFn : Path → Option Nat
  | .pf0 => some 0
  | .vf n => some n
  | _ => none

/-- PAIR_CAPTURE_READ: a read of 4 or 8 bytes (R95, R575, R576). RNG_FIFO_DATA gives its next word to a warden core. -/
def State.pairRead (s : State) (p : Path) (off : Nat) (eight : Bool) : State :=
  if off % (if eight then 8 else 4) ≠ 0 then
    match barFn p with
    | some fn => s.misaligned fn false
    | none => s
  else
    match p, decide (off = 0x14001C ∧ ¬ eight) with
    | .warden _, true => s.readFifo
    | _, _ =>
      let (s1, lo) := s.read4 p off
      if eight then
        let (s2, hi) := s1.read4 p (off + 4)
        s2.emit (.regRead p off (BitVec.ofNat 64 (lo + 2 ^ 32 * hi)))
      else s1.emit (.regRead p off (BitVec.ofNat 64 lo))

/-! ## Writes (R573, R575) -/

/-- The low or high half of a 64-bit value is replaced. -/
def setHalf (old : Nat) (high : Bool) (v : Nat) : Nat :=
  if high then old % 2 ^ 32 + 2 ^ 32 * v else old / 2 ^ 32 * 2 ^ 32 + v

/-- A write of a ring base register (R106). -/
def State.writeRing (s : State) (fn q r : Nat) (v : Word32) : State :=
  let p := s.qp fn q
  if p.enabled ∨ p.draining then s
  else
    let lo := v.toNat / 4096 * 4096
    s.setQp fn q
      (if r = 0x00 then { p with sqBase := setHalf p.sqBase false lo }
       else if r = 0x04 then { p with sqBase := setHalf p.sqBase true v.toNat }
       else if r = 0x08 then { p with cqBase := setHalf p.cqBase false lo }
       else { p with cqBase := setHalf p.cqBase true v.toNat })

/-- A write of an MSI-X table entry; a pending message leaves when its mask goes. -/
def State.writeVector (s : State) (fn v r : Nat) (x : Word32) : State :=
  let e := mapGet {} s.host.vectors (64 * fn + v)
  let e1 : Vector :=
    if r = 0 then { e with addr := setHalf e.addr false x.toNat } else if r = 4 then { e with addr := setHalf e.addr true x.toNat }
    else if r = 8 then { e with data := x.toNat } else { e with masked := x.getLsbD 0, pending := e.pending && x.getLsbD 0 }
  let s1 : State := { s with host := { s.host with vectors := mapPut {} s.host.vectors (64 * fn + v) e1 } }
  if e.pending ∧ ¬ e1.pending then s1.emit (.msix fn v) else s1

/-- A write to a function window (Table 20-3); none where the register cannot be written. -/
def State.fnWrite (s : State) (fn o : Nat) (v : Word32) : Option State :=
  let q := o / 0x40
  let r := o % 0x40
  if q < windowQueues fn then
    if s.qpCount fn ≤ q then some s
    else if r < 0x10 then some (s.writeRing fn q r v)
    else if r = 0x10 then some (if v.getLsbD 0 then s.enableQueue fn q v else s.disableQueue fn q v)
    else none
  else if 0x1000 ≤ o ∧ o < 0x1000 + 8 * windowQueues fn then
    let d := (o - 0x1000) / 8
    some (if o % 8 = 0 then s.sqTail fn d v.toNat else s.cqHead fn d v.toNat)
  else if 0x3000 ≤ o ∧ o < 0x3000 + 0x10 * windowVectors fn then
    some (s.writeVector fn ((o - 0x3000) / 0x10) (o % 0x10) v)
  else none

/-- A write by PF0 of a register that exists; none where PF0 has no write access (Table 20-1, R571, R533, R545). -/
def State.pf0Write (s : State) (w o : Nat) (v : Word32) : Option State :=
  if w = 0x05 then s.fnWrite 0 o v
  else if w = 0x06 then some (s.writeWindow (o / 0x100) (o / 0x20 % 8) (o % 0x20) v)
  else if w = 0x07 ∧ o = 0 then
    some (if v.getLsbD 0 then { s with host := { s.host with writeRefused := false } } else s)
  else if w = 0x08 ∧ o = 0 then
    some (s.powerWrite (v.toNat % 32) (v.toNat / 32 % 4) (BitVec.ofNat 16 (v.toNat / 2 ^ 8)) (v.getLsbD 7)
      (BitVec.ofNat 8 (v.toNat / 2 ^ 24)))
  else if w = 0x09 ∧ o = 0x004 then some (s.msixEdge { s with irq := { s.irq with msixEn := v.setWidth 8 } })
  else if w = 0x09 ∧ o = 0x008 then some { s with irq := { s.irq with attnEn := v.setWidth 8 } }
  else if w = 0x09 ∧ 0x010 ≤ o ∧ o < 0x030 then some (s.groupClear ((o - 0x010) / 4) v)
  else if w = 0x0A ∧ o = 0x004 ∧ s.mode = .felled then
    some { s with irq := { s.irq with cause := mapPut 0 s.irq.cause (leafNum .tmp) (s.cause .tmp &&& ~~~ v) } }
  else if w = 0x0B ∧ o = 0x040 ∧ s.mode = .felled then some (s.peek .pf0 v)
  else none

/-- The leaf whose cause, or with true whose enables, stand at an offset. -/
def leafAt (w o : Nat) : Option (Leaf × Bool) :=
  if w = 0x0A then (if o = 0x004 then some (.tmp, false) else if o = 0x008 then some (.tmp, true) else none)
  else if w = 0x08 then (if o = 0x00C then some (.pwr, false) else if o = 0x010 then some (.pwr, true) else none)
  else if w = 0x09 then
    (if o = 0x040 then some (.integrity, false) else if o = 0x044 then some (.integrity, true)
     else if o = 0x048 then some (.system, false) else if o = 0x04C then some (.system, true)
     else if o = 0x050 then some (.queue, false) else if o = 0x054 then some (.queue, true) else none)
  else if w = 0x0F then (if o = 0x000 then some (.crd, false) else if o = 0x004 then some (.crd, true) else none)
  else if w = 0x10 then (if o = 0x000 then some (.trn, false) else if o = 0x004 then some (.trn, true) else none)
  else if w = 0x19 then (if o = 0x400 then some (.ndl, false) else if o = 0x404 then some (.ndl, true) else none)
  else if w = 0x1A then (if o = 0x018 then some (.twn, false) else if o = 0x01C then some (.twn, true) else none)
  else if w = 0x1B then (if o = 0x02C then some (.car, false) else if o = 0x030 then some (.car, true) else none)
  else none

/-- A write of RSW_CTRL (Table 13-6): key_index is ignored while a resaw is active. -/
def State.writeResaw (s : State) (v : Word32) : State :=
  let s1 : State := { s with rsw := { s.rsw with
    ctrlKey := if s.rsw.active then s.rsw.ctrlKey else v.toNat % 256, pace := v.toNat / 2 ^ 16 % 256 } }
  if v.getLsbD 8 then s1.resawStart none else s1

/-- A write of NDL_PORTn_CTRL (Table 14-14). -/
def State.writePort (s : State) (n : Nat) (v : Word32) : State :=
  let s1 := if v.getLsbD 0 = (s.port n).enable then s else s.portEnable n (v.getLsbD 0)
  let s2 := if v.getLsbD 1 then s1.retrainWrite n else s1
  if v.getLsbD 2 then s2.dropWrite n else s2

/-- A write of an MPU register (Tables 16-6 to 16-9). -/
def State.writeMpu (s : State) (p : Path) (o : Nat) (v : Word32) : State :=
  let m := o / 0x400
  let r := o % 0x400
  if r = 0x000 then
    match p with
    | .drover c => if m = 4 + c then s.setStraddle c (v.getLsbD 0) else s
    | _ => s
  else if r = 0x004 then
    match p with
    | .warden _ =>
      let i := mapGet 0 s.iso.faultInfo m
      if v.getLsbD 0 then { s with iso := { s.iso with faultInfo := mapPut 0 s.iso.faultInfo m (i &&& ~~~ 1) } } else s
    | _ => s
  else if 0x100 ≤ r ∧ r < 0x300 then s.mpuWrite p m ((r - 0x100) / 0x10) (r % 0x10) v
  else s

/-- A write by the warden world of a register that exists. -/
def State.wardenWrite (s : State) (w o : Nat) (v : Word32) : State :=
  match leafAt w o with
  | some (l, false) => s.leafClear l v
  | some (l, true) => s.enableLeaf l v
  | none =>
    if w = 0x0B ∧ o = 0x040 then s.peek (.warden 0) v
    else if w = 0x0E ∧ o = 0x000 then { s with cards := { s.cards with sel := v.toNat % 256 } }
    else if w = 0x17 ∧ o = 0x008 then { s with smc := { s.smc with mark0 := v &&& 0x7F } }
    else if w = 0x17 ∧ o = 0x00C then { s with smc := { s.smc with mark1 := v &&& 0x7F } }
    else if w = 0x18 ∧ o = 0x000 then s.writeResaw v
    else if w = 0x19 ∧ o < 0x400 ∧ o % 0x100 = 0 then s.writePort (o / 0x100) v
    else if w = 0x1C ∧ o = 0x000 then { s with iso := { s.iso with potIndex := v.toNat % 2 ^ 17 } }
    else if w = 0x1C ∧ o = 0x004 then s.potWrite (v.setWidth 16)
    else if w = 0x1D then s.writeMpu (.warden 0) o v
    else if w = 0x1E ∧ o < 0x080 ∧ o % 0x10 = 0 then s.groupOwner (o / 0x10) v
    else if w = 0x1F ∧ o < 0x030 then s.dmaAssign (o / 4) v
    else if w = 0x1F ∧ 0x100 ≤ o ∧ o < 0x300 then
      (if v.toNat % 32 ≤ 19 then s.irqRoute ((o - 0x100) / 4) (v.toNat % 32) else s)
    else s

/-- PWR_CLK_OVERRIDE_n by the debug port, with clock_override in force (R566). -/
def State.clockWrite (s : State) (n mhz : Nat) : State :=
  if s.mode ≠ .dormant ∧ s.debugRight 11 ∧ overrideOk n mhz then
    { s with pwr := { s.pwr with override := mapPut 0 s.pwr.override n mhz } }
  else s

/-- A write by the debug port (R51, R545, R554, R571). -/
def State.debugWrite (s : State) (w o : Nat) (v : Word32) : State :=
  if w = 0x0C ∧ o = 0x020 then s.breakWrite v
  else if w = 0x0B ∧ o = 0x040 then s.peek .debug v
  else if w = 0x08 ∧ 0x140 ≤ o ∧ o < 0x174 then s.clockWrite ((o - 0x140) / 4) (v.toNat % 2 ^ 16)
  else if s.debugRight 4 then s.wardenWrite w o v
  else s

/-- One 4-byte write. -/
def State.write4 (s : State) (p : Path) (off : Nat) (v : Word32) : State :=
  let w := off / 0x10000
  let o := off % 0x10000
  if (s.regAt p off).isNone then s
  else match p with
    | .pf0 => (s.pf0Write w o v).getD (s.accessRefused .pf0 off)
    | .vf n => (s.fnWrite n off v).getD s
    | .i3c => s
    | .debug => s.debugWrite w o v
    | .warden _ => if s.mode = .felled then s else s.wardenWrite w o v
    | .drover c => if w = 0x1D ∧ o / 0x400 = 4 + c then s.writeMpu (.drover c) o v else s.accessRefused (.drover c) off

/-- REGISTER_WRITE: 4 bytes, or the 4 at the lower offset and then the 4 at the higher (R95, R575). -/
def State.regWrite (s : State) (p : Path) (off : Nat) (v : BitVec 64) (eight : Bool) : State :=
  if off % (if eight then 8 else 4) ≠ 0 then
    match barFn p with
    | some fn => s.misaligned fn true
    | none => s
  else
    let s1 := s.write4 p off (v.setWidth 32)
    if eight then s1.write4 p (off + 4) ((v >>> 32).setWidth 32) else s1

/-! ## The I3C port (R585, R604) -/

/-- The PF0 offset of an I3C register index (Table 20-14). -/
def i3cOffset (i : Nat) : Option Nat :=
  if i = 0x000 then some 0x00000 else if i = 0x001 then some 0x00004 else if i = 0x002 then some 0x00008
  else if i = 0x003 then some 0x0000C else if i = 0x004 then some 0x00018
  else if i = 0x008 then some 0x10000 else if i = 0x009 then some 0x10004
  else if i = 0x010 then some 0xA0000 else if i = 0x011 then some 0xA0004 else if i = 0x012 then some 0xA000C
  else if 0x014 ≤ i ∧ i ≤ 0x019 then some (0xA0040 + 4 * (i - 0x014))
  else if i = 0x020 then some 0x90000
  else if 0x021 ≤ i ∧ i ≤ 0x028 then some (0x90010 + 4 * (i - 0x021))
  else if i = 0x030 then some 0x80008 else if i = 0x031 then some 0x1A0000 else if i = 0x032 then some 0x170000
  else if i = 0x033 then some 0x140000 else if i = 0x034 then some 0x20000
  else if 0x040 ≤ i ∧ i ≤ 0x05F then some (0x30000 + 4 * (i - 0x040))
  else if i = 0x060 then some 0x30200 else none

/-- The register of an index as the port reads it: outside TOP, LCS, TAL and IRQ its reset value in RAW, SCRAPPED and
LOCKED. -/
def State.i3cWord (s : State) (i : Nat) : State × Nat :=
  match i3cOffset i with
  | none => (s, 0)
  | some off =>
    if s.sealedLife ∧ ¬ off / 0x10000 ∈ [0x00, 0x01, 0x03, 0x09] then (s, (State.reset.reg false 0 off).getD 0)
    else
      let x := (s.reg false 0 off).getD 0
      if off = 0x00004 then ({ s with captures := mapSet s.captures (captureKey .i3c off) s.otp.serial }, x)
      else if off = 0x00008 then
        match mapFind s.captures (captureKey .i3c 0x00004) with
        | some c => (s, c / 2 ^ 32)
        | none => ({ s with captures := mapSet s.captures (captureKey .i3c 0x00004) s.otp.serial }, x)
      else (s, x)

/-- Registers from an index on, 4 bytes each. -/
def State.i3cWords : Nat → Nat → State → State × Bytes
  | 0, _, s => (s, [])
  | n + 1, i, s =>
    let (s1, x) := s.i3cWord (i % 2 ^ 16)
    let (s2, b) := State.i3cWords n (i + 1) s1
    (s2, natLE 4 x ++ b)

/-- I3C_PRIVATE_WRITE. -/
def State.i3cWrite (s : State) (data : Bytes) : State :=
  if s.mode = .dormant ∨ data.length < 2 then s else { s with ports := { s.ports with index := fld data 0 2 } }

/-- I3C_PRIVATE_READ of so many bytes. -/
def State.i3cRead (s : State) (n : Nat) : State :=
  if s.mode = .dormant then s
  else
    let (s1, b) := State.i3cWords (ceilDiv n 4) s.ports.index s
    ({ s1 with ports := { s1.ports with index := (s1.ports.index + n / 4) % 2 ^ 16 } } : State).emit (.i3c (b.take n))

/-- A CCC that the port accepts, with what it returns. -/
def State.ccc (s : State) (b : Bytes) : State := if s.mode = .dormant then s else s.emit (.ccc b)

/-- SETDASA. -/
def State.setAddress (s : State) (a : Option (BitVec 7)) : State :=
  if s.mode = .dormant then s else ({ s with ports := { s.ports with dynamic := a } } : State).emit (.ccc [])

/-! ## The JTAG port (R48, R605) -/

/-- An instruction is loaded. -/
def State.jtag (s : State) (code : Byte) : State :=
  if s.mode = .dormant then s else { s with ports := { s.ports with instr := code } }

/-- An instruction is loaded and bits leave on TDO or the balls. -/
def State.jtagOut (s : State) (code : Byte) (bits : Nat) : State :=
  if s.mode = .dormant then s else (s.jtag code).emit (.jtag bits)

/-- IDCODE. -/
def State.idcode (s : State) : State := s.jtagOut 0x01 0x000646B7

/-- SAMPLE/PRELOAD: the balls are captured and the boundary register is loaded. -/
def State.sample (s : State) (balls shift : Bytes) : State :=
  if s.mode = .dormant then s
  else
    let s1 : State := { s with ports := { s.ports with captured := balls, boundary := shift } }
    s1.jtagOut 0x02 (leNat balls)

/-- EXTEST and CLAMP drive the balls from the boundary register. -/
def State.drive (s : State) (code : Byte) : State := s.jtagOut code (leNat s.ports.boundary)

/-- Some right of Table 2-7 is in force. -/
def State.anyRight (s : State) : Bool := (List.range 14).any s.debugRight

/-- A code that selects BYPASS now (Table 21-15). -/
def State.takesBypass (s : State) (code : Byte) : Bool :=
  let c := code.toNat
  !(decide (1 ≤ c) && decide (c ≤ 5)) && !(c == 0x20 && s.life == .raw) &&
    !(decide (0x40 ≤ c) && decide (c ≤ 0x4F) && s.anyRight)

/-- BYPASS. -/
def State.bypass (s : State) (code : Byte) : State := if s.takesBypass code then s.jtagOut 0xFF 0 else s

/-- A TAP reset. -/
def State.tapReset (s : State) : State := s.jtag 0x01

/-! ## The debug port (R50, R51, R199, R289) -/

/-- Right that an operation needs (Table 2-7). A core number below 4 is a warden core's. -/
def debugNeeds : DebugOp → Nat
  | .haltCore c | .stepCore c | .resumeCore c | .coreRegs c => if c < 4 then 3 else 0
  | .memRead w .. | .memWrite w .. => if w then 4 else 1
  | .trace c => if c < 4 then 5 else 2
  | .arrayRead .. => 6
  | .laneScan .. => 7
  | .mbist .. => 8
  | .phyTest => 9
  | .sdramRead _ | .sdramWrite .. => 10
  | .logRead _ => 12

/-- Power unit of a core. -/
def coreUnit (c : Nat) : Nat := if c < 4 then 3 else 4 + (c - 4) / 8

/-- Security attribute of the debug port (R51). -/
def debugAttr (warden : Bool) : BitVec 9 := if warden then 0x100 else 0

/-- Bytes of an array from an address take what the self-test leaves. -/
def State.testBytes (s : State) (lo n : Nat) : State :=
  { s with mem := memStore s.mem lo ((List.range n).map fun i => Config.mbistByte s.tick (lo + i)) }

/-- Memory built-in self-test destroys an array: in FACTORY and RAW any, in OWNED and RETIRED a local RAM or a bank group of
drover tenant 0. Entries of an array under check codes, tags or a marker fail their checks from then on (R20, R68, R167,
R538). -/
def State.mbist (s : State) (a : ArrayKind) (i : Nat) : State :=
  let open_ := s.life == .factory || s.life == .raw
  match a with
  | .localRam => if i < 20 ∧ (open_ ∨ 4 ≤ i) then s.testBytes (0x08000000 + 0x80000 * i) 0x80000 else s
  | .scratch => if i < 8 ∧ (open_ ∨ (s.bank i).owner = 0) then s.testBytes (0x04000000 + i * 2 ^ 21) (2 ^ 21) else s
  | .vault => if open_ then { s with vault := {}, lcs := { s.lcs with warrantActive := false } } else s
  | .cellar => if open_ then { s with cel := { s.cel with slots := [], felledAt := [] } } else s
  | .board => if open_ then { s with board := { s.board with heads := [], ctx := [] } } else s
  | .hmacCache => if open_ then { s with cel := { s.cel with cache := [] } } else s
  | .ringLog => if open_ then { s with log := { s.log with slots := [] } } else s
  | .capture => if open_ then { s with rpl := { s.rpl with items := [], captured := false } } else s
  | .operand => s
  | .pot => if open_ then { s with poison := (arrayNum .pot, i) :: s.poison.filter (· != (arrayNum .pot, i)) } else s

/-- What a debug operation does, its right in force. -/
def State.debugOp (s : State) (op : DebugOp) : State :=
  match op with
  | .haltCore c =>
    if c < 20 ∧ s.unitOn (coreUnit c) 0 then
      { s with ports := { s.ports with halted := c :: s.ports.halted.filter (· != c) } } else s
  | .stepCore _ => s
  | .resumeCore c =>
    { s with
      ports := { s.ports with halted := s.ports.halted.filter (· != c) }
      rpl := if 4 ≤ c then { s.rpl with halted := false } else s.rpl }
  | .coreRegs c => s.emit (.debug (Config.coreRegs c s.tick))
  | .trace c => s.emit (.debug (Config.coreTrace c s.tick))
  | .memRead w a n =>
    if n = 0 then s
    else match s.busCheck (debugAttr w) a n false with
      | some s1 => s1.emit (.debug (zeros n))
      | none =>
        let (s1, b) := s.busLoad a n
        s1.emit (.debug (b.getD (zeros n)))
  | .memWrite w a b =>
    if b = [] then s
    else match s.busCheck (debugAttr w) a b.length true with
      | some s1 => s1
      | none => s.busStore a b
  | .arrayRead a i => s.emit (.debug (Config.storedRow (arrayNum a) i))
  | .laneScan k l => s.emit (.debug (Config.scanOut (kindNum k) l))
  | .mbist a i => s.mbist a i
  | .phyTest => s
  | .sdramRead l =>
    if s.smcReady ∧ 64 * l < s.smcCapacity then s.emit (.debug ((mapFind s.smc.lines l).getD (Config.rawLine l))) else s
  | .sdramWrite l b =>
    if s.smcReady ∧ 64 * l < s.smcCapacity then { s with smc := { s.smc with lines := mapSet s.smc.lines l (padTo 80 b) } }
    else s
  | .logRead i =>
    let s1 := s.peek .debug (BitVec.ofNat 32 i)
    s1.emit (.debug (((mapFind s1.log.slots (i % 16384)).map logBytes).getD (zeros 64)))

/-- DEBUG_ACCESS: an instruction 0x40 to 0x4F acts where its right is in force, and is BYPASS otherwise. Which code is for
which right the spec does not say: the model takes any of them with any operation. -/
def State.debugAccess (s : State) (code : Byte) (op : DebugOp) : State :=
  if s.mode = .dormant then s
  else if 0x40 ≤ code.toNat ∧ code.toNat ≤ 0x4F ∧ s.debugRight (debugNeeds op) then (s.jtag code).debugOp op
  else s.jtagOut 0xFF 0

end Sys2Proof.Machine
end

