-- ==== Sys2Proof/Machine/Sessions.lean ====
section
/-! DEFINITION. Sessions, outcome queries, attestation and GET_INFO (R135 to R139, R146, R147, R150, R583, R584). -/

namespace Sys2Proof.Machine

/-- A session's key (R136): shared x-coordinate, host_mac as salt. -/
def sessionKey (shared hostMac : Bytes) (tenant id : Nat) : Bytes :=
  hkdf256 shared hostMac (ascii "KH64-SESSION" ++ natLE 1 tenant ++ natLE 2 id) 32

/-- The lowest session number that a tenant does not use. DESIGN CHOICE (entry 11). -/
def State.freeSession (s : State) (tenant : Nat) : Option Nat :=
  ((List.range 16).map (· + 1)).find? fun i => s.sessions.all fun x => !(x.tenant == tenant && x.id == i)

/-- SESSION_OPEN (R135, R136). -/
def sessionOpen (c : Cmd) (s : State) : State × Did :=
  let b := c.body
  let pub := sub b 4 64
  let mac := sub b 0x44 32
  if b.length ≠ 0x64 then (s, .done (fail .bodyInvalid))
  else s.withKey c.tenant (fld b 0 4)
    { fits := fun x => x.type == 5, use := fun _ => useBit 12, units := some fun _ => 1 } fun s i => s.withMaterial i fun m =>
      if hmac256 m (natLE 6 c.record.seq ++ pub) ≠ mac then (s, .done (fail .authMacInvalid))
      else if ¬ p256Curve.validPoint 32 pub then (s, .done (fail .pointInvalid))
      else match s.freeSession c.tenant with
        | none => (s, .done (fail .sessionLimit))
        | some id => s.withRandom 40 fun s k =>
          let d := p256Curve.scalar k
          let dev := pointBytes 32 (p256Curve.mul d p256Curve.base)
          let key := sessionKey (p256Curve.shared 32 d pub) mac c.tenant id
          ({ s with sessions := s.sessions ++ [{ tenant := c.tenant, id, key }] },
            .done { body := natLE 2 id ++ zeros 2 ++ dev ++ hmac256 m (natLE 2 id ++ pub ++ dev) })

/-- SESSION_CLOSE ends the session that its header names (R139). -/
def sessionClose (c : Cmd) (s : State) : State × Did :=
  if c.body ≠ [] then (s, .done (fail .bodyInvalid))
  else if ¬ c.record.isSealed then (s, .done (fail .sessionUnknown))
  else
    let id := fld c.record.raw 0x16 2
    ({ s with sessions := s.sessions.filter fun x => !(x.tenant == c.tenant && x.id == id) }, .done {})

/-! ## ASK_OUTCOME (R146, R147) -/

/-- A number is at most the floor, or below its KH-1 queue pair's QUE_SEQ_NEXT (Table 5-5). -/
def State.evicted (s : State) (tenant seq : Nat) : Bool :=
  if seq < 2 ^ 47 then decide (seq ≤ s.floor tenant)
  else
    let q := (seq - 2 ^ 47) / 2 ^ 43
    decide (seq < 2 ^ 47 + q * 2 ^ 43 + (s.qp tenant q).seqCount)

/-- One entry of the response (Table 5-4). The command's own record is one of those running. -/
def State.askEntry (s : State) (tenant seq : Nat) : Bytes :=
  let entry (st flags status detail : Nat) : Bytes :=
    natLE 6 seq ++ natLE 1 st ++ natLE 1 flags ++ natLE 2 status ++ natLE 2 detail ++ zeros 4
  if s.running.any fun x => x.record.tenant == tenant && x.record.seq == seq then entry 3 0 0 0xFFFF
  else if s.waiting.any fun r => r.tenant == tenant && r.seq == seq then entry 2 0 0 0xFFFF
  else match s.outcome tenant seq with
    | some o =>
      if o.running then entry 3 0 0 0xFFFF
      else entry 4 (if o.lone then 1 else 0) (statusCode o.status) o.detail
    | none => entry (if s.evicted tenant seq then 1 else 0) 0 0 0xFFFF

/-- ASK_OUTCOME. -/
def askOutcome (c : Cmd) (s : State) : State × Did :=
  let n := fld c.body 0 2
  if n = 0 ∨ 256 < n ∨ c.body.length ≠ 8 + 8 * n ∨ ¬ zeroAt c.body 2 6 ∨
      ¬ (List.range n).all (fun i => zeroAt c.body (8 + 8 * i + 6) 2) then (s, .done (fail .bodyInvalid))
  else (s, .done { body := (List.range n).flatMap fun i => s.askEntry c.tenant (fld c.body (8 + 8 * i) 6) })

/-! ## ATTEST (R150) -/

/-- The attestation before its signature (Table 5-6). -/
def State.attestBytes (s : State) (tenant : Nat) (challenge : Bytes) : Bytes :=
  challenge ++ natLE 8 s.otp.serial ++ natLE 1 (lifeCode s.life) ++ natLE 1 (modeCode s.mode) ++ natLE 2 tenant ++
    natLE 4 s.man.version ++ padTo 48 s.man.measure ++ natLE 4 s.rights.toNat ++ natLE 4 s.vault.bootCount ++
    natLE 8 s.twinSerial ++ padTo 48 (sha384 s.identityPub)

/-- ATTEST. -/
def attest (c : Cmd) (s : State) : State × Did :=
  if c.body.length ≠ 32 then (s, .done (fail .bodyInvalid))
  else if ¬ s.laneAny .bigNumber then (s, .done (fail .laneUnavailable))
  else s.withRandom 56 fun s k =>
    let b := s.attestBytes c.tenant c.body
    (s, .job .bigNumber (curveCycles 1600 6) [] { body := b ++ s.identitySig (sha384 b) k })

/-! ## GET_INFO (R583, R584) -/

/-- Registers that a tenant other than 0 may ask for. -/
def tenantInfo (off : Nat) : Bool :=
  let w := off / 0x10000
  decide (w ≤ 0x03) || w == 0x0E ||
    off ∈ [0x110000, 0x120000, 0x130000, 0x130004, 0x160000, 0x140000, 0x080008, 0x0A0000, 0x1A0000, 0x1B0004, 0x1B0000]

/-- Registers that no GET_INFO reads. -/
def hiddenInfo (off : Nat) : Bool :=
  let w := off / 0x10000
  w ∈ [0x05, 0x06, 0x07, 0x1C, 0x1D, 0x1F] || off == 0x14001C || off == 0x0B0040 || (decide (0x0B0080 ≤ off) && decide (off < 0x0B00C0))

/-- One entry of the response. -/
def State.infoEntry (s : State) (tenant off : Nat) : Bytes :=
  match (if hiddenInfo off ∨ (tenant ≠ 0 ∧ ¬ tenantInfo off) then none else s.reg false tenant off) with
  | some v => natLE 4 off ++ natLE 4 v
  | none => natLE 4 (off + 2 ^ 31) ++ zeros 4

/-- GET_INFO: every value is of one tick, so the two halves of a pair are of one capture. -/
def getInfo (c : Cmd) (s : State) : State × Did :=
  let n := fld c.body 0 2
  let offs := (List.range n).map fun i => fld c.body (8 + 4 * i) 4
  if n = 0 ∨ 64 < n ∨ c.body.length ≠ 8 + 4 * n ∨ ¬ zeroAt c.body 2 6 ∨ offs.any (fun o => o % 4 != 0 || decide (0x400000 ≤ o))
  then (s, .done (fail .bodyInvalid))
  else (s, .done { body := natLE 2 n ++ zeros 6 ++ offs.flatMap (s.infoEntry c.tenant) })

end Sys2Proof.Machine
end

