-- ==== Sys2Proof/Machine/RowsCommand.lean ====
section
/-! DEFINITION. The rows of sessions, modes, capture and replay commands (chapters 3, 5, 18 and 20). -/

namespace Sys2Proof.Machine

/-- SESSION_OPEN (R135). -/
def execSessionOpen (t : Tick) (r : RecRef) (s : State) : Host.Outcome State Fault Refusal :=
  if r.ok then s.act t fun s => s.runCommand 0x0101 Sys2Proof.Machine.sessionOpen r else .fault .noSuchUnit

/-- SESSION_CLOSE (R139). -/
def execSessionClose (t : Tick) (r : RecRef) (s : State) : Host.Outcome State Fault Refusal :=
  if r.ok then s.act t fun s => s.runCommand 0x0102 Sys2Proof.Machine.sessionClose r else .fault .noSuchUnit

/-- ASK_OUTCOME (R146). -/
def execAskOutcome (t : Tick) (r : RecRef) (s : State) : Host.Outcome State Fault Refusal :=
  if r.ok then s.act t fun s => s.runCommand 0x0103 Sys2Proof.Machine.askOutcome r else .fault .noSuchUnit

/-- GET_INFO (R583). -/
def execGetInfo (t : Tick) (r : RecRef) (s : State) : Host.Outcome State Fault Refusal :=
  if r.ok then s.act t fun s => s.runCommand 0x0104 Sys2Proof.Machine.getInfo r else .fault .noSuchUnit

/-- ATTEST (R150). -/
def execAttest (t : Tick) (r : RecRef) (s : State) : Host.Outcome State Fault Refusal :=
  if r.ok then s.act t fun s => s.runCommand 0x0105 Sys2Proof.Machine.attest r else .fault .noSuchUnit

/-- MUSTER_COMPLETE (R90). -/
def execMusterComplete (t : Tick) (r : RecRef) (s : State) : Host.Outcome State Fault Refusal :=
  if r.ok then s.act t fun s => s.runCommand 0x0106 Sys2Proof.Machine.musterComplete r else .fault .noSuchUnit

/-- DROWSE_ENTER (R59). -/
def execDrowseEnter (t : Tick) (r : RecRef) (s : State) : Host.Outcome State Fault Refusal :=
  if r.ok then s.act t fun s => s.runCommand 0x0107 Sys2Proof.Machine.drowseEnter r else .fault .noSuchUnit

/-- CAPTURE_START (R547). -/
def execCaptureStart (t : Tick) (r : RecRef) (s : State) : Host.Outcome State Fault Refusal :=
  if r.ok then s.act t fun s => s.runCommand 0x0A04 Sys2Proof.Machine.captureStart r else .fault .noSuchUnit

/-- CAPTURE_STOP (R547). -/
def execCaptureStop (t : Tick) (r : RecRef) (s : State) : Host.Outcome State Fault Refusal :=
  if r.ok then s.act t fun s => s.runCommand 0x0A05 Sys2Proof.Machine.captureStop r else .fault .noSuchUnit

/-- REPLAY_START (R550). -/
def execReplayStart (t : Tick) (r : RecRef) (s : State) : Host.Outcome State Fault Refusal :=
  if r.ok then s.act t fun s => s.runCommand 0x0A06 Sys2Proof.Machine.replayStart r else .fault .noSuchUnit

/-- REPLAY_STOP (R553). -/
def execReplayStop (t : Tick) (r : RecRef) (s : State) : Host.Outcome State Fault Refusal :=
  if r.ok then s.act t fun s => s.runCommand 0x0A07 Sys2Proof.Machine.replayStop r else .fault .noSuchUnit

end Sys2Proof.Machine
end

