-- ==== Sys2Proof/Machine/RowsHost.lean ====
section
/-! DEFINITION. The rows of the host attachment (chapter 4). -/

namespace Sys2Proof.Machine

/-- SQ_TAIL_DOORBELL (R107). -/
def execSqTailDoorbell (t : Tick) (fn q v : Nat) (s : State) : Host.Outcome State Fault Refusal :=
  if fn ≤ 255 ∧ q ≤ 15 then s.act t fun s => s.sqTail fn q v else .fault .noSuchUnit

/-- CQ_HEAD_DOORBELL (R107). -/
def execCqHeadDoorbell (t : Tick) (fn q v : Nat) (s : State) : Host.Outcome State Fault Refusal :=
  if fn ≤ 255 ∧ q ≤ 15 then s.act t fun s => s.cqHead fn q v else .fault .noSuchUnit

/-- SQ_ENTRY_FETCHED (R112). -/
def execSqEntryFetched (t : Tick) (fn q : Nat) (f : Fetched) (s : State) : Host.Outcome State Fault Refusal :=
  if fn ≤ 255 ∧ q ≤ 15 then s.act t fun s => s.fetch fn q f else .fault .noSuchUnit

/-- QUEUE_ENABLE (R106). -/
def execQueueEnable (t : Tick) (fn q : Nat) (v : Word32) (s : State) : Host.Outcome State Fault Refusal :=
  if fn ≤ 255 ∧ q ≤ 15 then s.act t fun s => s.enableQueue fn q v else .fault .noSuchUnit

/-- QUEUE_DISABLE (R118). -/
def execQueueDisable (t : Tick) (fn q : Nat) (v : Word32) (s : State) : Host.Outcome State Fault Refusal :=
  if fn ≤ 255 ∧ q ≤ 15 then s.act t fun s => s.disableQueue fn q v else .fault .noSuchUnit

/-- QUEUE_DRAIN_END (R118). -/
def execQueueDrainEnd (t : Tick) (fn q : Nat) (s : State) : Host.Outcome State Fault Refusal :=
  if fn ≤ 255 ∧ q ≤ 15 then s.act t fun s => s.drainEnd fn q else .fault .noSuchUnit

/-- MSIX_AGGREGATION_TIMEOUT (R116). -/
def execMsixAggregationTimeout (t : Tick) (fn q : Nat) (s : State) : Host.Outcome State Fault Refusal :=
  if fn ≤ 255 ∧ q ≤ 15 then s.act t fun s => s.irqCheck fn q else .fault .noSuchUnit

/-- TTU_WINDOW_WRITE (R102). -/
def execTtuWindowWrite (t : Tick) (fn w reg : Nat) (v : Word32) (s : State) : Host.Outcome State Fault Refusal :=
  if fn ≤ 255 ∧ w ≤ 7 ∧ reg ≤ 16 ∧ reg % 4 = 0 then
    s.act t fun s => s.writeWindow fn w reg v
  else .fault .noSuchUnit

/-- FLR_START (R124). -/
def execFlrStart (t : Tick) (vf : Nat) (s : State) : Host.Outcome State Fault Refusal :=
  if 1 ≤ vf ∧ vf ≤ 255 then s.act t fun s => s.flrBegin vf else .fault .noSuchUnit

/-- FLR_COMPLETE (R125). -/
def execFlrComplete (t : Tick) (vf : Nat) (s : State) : Host.Outcome State Fault Refusal :=
  if 1 ≤ vf ∧ vf ≤ 255 then s.act t fun s => s.flrEnd vf else .fault .noSuchUnit

/-- VF_DISABLE (R97). -/
def execVfDisable (t : Tick) (vfEnable : Bool) (numVfs : Nat) (s : State) : Host.Outcome State Fault Refusal :=
  if numVfs ≤ 255 then s.act t fun s => s.setVfs vfEnable numVfs else .fault .noSuchUnit

/-- CONFIGURATION_REQUEST (R71). -/
def execConfigurationRequest (t : Tick) (fn : Nat) (c : CfgReq) (s : State) : Host.Outcome State Fault Refusal :=
  if fn ≤ 255 then s.act t fun s => s.configure fn c else .fault .noSuchUnit

/-- HOST_INTERFACE_RESET (R127). -/
def execHostInterfaceReset (t : Tick) (k : HifReset) (s : State) : Host.Outcome State Fault Refusal :=
  s.act t fun s => s.hostReset k

/-- BAR0_MISALIGNED_ACCESS (R95). -/
def execBar0MisalignedAccess (t : Tick) (fn : Nat) (write : Bool) (s : State) : Host.Outcome State Fault Refusal :=
  if fn ≤ 255 then s.act t fun s => s.misaligned fn write else .fault .noSuchUnit

/-- POISONED_WRITE (R130). -/
def execPoisonedWrite (t : Tick) (fn : Nat) (s : State) : Host.Outcome State Fault Refusal :=
  if fn ≤ 255 then s.act t fun s => s.badTlp fn else .fault .noSuchUnit

/-- ECRC_FAILURE (R130). -/
def execEcrcFailure (t : Tick) (fn : Nat) (s : State) : Host.Outcome State Fault Refusal :=
  if fn ≤ 255 then s.act t fun s => s.badTlp fn else .fault .noSuchUnit

/-- DMA_COMPLETION (R129). -/
def execDmaCompletion (t : Tick) (fn q : Nat) (k : ReadKind) (stamp : Tick) (good : Bool) (s : State) : Host.Outcome State Fault Refusal :=
  if fn ≤ 255 ∧ q ≤ 15 then s.act t fun s => s.dmaDone fn q k stamp good else .fault .noSuchUnit

/-- COMPLETION_TIMEOUT (R129). -/
def execCompletionTimeout (t : Tick) (fn q : Nat) (k : ReadKind) (s : State) : Host.Outcome State Fault Refusal :=
  if fn ≤ 255 ∧ q ≤ 15 then s.act t fun s => s.dmaTimeout fn q k else .fault .noSuchUnit

/-- COMMAND_DEADLINE_EXPIRY (R148). -/
def execCommandDeadlineExpiry (t : Tick) (r : RecRef) (s : State) : Host.Outcome State Fault Refusal :=
  if r.ok then s.act t fun s => s.deadline r else .fault .noSuchUnit

/-- PCIE_LINK_UP (R127). -/
def execPcieLinkUp (t : Tick) (width speed : Nat) (s : State) : Host.Outcome State Fault Refusal :=
  if width ≤ 3 ∧ speed ≤ 7 then s.act t fun s => s.linkTrained width speed else .fault .noSuchUnit

end Sys2Proof.Machine
end

