-- ==== Sys2Proof/Machine/RowsKeys.lean ====
section
/-! DEFINITION. The rows of the key cellar and of quorums (chapters 6 and 7). -/

namespace Sys2Proof.Machine

/-- KEY_GENERATE (R200). -/
def execKeyGenerate (t : Tick) (r : RecRef) (s : State) : Host.Outcome State Fault Refusal :=
  if r.ok then s.act t fun s => s.runCommand 0x0201 Sys2Proof.Machine.keyGenerate r else .fault .noSuchUnit

/-- KEY_IMPORT (R200). -/
def execKeyImport (t : Tick) (r : RecRef) (s : State) : Host.Outcome State Fault Refusal :=
  if r.ok then s.act t fun s => s.runCommand 0x0202 Sys2Proof.Machine.keyImport r else .fault .noSuchUnit

/-- KEY_EXPORT (R200). -/
def execKeyExport (t : Tick) (r : RecRef) (s : State) : Host.Outcome State Fault Refusal :=
  if r.ok then s.act t fun s => s.runCommand 0x0203 Sys2Proof.Machine.keyExport r else .fault .noSuchUnit

/-- KEY_GREEN (R179). -/
def execKeyGreen (t : Tick) (r : RecRef) (s : State) : Host.Outcome State Fault Refusal :=
  if r.ok then s.act t fun s => s.runCommand 0x0204 Sys2Proof.Machine.keyGreen r else .fault .noSuchUnit

/-- KEY_SEASON (R181). -/
def execKeySeason (t : Tick) (r : RecRef) (s : State) : Host.Outcome State Fault Refusal :=
  if r.ok then s.act t fun s => s.runCommand 0x0205 Sys2Proof.Machine.keySeason r else .fault .noSuchUnit

/-- KEY_FELL (R185). -/
def execKeyFell (t : Tick) (r : RecRef) (s : State) : Host.Outcome State Fault Refusal :=
  if r.ok then s.act t fun s => s.runCommand 0x0206 Sys2Proof.Machine.keyFell r else .fault .noSuchUnit

/-- KEY_INFO (R200). -/
def execKeyInfo (t : Tick) (r : RecRef) (s : State) : Host.Outcome State Fault Refusal :=
  if r.ok then s.act t fun s => s.runCommand 0x0207 Sys2Proof.Machine.keyInfo r else .fault .noSuchUnit

/-- KH1_MAP_SET (R154). -/
def execKh1MapSet (t : Tick) (r : RecRef) (s : State) : Host.Outcome State Fault Refusal :=
  if r.ok then s.act t fun s => s.runCommand 0x0208 Sys2Proof.Machine.kh1MapSet r else .fault .noSuchUnit

/-- CELLAR_EXPORT (R202). -/
def execCellarExport (t : Tick) (r : RecRef) (s : State) : Host.Outcome State Fault Refusal :=
  if r.ok then s.act t fun s => s.runCommand 0x0209 Sys2Proof.Machine.cellarExport r else .fault .noSuchUnit

/-- CELLAR_RESTORE (R204). -/
def execCellarRestore (t : Tick) (r : RecRef) (s : State) : Host.Outcome State Fault Refusal :=
  if r.ok then s.act t fun s => s.runCommand 0x020A Sys2Proof.Machine.cellarRestore r else .fault .noSuchUnit

/-- TRUNK_IMPORT (R201). -/
def execTrunkImport (t : Tick) (r : RecRef) (s : State) : Host.Outcome State Fault Refusal :=
  if r.ok then s.act t fun s => s.runCommand 0x020B Sys2Proof.Machine.trunkImport r else .fault .noSuchUnit

/-- TRUNK_REPLACE (R208). -/
def execTrunkReplace (t : Tick) (r : RecRef) (s : State) : Host.Outcome State Fault Refusal :=
  if r.ok then s.act t fun s => s.runCommand 0x020C Sys2Proof.Machine.trunkReplace r else .fault .noSuchUnit

/-- DOMAIN_ROOT_SET (R201). -/
def execDomainRootSet (t : Tick) (r : RecRef) (s : State) : Host.Outcome State Fault Refusal :=
  if r.ok then s.act t fun s => s.runCommand 0x020D Sys2Proof.Machine.domainRootSet r else .fault .noSuchUnit

/-- CUSTODIAN_REMOVE (R219). -/
def execCustodianRemove (t : Tick) (r : RecRef) (s : State) : Host.Outcome State Fault Refusal :=
  if r.ok then s.act t fun s => s.runCommand 0x0802 Sys2Proof.Machine.custodianRemove r else .fault .noSuchUnit

/-- QUORUM_BEGIN (R222). -/
def execQuorumBegin (t : Tick) (r : RecRef) (s : State) : Host.Outcome State Fault Refusal :=
  if r.ok then s.act t fun s => s.runCommand 0x0803 Sys2Proof.Machine.quorumBegin r else .fault .noSuchUnit

/-- QUORUM_STATUS (R226). -/
def execQuorumStatus (t : Tick) (r : RecRef) (s : State) : Host.Outcome State Fault Refusal :=
  if r.ok then s.act t fun s => s.runCommand 0x0805 Sys2Proof.Machine.quorumStatus r else .fault .noSuchUnit

/-- QUORUM_CANCEL (R222). -/
def execQuorumCancel (t : Tick) (r : RecRef) (s : State) : Host.Outcome State Fault Refusal :=
  if r.ok then s.act t fun s => s.runCommand 0x0806 Sys2Proof.Machine.quorumCancel r else .fault .noSuchUnit

/-- SKIDDER_VISIT (R188). -/
def execSkidderVisit (t : Tick) (s : State) : Host.Outcome State Fault Refusal :=
  s.act t fun s => s.skid

end Sys2Proof.Machine
end

