-- ==== Sys2Proof/Machine/RowsLanes.lean ====
section
/-! DEFINITION. The rows of the lanes, and the digest and public-key commands (chapters 8 and 9). -/

namespace Sys2Proof.Machine

/-- DIGEST (R278). -/
def execDigest (t : Tick) (r : RecRef) (s : State) : Host.Outcome State Fault Refusal :=
  if r.ok then s.act t fun s => s.runCommand 0x0401 Sys2Proof.Machine.digest r else .fault .noSuchUnit

/-- HMAC_GENERATE (R280). -/
def execHmacGenerate (t : Tick) (r : RecRef) (s : State) : Host.Outcome State Fault Refusal :=
  if r.ok then s.act t fun s => s.runCommand 0x0402 Sys2Proof.Machine.hmacGenerate r else .fault .noSuchUnit

/-- HMAC_VERIFY (R278). -/
def execHmacVerify (t : Tick) (r : RecRef) (s : State) : Host.Outcome State Fault Refusal :=
  if r.ok then s.act t fun s => s.runCommand 0x0403 Sys2Proof.Machine.hmacVerify r else .fault .noSuchUnit

/-- DIGEST_SAVE (R284). -/
def execDigestSave (t : Tick) (r : RecRef) (s : State) : Host.Outcome State Fault Refusal :=
  if r.ok then s.act t fun s => s.runCommand 0x0404 Sys2Proof.Machine.digestSave r else .fault .noSuchUnit

/-- DIGEST_RESTORE (R285). -/
def execDigestRestore (t : Tick) (r : RecRef) (s : State) : Host.Outcome State Fault Refusal :=
  if r.ok then s.act t fun s => s.runCommand 0x0405 Sys2Proof.Machine.digestRestore r else .fault .noSuchUnit

/-- PK_SIGN (R313). -/
def execPkSign (t : Tick) (r : RecRef) (s : State) : Host.Outcome State Fault Refusal :=
  if r.ok then s.act t fun s => s.runCommand 0x0501 Sys2Proof.Machine.pkSign r else .fault .noSuchUnit

/-- PK_VERIFY (R313). -/
def execPkVerify (t : Tick) (r : RecRef) (s : State) : Host.Outcome State Fault Refusal :=
  if r.ok then s.act t fun s => s.runCommand 0x0502 Sys2Proof.Machine.pkVerify r else .fault .noSuchUnit

/-- PK_ENCRYPT (R313). -/
def execPkEncrypt (t : Tick) (r : RecRef) (s : State) : Host.Outcome State Fault Refusal :=
  if r.ok then s.act t fun s => s.runCommand 0x0503 Sys2Proof.Machine.pkEncrypt r else .fault .noSuchUnit

/-- PK_DECRYPT (R313). -/
def execPkDecrypt (t : Tick) (r : RecRef) (s : State) : Host.Outcome State Fault Refusal :=
  if r.ok then s.act t fun s => s.runCommand 0x0504 Sys2Proof.Machine.pkDecrypt r else .fault .noSuchUnit

/-- PK_KEYGEN (R308). -/
def execPkKeygen (t : Tick) (r : RecRef) (s : State) : Host.Outcome State Fault Refusal :=
  if r.ok then s.act t fun s => s.runCommand 0x0505 Sys2Proof.Machine.pkKeygen r else .fault .noSuchUnit

/-- PK_DERIVE (R314). -/
def execPkDerive (t : Tick) (r : RecRef) (s : State) : Host.Outcome State Fault Refusal :=
  if r.ok then s.act t fun s => s.runCommand 0x0506 Sys2Proof.Machine.pkDerive r else .fault .noSuchUnit

/-- CURVE_LOAD (R305). -/
def execCurveLoad (t : Tick) (r : RecRef) (s : State) : Host.Outcome State Fault Refusal :=
  if r.ok then s.act t fun s => s.runCommand 0x0507 Sys2Proof.Machine.curveLoad r else .fault .noSuchUnit

/-- LANE_JOB_DISPATCH (R253). -/
def execLaneJobDispatch (t : Tick) (k : LaneKind) (lane : Nat) (s : State) : Host.Outcome State Fault Refusal :=
  if (k = .cipher ∧ lane ≤ 15 ∨ k = .digest ∧ lane ≤ 7 ∨ k = .bigNumber ∧ lane ≤ 31 ∨ k = .decimal ∧ lane ≤ 3) then
    s.act t fun s => s.dispatch k lane
  else .fault .noSuchUnit

/-- MASK_RESEED_POINT (R268). -/
def execMaskReseedPoint (t : Tick) (lane : Nat) (s : State) : Host.Outcome State Fault Refusal :=
  if lane ≤ 15 then s.act t fun s => s.reseedPoint lane else .fault .noSuchUnit

/-- CIPHER_JOB_DONE (R267). -/
def execCipherJobDone (t : Tick) (lane : Nat) (fault : JobFault) (s : State) : Host.Outcome State Fault Refusal :=
  if lane ≤ 15 then s.act t fun s => s.cipherDone lane fault else .fault .noSuchUnit

/-- DIGEST_JOB_DONE (R277). -/
def execDigestJobDone (t : Tick) (lane : Nat) (fault : JobFault) (s : State) : Host.Outcome State Fault Refusal :=
  if lane ≤ 7 then s.act t fun s => s.digestDone lane fault else .fault .noSuchUnit

/-- BIG_NUMBER_JOB_DONE (R295). -/
def execBigNumberJobDone (t : Tick) (lane : Nat) (fault : JobFault) (discards : Nat) (s : State) : Host.Outcome State Fault Refusal :=
  if lane ≤ 31 then s.act t fun s => s.bigDone lane fault discards else .fault .noSuchUnit

end Sys2Proof.Machine
end

