-- ==== Sys2Proof/Machine/RowsLedger.lean ====
section
/-! DEFINITION. The rows of ledgers, postings and decimal arithmetic (chapters 11 and 12). -/

namespace Sys2Proof.Machine

/-- LEDGER_CREATE (R339). -/
def execLedgerCreate (t : Tick) (r : RecRef) (s : State) : Host.Outcome State Fault Refusal :=
  if r.ok then s.act t fun s => s.runCommand 0x0701 Sys2Proof.Machine.ledgerCreate r else .fault .noSuchUnit

/-- ACCOUNT_OPEN (R345). -/
def execAccountOpen (t : Tick) (r : RecRef) (s : State) : Host.Outcome State Fault Refusal :=
  if r.ok then s.act t fun s => s.runCommand 0x0702 Sys2Proof.Machine.accountOpen r else .fault .noSuchUnit

/-- ACCOUNT_SET_STATE (R346). -/
def execAccountSetState (t : Tick) (r : RecRef) (s : State) : Host.Outcome State Fault Refusal :=
  if r.ok then s.act t fun s => s.runCommand 0x0703 Sys2Proof.Machine.accountSetState r else .fault .noSuchUnit

/-- POST_LEGS (R356). -/
def execPostLegs (t : Tick) (r : RecRef) (s : State) : Host.Outcome State Fault Refusal :=
  if r.ok then s.act t fun s => s.runCommand 0x0704 Sys2Proof.Machine.postLegs r else .fault .noSuchUnit

/-- ACCRUE (R366). -/
def execAccrue (t : Tick) (r : RecRef) (s : State) : Host.Outcome State Fault Refusal :=
  if r.ok then s.act t fun s => s.runCommand 0x0705 Sys2Proof.Machine.accrue r else .fault .noSuchUnit

/-- SEAL_FETCH (R363). -/
def execSealFetch (t : Tick) (r : RecRef) (s : State) : Host.Outcome State Fault Refusal :=
  if r.ok then s.act t fun s => s.runCommand 0x0706 Sys2Proof.Machine.sealFetch r else .fault .noSuchUnit

/-- JOURNAL_BLOCK (R364). -/
def execJournalBlock (t : Tick) (r : RecRef) (s : State) : Host.Outcome State Fault Refusal :=
  if r.ok then s.act t fun s => s.runCommand 0x0707 Sys2Proof.Machine.journalBlock r else .fault .noSuchUnit

/-- CHECKPOINT (R373). -/
def execCheckpoint (t : Tick) (r : RecRef) (s : State) : Host.Outcome State Fault Refusal :=
  if r.ok then s.act t fun s => s.runCommand 0x0708 Sys2Proof.Machine.checkpoint r else .fault .noSuchUnit

/-- BOARD_RESTORE (R375). -/
def execBoardRestore (t : Tick) (r : RecRef) (s : State) : Host.Outcome State Fault Refusal :=
  if r.ok then s.act t fun s => s.runCommand 0x0709 Sys2Proof.Machine.boardRestore r else .fault .noSuchUnit

/-- JOURNAL_ROLL_FORWARD (R376). -/
def execJournalRollForward (t : Tick) (r : RecRef) (s : State) : Host.Outcome State Fault Refusal :=
  if r.ok then s.act t fun s => s.runCommand 0x070A Sys2Proof.Machine.journalRollForward r else .fault .noSuchUnit

/-- BAL_MAC_GEN (R384). -/
def execBalMacGen (t : Tick) (r : RecRef) (s : State) : Host.Outcome State Fault Refusal :=
  if r.ok then s.act t fun s => s.runCommand 0x10030 Sys2Proof.Machine.balMacGen r else .fault .noSuchUnit

/-- BAL_MAC_VER (R384). -/
def execBalMacVer (t : Tick) (r : RecRef) (s : State) : Host.Outcome State Fault Refusal :=
  if r.ok then s.act t fun s => s.runCommand 0x10031 Sys2Proof.Machine.balMacVer r else .fault .noSuchUnit

/-- LEG_PREPARE (R454). -/
def execLegPrepare (t : Tick) (m : Msg) (s : State) : Host.Outcome State Fault Refusal :=
  s.act t fun s => s.receive 0x0201 m fun s => s.legPrepare m

/-- LEG_PREPARED (R369). -/
def execLegPrepared (t : Tick) (m : Msg) (s : State) : Host.Outcome State Fault Refusal :=
  s.act t fun s => s.receive 0x0202 m fun s => s.legPrepared m

/-- LEG_REFUSED (R369). -/
def execLegRefused (t : Tick) (m : Msg) (s : State) : Host.Outcome State Fault Refusal :=
  s.act t fun s => s.receive 0x0203 m fun s => s.legRefused m

/-- LEG_COMMIT (R454). -/
def execLegCommit (t : Tick) (m : Msg) (s : State) : Host.Outcome State Fault Refusal :=
  s.act t fun s => s.receive 0x0204 m fun s => s.legCommit m

/-- LEG_ABORT (R454). -/
def execLegAbort (t : Tick) (m : Msg) (s : State) : Host.Outcome State Fault Refusal :=
  s.act t fun s => s.receive 0x0205 m fun s => s.legAbort m

/-- LEG_DONE (R372). -/
def execLegDone (t : Tick) (m : Msg) (s : State) : Host.Outcome State Fault Refusal :=
  s.act t fun s => s.receive 0x0206 m fun s => s.legDone m

/-- LEG_REPORT (R371). -/
def execLegReport (t : Tick) (m : Msg) (s : State) : Host.Outcome State Fault Refusal :=
  s.act t fun s => s.receive 0x0207 m fun s => s.legReport m

/-- PREPARE_WINDOW_EXPIRY (R370). -/
def execPrepareWindowExpiry (t : Tick) (ledger : Nat) (id : Bytes) (s : State) : Host.Outcome State Fault Refusal :=
  s.act t fun s => s.prepareExpiry ledger id

/-- DECISION_WINDOW_EXPIRY (R372). -/
def execDecisionWindowExpiry (t : Tick) (ledger : Nat) (id : Bytes) (s : State) : Host.Outcome State Fault Refusal :=
  s.act t fun s => s.decisionExpiry ledger id

/-- PENDING_MARK_CLEAR (R357). -/
def execPendingMarkClear (t : Tick) (r : RecRef) (s : State) : Host.Outcome State Fault Refusal :=
  if r.ok then s.act t fun s => s.markClear r else .fault .noSuchUnit

/-- CHECKPOINT_COPY_DONE (R373). -/
def execCheckpointCopyDone (t : Tick) (ledger : Nat) (s : State) : Host.Outcome State Fault Refusal :=
  s.act t fun s => s.copyDone ledger

/-- JOURNAL_BLOCK_SIGN (R364). -/
def execJournalBlockSign (t : Tick) (ledger : Nat) (s : State) : Host.Outcome State Fault Refusal :=
  s.act t fun s => s.signBlock ledger

/-- DECIMAL_JOB_DONE (R386). -/
def execDecimalJobDone (t : Tick) (lane : Nat) (fault : JobFault) (s : State) : Host.Outcome State Fault Refusal :=
  if lane ≤ 3 then s.act t fun s => s.decimalDone lane fault else .fault .noSuchUnit

end Sys2Proof.Machine
end

