-- ==== Sys2Proof/Machine/RowsLife.lean ====
section
/-! DEFINITION. The rows of the life cycle and of debug warrants (chapter 2). -/

namespace Sys2Proof.Machine

/-- LIFECYCLE_ADVANCE (R43). -/
def execLifecycleAdvance (t : Tick) (r : RecRef) (s : State) : Host.Outcome State Fault Refusal :=
  if r.ok then s.act t fun s => s.runCommand 0x0109 Sys2Proof.Machine.lifecycleAdvance r else .fault .noSuchUnit

/-- ACCEPT_WARRANT (R52). -/
def execAcceptWarrant (t : Tick) (r : RecRef) (s : State) : Host.Outcome State Fault Refusal :=
  if r.ok then s.act t fun s => s.runCommand 0x010A Sys2Proof.Machine.acceptWarrant r else .fault .noSuchUnit

/-- DROP_WARRANT (R55). -/
def execDropWarrant (t : Tick) (r : RecRef) (s : State) : Host.Outcome State Fault Refusal :=
  if r.ok then s.act t fun s => s.runCommand 0x010B Sys2Proof.Machine.dropWarrant r else .fault .noSuchUnit

/-- RECOVERY_ENTER (R86). -/
def execRecoveryEnter (t : Tick) (r : RecRef) (s : State) : Host.Outcome State Fault Refusal :=
  if r.ok then s.act t fun s => s.runCommand 0x0108 Sys2Proof.Machine.recoveryEnter r else .fault .noSuchUnit

/-- LCS_BIT_WRITE (R37). -/
def execLcsBitWrite (t : Tick) (verified : Bool) (s : State) : Host.Outcome State Fault Refusal :=
  s.act t fun s => s.lcsBit verified

/-- LCS_ADVANCE (R43). -/
def execLcsAdvance (t : Tick) (s : State) : Host.Outcome State Fault Refusal :=
  s.act t fun s => s.lcsAdvance

end Sys2Proof.Machine
end

