-- ==== Sys2Proof/Machine/RowsLink.lean ====
section
/-! DEFINITION. The rows of the Ndourbo link (chapter 14). -/

namespace Sys2Proof.Machine

/-- NDL_PORT_ENABLE (R424). -/
def execNdlPortEnable (t : Tick) (port : Nat) (on : Bool) (s : State) : Host.Outcome State Fault Refusal :=
  if port ≤ 3 then s.act t fun s => s.portEnable port on else .fault .noSuchUnit

/-- NDL_RETRAIN (R439). -/
def execNdlRetrain (t : Tick) (port : Nat) (s : State) : Host.Outcome State Fault Refusal :=
  if port ≤ 3 then s.act t fun s => s.retrainWrite port else .fault .noSuchUnit

/-- NDL_DROP (R457). -/
def execNdlDrop (t : Tick) (port : Nat) (s : State) : Host.Outcome State Fault Refusal :=
  if port ≤ 3 then s.act t fun s => s.dropWrite port else .fault .noSuchUnit

/-- NDL_DETECT_TIMER (R427). -/
def execNdlDetectTimer (t : Tick) (port : Nat) (terminated : Bool) (s : State) : Host.Outcome State Fault Refusal :=
  if port ≤ 3 then s.act t fun s => s.detect port terminated else .fault .noSuchUnit

/-- TRAINING_SEQUENCE (R428). -/
def execTrainingSequence (t : Tick) (port lane : Nat) (ts : BitVec 80) (s : State) : Host.Outcome State Fault Refusal :=
  if port ≤ 3 ∧ lane ≤ 3 then s.act t fun s => s.trainingSeq port lane ts else .fault .noSuchUnit

/-- TRAINING_WINDOW_EXPIRY (R427). -/
def execTrainingWindowExpiry (t : Tick) (port : Nat) (s : State) : Host.Outcome State Fault Refusal :=
  if port ≤ 3 then s.act t fun s => s.trainingWindow port else .fault .noSuchUnit

/-- KEY_FAIL_BACKOFF_EXPIRY (R430). -/
def execKeyFailBackoffExpiry (t : Tick) (port : Nat) (s : State) : Host.Outcome State Fault Refusal :=
  if port ≤ 3 then s.act t fun s => s.backoffEnd port else .fault .noSuchUnit

/-- LANE_LOCK_LOSS (R439). -/
def execLaneLockLoss (t : Tick) (port lane : Nat) (s : State) : Host.Outcome State Fault Refusal :=
  if port ≤ 3 ∧ lane ≤ 3 then s.act t fun s => s.lockLoss port else .fault .noSuchUnit

/-- RETRAIN_WINDOW_EXPIRY (R439). -/
def execRetrainWindowExpiry (t : Tick) (port : Nat) (s : State) : Host.Outcome State Fault Refusal :=
  if port ≤ 3 then s.act t fun s => s.retrainWindow port else .fault .noSuchUnit

/-- FLIT_RECEIVED (R437). -/
def execFlitReceived (t : Tick) (port : Nat) (flit : BitVec 320) (s : State) : Host.Outcome State Fault Refusal :=
  if port ≤ 3 then s.act t fun s => s.flitIn port flit else .fault .noSuchUnit

/-- NAK_RECEIVED (R438). -/
def execNakReceived (t : Tick) (port : Nat) (flit : BitVec 320) (s : State) : Host.Outcome State Fault Refusal :=
  if port ≤ 3 then s.act t fun s => s.nakIn port flit else .fault .noSuchUnit

/-- REPLAY_TIMER_EXPIRY (R438). -/
def execReplayTimerExpiry (t : Tick) (port : Nat) (s : State) : Host.Outcome State Fault Refusal :=
  if port ≤ 3 then s.act t fun s => s.replayTimer port else .fault .noSuchUnit

/-- CONVOY_TAG_CHECK (R444). -/
def execConvoyTagCheck (t : Tick) (port : Nat) (s : State) : Host.Outcome State Fault Refusal :=
  if port ≤ 3 then s.act t fun s => s.tagCheck port else .fault .noSuchUnit

/-- MESSAGE_FORWARD (R450). -/
def execMessageForward (t : Tick) (port : Nat) (msg : Bytes) (s : State) : Host.Outcome State Fault Refusal :=
  if port ≤ 3 then s.act t fun s => s.forwardMessage port msg else .fault .noSuchUnit

/-- KEY_OFFER (R430). -/
def execKeyOffer (t : Tick) (port : Nat) (offer : Bytes) (s : State) : Host.Outcome State Fault Refusal :=
  if port ≤ 3 then s.act t fun s => s.keyOffer port offer else .fault .noSuchUnit

/-- KEY_CONFIRM (R431). -/
def execKeyConfirm (t : Tick) (port : Nat) (confirm : Bytes) (s : State) : Host.Outcome State Fault Refusal :=
  if port ≤ 3 then s.act t fun s => s.keyConfirm port confirm else .fault .noSuchUnit

end Sys2Proof.Machine
end

