-- ==== Sys2Proof/Machine/RowsLog.lean ====
section
/-! DEFINITION. The rows of the ring log (chapter 18). -/

namespace Sys2Proof.Machine

/-- LOG_FREEZE (R539). -/
def execLogFreeze (t : Tick) (r : RecRef) (s : State) : Host.Outcome State Fault Refusal :=
  if r.ok then s.act t fun s => s.runCommand 0x0A01 Sys2Proof.Machine.logFreeze r else .fault .noSuchUnit

/-- LOG_THAW (R541). -/
def execLogThaw (t : Tick) (r : RecRef) (s : State) : Host.Outcome State Fault Refusal :=
  if r.ok then s.act t fun s => s.runCommand 0x0A02 Sys2Proof.Machine.logThaw r else .fault .noSuchUnit

/-- LOG_EXPORT (R542). -/
def execLogExport (t : Tick) (r : RecRef) (s : State) : Host.Outcome State Fault Refusal :=
  if r.ok then s.act t fun s => s.runCommand 0x0A03 Sys2Proof.Machine.logExport r else .fault .noSuchUnit

/-- LOG_FREEZE_WINDOW_CLOSE (R539). -/
def execLogFreezeWindowClose (t : Tick) (s : State) : Host.Outcome State Fault Refusal :=
  s.act t fun s => s.freezeClose

/-- LOG_PEEK_INDEX_WRITE (R545). -/
def execLogPeekIndexWrite (t : Tick) (path : Path) (v : Word32) (s : State) : Host.Outcome State Fault Refusal :=
  if path.ok then s.act t fun s => s.peek path v else .fault .noSuchUnit

end Sys2Proof.Machine
end

