-- ==== Sys2Proof/Machine/RowsRandom.lean ====
section
/-! DEFINITION. The rows of the entropy unit (chapter 10). -/

namespace Sys2Proof.Machine

/-- GET_RANDOM (R332). -/
def execGetRandom (t : Tick) (r : RecRef) (s : State) : Host.Outcome State Fault Refusal :=
  if r.ok then s.act t fun s => s.runCommand 0x0601 Sys2Proof.Machine.getRandom r else .fault .noSuchUnit

/-- RANDOM (R333). -/
def execRandom (t : Tick) (r : RecRef) (s : State) : Host.Outcome State Fault Refusal :=
  if r.ok then s.act t fun s => s.runCommand 0x10050 kh1Random r else .fault .noSuchUnit

/-- START_UP_TEST_DONE (R319). -/
def execStartUpTestDone (t : Tick) (source : Nat) (rctFail aptFail : Bool) (s : State) : Host.Outcome State Fault Refusal :=
  if source ≤ 25 then s.act t fun s => s.startUpDone source rctFail aptFail else .fault .noSuchUnit

/-- REPETITION_COUNT_TEST_FAIL (R318). -/
def execRepetitionCountTestFail (t : Tick) (source : Nat) (s : State) : Host.Outcome State Fault Refusal :=
  if source ≤ 25 then s.act t fun s => s.testFail source false else .fault .noSuchUnit

/-- ADAPTIVE_PROPORTION_TEST_FAIL (R318). -/
def execAdaptiveProportionTestFail (t : Tick) (source : Nat) (s : State) : Host.Outcome State Fault Refusal :=
  if source ≤ 25 then s.act t fun s => s.testFail source true else .fault .noSuchUnit

/-- CONDITIONER_BLOCK_CLOSE (R317). -/
def execConditionerBlockClose (t : Tick) (s : State) : Host.Outcome State Fault Refusal :=
  s.act t fun s => s.blockClose

/-- QUARANTINE_WINDOW_CLOSE (R321). -/
def execQuarantineWindowClose (t : Tick) (source : Nat) (s : State) : Host.Outcome State Fault Refusal :=
  if source ≤ 25 then s.act t fun s => s.rewake source else .fault .noSuchUnit

/-- BUFFER_REFILL (R329). -/
def execBufferRefill (t : Tick) (k : LaneKind) (lane : Nat) (s : State) : Host.Outcome State Fault Refusal :=
  if (k = .cipher ∧ lane ≤ 15 ∨ k = .bigNumber ∧ lane ≤ 31) then
    s.act t fun s => s.refill k lane
  else .fault .noSuchUnit

/-- WARDEN_FIFO_REFILL (R331). -/
def execWardenFifoRefill (t : Tick) (s : State) : Host.Outcome State Fault Refusal :=
  s.act t fun s => s.refillFifo

/-- RNG_FIFO_DATA_READ (R331). -/
def execRngFifoDataRead (t : Tick) (s : State) : Host.Outcome State Fault Refusal :=
  s.act t fun s => s.readFifo

end Sys2Proof.Machine
end

