-- ==== Sys2Proof/Machine/RowsRegister.lean ====
section
/-! DEFINITION. The rows of register accesses and of the management, JTAG and debug ports (chapters 2, 19, 20 and 21). -/

namespace Sys2Proof.Machine

/-- REGISTER_WRITE (R575). -/
def execRegisterWrite (t : Tick) (path : Path) (off : Nat) (v : BitVec 64) (eight : Bool) (s : State) : Host.Outcome State Fault Refusal :=
  if path.ok then s.act t fun s => s.regWrite path off v eight else .fault .noSuchUnit

/-- PAIR_CAPTURE_READ (R576). -/
def execPairCaptureRead (t : Tick) (path : Path) (off : Nat) (eight : Bool) (s : State) : Host.Outcome State Fault Refusal :=
  if path.ok then s.act t fun s => s.pairRead path off eight else .fault .noSuchUnit

/-- DOMAIN_ON (R559). -/
def execDomainOn (t : Tick) (domain : Nat) (units : BitVec 16) (discard : Bool) (rsv : Byte) (s : State) : Host.Outcome State Fault Refusal :=
  if domain ≤ 31 then s.act t fun s => s.powerWrite domain 0 units discard rsv else .fault .noSuchUnit

/-- DOMAIN_RETAIN (R559). -/
def execDomainRetain (t : Tick) (domain : Nat) (units : BitVec 16) (discard : Bool) (rsv : Byte) (s : State) : Host.Outcome State Fault Refusal :=
  if domain ≤ 31 then s.act t fun s => s.powerWrite domain 1 units discard rsv else .fault .noSuchUnit

/-- DOMAIN_OFF (R559). -/
def execDomainOff (t : Tick) (domain : Nat) (units : BitVec 16) (discard : Bool) (rsv : Byte) (s : State) : Host.Outcome State Fault Refusal :=
  if domain ≤ 31 then s.act t fun s => s.powerWrite domain 2 units discard rsv else .fault .noSuchUnit

/-- POWER_REQUEST_DECISION (R560). -/
def execPowerRequestDecision (t : Tick) (s : State) : Host.Outcome State Fault Refusal :=
  s.act t fun s => s.powerDecide

/-- POWER_REQUEST_END (R560). -/
def execPowerRequestEnd (t : Tick) (copyGood testsPass : Bool) (s : State) : Host.Outcome State Fault Refusal :=
  s.act t fun s => s.powerEnd copyGood testsPass

/-- PWR_CLK_OVERRIDE_WRITE (R566). -/
def execPwrClkOverrideWrite (t : Tick) (island mhz : Nat) (s : State) : Host.Outcome State Fault Refusal :=
  if island ≤ 12 then s.act t fun s => s.clockWrite island mhz else .fault .noSuchUnit

/-- IRQ_GROUP_WRITE (R569). -/
def execIrqGroupWrite (t : Tick) (g : Nat) (v : Word32) (s : State) : Host.Outcome State Fault Refusal :=
  if g ≤ 7 then s.act t fun s => s.groupClear g v else .fault .noSuchUnit

/-- LEAF_CAUSE_CLEAR (R568). -/
def execLeafCauseClear (t : Tick) (leaf : Leaf) (v : Word32) (s : State) : Host.Outcome State Fault Refusal :=
  s.act t fun s => s.leafClear leaf v

/-- RPL_BREAK_WRITE (R554). -/
def execRplBreakWrite (t : Tick) (v : Word32) (s : State) : Host.Outcome State Fault Refusal :=
  s.act t fun s => s.breakWrite v

/-- I3C_PRIVATE_WRITE (R585). -/
def execI3cPrivateWrite (t : Tick) (data : Bytes) (s : State) : Host.Outcome State Fault Refusal :=
  s.act t fun s => s.i3cWrite data

/-- I3C_PRIVATE_READ (R585). -/
def execI3cPrivateRead (t : Tick) (n : Nat) (s : State) : Host.Outcome State Fault Refusal :=
  s.act t fun s => s.i3cRead n

/-- SETDASA (R604). -/
def execSetdasa (t : Tick) (addr : BitVec 7) (s : State) : Host.Outcome State Fault Refusal :=
  s.act t fun s => s.setAddress (some addr)

/-- RSTDAA (R604). -/
def execRstdaa (t : Tick) (s : State) : Host.Outcome State Fault Refusal :=
  s.act t fun s => s.setAddress none

/-- GETBCR (R604). -/
def execGetbcr (t : Tick) (s : State) : Host.Outcome State Fault Refusal :=
  s.act t fun s => s.ccc [0x00]

/-- GETDCR (R604). -/
def execGetdcr (t : Tick) (s : State) : Host.Outcome State Fault Refusal :=
  s.act t fun s => s.ccc [0x00]

/-- GETSTATUS (R604). -/
def execGetstatus (t : Tick) (s : State) : Host.Outcome State Fault Refusal :=
  s.act t fun s => s.ccc [0x00, 0x00]

/-- ENEC (R604). -/
def execEnec (t : Tick) (s : State) : Host.Outcome State Fault Refusal :=
  s.act t fun s => s.ccc []

/-- DISEC (R604). -/
def execDisec (t : Tick) (s : State) : Host.Outcome State Fault Refusal :=
  s.act t fun s => s.ccc []

/-- IDCODE (R605). -/
def execIdcode (t : Tick) (s : State) : Host.Outcome State Fault Refusal :=
  s.act t fun s => s.idcode

/-- SAMPLE_PRELOAD (R605). -/
def execSamplePreload (t : Tick) (balls shift : Bytes) (s : State) : Host.Outcome State Fault Refusal :=
  s.act t fun s => s.sample balls shift

/-- EXTEST (R605). -/
def execExtest (t : Tick) (s : State) : Host.Outcome State Fault Refusal :=
  s.act t fun s => s.drive 0x03

/-- CLAMP (R605). -/
def execClamp (t : Tick) (s : State) : Host.Outcome State Fault Refusal :=
  s.act t fun s => s.drive 0x04

/-- HIGHZ (R605). -/
def execHighz (t : Tick) (s : State) : Host.Outcome State Fault Refusal :=
  s.act t fun s => s.jtag 0x05

/-- BYPASS (R605). -/
def execBypass (t : Tick) (code : Byte) (s : State) : Host.Outcome State Fault Refusal :=
  s.act t fun s => s.bypass code

/-- DEBUG_ACCESS (R50). -/
def execDebugAccess (t : Tick) (code : Byte) (op : DebugOp) (s : State) : Host.Outcome State Fault Refusal :=
  s.act t fun s => s.debugAccess code op

/-- TAP_RESET (R605). -/
def execTapReset (t : Tick) (s : State) : Host.Outcome State Fault Refusal :=
  s.act t fun s => s.tapReset

/-- BARRIER_START (R87). -/
def execBarrierStart (t : Tick) (s : State) : Host.Outcome State Fault Refusal :=
  s.act t fun s => s.barrierStart

/-- BARRIER_ACK (R87). -/
def execBarrierAck (t : Tick) (island : Nat) (stamp : Tick) (s : State) : Host.Outcome State Fault Refusal :=
  if island ≤ 12 then s.act t fun s => s.barrierAck island stamp else .fault .noSuchUnit

/-- BARRIER_TIMEOUT (R88). -/
def execBarrierTimeout (t : Tick) (s : State) : Host.Outcome State Fault Refusal :=
  s.act t fun s => s.barrierTimeout

/-- SEVER_DRAIN_DONE (R520). -/
def execSeverDrainDone (t : Tick) (s : State) : Host.Outcome State Fault Refusal :=
  s.act t fun s => s.severDrain

/-- CAPTURE_BASE_COPY_DONE (R547). -/
def execCaptureBaseCopyDone (t : Tick) (s : State) : Host.Outcome State Fault Refusal :=
  s.act t fun s => s.baseDone

end Sys2Proof.Machine
end

