-- ==== Sys2Proof/Machine/Lading.lean ====
section
/-! DEFINITION. Lading records and receipts (R482 to R487). -/

namespace Sys2Proof.Machine

/-- Key of a lading record (R484). -/
def ladingKey (root nonce : Bytes) (t src dst : Nat) : Bytes :=
  hkdf256 root nonce (ascii "KH64-LADING" ++ natLE 1 t ++ natLE 8 src ++ natLE 8 dst) 32

/-- The domain root's material; none where it is absent. -/
def State.domainRoot (s : State) : Option Bytes := if (s.keyRec 0).present then some (s.keyRec 0).material else none

/-- Check value of the domain root (R180). -/
def rootCheck (m : Bytes) : Bytes := checkValue 3 m

/-- A slot as a lading record carries it: parent word, tag and a bound key's material zero (Table 15-7). -/
def ladingSlot (x : Slot) : Bytes :=
  let b := slotBytes { x with parent := {} }
  if x.bound then zeros 32 ++ b.drop 32 else b

/-- The record of a key (Table 15-7). -/
def State.ladingRecord (s : State) (c : Cmd) (root plain : Bytes) (x : Slot) : Bytes :=
  let nonce := sub c.body 0x18 16
  let dst := fld c.body 8 8
  let head := ascii "KHLR" ++ natLE 2 1 ++ natLE 1 c.tenant ++ natLE 1 (fld c.body 4 4) ++ natLE 8 s.otp.serial ++
    natLE 8 dst ++ sub c.body 0x12 2 ++ sub c.body 0x10 2 ++ zeros 4 ++ nonce ++ rootCheck root ++ zeros 8
  let blob := if x.bound then plain else []
  let pt := ladingSlot x ++ natLE 4 blob.length ++ zeros 4 ++ blob ++ zeros ((8 - blob.length % 8) % 8)
  let (ct, tag) := gcmSeal (ladingKey root nonce c.tenant s.otp.serial dst) (nonce.take 12) head pt
  head ++ ct ++ tag

/-- LADING_EXPORT (R485). -/
def ladingExport (c : Cmd) (s : State) : State × Did :=
  let b := c.body
  let h := fld b 0 4
  if b.length ≠ 0x28 ∨ 1 < fld b 4 4 ∨ 2 ^ 14 ≤ fld b 0x10 2 ∨ 2 ^ 14 ≤ fld b 0x12 2 ∨ ¬ zeroAt b 0x14 4 then
    (s, .done (fail .bodyInvalid))
  else s.withKey c.tenant h {} fun s i =>
    let x := s.slot i
    if ¬ x.exportable then (s, .done (fail .usageDenied))
    else if x.type = 6 then (s, .done (fail .keyType))
    else match s.domainRoot with
      | none => (s, .done (fail .ladingInvalid))
      | some root =>
        s.withMaterial i fun m =>
          let o := s.ladingRecord c root m x
          let e := s.ahead.dirEntry (hIndex h)
          let green := if e.greenLinked then s.ahead.fellSlot e.greenSlot else []
          let cs := if fld b 4 4 = 1 then
              s.ahead.fellSlot e.standing ++ green ++ [.directory (hIndex h) { dtag := e.dtag }] else []
          match spaceFail c 0 o.length with
          | some f => (s, .done f)
          | none => (s, .done { out := o, changes := cs })

/-- A receipt that is open now (R483). -/
def State.openReceipt (s : State) (t : Nat) (nonce : Bytes) (dest : Nat) : Bool :=
  s.receipts.any fun r => r.tenant == t && r.nonce == nonce && r.dest == dest && decide (s.tick < r.issued + 600000000)

/-- Receipts without one. -/
def State.closeReceipt (s : State) (t : Nat) (nonce : Bytes) : State :=
  { s with receipts := s.receipts.filter fun r => !(r.tenant == t && r.nonce == nonce) }

/-- Checks 1 to 3 of R486 on a record. -/
def State.ladingHead (s : State) (t : Nat) (r : Bytes) : Bool :=
  decide (0x98 ≤ r.length) && r.length % 8 == 0 && sub r 0 4 == ascii "KHLR" && fld r 4 2 == 1 && fld r 6 1 == t &&
    decide (fld r 7 1 ≤ 1) && fld r 0x10 8 == s.otp.serial && decide (fld r 0x18 2 < 2 ^ 14) &&
    decide (fld r 0x1A 2 < 2 ^ 14) && zeroAt r 0x1C 4 && zeroAt r 0x38 8 &&
    s.openReceipt t (sub r 0x20 16) (fld r 0x1A 2) &&
    match s.domainRoot with
    | none => false
    | some root => sub r 0x30 8 == rootCheck root

/-- The plaintext of a record: none where the tag fails or its lengths do not fit. -/
def State.ladingOpen (s : State) (t : Nat) (r : Bytes) : Option (Slot × Bytes) :=
  let nonce := sub r 0x20 16
  let key := ladingKey ((s.domainRoot).getD []) nonce t (fld r 8 8) (fld r 0x10 8)
  match gcmOpen key (nonce.take 12) (r.take 0x40) (sub r 0x40 (r.length - 0x50)) (r.drop (r.length - 16)) with
  | none => none
  | some p =>
    let x := parseSlot (p.take 64)
    let n := fld p 0x40 4
    if p.length ≠ 0x48 + ceilDiv n 8 * 8 ∨ (x.bound = (n == 0)) then none
    else some (x, if x.bound then sub p 0x48 n else x.material)

/-- The key of a record is written under its parent, with its counter (R486). -/
def State.ladingPlace (s : State) (t : Nat) (r : Bytes) (x : Slot) (k : NewKey) : State × Did :=
  match s.newKey k with
  | none => (s, .done (fail .cellarFull))
  | some (h, cs) =>
    let counted := cs.map fun c => match c with
      | .slot i y => Change.slot i { y with counter := x.counter }
      | c => c
    (s.closeReceipt t (sub r 0x20 16), .done (keyResult h (checkValue k.type k.plain) counted))

/-- LADING_IMPORT, action 1 (R486). -/
def State.ladingTake (s : State) (c : Cmd) : State × Did :=
  let r := c.input
  if ¬ s.ladingHead c.tenant r then (s, .done (fail .ladingInvalid))
  else match s.ladingOpen c.tenant r with
    | none => (s, .done (fail .ladingInvalid))
    | some (x, m) =>
      s.withParent c.tenant (fld c.body 4 4) x.type fun s p l =>
        if ¬ typeOk x.type x.keyBits ∨ x.type = 6 ∨ ¬ plainOk x.type x.keyBits m then (s, .done (fail .keyType))
        else if ¬ s.classDefined x.limitClass then (s, .done (fail .bodyInvalid))
        else
          let k : NewKey := { type := x.type, bits := x.keyBits, usage := x.usage, owner := c.tenant, parent := p, level := l
                              exportable := x.exportable, limitClass := x.limitClass, plain := m }
          if x.type = 0x10 then
            s.withRandom (x.keyBits / 8) fun s b => s.ladingPlace c.tenant r x { k with blinding := blindPair m b }
          else s.ladingPlace c.tenant r x k

/-- LADING_IMPORT (R483, R486). -/
def ladingImport (c : Cmd) (s : State) : State × Did :=
  let b := c.body
  let a := fld b 0 1
  if b.length ≠ 8 ∨ 1 < a ∨ ¬ zeroAt b 1 1 ∨ (a = 0 ∧ (¬ zeroAt b 4 4 ∨ 2 ^ 14 ≤ fld b 2 2)) ∨ (a = 1 ∧ ¬ zeroAt b 2 2) then
    (s, .done (fail .bodyInvalid))
  else if a = 1 then s.ladingTake c
  else if 16 ≤ (s.receipts.filter fun r => r.tenant == c.tenant).length then (s, .done (fail .busy))
  else s.withRandom 16 fun s nonce =>
    ({ s with receipts := s.receipts ++ [{ tenant := c.tenant, nonce, dest := fld b 2 2, issued := s.tick }] },
      .done { body := nonce ++ natLE 8 s.otp.serial })

/-- RECEIPT_EXPIRY (R483). -/
def State.receiptExpiry (s : State) (t : Nat) (nonce : Bytes) : State :=
  { s with receipts := s.receipts.filter fun r =>
      !(r.tenant == t && r.nonce == nonce && decide (r.issued + 600000000 ≤ s.tick)) }

end Sys2Proof.Machine
end

