-- ==== Sys2Proof/Machine/Bodies.lean ====
section
/-! DEFINITION. The meaning of each opcode and KH-1 function by its number, for commands that go on later. -/

namespace Sys2Proof.Machine

/-- The meaning of a native opcode, or of a KH-1 function counted from 0x1_0000. RECOVERY_COMMIT never waits. -/
def bodyOf (op : Nat) : Option (Cmd → State → State × Did) :=
  match op with
  | 0x0601 => some getRandom
  | 0x10050 => some kh1Random
  | 0x0201 => some keyGenerate
  | 0x0202 => some keyImport
  | 0x0203 => some keyExport
  | 0x0204 => some keyGreen
  | 0x0205 => some keySeason
  | 0x0206 => some keyFell
  | 0x0207 => some keyInfo
  | 0x0208 => some kh1MapSet
  | 0x0209 => some cellarExport
  | 0x020A => some cellarRestore
  | 0x020B => some trunkImport
  | 0x020C => some trunkReplace
  | 0x020D => some domainRootSet
  | 0x0802 => some custodianRemove
  | 0x0803 => some quorumBegin
  | 0x0805 => some quorumStatus
  | 0x0806 => some quorumCancel
  | 0x0301 => some encrypt
  | 0x0302 => some decrypt
  | 0x0303 => some macGenerate
  | 0x0304 => some macVerify
  | 0x0305 => some translate
  | 0x10010 => some encipher
  | 0x10011 => some decipher
  | 0x10020 => some macGen
  | 0x10021 => some macVer
  | 0x10040 => some pinXlate
  | 0x10041 => some kh1PinVerify
  | 0x0B01 => some pinTranslate
  | 0x0B02 => some pinVerify
  | 0x0B03 => some cardCheckGenerate
  | 0x0B04 => some cardCheckVerify
  | 0x0401 => some digest
  | 0x0402 => some hmacGenerate
  | 0x0403 => some hmacVerify
  | 0x0404 => some digestSave
  | 0x0405 => some digestRestore
  | 0x0501 => some pkSign
  | 0x0502 => some pkVerify
  | 0x0503 => some pkEncrypt
  | 0x0504 => some pkDecrypt
  | 0x0505 => some pkKeygen
  | 0x0506 => some pkDerive
  | 0x0507 => some curveLoad
  | 0x0A01 => some logFreeze
  | 0x0A02 => some logThaw
  | 0x0A03 => some logExport
  | 0x0109 => some lifecycleAdvance
  | 0x010A => some acceptWarrant
  | 0x010B => some dropWarrant
  | 0x0108 => some recoveryEnter
  | 0x0110 => some recoveryBegin
  | 0x0111 => some recoveryWrite
  | 0x0113 => some recoveryExit
  | 0x0804 => some cardAuthenticate
  | 0x0801 => some custodianEnrol
  | 0x0807 => some shareExport
  | 0x0808 => some shareImport
  | 0x0701 => some ledgerCreate
  | 0x0702 => some accountOpen
  | 0x0703 => some accountSetState
  | 0x0704 => some postLegs
  | 0x0705 => some accrue
  | 0x0706 => some sealFetch
  | 0x0707 => some journalBlock
  | 0x0708 => some checkpoint
  | 0x0709 => some boardRestore
  | 0x070A => some journalRollForward
  | 0x10030 => some balMacGen
  | 0x10031 => some balMacVer
  | 0x0901 => some twinStatus
  | 0x0902 => some twinDetach
  | 0x0903 => some twinRepair
  | 0x0904 => some caravanStatus
  | 0x020E => some ladingExport
  | 0x020F => some ladingImport
  | 0x0101 => some sessionOpen
  | 0x0102 => some sessionClose
  | 0x0103 => some askOutcome
  | 0x0104 => some getInfo
  | 0x0105 => some attest
  | 0x0106 => some musterComplete
  | 0x0107 => some drowseEnter
  | 0x0A04 => some captureStart
  | 0x0A05 => some captureStop
  | 0x0A06 => some replayStart
  | 0x0A07 => some replayStop
  | _ => none

end Sys2Proof.Machine
end

