-- ==== Sys2Proof/Machine/Resume.lean ====
section
/-! DEFINITION. Commands that go on after the end of SDRAM training (R401), and the replay of captured records (R551 to
R554). -/

namespace Sys2Proof.Machine

/-! ## The end of SDRAM training -/

/-- A command that waited for the end of training starts its own checks. -/
def State.resumeRun (s : State) (run : Run) : State :=
  match bodyOf run.op with
  | some body =>
    let s1 : State := { s with rpl := { s.rpl with index := run.capture } }
    let s2 := s1.runBody run body
    { s2 with rpl := { s2.rpl with index := none } }
  | none => s.finish run (fail .opcodeUnknown)

/-- SDRAM_TRAINING_DONE (R401): the controller's part, and the commands that waited. -/
def State.sdramDone (s : State) (ch0 ch1 mismatch : Bool) (config : Word32) : State :=
  let s1 := s.trainingDone ch0 ch1 mismatch config
  if s1.smc.trained then
    (s1.running.filter fun x => x.stage == .sdram).foldl State.resumeRun s1
  else s1

/-! ## Captured items -/

/-- The next captured command: the resets before it, its index, record and start tick, and the items without these. -/
def nextCommand : List CaptureItem → Option (List (Option Nat) × Nat × Rec × Tick × List CaptureItem)
  | [] => none
  | .command i r t :: l => some ([], i, r, t, l)
  | .reset fn _ :: l => (nextCommand l).map fun (rs, i, r, t, m) => (fn :: rs, i, r, t, m)
  | it :: l => (nextCommand l).map fun (rs, i, r, t, m) => (rs, i, r, t, it :: m)

/-- The next bytes that a card sent for a record at a port, with their stamp. -/
def takeAnswer (i port : Nat) : List CaptureItem → Option (Tick × Bytes × List CaptureItem)
  | [] => none
  | .card p k t b :: l =>
    if p = port ∧ k = i then some (t, b, l) else (takeAnswer i port l).map fun (t', b', m) => (t', b', .card p k t b :: m)
  | it :: l => (takeAnswer i port l).map fun (t, b, m) => (t, b, it :: m)

/-- The card answers of a record at a port: some are held. -/
def hasAnswer (i port : Nat) (l : List CaptureItem) : Bool := (takeAnswer i port l).isSome

/-! ## Resets (R552) -/

/-- What a kind-5 reset does to the replayed structures: the sessions, quorums and digest contexts of its functions end. -/
def State.replayReset (s : State) (fn : Option Nat) : State :=
  let hit (t : Nat) : Bool := match fn with
    | some n => t == n
    | none => true
  { s with
    sessions := s.sessions.filter fun x => !hit x.tenant
    quorums := s.quorums.filter fun p => !hit p.1
    digests := s.digests.filter fun p => !hit (p.1 / 256) }

/-! ## Card answers -/

/-- A T=1 block of the capture is taken as the port stands. -/
def State.feedBlock (s : State) (n : Nat) (b : Bytes) (stamp : Tick) : State :=
  let p := s.cardPort n
  let pcb := fld b 1 1
  let inf := sub b 3 (fld b 2 1)
  let at' (q : CardPort) : State := s.setCard n { q with since := stamp }
  if p.step = .ifs then (at' { p with resynching := false }).ifsAnswer n inf
  else if pcb < 0x80 then (at' { p with nr := pcb.testBit 6, resynching := false }).t1I n b stamp
  else if pcb < 0xC0 then (at' { p with resynching := false }).t1R n b stamp
  else if pcb = 0xC3 then (at' { p with resynching := false }).wtx n (fld inf 0 1)
  else if pcb = 0xE0 then (at' { p with resynching := true }).resynched n
  else (at' p).sAbort n

/-- The whole answer to a step is handed on. -/
def State.feedAnswer (s : State) (n : Nat) : State :=
  let p := s.cardPort n
  let sw : BitVec 16 := BitVec.ofNat 16 (beNat (p.rx.drop (p.rx.length - 2)))
  let data := p.rx.take (p.rx.length - 2)
  match p.step with
  | .select => s.selectAnswer n sw
  | .readCert => s.certAnswer n data sw
  | .authenticate => s.authAnswer n data sw
  | .confirm => s.confirmAnswer n sw (p.done.getD 0)
  | .bind => s.bindAnswer n sw
  | _ => s

/-- A custodian port goes on with its next captured answer, or with the time limit that ends its wait. -/
def State.replayCard (s : State) (i n : Nat) : State :=
  let p := s.cardPort n
  match p.step with
  | .idle => s.endCard n (fail .cardProtocol)
  | .activating _ => ({ s with tick := p.since + 1000 } : State).cardActivation n
  | .deactivating _ => ({ s with tick := p.since + 10 } : State).cardDeactivation n
  | st =>
    if p.done.isSome then s.feedAnswer n
    else match takeAnswer i n s.rpl.items with
      | some (t, b, l) =>
        let s1 : State := { s with tick := t, rpl := { s.rpl with items := l } }
        if st = .atr then s1.cardAtr n b
        else if st = .pps then s1.ppsAnswer n b
        else s1.feedBlock n b t
      | none => if st = .atr then s.atrTimeout n else if st = .pps then s.ppsTimeout n else s.recover n

/-- The transit port goes on with its next captured answer, or with the time limit that ends its wait. -/
def State.replayTransit (s : State) (i : Nat) : State :=
  let p := s.cards.transit
  let wait (d : Nat) : State := { s with tick := p.since + d }
  let answer (f : State → Bytes → State) (no : State) : State :=
    match takeAnswer i 4 s.rpl.items with
    | some (t, b, l) => f { s with tick := t, rpl := { s.rpl with items := l } } b
    | none => no
  match p.step with
  | .off => s.endTransit (fail .cardProtocol)
  | .powerUp => (wait 1000).sdPowerUp
  | .acmdWait => (wait 10000).acmdRetry
  | .switch => (wait 5000).voltWait true
  | .datHigh => s.voltWait true
  | .cycle => (wait 10000).sdCycle
  | .tuning => s.sdTuning true
  | .token _ | .cmd27Token => s.sdToken true
  | .cmd7Busy | .busy _ | .cmd27Busy => s.sdBusyEnd
  | .checkData | .selectData | .readData _ | .verifyData _ =>
    answer (fun s b => s.sdData b true) (wait 100000).sdReadTimeout
  | _ => answer (fun s b => s.sdResponse b true) s.sdNoResponse

/-! ## One record -/

/-- A replayed record that has not ended goes on; it has ended when none is answered. -/
def State.replayGo (s : State) (i : Nat) (ref : RecRef) : Option State :=
  match s.runOf ref with
  | none => none
  | some run => some (match run.stage with
    | .lane .cipher (some l) => s.cipherDone l .none
    | .lane .digest (some l) => s.digestDone l .none
    | .lane .bigNumber (some l) => s.bigDone l .none 0
    | .lane .decimal (some l) => s.decimalDone l .none
    | .lane _ none => s.finish run (fail .laneUnavailable)
    | .card n => s.replayCard i n
    | .transit => s.replayTransit i
    | .checkpoint l => s.copyDone l
    | _ => s.finish run run.res)

/-- A replayed record goes on to its end; the number bounds its steps, after which it ends as it stands. -/
def State.replayRun (i : Nat) (ref : RecRef) : Nat → State → State
  | 0, s => match s.runOf ref with
    | some run => s.endRun run run.res false
    | none => s
  | n + 1, s => match s.replayGo i ref with
    | some s1 => State.replayRun i ref n s1
    | none => s

/-- The commands that make or end a capture have no effect in REPLAY. -/
def replaySkips (op : Nat) : Bool := decide (0x0A04 ≤ op) && decide (op ≤ 0x0A07)

/-- The cards that answered a record are present at their ports. -/
def replayCards (s : State) (i : Nat) : Cards :=
  { s.cards with
    port := (List.range 4).foldl (fun m n => mapPut {} m n { present := hasAnswer i n s.rpl.items }) []
    transit := { present := hasAnswer i 4 s.rpl.items } }

/-- A captured record runs from its start tick, alone, writing nothing outside (R552). -/
def State.replayOne (s : State) (i : Nat) (r : Rec) (start : Tick) : State :=
  let key := if r.isSealed then s.sessionKey r.tenant (fld r.raw 0x16 2) else none
  let run : Run := { record := { r with key }, op := r.op, start, stage := .twin, squash := true, capture := some i }
  let s1 : State := { s with
    mode := .service, tick := start, running := [run], waiting := [], cards := replayCards s i
    rpl := { s.rpl with inRecord := true, index := some i } }
  let s2 := s1.addOutcome { tenant := r.tenant, seq := r.seq, running := true }
  let s3 := match s2.postStart run.record with
    | .error st => s2.finish run (fail st)
    | .ok (b, x) =>
      let run1 := { run with body := b, input := x }
      if replaySkips r.op then s2.finish run1 {}
      else match bodyOf r.op with
        | some body => s2.launch run1 body
        | none => s2.finish run1 (fail .opcodeUnknown)
  let s4 := State.replayRun i r.ref (400 + 4 * s.rpl.items.length) s3
  { s4 with
    mode := s.mode, tick := s.tick, running := s.running, waiting := s.waiting, cards := s.cards, sent := s.sent
    barrier := s.barrier, barrierQ := s.barrierQ, lcs := s.lcs, host := s.host, twin := s.twin, car := s.car, ndl := s.ndl
    rpl := { s4.rpl with inRecord := false, index := none, position := i + 1 } }

/-- Replay ends: event 0x0805, then the internal reset (R553). -/
def State.endReplay (s : State) : State := s.replayEnded.internalReset

/-- REPLAY_RECORD: the next captured record replays, unless RPL_BREAK halts the cores before it (R552 to R554). -/
def State.replayNext (s : State) : State :=
  if s.mode ≠ .replay ∨ s.rpl.halted then s
  else match nextCommand s.rpl.items with
    | none => s.endReplay
    | some (rs, i, r, t, rest) =>
      if s.rpl.brk = i ∧ ¬ s.rpl.broke then { s with rpl := { s.rpl with halted := true, broke := true } }
      else
        let s0 : State := { s with rpl := { s.rpl with items := rest } }
        let s1 := (rs.foldl State.replayReset s0).replayOne i r t
        if (s.rpl.last ≠ 0 ∧ s.rpl.last ≤ i) ∨ (nextCommand s1.rpl.items).isNone then s1.endReplay else s1

end Sys2Proof.Machine
end

