-- ==== Sys2Proof/Machine/RowsReplay.lean ====
section
/-! DEFINITION. The rows of SDRAM training and of replay (chapters 13 and 18). -/

namespace Sys2Proof.Machine

/-- SDRAM_TRAINING_DONE (R401). -/
def execSdramTrainingDone (t : Tick) (ch0 ch1 mismatch : Bool) (config : Word32) (s : State) : Host.Outcome State Fault Refusal :=
  s.act t fun s => s.sdramDone ch0 ch1 mismatch config

/-- REPLAY_RECORD (R552). -/
def execReplayRecord (t : Tick) (s : State) : Host.Outcome State Fault Refusal :=
  s.act t fun s => s.replayNext

end Sys2Proof.Machine
end

