-- ==== Sys2Proof/Machine/RowsTamper.lean ====
section
/-! DEFINITION. The rows of the tamper monitors and the tally (chapter 17). -/

namespace Sys2Proof.Machine

/-- TAMPER_CONDITION_ONSET (R516). -/
def execTamperConditionOnset (t : Tick) (cls : Nat) (detail : Word32) (s : State) : Host.Outcome State Fault Refusal :=
  if cls ≤ 21 then s.act t fun s => s.tamperOnset cls detail else .fault .noSuchUnit

/-- TAMPER_CONDITION_CLEAR (R516). -/
def execTamperConditionClear (t : Tick) (cls : Nat) (s : State) : Host.Outcome State Fault Refusal :=
  if cls ≤ 21 then s.act t fun s => s.tamperClear cls else .fault .noSuchUnit

/-- GLITCH_EXCURSION_END (R514). -/
def execGlitchExcursionEnd (t : Tick) (cls : Nat) (first : Tick) (detail : Word32) (s : State) : Host.Outcome State Fault Refusal :=
  if 13 ≤ cls ∧ cls ≤ 15 then s.act t fun s => s.glitchEnd cls first detail else .fault .noSuchUnit

/-- TAMPER_DEBOUNCE_EXPIRY (R519). -/
def execTamperDebounceExpiry (t : Tick) (classes : List (Nat × Word32)) (s : State) : Host.Outcome State Fault Refusal :=
  s.act t fun s => s.debounceEnd classes

/-- DOZE_SAMPLE (R524). -/
def execDozeSample (t : Tick) (held : List (Nat × Word32)) (s : State) : Host.Outcome State Fault Refusal :=
  s.act t fun s => s.dozeSample held

/-- CLEARS_DONE (R522). -/
def execClearsDone (t : Tick) (s : State) : Host.Outcome State Fault Refusal :=
  s.act t fun s => s.clearsDone

/-- SCRUBBER_READ (R23). -/
def execScrubberRead (t : Tick) (a : ArrayKind) (word errors : Nat) (s : State) : Host.Outcome State Fault Refusal :=
  s.act t fun s => s.scrub a word errors

end Sys2Proof.Machine
end

