-- ==== Sys2Proof/Machine/RowsTwin.lean ====
section
/-! DEFINITION. The rows of twin pairing, the caravan and lading (chapter 15). -/

namespace Sys2Proof.Machine

/-- TWIN_STATUS (R487). -/
def execTwinStatus (t : Tick) (r : RecRef) (s : State) : Host.Outcome State Fault Refusal :=
  if r.ok then s.act t fun s => s.runCommand 0x0901 Sys2Proof.Machine.twinStatus r else .fault .noSuchUnit

/-- TWIN_DETACH (R471). -/
def execTwinDetach (t : Tick) (r : RecRef) (s : State) : Host.Outcome State Fault Refusal :=
  if r.ok then s.act t fun s => s.runCommand 0x0902 Sys2Proof.Machine.twinDetach r else .fault .noSuchUnit

/-- TWIN_REPAIR (R466). -/
def execTwinRepair (t : Tick) (r : RecRef) (s : State) : Host.Outcome State Fault Refusal :=
  if r.ok then s.act t fun s => s.runCommand 0x0903 Sys2Proof.Machine.twinRepair r else .fault .noSuchUnit

/-- CARAVAN_STATUS (R487). -/
def execCaravanStatus (t : Tick) (r : RecRef) (s : State) : Host.Outcome State Fault Refusal :=
  if r.ok then s.act t fun s => s.runCommand 0x0904 Sys2Proof.Machine.caravanStatus r else .fault .noSuchUnit

/-- LADING_EXPORT (R485). -/
def execLadingExport (t : Tick) (r : RecRef) (s : State) : Host.Outcome State Fault Refusal :=
  if r.ok then s.act t fun s => s.runCommand 0x020E Sys2Proof.Machine.ladingExport r else .fault .noSuchUnit

/-- LADING_IMPORT (R486). -/
def execLadingImport (t : Tick) (r : RecRef) (s : State) : Host.Outcome State Fault Refusal :=
  if r.ok then s.act t fun s => s.runCommand 0x020F Sys2Proof.Machine.ladingImport r else .fault .noSuchUnit

/-- ROUTE_PROBE (R452). -/
def execRouteProbe (t : Tick) (m : Msg) (s : State) : Host.Outcome State Fault Refusal :=
  s.act t fun s => s.receive 0x0003 m fun s => s.routeProbe m

/-- ROUTE_ECHO (R452). -/
def execRouteEcho (t : Tick) (m : Msg) (s : State) : Host.Outcome State Fault Refusal :=
  s.act t fun s => s.receive 0x0004 m fun s => s.routeEcho m

/-- MIRROR_POSTING (R362). -/
def execMirrorPosting (t : Tick) (m : Msg) (s : State) : Host.Outcome State Fault Refusal :=
  s.act t fun s => s.receive 0x0101 m fun s => s.mirrorIn m

/-- MIRROR_ACK (R362). -/
def execMirrorAck (t : Tick) (m : Msg) (s : State) : Host.Outcome State Fault Refusal :=
  s.act t fun s => s.receive 0x0102 m fun s => s.mirrorAck m

/-- CELLAR_SYNC (R464). -/
def execCellarSync (t : Tick) (m : Msg) (s : State) : Host.Outcome State Fault Refusal :=
  s.act t fun s => s.receive 0x0103 m fun s => s.cellarSync m

/-- CELLAR_SYNC_ACK (R464). -/
def execCellarSyncAck (t : Tick) (m : Msg) (s : State) : Host.Outcome State Fault Refusal :=
  s.act t fun s => s.receive 0x0104 m fun s => s.cellarAck m

/-- COUNTER_ADVANCE (R196). -/
def execCounterAdvance (t : Tick) (m : Msg) (s : State) : Host.Outcome State Fault Refusal :=
  s.act t fun s => s.receive 0x0105 m fun s => s.counterAdvance m

/-- RESYNC_BULK (R469). -/
def execResyncBulk (t : Tick) (m : Msg) (s : State) : Host.Outcome State Fault Refusal :=
  s.act t fun s => s.receive 0x0106 m fun s => s.resyncBulk m

/-- RESYNC_ACK (R469). -/
def execResyncAck (t : Tick) (m : Msg) (s : State) : Host.Outcome State Fault Refusal :=
  s.act t fun s => s.receive 0x0107 m fun s => s.resyncAck m

/-- TWIN_STATE (R481). -/
def execTwinState (t : Tick) (m : Msg) (s : State) : Host.Outcome State Fault Refusal :=
  s.act t fun s => s.receive 0x0108 m fun s => s.twinStateIn m

/-- DECISION_RECORD (R464). -/
def execDecisionRecord (t : Tick) (m : Msg) (s : State) : Host.Outcome State Fault Refusal :=
  s.act t fun s => s.receive 0x0109 m fun s => s.decisionRecord m

/-- EPOCH_PREPARE (R479). -/
def execEpochPrepare (t : Tick) (m : Msg) (s : State) : Host.Outcome State Fault Refusal :=
  s.act t fun s => s.receive 0x0210 m fun s => s.epochPrepare m

/-- EPOCH_READY (R478). -/
def execEpochReady (t : Tick) (m : Msg) (s : State) : Host.Outcome State Fault Refusal :=
  s.act t fun s => s.receive 0x0211 m fun s => s.epochReady m

/-- EPOCH_COMMIT (R479). -/
def execEpochCommit (t : Tick) (m : Msg) (s : State) : Host.Outcome State Fault Refusal :=
  s.act t fun s => s.receive 0x0212 m fun s => s.epochCommit m

/-- EPOCH_ROLLBACK (R479). -/
def execEpochRollback (t : Tick) (m : Msg) (s : State) : Host.Outcome State Fault Refusal :=
  s.act t fun s => s.receive 0x0213 m fun s => s.epochRollback m

/-- EPOCH_REFUSE (R480). -/
def execEpochRefuse (t : Tick) (m : Msg) (s : State) : Host.Outcome State Fault Refusal :=
  s.act t fun s => s.receive 0x0214 m fun s => s.epochRefuse m

/-- EPOCH_DONE (R478). -/
def execEpochDone (t : Tick) (m : Msg) (s : State) : Host.Outcome State Fault Refusal :=
  s.act t fun s => s.receive 0x0215 m fun s => s.epochDone m

/-- COMMAND_FORWARD (R474). -/
def execCommandForward (t : Tick) (m : Msg) (s : State) : Host.Outcome State Fault Refusal :=
  s.act t fun s => s.receive 0x0220 m fun s => s.commandForward m

/-- COMMAND_RESULT (R474). -/
def execCommandResult (t : Tick) (m : Msg) (s : State) : Host.Outcome State Fault Refusal :=
  s.act t fun s => s.receive 0x0221 m fun s => s.commandResult m

/-- LADING_MOVE (R475). -/
def execLadingMove (t : Tick) (m : Msg) (s : State) : Host.Outcome State Fault Refusal :=
  s.act t fun s => s.receive 0x0230 m fun s => s.ladingMove m

/-- LADING_ACK (R475). -/
def execLadingAck (t : Tick) (m : Msg) (s : State) : Host.Outcome State Fault Refusal :=
  s.act t fun s => s.receive 0x0231 m fun s => s.ladingAck m

/-- MIRROR_TIMEOUT (R362). -/
def execMirrorTimeout (t : Tick) (txn : Nat) (s : State) : Host.Outcome State Fault Refusal :=
  s.act t fun s => s.mirrorTimeout txn

/-- SYNC_TIMEOUT (R464). -/
def execSyncTimeout (t : Tick) (txn : Nat) (s : State) : Host.Outcome State Fault Refusal :=
  s.act t fun s => s.syncTimeout txn

/-- CARAVAN_TIMEOUT (R474). -/
def execCaravanTimeout (t : Tick) (txn : Nat) (s : State) : Host.Outcome State Fault Refusal :=
  s.act t fun s => s.caravanTimeout txn

/-- EPOCH_PREPARE_WINDOW_EXPIRY (R478). -/
def execEpochPrepareWindowExpiry (t : Tick) (s : State) : Host.Outcome State Fault Refusal :=
  s.act t fun s => s.prepareWindowEnd

/-- TWIN_DISCONNECT_TIMEOUT (R462). -/
def execTwinDisconnectTimeout (t : Tick) (s : State) : Host.Outcome State Fault Refusal :=
  s.act t fun s => s.disconnectTimeout

/-- UNACKNOWLEDGED_TIMEOUT (R462). -/
def execUnacknowledgedTimeout (t : Tick) (s : State) : Host.Outcome State Fault Refusal :=
  s.act t fun s => s.unacknowledged

/-- PAIRING_TIMEOUT (R462). -/
def execPairingTimeout (t : Tick) (s : State) : Host.Outcome State Fault Refusal :=
  s.act t fun s => s.pairingTimeout

/-- RESYNC_START (R466). -/
def execResyncStart (t : Tick) (s : State) : Host.Outcome State Fault Refusal :=
  s.act t fun s => s.resyncStart

/-- RESYNC_WINDOW_EXPIRY (R470). -/
def execResyncWindowExpiry (t : Tick) (s : State) : Host.Outcome State Fault Refusal :=
  s.act t fun s => s.resyncWindow

/-- RESYNC_HOLD_EXPIRY (R470). -/
def execResyncHoldExpiry (t : Tick) (s : State) : Host.Outcome State Fault Refusal :=
  s.act t fun s => s.resyncHold

/-- COUNTER_ADVANCE_SEND (R196). -/
def execCounterAdvanceSend (t : Tick) (s : State) : Host.Outcome State Fault Refusal :=
  s.act t fun s => s.sendAdvances

/-- OUTCOME_BATCH_SYNC (R463). -/
def execOutcomeBatchSync (t : Tick) (s : State) : Host.Outcome State Fault Refusal :=
  s.act t fun s => s.sendBatch

/-- RECEIPT_EXPIRY (R483). -/
def execReceiptExpiry (t : Tick) (tenant : Nat) (nonce : Bytes) (s : State) : Host.Outcome State Fault Refusal :=
  s.act t fun s => s.receiptExpiry tenant nonce

end Sys2Proof.Machine
end

