-- ==== Sys2Proof/Machine/RowsWorlds.lean ====
section
/-! DEFINITION. The rows of sealed memory, protection units and bank groups (chapters 13 and 16). -/

namespace Sys2Proof.Machine

/-- RESAW_START (R418). -/
def execResawStart (t : Tick) (index : Option Nat) (s : State) : Host.Outcome State Fault Refusal :=
  if index.getD 0 ≤ 255 then s.act t fun s => s.resawStart index else .fault .noSuchUnit

/-- RESAW_WINDOW (R418). -/
def execResawWindow (t : Tick) (poisoned : Nat) (s : State) : Host.Outcome State Fault Refusal :=
  s.act t fun s => s.resawWindow poisoned

/-- POT_ENTRY_WRITE (R493). -/
def execPotEntryWrite (t : Tick) (v : BitVec 16) (s : State) : Host.Outcome State Fault Refusal :=
  s.act t fun s => s.potWrite v

/-- POT_ENTRY_EFFECT (R494). -/
def execPotEntryEffect (t : Tick) (s : State) : Host.Outcome State Fault Refusal :=
  s.act t fun s => s.potEffect

/-- MPU_ENTRY_WRITE (R499). -/
def execMpuEntryWrite (t : Tick) (path : Path) (mpu entry reg : Nat) (v : Word32) (s : State) : Host.Outcome State Fault Refusal :=
  if path.ok ∧ mpu ≤ 31 ∧ entry ≤ 31 ∧ reg ≤ 8 ∧ reg % 4 = 0 then
    s.act t fun s => s.mpuWrite path mpu entry reg v
  else .fault .noSuchUnit

/-- KH1_STRADDLE_WRITE (R499). -/
def execKh1StraddleWrite (t : Tick) (core : Nat) (on : Bool) (s : State) : Host.Outcome State Fault Refusal :=
  if core ≤ 15 then s.act t fun s => s.setStraddle core on else .fault .noSuchUnit

/-- BNK_GROUP_OWNER_WRITE (R503). -/
def execBnkGroupOwnerWrite (t : Tick) (g : Nat) (v : Word32) (s : State) : Host.Outcome State Fault Refusal :=
  if g ≤ 7 then s.act t fun s => s.groupOwner g v else .fault .noSuchUnit

/-- BANK_GROUP_WIPE_DONE (R503). -/
def execBankGroupWipeDone (t : Tick) (g : Nat) (s : State) : Host.Outcome State Fault Refusal :=
  if g ≤ 7 then s.act t fun s => s.groupDone g else .fault .noSuchUnit

/-- ISO_DMA_ASSIGN_WRITE (R509). -/
def execIsoDmaAssignWrite (t : Tick) (k : Nat) (v : Word32) (s : State) : Host.Outcome State Fault Refusal :=
  if k ≤ 11 then s.act t fun s => s.dmaAssign k v else .fault .noSuchUnit

/-- ISO_IRQ_ROUTE_WRITE (R510). -/
def execIsoIrqRouteWrite (t : Tick) (l core : Nat) (s : State) : Host.Outcome State Fault Refusal :=
  if l ≤ 127 ∧ core ≤ 19 then s.act t fun s => s.irqRoute l core else .fault .noSuchUnit

end Sys2Proof.Machine
end

