-- ==== Sys2Proof/Machine/Dispatch.lean ====
section
/-! DEFINITION. The dispatch: one arm per command. -/

namespace Sys2Proof.Machine

/-- The effect of a command on everything but the queue. -/
def exec (i : Instr) (s : State) : Host.Outcome State Fault Refusal :=
  match i with
  | .sessionOpen t r => Sys2Proof.Machine.execSessionOpen t r s
  | .sessionClose t r => Sys2Proof.Machine.execSessionClose t r s
  | .askOutcome t r => Sys2Proof.Machine.execAskOutcome t r s
  | .getInfo t r => Sys2Proof.Machine.execGetInfo t r s
  | .attest t r => Sys2Proof.Machine.execAttest t r s
  | .musterComplete t r => Sys2Proof.Machine.execMusterComplete t r s
  | .drowseEnter t r => Sys2Proof.Machine.execDrowseEnter t r s
  | .recoveryEnter t r => Sys2Proof.Machine.execRecoveryEnter t r s
  | .lifecycleAdvance t r => Sys2Proof.Machine.execLifecycleAdvance t r s
  | .acceptWarrant t r => Sys2Proof.Machine.execAcceptWarrant t r s
  | .dropWarrant t r => Sys2Proof.Machine.execDropWarrant t r s
  | .recoveryBegin t r => Sys2Proof.Machine.execRecoveryBegin t r s
  | .recoveryWrite t r => Sys2Proof.Machine.execRecoveryWrite t r s
  | .recoveryCommit t r readBack => Sys2Proof.Machine.execRecoveryCommit t r readBack s
  | .recoveryExit t r => Sys2Proof.Machine.execRecoveryExit t r s
  | .keyGenerate t r => Sys2Proof.Machine.execKeyGenerate t r s
  | .keyImport t r => Sys2Proof.Machine.execKeyImport t r s
  | .keyExport t r => Sys2Proof.Machine.execKeyExport t r s
  | .keyGreen t r => Sys2Proof.Machine.execKeyGreen t r s
  | .keySeason t r => Sys2Proof.Machine.execKeySeason t r s
  | .keyFell t r => Sys2Proof.Machine.execKeyFell t r s
  | .keyInfo t r => Sys2Proof.Machine.execKeyInfo t r s
  | .kh1MapSet t r => Sys2Proof.Machine.execKh1MapSet t r s
  | .cellarExport t r => Sys2Proof.Machine.execCellarExport t r s
  | .cellarRestore t r => Sys2Proof.Machine.execCellarRestore t r s
  | .trunkImport t r => Sys2Proof.Machine.execTrunkImport t r s
  | .trunkReplace t r => Sys2Proof.Machine.execTrunkReplace t r s
  | .domainRootSet t r => Sys2Proof.Machine.execDomainRootSet t r s
  | .ladingExport t r => Sys2Proof.Machine.execLadingExport t r s
  | .ladingImport t r => Sys2Proof.Machine.execLadingImport t r s
  | .encrypt t r => Sys2Proof.Machine.execEncrypt t r s
  | .decrypt t r => Sys2Proof.Machine.execDecrypt t r s
  | .macGenerate t r => Sys2Proof.Machine.execMacGenerate t r s
  | .macVerify t r => Sys2Proof.Machine.execMacVerify t r s
  | .translate t r => Sys2Proof.Machine.execTranslate t r s
  | .digest t r => Sys2Proof.Machine.execDigest t r s
  | .hmacGenerate t r => Sys2Proof.Machine.execHmacGenerate t r s
  | .hmacVerify t r => Sys2Proof.Machine.execHmacVerify t r s
  | .digestSave t r => Sys2Proof.Machine.execDigestSave t r s
  | .digestRestore t r => Sys2Proof.Machine.execDigestRestore t r s
  | .pkSign t r => Sys2Proof.Machine.execPkSign t r s
  | .pkVerify t r => Sys2Proof.Machine.execPkVerify t r s
  | .pkEncrypt t r => Sys2Proof.Machine.execPkEncrypt t r s
  | .pkDecrypt t r => Sys2Proof.Machine.execPkDecrypt t r s
  | .pkKeygen t r => Sys2Proof.Machine.execPkKeygen t r s
  | .pkDerive t r => Sys2Proof.Machine.execPkDerive t r s
  | .curveLoad t r => Sys2Proof.Machine.execCurveLoad t r s
  | .getRandom t r => Sys2Proof.Machine.execGetRandom t r s
  | .ledgerCreate t r => Sys2Proof.Machine.execLedgerCreate t r s
  | .accountOpen t r => Sys2Proof.Machine.execAccountOpen t r s
  | .accountSetState t r => Sys2Proof.Machine.execAccountSetState t r s
  | .postLegs t r => Sys2Proof.Machine.execPostLegs t r s
  | .accrue t r => Sys2Proof.Machine.execAccrue t r s
  | .sealFetch t r => Sys2Proof.Machine.execSealFetch t r s
  | .journalBlock t r => Sys2Proof.Machine.execJournalBlock t r s
  | .checkpoint t r => Sys2Proof.Machine.execCheckpoint t r s
  | .boardRestore t r => Sys2Proof.Machine.execBoardRestore t r s
  | .journalRollForward t r => Sys2Proof.Machine.execJournalRollForward t r s
  | .custodianEnrol t r => Sys2Proof.Machine.execCustodianEnrol t r s
  | .custodianRemove t r => Sys2Proof.Machine.execCustodianRemove t r s
  | .quorumBegin t r => Sys2Proof.Machine.execQuorumBegin t r s
  | .cardAuthenticate t r => Sys2Proof.Machine.execCardAuthenticate t r s
  | .quorumStatus t r => Sys2Proof.Machine.execQuorumStatus t r s
  | .quorumCancel t r => Sys2Proof.Machine.execQuorumCancel t r s
  | .shareExport t r => Sys2Proof.Machine.execShareExport t r s
  | .shareImport t r => Sys2Proof.Machine.execShareImport t r s
  | .twinStatus t r => Sys2Proof.Machine.execTwinStatus t r s
  | .twinDetach t r => Sys2Proof.Machine.execTwinDetach t r s
  | .twinRepair t r => Sys2Proof.Machine.execTwinRepair t r s
  | .caravanStatus t r => Sys2Proof.Machine.execCaravanStatus t r s
  | .logFreeze t r => Sys2Proof.Machine.execLogFreeze t r s
  | .logThaw t r => Sys2Proof.Machine.execLogThaw t r s
  | .logExport t r => Sys2Proof.Machine.execLogExport t r s
  | .captureStart t r => Sys2Proof.Machine.execCaptureStart t r s
  | .captureStop t r => Sys2Proof.Machine.execCaptureStop t r s
  | .replayStart t r => Sys2Proof.Machine.execReplayStart t r s
  | .replayStop t r => Sys2Proof.Machine.execReplayStop t r s
  | .pinTranslate t r => Sys2Proof.Machine.execPinTranslate t r s
  | .pinVerify t r => Sys2Proof.Machine.execPinVerify t r s
  | .cardCheckGenerate t r => Sys2Proof.Machine.execCardCheckGenerate t r s
  | .cardCheckVerify t r => Sys2Proof.Machine.execCardCheckVerify t r s
  | .encipher t r => Sys2Proof.Machine.execEncipher t r s
  | .decipher t r => Sys2Proof.Machine.execDecipher t r s
  | .macGen t r => Sys2Proof.Machine.execMacGen t r s
  | .macVer t r => Sys2Proof.Machine.execMacVer t r s
  | .balMacGen t r => Sys2Proof.Machine.execBalMacGen t r s
  | .balMacVer t r => Sys2Proof.Machine.execBalMacVer t r s
  | .pinXlate t r => Sys2Proof.Machine.execPinXlate t r s
  | .kh1PinVerify t r => Sys2Proof.Machine.execKh1PinVerify t r s
  | .random t r => Sys2Proof.Machine.execRandom t r s
  | .sqTailDoorbell t fn q v => Sys2Proof.Machine.execSqTailDoorbell t fn q v s
  | .cqHeadDoorbell t fn q v => Sys2Proof.Machine.execCqHeadDoorbell t fn q v s
  | .sqEntryFetched t fn q f => Sys2Proof.Machine.execSqEntryFetched t fn q f s
  | .queueEnable t fn q v => Sys2Proof.Machine.execQueueEnable t fn q v s
  | .queueDisable t fn q v => Sys2Proof.Machine.execQueueDisable t fn q v s
  | .queueDrainEnd t fn q => Sys2Proof.Machine.execQueueDrainEnd t fn q s
  | .msixAggregationTimeout t fn q => Sys2Proof.Machine.execMsixAggregationTimeout t fn q s
  | .ttuWindowWrite t fn w reg v => Sys2Proof.Machine.execTtuWindowWrite t fn w reg v s
  | .flrStart t vf => Sys2Proof.Machine.execFlrStart t vf s
  | .flrComplete t vf => Sys2Proof.Machine.execFlrComplete t vf s
  | .vfDisable t vfEnable numVfs => Sys2Proof.Machine.execVfDisable t vfEnable numVfs s
  | .configurationRequest t fn c => Sys2Proof.Machine.execConfigurationRequest t fn c s
  | .hostInterfaceReset t k => Sys2Proof.Machine.execHostInterfaceReset t k s
  | .bar0MisalignedAccess t fn write => Sys2Proof.Machine.execBar0MisalignedAccess t fn write s
  | .poisonedWrite t fn => Sys2Proof.Machine.execPoisonedWrite t fn s
  | .ecrcFailure t fn => Sys2Proof.Machine.execEcrcFailure t fn s
  | .dmaCompletion t fn q k stamp good => Sys2Proof.Machine.execDmaCompletion t fn q k stamp good s
  | .completionTimeout t fn q k => Sys2Proof.Machine.execCompletionTimeout t fn q k s
  | .registerWrite t path off v eight => Sys2Proof.Machine.execRegisterWrite t path off v eight s
  | .pairCaptureRead t path off eight => Sys2Proof.Machine.execPairCaptureRead t path off eight s
  | .rngFifoDataRead t => Sys2Proof.Machine.execRngFifoDataRead t s
  | .domainOn t domain units discard rsv => Sys2Proof.Machine.execDomainOn t domain units discard rsv s
  | .domainRetain t domain units discard rsv => Sys2Proof.Machine.execDomainRetain t domain units discard rsv s
  | .domainOff t domain units discard rsv => Sys2Proof.Machine.execDomainOff t domain units discard rsv s
  | .powerRequestDecision t => Sys2Proof.Machine.execPowerRequestDecision t s
  | .powerRequestEnd t copyGood testsPass => Sys2Proof.Machine.execPowerRequestEnd t copyGood testsPass s
  | .pwrClkOverrideWrite t island mhz => Sys2Proof.Machine.execPwrClkOverrideWrite t island mhz s
  | .irqGroupWrite t g v => Sys2Proof.Machine.execIrqGroupWrite t g v s
  | .leafCauseClear t leaf v => Sys2Proof.Machine.execLeafCauseClear t leaf v s
  | .resawStart t index => Sys2Proof.Machine.execResawStart t index s
  | .resawWindow t poisoned => Sys2Proof.Machine.execResawWindow t poisoned s
  | .ndlPortEnable t port on => Sys2Proof.Machine.execNdlPortEnable t port on s
  | .ndlRetrain t port => Sys2Proof.Machine.execNdlRetrain t port s
  | .ndlDrop t port => Sys2Proof.Machine.execNdlDrop t port s
  | .potEntryWrite t v => Sys2Proof.Machine.execPotEntryWrite t v s
  | .potEntryEffect t => Sys2Proof.Machine.execPotEntryEffect t s
  | .mpuEntryWrite t path mpu entry reg v => Sys2Proof.Machine.execMpuEntryWrite t path mpu entry reg v s
  | .kh1StraddleWrite t core on => Sys2Proof.Machine.execKh1StraddleWrite t core on s
  | .bnkGroupOwnerWrite t g v => Sys2Proof.Machine.execBnkGroupOwnerWrite t g v s
  | .bankGroupWipeDone t g => Sys2Proof.Machine.execBankGroupWipeDone t g s
  | .isoDmaAssignWrite t k v => Sys2Proof.Machine.execIsoDmaAssignWrite t k v s
  | .isoIrqRouteWrite t l core => Sys2Proof.Machine.execIsoIrqRouteWrite t l core s
  | .logPeekIndexWrite t path v => Sys2Proof.Machine.execLogPeekIndexWrite t path v s
  | .rplBreakWrite t v => Sys2Proof.Machine.execRplBreakWrite t v s
  | .i3cPrivateWrite t data => Sys2Proof.Machine.execI3cPrivateWrite t data s
  | .i3cPrivateRead t n => Sys2Proof.Machine.execI3cPrivateRead t n s
  | .setdasa t addr => Sys2Proof.Machine.execSetdasa t addr s
  | .rstdaa t => Sys2Proof.Machine.execRstdaa t s
  | .getbcr t => Sys2Proof.Machine.execGetbcr t s
  | .getdcr t => Sys2Proof.Machine.execGetdcr t s
  | .getstatus t => Sys2Proof.Machine.execGetstatus t s
  | .enec t => Sys2Proof.Machine.execEnec t s
  | .disec t => Sys2Proof.Machine.execDisec t s
  | .idcode t => Sys2Proof.Machine.execIdcode t s
  | .samplePreload t balls shift => Sys2Proof.Machine.execSamplePreload t balls shift s
  | .extest t => Sys2Proof.Machine.execExtest t s
  | .clamp t => Sys2Proof.Machine.execClamp t s
  | .highz t => Sys2Proof.Machine.execHighz t s
  | .bypass t code => Sys2Proof.Machine.execBypass t code s
  | .lcsAdvance t => Sys2Proof.Machine.execLcsAdvance t s
  | .debugAccess t code op => Sys2Proof.Machine.execDebugAccess t code op s
  | .tapReset t => Sys2Proof.Machine.execTapReset t s
  | .powerOnReset t => Sys2Proof.Machine.execPowerOnReset t s
  | .sysResetNAssert t ns => Sys2Proof.Machine.execSysResetNAssert t ns s
  | .sysResetNDeassert t => Sys2Proof.Machine.execSysResetNDeassert t s
  | .mainPowerLoss t => Sys2Proof.Machine.execMainPowerLoss t s
  | .vbatLossInDormant t => Sys2Proof.Machine.execVbatLossInDormant t s
  | .otpDecode t badEntries => Sys2Proof.Machine.execOtpDecode t badEntries s
  | .tallyCatchUp t => Sys2Proof.Machine.execTallyCatchUp t s
  | .entropyStartUp t katPass failed => Sys2Proof.Machine.execEntropyStartUp t katPass failed s
  | .manifestHeaderRead t header flashSize => Sys2Proof.Machine.execManifestHeaderRead t header flashSize s
  | .flashIdentificationTimeout t => Sys2Proof.Machine.execFlashIdentificationTimeout t s
  | .settingsSectionRead t data => Sys2Proof.Machine.execSettingsSectionRead t data s
  | .firmwareSectionsRead t sections => Sys2Proof.Machine.execFirmwareSectionsRead t sections s
  | .sdramTrainingDone t ch0 ch1 mismatch config => Sys2Proof.Machine.execSdramTrainingDone t ch0 ch1 mismatch config s
  | .barrierStart t => Sys2Proof.Machine.execBarrierStart t s
  | .barrierAck t island stamp => Sys2Proof.Machine.execBarrierAck t island stamp s
  | .barrierTimeout t => Sys2Proof.Machine.execBarrierTimeout t s
  | .lcsBitWrite t verified => Sys2Proof.Machine.execLcsBitWrite t verified s
  | .tallyIncrement t verified => Sys2Proof.Machine.execTallyIncrement t verified s
  | .tamperConditionOnset t cls detail => Sys2Proof.Machine.execTamperConditionOnset t cls detail s
  | .tamperConditionClear t cls => Sys2Proof.Machine.execTamperConditionClear t cls s
  | .glitchExcursionEnd t cls first detail => Sys2Proof.Machine.execGlitchExcursionEnd t cls first detail s
  | .tamperDebounceExpiry t classes => Sys2Proof.Machine.execTamperDebounceExpiry t classes s
  | .dozeSample t held => Sys2Proof.Machine.execDozeSample t held s
  | .severDrainDone t => Sys2Proof.Machine.execSeverDrainDone t s
  | .clearsDone t => Sys2Proof.Machine.execClearsDone t s
  | .cardInsertion t port => Sys2Proof.Machine.execCardInsertion t port s
  | .cardInsertionRecognised t port => Sys2Proof.Machine.execCardInsertionRecognised t port s
  | .cardRemoval t port => Sys2Proof.Machine.execCardRemoval t port s
  | .overcurrentOnset t port => Sys2Proof.Machine.execOvercurrentOnset t port s
  | .overcurrentFilterExpiry t port => Sys2Proof.Machine.execOvercurrentFilterExpiry t port s
  | .cardActivationTimer t port => Sys2Proof.Machine.execCardActivationTimer t port s
  | .cardDeactivationTimer t port => Sys2Proof.Machine.execCardDeactivationTimer t port s
  | .atrTimeout t port => Sys2Proof.Machine.execAtrTimeout t port s
  | .cardAtr t port atr => Sys2Proof.Machine.execCardAtr t port atr s
  | .ppsResponse t port data => Sys2Proof.Machine.execPpsResponse t port data s
  | .ppsTimeout t port => Sys2Proof.Machine.execPpsTimeout t port s
  | .sIfsResponse t port data => Sys2Proof.Machine.execSIfsResponse t port data s
  | .t1IBlock t port block stamp => Sys2Proof.Machine.execT1IBlock t port block stamp s
  | .t1RBlock t port block stamp => Sys2Proof.Machine.execT1RBlock t port block stamp s
  | .t1BadBlock t port => Sys2Proof.Machine.execT1BadBlock t port s
  | .bwtExpiry t port => Sys2Proof.Machine.execBwtExpiry t port s
  | .sWtxRequest t port mult => Sys2Proof.Machine.execSWtxRequest t port mult s
  | .sAbortRequest t port => Sys2Proof.Machine.execSAbortRequest t port s
  | .sResynchResponse t port => Sys2Proof.Machine.execSResynchResponse t port s
  | .selectAnswer t port sw => Sys2Proof.Machine.execSelectAnswer t port sw s
  | .readCertAnswer t port data sw => Sys2Proof.Machine.execReadCertAnswer t port data sw s
  | .authenticateAnswer t port data sw => Sys2Proof.Machine.execAuthenticateAnswer t port data sw s
  | .confirmAnswer t port sw stamp => Sys2Proof.Machine.execConfirmAnswer t port sw stamp s
  | .bindAnswer t port sw => Sys2Proof.Machine.execBindAnswer t port sw s
  | .transitInsertion t => Sys2Proof.Machine.execTransitInsertion t s
  | .transitRemoval t => Sys2Proof.Machine.execTransitRemoval t s
  | .sdPowerUpTimer t => Sys2Proof.Machine.execSdPowerUpTimer t s
  | .sdCommandResponse t data crcGood => Sys2Proof.Machine.execSdCommandResponse t data crcGood s
  | .sdResponseTimeout t => Sys2Proof.Machine.execSdResponseTimeout t s
  | .sdReadBlock t data crcGood => Sys2Proof.Machine.execSdReadBlock t data crcGood s
  | .sdReadTimeout t => Sys2Proof.Machine.execSdReadTimeout t s
  | .sdCrcStatusToken t good => Sys2Proof.Machine.execSdCrcStatusToken t good s
  | .sdBusyEnd t => Sys2Proof.Machine.execSdBusyEnd t s
  | .sdBusyTimeout t => Sys2Proof.Machine.execSdBusyTimeout t s
  | .acmd41Retry t => Sys2Proof.Machine.execAcmd41Retry t s
  | .acmd41Timeout t => Sys2Proof.Machine.execAcmd41Timeout t s
  | .voltageSwitchWait t datHigh => Sys2Proof.Machine.execVoltageSwitchWait t datHigh s
  | .datHighTimeout t => Sys2Proof.Machine.execDatHighTimeout t s
  | .sdPowerCycleWait t => Sys2Proof.Machine.execSdPowerCycleWait t s
  | .sdTuningBlock t good => Sys2Proof.Machine.execSdTuningBlock t good s
  | .ndlDetectTimer t port terminated => Sys2Proof.Machine.execNdlDetectTimer t port terminated s
  | .trainingSequence t port lane ts => Sys2Proof.Machine.execTrainingSequence t port lane ts s
  | .trainingWindowExpiry t port => Sys2Proof.Machine.execTrainingWindowExpiry t port s
  | .keyFailBackoffExpiry t port => Sys2Proof.Machine.execKeyFailBackoffExpiry t port s
  | .laneLockLoss t port lane => Sys2Proof.Machine.execLaneLockLoss t port lane s
  | .retrainWindowExpiry t port => Sys2Proof.Machine.execRetrainWindowExpiry t port s
  | .flitReceived t port flit => Sys2Proof.Machine.execFlitReceived t port flit s
  | .nakReceived t port flit => Sys2Proof.Machine.execNakReceived t port flit s
  | .replayTimerExpiry t port => Sys2Proof.Machine.execReplayTimerExpiry t port s
  | .convoyTagCheck t port => Sys2Proof.Machine.execConvoyTagCheck t port s
  | .messageForward t port msg => Sys2Proof.Machine.execMessageForward t port msg s
  | .keyOffer t port offer => Sys2Proof.Machine.execKeyOffer t port offer s
  | .keyConfirm t port confirm => Sys2Proof.Machine.execKeyConfirm t port confirm s
  | .routeProbe t m => Sys2Proof.Machine.execRouteProbe t m s
  | .routeEcho t m => Sys2Proof.Machine.execRouteEcho t m s
  | .mirrorPosting t m => Sys2Proof.Machine.execMirrorPosting t m s
  | .mirrorAck t m => Sys2Proof.Machine.execMirrorAck t m s
  | .cellarSync t m => Sys2Proof.Machine.execCellarSync t m s
  | .cellarSyncAck t m => Sys2Proof.Machine.execCellarSyncAck t m s
  | .counterAdvance t m => Sys2Proof.Machine.execCounterAdvance t m s
  | .resyncBulk t m => Sys2Proof.Machine.execResyncBulk t m s
  | .resyncAck t m => Sys2Proof.Machine.execResyncAck t m s
  | .twinState t m => Sys2Proof.Machine.execTwinState t m s
  | .decisionRecord t m => Sys2Proof.Machine.execDecisionRecord t m s
  | .legPrepare t m => Sys2Proof.Machine.execLegPrepare t m s
  | .legPrepared t m => Sys2Proof.Machine.execLegPrepared t m s
  | .legRefused t m => Sys2Proof.Machine.execLegRefused t m s
  | .legCommit t m => Sys2Proof.Machine.execLegCommit t m s
  | .legAbort t m => Sys2Proof.Machine.execLegAbort t m s
  | .legDone t m => Sys2Proof.Machine.execLegDone t m s
  | .legReport t m => Sys2Proof.Machine.execLegReport t m s
  | .epochPrepare t m => Sys2Proof.Machine.execEpochPrepare t m s
  | .epochReady t m => Sys2Proof.Machine.execEpochReady t m s
  | .epochCommit t m => Sys2Proof.Machine.execEpochCommit t m s
  | .epochRollback t m => Sys2Proof.Machine.execEpochRollback t m s
  | .epochRefuse t m => Sys2Proof.Machine.execEpochRefuse t m s
  | .epochDone t m => Sys2Proof.Machine.execEpochDone t m s
  | .commandForward t m => Sys2Proof.Machine.execCommandForward t m s
  | .commandResult t m => Sys2Proof.Machine.execCommandResult t m s
  | .ladingMove t m => Sys2Proof.Machine.execLadingMove t m s
  | .ladingAck t m => Sys2Proof.Machine.execLadingAck t m s
  | .mirrorTimeout t txn => Sys2Proof.Machine.execMirrorTimeout t txn s
  | .syncTimeout t txn => Sys2Proof.Machine.execSyncTimeout t txn s
  | .caravanTimeout t txn => Sys2Proof.Machine.execCaravanTimeout t txn s
  | .epochPrepareWindowExpiry t => Sys2Proof.Machine.execEpochPrepareWindowExpiry t s
  | .prepareWindowExpiry t ledger id => Sys2Proof.Machine.execPrepareWindowExpiry t ledger id s
  | .decisionWindowExpiry t ledger id => Sys2Proof.Machine.execDecisionWindowExpiry t ledger id s
  | .twinDisconnectTimeout t => Sys2Proof.Machine.execTwinDisconnectTimeout t s
  | .unacknowledgedTimeout t => Sys2Proof.Machine.execUnacknowledgedTimeout t s
  | .pairingTimeout t => Sys2Proof.Machine.execPairingTimeout t s
  | .resyncStart t => Sys2Proof.Machine.execResyncStart t s
  | .resyncWindowExpiry t => Sys2Proof.Machine.execResyncWindowExpiry t s
  | .resyncHoldExpiry t => Sys2Proof.Machine.execResyncHoldExpiry t s
  | .counterAdvanceSend t => Sys2Proof.Machine.execCounterAdvanceSend t s
  | .outcomeBatchSync t => Sys2Proof.Machine.execOutcomeBatchSync t s
  | .receiptExpiry t tenant nonce => Sys2Proof.Machine.execReceiptExpiry t tenant nonce s
  | .pendingMarkClear t r => Sys2Proof.Machine.execPendingMarkClear t r s
  | .checkpointCopyDone t ledger => Sys2Proof.Machine.execCheckpointCopyDone t ledger s
  | .journalBlockSign t ledger => Sys2Proof.Machine.execJournalBlockSign t ledger s
  | .captureBaseCopyDone t => Sys2Proof.Machine.execCaptureBaseCopyDone t s
  | .replayRecord t => Sys2Proof.Machine.execReplayRecord t s
  | .logFreezeWindowClose t => Sys2Proof.Machine.execLogFreezeWindowClose t s
  | .skidderVisit t => Sys2Proof.Machine.execSkidderVisit t s
  | .scrubberRead t a word errors => Sys2Proof.Machine.execScrubberRead t a word errors s
  | .laneJobDispatch t k lane => Sys2Proof.Machine.execLaneJobDispatch t k lane s
  | .maskReseedPoint t lane => Sys2Proof.Machine.execMaskReseedPoint t lane s
  | .cipherJobDone t lane fault => Sys2Proof.Machine.execCipherJobDone t lane fault s
  | .digestJobDone t lane fault => Sys2Proof.Machine.execDigestJobDone t lane fault s
  | .bigNumberJobDone t lane fault discards => Sys2Proof.Machine.execBigNumberJobDone t lane fault discards s
  | .decimalJobDone t lane fault => Sys2Proof.Machine.execDecimalJobDone t lane fault s
  | .startUpTestDone t source rctFail aptFail => Sys2Proof.Machine.execStartUpTestDone t source rctFail aptFail s
  | .repetitionCountTestFail t source => Sys2Proof.Machine.execRepetitionCountTestFail t source s
  | .adaptiveProportionTestFail t source => Sys2Proof.Machine.execAdaptiveProportionTestFail t source s
  | .conditionerBlockClose t => Sys2Proof.Machine.execConditionerBlockClose t s
  | .quarantineWindowClose t source => Sys2Proof.Machine.execQuarantineWindowClose t source s
  | .bufferRefill t k lane => Sys2Proof.Machine.execBufferRefill t k lane s
  | .wardenFifoRefill t => Sys2Proof.Machine.execWardenFifoRefill t s
  | .commandDeadlineExpiry t r => Sys2Proof.Machine.execCommandDeadlineExpiry t r s
  | .cellFitted t => Sys2Proof.Machine.execCellFitted t s
  | .pcieLinkUp t width speed => Sys2Proof.Machine.execPcieLinkUp t width speed s

end Sys2Proof.Machine
end

