-- ==== Sys2Proof/WellFormed.lean ====
section
/-! DEFINITION. The check of a command: its operands name units that the spec gives the block. -/

namespace Sys2Proof

/-- The command is well formed. -/
def Instr.wf (i : Instr) : Bool :=
  match i with
  | .sessionOpen _ r => r.ok
  | .sessionClose _ r => r.ok
  | .askOutcome _ r => r.ok
  | .getInfo _ r => r.ok
  | .attest _ r => r.ok
  | .musterComplete _ r => r.ok
  | .drowseEnter _ r => r.ok
  | .recoveryEnter _ r => r.ok
  | .lifecycleAdvance _ r => r.ok
  | .acceptWarrant _ r => r.ok
  | .dropWarrant _ r => r.ok
  | .recoveryBegin _ r => r.ok
  | .recoveryWrite _ r => r.ok
  | .recoveryCommit _ r _ => r.ok
  | .recoveryExit _ r => r.ok
  | .keyGenerate _ r => r.ok
  | .keyImport _ r => r.ok
  | .keyExport _ r => r.ok
  | .keyGreen _ r => r.ok
  | .keySeason _ r => r.ok
  | .keyFell _ r => r.ok
  | .keyInfo _ r => r.ok
  | .kh1MapSet _ r => r.ok
  | .cellarExport _ r => r.ok
  | .cellarRestore _ r => r.ok
  | .trunkImport _ r => r.ok
  | .trunkReplace _ r => r.ok
  | .domainRootSet _ r => r.ok
  | .ladingExport _ r => r.ok
  | .ladingImport _ r => r.ok
  | .encrypt _ r => r.ok
  | .decrypt _ r => r.ok
  | .macGenerate _ r => r.ok
  | .macVerify _ r => r.ok
  | .translate _ r => r.ok
  | .digest _ r => r.ok
  | .hmacGenerate _ r => r.ok
  | .hmacVerify _ r => r.ok
  | .digestSave _ r => r.ok
  | .digestRestore _ r => r.ok
  | .pkSign _ r => r.ok
  | .pkVerify _ r => r.ok
  | .pkEncrypt _ r => r.ok
  | .pkDecrypt _ r => r.ok
  | .pkKeygen _ r => r.ok
  | .pkDerive _ r => r.ok
  | .curveLoad _ r => r.ok
  | .getRandom _ r => r.ok
  | .ledgerCreate _ r => r.ok
  | .accountOpen _ r => r.ok
  | .accountSetState _ r => r.ok
  | .postLegs _ r => r.ok
  | .accrue _ r => r.ok
  | .sealFetch _ r => r.ok
  | .journalBlock _ r => r.ok
  | .checkpoint _ r => r.ok
  | .boardRestore _ r => r.ok
  | .journalRollForward _ r => r.ok
  | .custodianEnrol _ r => r.ok
  | .custodianRemove _ r => r.ok
  | .quorumBegin _ r => r.ok
  | .cardAuthenticate _ r => r.ok
  | .quorumStatus _ r => r.ok
  | .quorumCancel _ r => r.ok
  | .shareExport _ r => r.ok
  | .shareImport _ r => r.ok
  | .twinStatus _ r => r.ok
  | .twinDetach _ r => r.ok
  | .twinRepair _ r => r.ok
  | .caravanStatus _ r => r.ok
  | .logFreeze _ r => r.ok
  | .logThaw _ r => r.ok
  | .logExport _ r => r.ok
  | .captureStart _ r => r.ok
  | .captureStop _ r => r.ok
  | .replayStart _ r => r.ok
  | .replayStop _ r => r.ok
  | .pinTranslate _ r => r.ok
  | .pinVerify _ r => r.ok
  | .cardCheckGenerate _ r => r.ok
  | .cardCheckVerify _ r => r.ok
  | .encipher _ r => r.ok
  | .decipher _ r => r.ok
  | .macGen _ r => r.ok
  | .macVer _ r => r.ok
  | .balMacGen _ r => r.ok
  | .balMacVer _ r => r.ok
  | .pinXlate _ r => r.ok
  | .kh1PinVerify _ r => r.ok
  | .random _ r => r.ok
  | .sqTailDoorbell _ fn q _ => decide (fn ≤ 255) && decide (q ≤ 15)
  | .cqHeadDoorbell _ fn q _ => decide (fn ≤ 255) && decide (q ≤ 15)
  | .sqEntryFetched _ fn q _ => decide (fn ≤ 255) && decide (q ≤ 15)
  | .queueEnable _ fn q _ => decide (fn ≤ 255) && decide (q ≤ 15)
  | .queueDisable _ fn q _ => decide (fn ≤ 255) && decide (q ≤ 15)
  | .queueDrainEnd _ fn q => decide (fn ≤ 255) && decide (q ≤ 15)
  | .msixAggregationTimeout _ fn q => decide (fn ≤ 255) && decide (q ≤ 15)
  | .ttuWindowWrite _ fn w reg _ => decide (fn ≤ 255) && decide (w ≤ 7) && decide (reg ≤ 16) && decide (reg % 4 = 0)
  | .flrStart _ vf => decide (1 ≤ vf) && decide (vf ≤ 255)
  | .flrComplete _ vf => decide (1 ≤ vf) && decide (vf ≤ 255)
  | .vfDisable _ _ numVfs => decide (numVfs ≤ 255)
  | .configurationRequest _ fn _ => decide (fn ≤ 255)
  | .hostInterfaceReset _ _ => true
  | .bar0MisalignedAccess _ fn _ => decide (fn ≤ 255)
  | .poisonedWrite _ fn => decide (fn ≤ 255)
  | .ecrcFailure _ fn => decide (fn ≤ 255)
  | .dmaCompletion _ fn q _ _ _ => decide (fn ≤ 255) && decide (q ≤ 15)
  | .completionTimeout _ fn q _ => decide (fn ≤ 255) && decide (q ≤ 15)
  | .registerWrite _ path _ _ _ => path.ok
  | .pairCaptureRead _ path _ _ => path.ok
  | .rngFifoDataRead _ => true
  | .domainOn _ domain _ _ _ => decide (domain ≤ 31)
  | .domainRetain _ domain _ _ _ => decide (domain ≤ 31)
  | .domainOff _ domain _ _ _ => decide (domain ≤ 31)
  | .powerRequestDecision _ => true
  | .powerRequestEnd _ _ _ => true
  | .pwrClkOverrideWrite _ island _ => decide (island ≤ 12)
  | .irqGroupWrite _ g _ => decide (g ≤ 7)
  | .leafCauseClear _ _ _ => true
  | .resawStart _ index => decide (index.getD 0 ≤ 255)
  | .resawWindow _ _ => true
  | .ndlPortEnable _ port _ => decide (port ≤ 3)
  | .ndlRetrain _ port => decide (port ≤ 3)
  | .ndlDrop _ port => decide (port ≤ 3)
  | .potEntryWrite _ _ => true
  | .potEntryEffect _ => true
  | .mpuEntryWrite _ path mpu entry reg _ => path.ok && decide (mpu ≤ 31) && decide (entry ≤ 31) && decide (reg ≤ 8) && decide (reg % 4 = 0)
  | .kh1StraddleWrite _ core _ => decide (core ≤ 15)
  | .bnkGroupOwnerWrite _ g _ => decide (g ≤ 7)
  | .bankGroupWipeDone _ g => decide (g ≤ 7)
  | .isoDmaAssignWrite _ k _ => decide (k ≤ 11)
  | .isoIrqRouteWrite _ l core => decide (l ≤ 127) && decide (core ≤ 19)
  | .logPeekIndexWrite _ path _ => path.ok
  | .rplBreakWrite _ _ => true
  | .i3cPrivateWrite _ _ => true
  | .i3cPrivateRead _ _ => true
  | .setdasa _ _ => true
  | .rstdaa _ => true
  | .getbcr _ => true
  | .getdcr _ => true
  | .getstatus _ => true
  | .enec _ => true
  | .disec _ => true
  | .idcode _ => true
  | .samplePreload _ _ _ => true
  | .extest _ => true
  | .clamp _ => true
  | .highz _ => true
  | .bypass _ _ => true
  | .lcsAdvance _ => true
  | .debugAccess _ _ _ => true
  | .tapReset _ => true
  | .powerOnReset _ => true
  | .sysResetNAssert _ _ => true
  | .sysResetNDeassert _ => true
  | .mainPowerLoss _ => true
  | .vbatLossInDormant _ => true
  | .otpDecode _ _ => true
  | .tallyCatchUp _ => true
  | .entropyStartUp _ _ _ => true
  | .manifestHeaderRead _ _ _ => true
  | .flashIdentificationTimeout _ => true
  | .settingsSectionRead _ _ => true
  | .firmwareSectionsRead _ _ => true
  | .sdramTrainingDone _ _ _ _ _ => true
  | .barrierStart _ => true
  | .barrierAck _ island _ => decide (island ≤ 12)
  | .barrierTimeout _ => true
  | .lcsBitWrite _ _ => true
  | .tallyIncrement _ _ => true
  | .tamperConditionOnset _ cls _ => decide (cls ≤ 21)
  | .tamperConditionClear _ cls => decide (cls ≤ 21)
  | .glitchExcursionEnd _ cls _ _ => decide (13 ≤ cls) && decide (cls ≤ 15)
  | .tamperDebounceExpiry _ _ => true
  | .dozeSample _ _ => true
  | .severDrainDone _ => true
  | .clearsDone _ => true
  | .cardInsertion _ port => decide (port ≤ 3)
  | .cardInsertionRecognised _ port => decide (port ≤ 3)
  | .cardRemoval _ port => decide (port ≤ 3)
  | .overcurrentOnset _ port => decide (port ≤ 3)
  | .overcurrentFilterExpiry _ port => decide (port ≤ 3)
  | .cardActivationTimer _ port => decide (port ≤ 3)
  | .cardDeactivationTimer _ port => decide (port ≤ 3)
  | .atrTimeout _ port => decide (port ≤ 3)
  | .cardAtr _ port _ => decide (port ≤ 3)
  | .ppsResponse _ port _ => decide (port ≤ 3)
  | .ppsTimeout _ port => decide (port ≤ 3)
  | .sIfsResponse _ port _ => decide (port ≤ 3)
  | .t1IBlock _ port _ _ => decide (port ≤ 3)
  | .t1RBlock _ port _ _ => decide (port ≤ 3)
  | .t1BadBlock _ port => decide (port ≤ 3)
  | .bwtExpiry _ port => decide (port ≤ 3)
  | .sWtxRequest _ port _ => decide (port ≤ 3)
  | .sAbortRequest _ port => decide (port ≤ 3)
  | .sResynchResponse _ port => decide (port ≤ 3)
  | .selectAnswer _ port _ => decide (port ≤ 3)
  | .readCertAnswer _ port _ _ => decide (port ≤ 3)
  | .authenticateAnswer _ port _ _ => decide (port ≤ 3)
  | .confirmAnswer _ port _ _ => decide (port ≤ 3)
  | .bindAnswer _ port _ => decide (port ≤ 3)
  | .transitInsertion _ => true
  | .transitRemoval _ => true
  | .sdPowerUpTimer _ => true
  | .sdCommandResponse _ _ _ => true
  | .sdResponseTimeout _ => true
  | .sdReadBlock _ _ _ => true
  | .sdReadTimeout _ => true
  | .sdCrcStatusToken _ _ => true
  | .sdBusyEnd _ => true
  | .sdBusyTimeout _ => true
  | .acmd41Retry _ => true
  | .acmd41Timeout _ => true
  | .voltageSwitchWait _ _ => true
  | .datHighTimeout _ => true
  | .sdPowerCycleWait _ => true
  | .sdTuningBlock _ _ => true
  | .ndlDetectTimer _ port _ => decide (port ≤ 3)
  | .trainingSequence _ port lane _ => decide (port ≤ 3) && decide (lane ≤ 3)
  | .trainingWindowExpiry _ port => decide (port ≤ 3)
  | .keyFailBackoffExpiry _ port => decide (port ≤ 3)
  | .laneLockLoss _ port lane => decide (port ≤ 3) && decide (lane ≤ 3)
  | .retrainWindowExpiry _ port => decide (port ≤ 3)
  | .flitReceived _ port _ => decide (port ≤ 3)
  | .nakReceived _ port _ => decide (port ≤ 3)
  | .replayTimerExpiry _ port => decide (port ≤ 3)
  | .convoyTagCheck _ port => decide (port ≤ 3)
  | .messageForward _ port _ => decide (port ≤ 3)
  | .keyOffer _ port _ => decide (port ≤ 3)
  | .keyConfirm _ port _ => decide (port ≤ 3)
  | .routeProbe _ _ => true
  | .routeEcho _ _ => true
  | .mirrorPosting _ _ => true
  | .mirrorAck _ _ => true
  | .cellarSync _ _ => true
  | .cellarSyncAck _ _ => true
  | .counterAdvance _ _ => true
  | .resyncBulk _ _ => true
  | .resyncAck _ _ => true
  | .twinState _ _ => true
  | .decisionRecord _ _ => true
  | .legPrepare _ _ => true
  | .legPrepared _ _ => true
  | .legRefused _ _ => true
  | .legCommit _ _ => true
  | .legAbort _ _ => true
  | .legDone _ _ => true
  | .legReport _ _ => true
  | .epochPrepare _ _ => true
  | .epochReady _ _ => true
  | .epochCommit _ _ => true
  | .epochRollback _ _ => true
  | .epochRefuse _ _ => true
  | .epochDone _ _ => true
  | .commandForward _ _ => true
  | .commandResult _ _ => true
  | .ladingMove _ _ => true
  | .ladingAck _ _ => true
  | .mirrorTimeout _ _ => true
  | .syncTimeout _ _ => true
  | .caravanTimeout _ _ => true
  | .epochPrepareWindowExpiry _ => true
  | .prepareWindowExpiry _ _ _ => true
  | .decisionWindowExpiry _ _ _ => true
  | .twinDisconnectTimeout _ => true
  | .unacknowledgedTimeout _ => true
  | .pairingTimeout _ => true
  | .resyncStart _ => true
  | .resyncWindowExpiry _ => true
  | .resyncHoldExpiry _ => true
  | .counterAdvanceSend _ => true
  | .outcomeBatchSync _ => true
  | .receiptExpiry _ _ _ => true
  | .pendingMarkClear _ r => r.ok
  | .checkpointCopyDone _ _ => true
  | .journalBlockSign _ _ => true
  | .captureBaseCopyDone _ => true
  | .replayRecord _ => true
  | .logFreezeWindowClose _ => true
  | .skidderVisit _ => true
  | .scrubberRead _ _ _ _ => true
  | .laneJobDispatch _ k lane => decide ((k = .cipher ∧ lane ≤ 15 ∨ k = .digest ∧ lane ≤ 7 ∨ k = .bigNumber ∧ lane ≤ 31 ∨ k = .decimal ∧ lane ≤ 3))
  | .maskReseedPoint _ lane => decide (lane ≤ 15)
  | .cipherJobDone _ lane _ => decide (lane ≤ 15)
  | .digestJobDone _ lane _ => decide (lane ≤ 7)
  | .bigNumberJobDone _ lane _ _ => decide (lane ≤ 31)
  | .decimalJobDone _ lane _ => decide (lane ≤ 3)
  | .startUpTestDone _ source _ _ => decide (source ≤ 25)
  | .repetitionCountTestFail _ source => decide (source ≤ 25)
  | .adaptiveProportionTestFail _ source => decide (source ≤ 25)
  | .conditionerBlockClose _ => true
  | .quarantineWindowClose _ source => decide (source ≤ 25)
  | .bufferRefill _ k lane => decide ((k = .cipher ∧ lane ≤ 15 ∨ k = .bigNumber ∧ lane ≤ 31))
  | .wardenFifoRefill _ => true
  | .commandDeadlineExpiry _ r => r.ok
  | .cellFitted _ => true
  | .pcieLinkUp _ width speed => decide (width ≤ 3) && decide (speed ≤ 7)

end Sys2Proof
end

