-- ==== Sys2Proof/Safety.lean ====
section
/-! DEFINITION. What counts as a safe step, and the terms in which the statements about command records are written. -/

namespace Sys2Proof

/-- A step is safe when it answers a next state: neither a fault nor a refusal. -/
def Safe (s : Machine.State) : Prop := ∃ s', Machine.step s = .next s'

/-- Every waiting command names units that exist. -/
def Machine.State.QueueOk (s : Machine.State) : Prop := ∀ c ∈ s.pending, c.wf = true

namespace Machine

/-- The state and the run right after a record has started at tick `t` and passed the checks of Table 5-3, with its body and
input data in clear (R140, R144, R145). -/
def State.begun (s : State) (t : Tick) (r : Rec) (b i : Bytes) : State × Run :=
  let x := (s.at t).start r
  (x.1, { x.2 with body := b, input := i, visits := x.1.visitList x.2.record ((nativeOp r.op).getD 0) })

/-- The started record as its opcode's meaning sees it. -/
def State.cmd (s : State) (t : Tick) (r : Rec) (b i : Bytes) : Cmd :=
  { record := (s.begun t r b i).2.record, tenant := r.tenant, op := r.op, body := b, input := i, tick := (s.begun t r b i).1.tick }

/-- The state after a command row in which the record `r` started, its opcode changed the state by `f` at once, and what the
opcode answered took effect. -/
def State.ends (s : State) (t : Tick) (r : Rec) (b i : Bytes) (f : State → State) (d : Did) : State :=
  let x := s.begun t r b i
  let u := (f x.1).did x.2 d
  { u with rpl := { u.rpl with index := none }, pending := s.pending }

/-- The record `r` that `ref` names is waiting at tick `t` for its command row `op`, can start, is not held back by R144 or
R145, passes the checks of Table 5-3 with body `b` and input data `i` in clear, runs at this device, and finds every domain
it needs ready (R401, R558). -/
structure Accepted (s : State) (t : Tick) (ref : RecRef) (op : Nat) (r : Rec) (b i : Bytes) : Prop where
  named : ref.ok = true
  waits : ((s.at t).waiting.find? fun x => x.ref == ref) = some r
  opcode : r.op = op
  starts : (s.at t).startable r = true
  fresh : (s.at t).preStart r = .go
  checked : ((s.at t).start r).1.postStart r = .ok (b, i)
  here : (s.begun t r b i).1.place (s.begun t r b i).2.record ((nativeOp op).getD 0) b i = none
  serves : (s.begun t r b i).1.needsFail (needs ((nativeOp op).getD 0) b) = none
  trained : (needs ((nativeOp op).getD 0) b).contains 16 = false ∨ (s.begun t r b i).1.smc.trained = true

/-- Command rows, part 1. -/
def commandRows1 : List (Nat × (Tick → RecRef → Instr)) :=
  [(0x0110, .recoveryBegin), (0x0111, .recoveryWrite), (0x0113, .recoveryExit),
   (0x0112, fun t r => .recoveryCommit t r true), (0x0112, fun t r => .recoveryCommit t r false),
   (0x0804, .cardAuthenticate), (0x0801, .custodianEnrol), (0x0807, .shareExport), (0x0808, .shareImport),
   (0x0301, .encrypt), (0x0302, .decrypt), (0x0303, .macGenerate), (0x0304, .macVerify), (0x0305, .translate),
   (0x10010, .encipher), (0x10011, .decipher), (0x10020, .macGen), (0x10021, .macVer), (0x10040, .pinXlate),
   (0x10041, .kh1PinVerify), (0x0B01, .pinTranslate), (0x0B02, .pinVerify), (0x0B03, .cardCheckGenerate),
   (0x0B04, .cardCheckVerify), (0x0101, .sessionOpen), (0x0102, .sessionClose), (0x0103, .askOutcome),
   (0x0104, .getInfo), (0x0105, .attest), (0x0106, .musterComplete), (0x0107, .drowseEnter)]

/-- Command rows, part 2. -/
def commandRows2 : List (Nat × (Tick → RecRef → Instr)) :=
  [(0x0A04, .captureStart), (0x0A05, .captureStop), (0x0A06, .replayStart), (0x0A07, .replayStop),
   (0x0201, .keyGenerate), (0x0202, .keyImport), (0x0203, .keyExport), (0x0204, .keyGreen), (0x0205, .keySeason),
   (0x0206, .keyFell), (0x0207, .keyInfo), (0x0208, .kh1MapSet), (0x0209, .cellarExport), (0x020A, .cellarRestore),
   (0x020B, .trunkImport), (0x020C, .trunkReplace), (0x020D, .domainRootSet), (0x0802, .custodianRemove),
   (0x0803, .quorumBegin), (0x0805, .quorumStatus), (0x0806, .quorumCancel), (0x0401, .digest),
   (0x0402, .hmacGenerate), (0x0403, .hmacVerify), (0x0404, .digestSave), (0x0405, .digestRestore),
   (0x0501, .pkSign), (0x0502, .pkVerify), (0x0503, .pkEncrypt), (0x0504, .pkDecrypt), (0x0505, .pkKeygen)]

/-- Command rows, part 3. -/
def commandRows3 : List (Nat × (Tick → RecRef → Instr)) :=
  [(0x0506, .pkDerive), (0x0507, .curveLoad), (0x0701, .ledgerCreate), (0x0702, .accountOpen),
   (0x0703, .accountSetState), (0x0704, .postLegs), (0x0705, .accrue), (0x0706, .sealFetch), (0x0707, .journalBlock),
   (0x0708, .checkpoint), (0x0709, .boardRestore), (0x070A, .journalRollForward), (0x10030, .balMacGen),
   (0x10031, .balMacVer), (0x0109, .lifecycleAdvance), (0x010A, .acceptWarrant), (0x010B, .dropWarrant),
   (0x0108, .recoveryEnter), (0x0A01, .logFreeze), (0x0A02, .logThaw), (0x0A03, .logExport), (0x0601, .getRandom),
   (0x10050, .random), (0x0901, .twinStatus), (0x0902, .twinDetach), (0x0903, .twinRepair), (0x0904, .caravanStatus),
   (0x020E, .ladingExport), (0x020F, .ladingImport)]

/-- Every command row: the opcode, or 0x10000 and the KH-1 function, that its record carries, and the row (Tables 5-7 and
5-10). -/
def commandRows : List (Nat × (Tick → RecRef → Instr)) := commandRows1 ++ commandRows2 ++ commandRows3

end Machine
end Sys2Proof
end

