-- ==== Sys2Proof/Certificates/Slice0/Obligations.lean ====
section
/-! DEFINITION. The statements for the provers: def Obligations.<Name>, one for each entry of OBLIGATIONS.json. `s.at t` is
the state when the command's tick has come, `s.ends t r b i f d` the state after a command row (Safety.lean). -/

set_option autoImplicit false

open Sys2Proof Sys2Proof.Machine

/-- For every command c and state s, the step of s with c in front of a queue is exec of c on s with the queue's rest.
With an empty queue the step answers the state itself (the queue and the idle step are the model's own: log entry 2). -/
def Obligations.AStepRunsTheFrontCommand : Prop :=
  (∀ (c : Instr) (s : State) (q : List Instr),
    step { s with pending := c :: q } = exec c { s with pending := q }) ∧
  (∀ (s : State),
    s.pending = [] →
    step s = .next s)

/-- State.reset has tick 0, mode BOOT and stage 1, reset cause power-on, no barrier, every power domain ON, no alarm or
sever, no host function, record, session, quorum, digest, curve or receipt, empty outcome histories with floors 0, an
empty cellar that is not ready, no twin, empty board and no port up. That the OTP is unprogrammed (entry 3), that
scratch reads 0 (entry 8) and that the queue is empty (entry 2) are the model's choices. -/
def Obligations.ResetLeavesBootStageOne : Prop :=
  State.reset.tick = 0 ∧ State.reset.mode = .boot ∧ State.reset.bootStage = 1 ∧ State.reset.resetCause = 1 ∧
  State.reset.barrier = none ∧ State.reset.barrierQ = [] ∧ (∀ d u, State.reset.unit d u = .on) ∧ State.reset.tmp.severed = false ∧
  State.reset.waiting = [] ∧ State.reset.running = [] ∧ State.reset.sessions = [] ∧ State.reset.quorums = [] ∧
  State.reset.digests = [] ∧ State.reset.curves = [] ∧ State.reset.receipts = [] ∧ State.reset.outcomes = [] ∧
  (∀ t, State.reset.floor t = 0) ∧ State.reset.cel.ready = false ∧ State.reset.cel.slots = [] ∧ State.reset.twin.st = .none ∧
  State.reset.board.heads = [] ∧ State.reset.board.ctx = [] ∧ (∀ p, (State.reset.port p).st = .disabled) ∧
  (∀ b, State.reset.otp.lcs0.getLsbD b = false) ∧ State.reset.mem = [] ∧ State.reset.pending = []

/-- For every command i and every state s: where i is well formed (the units, ports, queue pairs and registers it names
exist), exec answers a next state; otherwise exec stops with the fault noSuchUnit, and no command is ever refused. -/
def Obligations.ACommandStopsOnlyWhereItNamesNoUnit : Prop :=
  (∀ (i : Instr) (s : State),
    (i.wf = true → ∃ t, exec i s = .next t) ∧ (i.wf = false → exec i s = .fault .noSuchUnit))

/-- For every command i and states s and t: where exec of i on s answers t, the queue of t is that of s. -/
def Obligations.NoCommandTouchesTheQueue : Prop :=
  (∀ (i : Instr) (s t : State),
    exec i s = .next t →
    t.pending = s.pending)

/-- For every state s whose waiting commands are all well formed, the step answers a next state t, the queue of t is that
of s without its front, and all its commands are well formed: no fault, no refusal, ever, along any run of such a
queue. -/
def Obligations.AQueueOfNamedUnitsNeverStops : Prop :=
  (∀ (s : State),
    s.QueueOk →
    ∃ t, step s = .next t ∧ t.pending = s.pending.tail ∧ t.QueueOk) ∧
  (    State.reset.QueueOk)

/-- For each of the command rows: in DORMANT, BOOT, DROWSE or FELLED, while a barrier pends or is queued, while the device
is severed, or when the record named is not waiting, the row changes nothing but the tick: the record keeps waiting. -/
def Obligations.RecordsWaitWhileNoneMayStart : Prop :=
  (∀ (n : Nat) (row : Tick → RecRef → Instr) (s : State) (t : Tick) (ref : RecRef),
    let u := s.at t
    (n, row) ∈ commandRows →
    ref.ok = true →
    u.mode = .dormant ∨ u.mode = .boot ∨ u.mode = .drowse ∨ u.mode = .felled ∨ u.barrier.isSome = true ∨ u.barrierQ.isEmpty = false ∨ u.tmp.severed = true ∨ (u.waiting.find? fun x => x.ref == ref) = none →
    exec (row t ref) s = .next { u with pending := s.pending })

/-- For every command row whose record is waiting and may start: a number with a finished outcome completes at once with
that outcome and the repeat flag; a number in flight elsewhere with SEQUENCE_IN_FLIGHT; a native number at or below
the floor without an entry with SEQUENCE_STALE; a record past its deadline with DEADLINE_MISSED, recorded. A record
that starts ends with HEADER_INVALID, with the status of the first of rows 2 to 5 of Table 5-3 that fails, or with
that of its session. That a running entry counts as in flight (step 1 against step 2 of R144) is the model's reading
(DEDUCED, log entry 28). -/
def Obligations.AStartingRecordIsCheckedInOrder : Prop :=
  -- A number that ran.
  (∀ (s : State) (t : Tick) (ref : RecRef) (r : Rec) (n : Nat) (row : Tick → RecRef → Instr) (o : Outcome),
    let u := s.at t
    (n, row) ∈ commandRows →
    ref.ok = true →
    (u.waiting.find? fun x => x.ref == ref) = some r →
    r.op = n →
    u.startable r = true →
    u.outcome r.tenant r.seq = some o →
    o.notRun = false →
    o.running = false →
    exec (row t ref) s = .next { u.conclude r o.status o.detail true o.lone with pending := s.pending }) ∧
  -- A number in flight.
  (∀ (s : State) (t : Tick) (ref : RecRef) (r : Rec) (n : Nat) (row : Tick → RecRef → Instr),
    let u := s.at t
    (n, row) ∈ commandRows →
    ref.ok = true →
    (u.waiting.find? fun x => x.ref == ref) = some r →
    r.op = n →
    u.startable r = true →
    ((∀ o, u.outcome r.tenant r.seq = some o → o.notRun = true ∨ o.running = true)) →
    u.inFlightElse r = true →
    exec (row t ref) s = .next { u.conclude r .sequenceInFlight 0xFFFF false false with pending := s.pending }) ∧
  -- A stale number.
  (∀ (s : State) (t : Tick) (ref : RecRef) (r : Rec) (n : Nat) (row : Tick → RecRef → Instr),
    let u := s.at t
    (n, row) ∈ commandRows →
    ref.ok = true →
    (u.waiting.find? fun x => x.ref == ref) = some r →
    r.op = n →
    u.startable r = true →
    u.outcome r.tenant r.seq = none →
    u.inFlightElse r = false →
    r.seq < 2 ^ 47 →
    r.seq ≤ u.floor r.tenant →
    exec (row t ref) s = .next { u.conclude r .sequenceStale 0xFFFF false false with pending := s.pending }) ∧
  -- A late record.
  (∀ (s : State) (t : Tick) (ref : RecRef) (r : Rec) (n : Nat) (row : Tick → RecRef → Instr),
    let u := s.at t
    (n, row) ∈ commandRows →
    ref.ok = true →
    (u.waiting.find? fun x => x.ref == ref) = some r →
    r.op = n →
    u.startable r = true →
    ((∀ o, u.outcome r.tenant r.seq = some o → o.notRun = true ∨ o.running = true)) →
    u.inFlightElse r = false →
    (u.outcome r.tenant r.seq = none → ¬(r.seq < 2 ^ 47 ∧ r.seq ≤ u.floor r.tenant)) →
    u.pastDeadline r = true →
    exec (row t ref) s = .next { (u.notRun r.tenant r.seq .deadlineMissed).conclude r .deadlineMissed 0xFFFF false false with
        pending := s.pending }) ∧
  -- Row 1 of Table 5-3.
  (∀ (s : State) (t : Tick) (ref : RecRef) (r : Rec) (n : Nat) (row : Tick → RecRef → Instr),
    let u := s.at t
    let x := u.start r
    let v := x.1.finish x.2 (fail .headerInvalid)
    (n, row) ∈ commandRows →
    ref.ok = true →
    (u.waiting.find? fun x => x.ref == ref) = some r →
    r.op = n →
    u.startable r = true →
    u.preStart r = .go →
    headerOk r = false →
    exec (row t ref) s = .next { v with rpl := { v.rpl with index := none }, pending := s.pending }) ∧
  -- Rows 2 to 5 of Table 5-3.
  (∀ (s : State) (t : Tick) (ref : RecRef) (r : Rec) (n : Nat) (row : Tick → RecRef → Instr) (st : Status),
    let u := s.at t
    let x := u.start r
    let v := x.1.finish x.2 (fail st)
    (n, row) ∈ commandRows →
    ref.ok = true →
    (u.waiting.find? fun x => x.ref == ref) = some r →
    r.op = n →
    u.startable r = true →
    u.preStart r = .go →
    headerOk r = true →
    x.1.rowsFail r.op r.tenant = some st →
    exec (row t ref) s = .next { v with rpl := { v.rpl with index := none }, pending := s.pending }) ∧
  -- Row 6 of Table 5-3.
  (∀ (s : State) (t : Tick) (ref : RecRef) (r : Rec) (n : Nat) (row : Tick → RecRef → Instr) (st : Status),
    let u := s.at t
    let x := u.start r
    let v := x.1.finish x.2 (fail st)
    (n, row) ∈ commandRows →
    ref.ok = true →
    (u.waiting.find? fun x => x.ref == ref) = some r →
    r.op = n →
    u.startable r = true →
    u.preStart r = .go →
    headerOk r = true →
    x.1.rowsFail r.op r.tenant = none →
    x.1.opened r = .error st →
    exec (row t ref) s = .next { v with rpl := { v.rpl with index := none }, pending := s.pending })

/-- For every memory in canonical form, address, bytes and address x: after the bytes are stored from the address, x reads
the stored byte where it lies among them, and what it read before elsewhere. -/
def Obligations.MemoryReadsBackWhatWasStored : Prop :=
  (∀ (m : List Host.Cell) (a x : Nat) (l : Bytes),
    Memory.wf m = true →
    memGet (memStore m a l) x = if a ≤ x ∧ x < a + l.length then l.getD (x - a) 0 else memGet m x)

/-- A power-on reset, and an assertion of SYS_RESET_N of 10 us or more, with no OTP bit under way and outside DORMANT,
leave every unit of every domain ON. Each stage of BOOT leaves the power block as it was. -/
def Obligations.EveryDomainStartsOnAndBootChangesNone : Prop :=
  (∀ (s : State) (t : Tick) (d k : Nat),
    let u := s.at t
    u.mode ≠ .dormant ∨ u.sysReset = false →
    ∃ x, exec (.powerOnReset t) s = .next x ∧ x.unit d k = .on) ∧
  (∀ (s : State) (t : Tick) (ns d k : Nat),
    let u := s.at t
    10000 ≤ ns →
    u.mode ≠ .dormant →
    u.otpBusy = false →
    ∃ x, exec (.sysResetNAssert t ns) s = .next x ∧ x.unit d k = .on) ∧
  (∀ (s : State) (t : Tick) (bad : List Nat) (kat : Bool) (failed : List (Nat × Bool)) (h data : Bytes) (size : Nat) (fw : List Bytes) (i : Instr),
    let u := s.at t
    i ∈ [.otpDecode t bad, .tallyCatchUp t, .entropyStartUp t kat failed, .manifestHeaderRead t h size, .flashIdentificationTimeout t, .settingsSectionRead t data, .firmwareSectionsRead t fw] →
    u.mode = .boot →
    ∃ x, exec i s = .next x ∧ x.pwr = u.pwr)

/-- When the firmware sections match their digests at stage 7 and the device is not severed, so that stage 8 is reached,
and the manifest version exceeds the vault's manifest floor, the floor becomes that version and floor_raised is set;
otherwise the floor stays and floor_raised is clear. -/
def Obligations.TheManifestFloorRises : Prop :=
  (∀ (s : State) (t : Tick) (data : List Bytes),
    let u := s.at t
    u.inStage 7 = true →
    ((firmware u.man.header data).all fun p => sha384 p.2 == p.1.2.2.2 && p.2.length == p.1.2.2.1) = true →
    u.tmp.severed = false →
    u.vault.floor < fld u.man.header 8 4 →
    ∃ x, exec (.firmwareSectionsRead t data) s = .next x ∧ x.vault.floor = fld u.man.header 8 4 ∧
      x.man.floorRaised = true) ∧
  (∀ (s : State) (t : Tick) (data : List Bytes),
    let u := s.at t
    u.inStage 7 = true →
    ((firmware u.man.header data).all fun p => sha384 p.2 == p.1.2.2.2 && p.2.length == p.1.2.2.1) = true →
    u.tmp.severed = false →
    fld u.man.header 8 4 ≤ u.vault.floor →
    ∃ x, exec (.firmwareSectionsRead t data) s = .next x ∧ x.vault.floor = u.vault.floor ∧
      x.man.floorRaised = false)

/-- For every integer of at most 63 digits, the field written for it is 32 bytes; its 63 digit nibbles are decimal digits
whose value is the magnitude, so shorter numbers have leading zeros; its sign nibble is 0xC when the value is zero or
positive and 0xD when it is negative, so never 0xF; and reading the field gives the value. -/
def Obligations.WrittenDecimalFieldsKeepTheirSign : Prop :=
  (∀ (v : Int),
    v.natAbs < 10 ^ 63 →
    (ld63Bytes v).length = 32 ∧ (nibbles (ld63Bytes v)).length = 64 ∧
      (∀ d ∈ (nibbles (ld63Bytes v)).dropLast, d ≤ 9) ∧ digitsVal (nibbles (ld63Bytes v)).dropLast = v.natAbs ∧
      (nibbles (ld63Bytes v)).getLast? = some (if v < 0 then 0xD else 0xC) ∧ ld63 (ld63Bytes v) 0 = some v)

/-- In a mode other than DROWSE in which the queue registers decode, for an open function and an enabled queue pair, an SQ
tail doorbell with a value below the ring size sets the announced tail and adds the entries between the old tail and
the new one, stamped with the tick; a CQ head doorbell frees the entries that the host has consumed. Nothing else
changes. A value of the ring size or more moves no index: it stops the queue pair with QUE_STATUS.error = 1 (R108). -/
def Obligations.DoorbellsMoveTheRingIndexes : Prop :=
  (∀ (s : State) (t : Tick) (fn q v : Nat),
    let u := s.at t
    let p := u.qp fn q
    fn ≤ 255 →
    q ≤ 15 →
    u.queDecoded = true →
    u.mode ≠ .drowse →
    u.fnOpen fn = true →
    q < u.qpCount fn →
    u.tmp.severed = false →
    p.enabled = true →
    v < 2 ^ p.sizeLog2 →
    exec (.sqTailDoorbell t fn q v) s = .next { u.setQp fn q { p with sqTail := v, ready := if (v + 2 ^ p.sizeLog2 - p.sqTail) % 2 ^ p.sizeLog2 = 0 then p.ready else p.ready ++ [((v + 2 ^ p.sizeLog2 - p.sqTail) % 2 ^ p.sizeLog2, u.tick)], readAt := if p.ready.isEmpty then u.tick else p.readAt } with
        pending := s.pending }) ∧
  (∀ (s : State) (t : Tick) (fn q v : Nat),
    let u := s.at t
    let p := u.qp fn q
    fn ≤ 255 →
    q ≤ 15 →
    u.queDecoded = true →
    u.mode ≠ .drowse →
    u.fnOpen fn = true →
    q < u.qpCount fn →
    u.tmp.severed = false →
    p.enabled = true →
    v < 2 ^ p.sizeLog2 →
    exec (.cqHeadDoorbell t fn q v) s = .next { u.setQp fn q { p with cqHead := v, cqUsed := p.cqUsed - (v + 2 ^ p.sizeLog2 - p.cqHead) % 2 ^ p.sizeLog2 } with
        pending := s.pending }) ∧
  (∀ (s : State) (t : Tick) (fn q v : Nat),
    let u := s.at t
    fn ≤ 255 →
    q ≤ 15 →
    u.queDecoded = true →
    u.mode ≠ .drowse →
    u.fnOpen fn = true →
    q < u.qpCount fn →
    u.tmp.severed = false →
    (u.qp fn q).enabled = true →
    2 ^ (u.qp fn q).sizeLog2 ≤ v →
    ∃ s', exec (.sqTailDoorbell t fn q v) s = .next s' ∧ (s'.qp fn q).error = 1 ∧
      (s'.qp fn q).sqTail = (u.qp fn q).sqTail ∧ (s'.qp fn q).ready = (u.qp fn q).ready)

/-- When the queue engine may fetch, a native SQ entry whose record passes checks 1 to 4 of R112 (length, waybills,
windows, response space), while every waiting record names a catalogued opcode, is taken from the ring and its record
joins the end of the waiting records, with the next place in fetch order; so is a KH-1 entry of version 1.0, which
takes the next number of its queue pair (R121). -/
def Obligations.AFetchedRecordThatPassesTheChecksWaits : Prop :=
  (∀ (s : State) (t : Tick) (fn q : Nat) (f : Fetched),
    let u := s.at t
    let p := u.qp fn q
    let e := parseSq f.entry
    let n := 64 + fld f.record 8 4
    let r : Rec := { ref := .host fn q p.sqHead, order := u.host.order, tenant := fn, fn, q, sq := e,
                     outList := if e.flags.getLsbD 1 then f.outList else [], raw := f.record.take n, input := f.input,
                     seq := fld f.record 0x10 6, arrival := (takeReady p u.tick).1, fetched := u.tick }
    fn ≤ 255 →
    q ≤ 15 →
    u.fetchable fn q = true →
    p.kh1 = false →
    64 ≤ e.recordLen →
    e.recordLen ≤ 65536 →
    u.ttuOk fn e.recordAddr e.recordLen false = true →
    fld f.record 4 4 = e.recordLen →
    n + 4 * ceilDiv n 64 = e.recordLen →
    f.record.length = e.recordLen →
    badGranule (f.record.take n) (f.record.drop n) = none →
    ((checkedRanges e f).all fun x => u.ttuOk fn x.1 x.2.1 x.2.2) = true →
    u.spaceOk r = true →
    ((u.waiting ++ [r]).all fun x => ((nativeOp x.op).bind opRow).isSome) = true →
    exec (.sqEntryFetched t fn q f) s = .next { ({ u with host := { u.host with order := u.host.order + 1 } } : State).setQp fn q (takeReady p u.tick).2 with
        waiting := u.waiting ++ [r],
        pending := s.pending }) ∧
  (∀ (s : State) (t : Tick) (fn q : Nat) (f : Fetched),
    let u := s.at t
    let p := u.qp fn q
    let r : Rec := { ref := .host fn q p.sqHead, form := .kh1, order := u.host.order, tenant := fn, fn, q,
                     raw := padTo 256 f.entry, seq := 2 ^ 47 + q * 2 ^ 43 + p.seqCount, arrival := (takeReady p u.tick).1,
                     fetched := u.tick }
    fn ≤ 255 →
    q ≤ 15 →
    u.fetchable fn q = true →
    p.kh1 = true →
    beNat (sub (padTo 256 f.entry) 2 2) = 0x0100 →
    ((u.waiting ++ [r]).all fun x => ((nativeOp x.op).bind opRow).isSome) = true →
    exec (.sqEntryFetched t fn q f) s = .next { ({ u with host := { u.host with order := u.host.order + 1 } } : State).setQp fn q { (takeReady p u.tick).2 with seqCount := p.seqCount + 1 } with
        waiting := u.waiting ++ [r],
        pending := s.pending })

/-- A QUE_CTRL write with enable = 1 to an idle queue pair takes its fields, and sets enabled with both ring indexes at 0
and no error where the size is 1 to 12, the vector is valid for the function and both rings lie in windows that permit
the SQ read and the CQ write; otherwise enable stays 0 and the error is 4, 5 or 3 by the first check that fails. A
write of enable = 0 to an enabled queue pair none of whose records waits sets draining; when in_flight is 0 a draining
queue pair is disabled with no error. When the aggregation window of a pending interrupt has closed, its vector is
signalled and the pending count clears. -/
def Obligations.QueuePairsEnableDrainAndDisable : Prop :=
  (∀ (s : State) (t : Tick) (fn q : Nat) (v : Word32),
    let u := s.at t
    let p := u.qp fn q
    let p1 := ctrlAll p v
    fn ≤ 255 →
    q ≤ 15 →
    u.qpOpen fn q = true →
    p.enabled = false →
    p.draining = false →
    1 ≤ p1.sizeLog2 →
    p1.sizeLog2 ≤ 12 →
    vectorOk fn p1.vector = true →
    u.ttuOk fn p1.sqBase (2 ^ p1.sizeLog2 * if p1.kh1 then 256 else 64) false = true →
    u.ttuOk fn p1.cqBase (2 ^ p1.sizeLog2 * if p1.kh1 then 256 else 32) true = true →
    exec (.queueEnable t fn q v) s = .next { u.setQp fn q { p1 with enabled := true, error := 0, sqHead := 0, sqTail := 0, cqTail := 0, cqHead := 0, phase := true, cqUsed := 0, ready := [], keyIndex := fn } with
        pending := s.pending }) ∧
  (∀ (s : State) (t : Tick) (fn q : Nat) (v : Word32) (code : Nat),
    let u := s.at t
    let p := u.qp fn q
    let p1 := ctrlAll p v
    fn ≤ 255 →
    q ≤ 15 →
    u.qpOpen fn q = true →
    p.enabled = false →
    p.draining = false →
    (p1.sizeLog2 = 0 ∨ 12 < p1.sizeLog2) ∧ code = 4 ∨ (1 ≤ p1.sizeLog2 ∧ p1.sizeLog2 ≤ 12) ∧ vectorOk fn p1.vector = false ∧ code = 5 ∨
      (1 ≤ p1.sizeLog2 ∧ p1.sizeLog2 ≤ 12) ∧ vectorOk fn p1.vector = true ∧ code = 3 ∧
        (u.ttuOk fn p1.sqBase (2 ^ p1.sizeLog2 * if p1.kh1 then 256 else 64) false = false ∨
         u.ttuOk fn p1.cqBase (2 ^ p1.sizeLog2 * if p1.kh1 then 256 else 32) true = false) →
    exec (.queueEnable t fn q v) s = .next { u.setQp fn q { p1 with error := code } with
        pending := s.pending }) ∧
  (∀ (s : State) (t : Tick) (fn q : Nat) (v : Word32),
    let u := s.at t
    let p := u.qp fn q
    fn ≤ 255 →
    q ≤ 15 →
    u.qpOpen fn q = true →
    p.enabled = true →
    p.draining = false →
    (u.waiting.all fun r => !(r.fn == fn && r.q == q)) = true →
    exec (.queueDisable t fn q v) s = .next { u.setQp fn q { ctrlOpen p v with draining := true } with
        pending := s.pending }) ∧
  (∀ (s : State) (t : Tick) (fn q : Nat),
    let u := s.at t
    let p := u.qp fn q
    fn ≤ 255 →
    q ≤ 15 →
    p.draining = true →
    p.inFlight = 0 →
    exec (.queueDrainEnd t fn q) s = .next { u.setQp fn q { p with enabled := false, draining := false, error := 0 } with
        pending := s.pending }) ∧
  (∀ (s : State) (t : Tick) (fn q : Nat),
    let u := s.at t
    let p := u.qp fn q
    fn ≤ 255 →
    q ≤ 15 →
    p.irqEnable = true →
    0 < p.irqPending →
    p.irqFirst + p.aggTime ≤ u.tick →
    (mapGet {} u.host.vectors (64 * fn + p.vector)).masked = false →
    exec (.msixAggregationTimeout t fn q) s = .next { (u.setQp fn q { p with irqPending := 0 }).emit (.msix fn p.vector) with
        pending := s.pending })

/-- A write to one of the five registers of a window (base and size low words in steps of 4 KiB, base and size high words,
and the two permission bits) changes that field of that window of the function alone, where no queue pair of the
function is enabled or draining; where one is, the write is discarded and TTU_STATUS.write_refused is set (R102) with
the function as last_function. -/
def Obligations.WindowRegistersAreWrittenWhileNoQueuePairRuns : Prop :=
  (∀ (s : State) (t : Tick) (fn w reg : Nat) (v : Word32) (x1 : Window),
    let u := s.at t
    let x := mapGet {} u.host.win (8 * fn + w)
    fn ≤ 255 →
    w ≤ 7 →
    u.queDecoded = true →
    ((List.range 16).all fun q => !(u.qp fn q).enabled && !(u.qp fn q).draining) = true →
    (reg = 0x00 ∧ x1 = { x with base := x.base / 2 ^ 32 * 2 ^ 32 + v.toNat / 4096 * 4096 }) ∨
      (reg = 0x04 ∧ x1 = { x with base := x.base % 2 ^ 32 + v.toNat * 2 ^ 32 }) ∨
      (reg = 0x08 ∧ x1 = { x with size := x.size / 2 ^ 32 * 2 ^ 32 + v.toNat / 4096 * 4096 }) ∨
      (reg = 0x0C ∧ x1 = { x with size := x.size % 2 ^ 32 + v.toNat * 2 ^ 32 }) ∨
      (reg = 0x10 ∧ x1 = { x with ctrl := v.setWidth 2 }) →
    exec (.ttuWindowWrite t fn w reg v) s = .next { u with
        host := { u.host with win := mapPut {} u.host.win (8 * fn + w) x1 },
        pending := s.pending }) ∧
  (∀ (s : State) (t : Tick) (fn w reg : Nat) (v : Word32),
    let u := s.at t
    fn ≤ 255 →
    w ≤ 7 →
    reg ≤ 16 →
    reg % 4 = 0 →
    u.queDecoded = true →
    ((List.range 16).any fun q => (u.qp fn q).enabled || (u.qp fn q).draining) = true →
    exec (.ttuWindowWrite t fn w reg v) s = .next { u with
        host := { u.host with writeRefused := true, lastFn := fn },
        pending := s.pending })

/-- At its start an FLR of an open VF ends its sessions, its quorum and its digest contexts, squashes its started records
and holds the VF; at its completion every queue pair of the VF is at its reset value but for its KH-1 count, no record
of the VF waits, the FLR is over and counted. NumVFs takes the value asked for up to TotalVFs, and a VF cut off is
reset. A host-interface reset, unless it is a PERST_N at a device that does not serve the lead pair, ends every
session of the functions, squashes what they started, disables the VFs, drops the link and is counted. The link comes
up only at the serving twin of the lead pair. -/
def Obligations.FunctionsAndTheInterfaceReset : Prop :=
  (∀ (s : State) (t : Tick) (vf : Nat),
    let u := s.at t
    1 ≤ vf →
    vf ≤ 255 →
    u.fnOpen vf = true →
    u.host.released = true →
    u.rpl.capturing = false →
    exec (.flrStart t vf) s = .next { u with
        running := u.running.map fun x => if fromFn vf x.record then { x with squash := true } else x,
        sessions := u.sessions.filter fun x => x.tenant != vf,
        quorums := mapDel u.quorums vf,
        digests := u.digests.filter fun p => p.1 / 256 != vf,
        host := { u.host with
          oldReads := mapPut 0 u.host.oldReads vf (mapGet 0 u.host.oldReads vf + ((u.waiting.filter fun r => fromFn vf r && !r.readDone).length + (u.running.filter fun x => fromFn vf x.record && !x.record.readDone).length)),
          flr := mapSet u.host.flr vf u.tick },
        pending := s.pending }) ∧
  (∀ (s : State) (t : Tick) (vf : Nat),
    let u := s.at t
    1 ≤ vf →
    vf ≤ 255 →
    (mapFind u.host.flr vf).isSome = true →
    ∃ s', exec (.flrComplete t vf) s = .next s' ∧ s'.host.flr = mapDel u.host.flr vf ∧
      s'.host.flrs = sat32 u.host.flrs ∧ (s'.waiting.all fun r => !fromFn vf r) = true) ∧
  (∀ (s : State) (t : Tick) (n : Nat),
    let u := s.at t
    n ≤ 255 →
    u.host.released = true →
    u.host.vfEnable = false →
    exec (.vfDisable t true n) s = .next { u with
        host := { u.host with vfEnable := true, numVfs := min n u.totalVfs },
        pending := s.pending }) ∧
  (∀ (s : State) (t : Tick) (n : Nat),
    let u := s.at t
    n ≤ 255 →
    u.host.released = true →
    u.host.vfEnable = true →
    ∃ s', exec (.vfDisable t false n) s = .next s' ∧ s'.host.vfEnable = false ∧
      ((s'.sessions.all fun x => !(decide (0 < x.tenant) && decide (x.tenant ≤ min 255 u.host.numVfs))) = true)) ∧
  (∀ (s : State) (t : Tick) (k : HifReset),
    let u := s.at t
    k ≠ .perst ∨ u.lead = true →
    ∃ s', exec (.hostInterfaceReset t k) s = .next s' ∧ s'.host.vfEnable = false ∧ s'.host.numVfs = 0 ∧
      s'.host.linkUp = false ∧ s'.host.flr = [] ∧ s'.mode = u.mode ∧
      ((s'.sessions.all fun x => decide (255 < x.tenant)) = true)) ∧
  (∀ (s : State) (t : Tick) (width speed : Nat),
    let u := s.at t
    width ≤ 3 →
    speed ≤ 7 →
    u.lead = true →
    exec (.pcieLinkUp t width speed) s = .next { u with
        host := { u.host with linkUp := true, width, speed },
        pending := s.pending })

/-- Before the release every configuration request is answered with Configuration Request Retry Status and changes
nothing. After it, a read is answered, and writes set the completion timeout and the Relaxed Ordering enable of their
function. A misaligned read of BAR0 gets Completer Abort and counts as a BAR refusal; a misaligned write counts too
and writes a WARN entry that names the function; a poisoned write and a request that fails ECRC write one. -/
def Obligations.ConfigurationRequestsAndRejectedTransactions : Prop :=
  (∀ (s : State) (t : Tick) (fn : Nat) (c : CfgReq),
    let u := s.at t
    fn ≤ 255 →
    u.host.released = false →
    exec (.configurationRequest t fn c) s = .next { u.emit (.config fn true) with pending := s.pending }) ∧
  (∀ (s : State) (t : Tick) (fn : Nat),
    let u := s.at t
    fn ≤ 255 →
    u.host.released = true →
    exec (.configurationRequest t fn .read) s = .next { u.emit (.config fn false) with pending := s.pending }) ∧
  (∀ (s : State) (t : Tick) (fn us : Nat),
    let u := s.at t
    fn ≤ 255 →
    u.host.released = true →
    exec (.configurationRequest t fn (.completionTimeout us)) s = .next { u.emit (.config fn false) with
        host := { u.host with cplTimeout := mapPut 50000 u.host.cplTimeout fn us },
        pending := s.pending }) ∧
  (∀ (s : State) (t : Tick) (fn : Nat) (on : Bool),
    let u := s.at t
    fn ≤ 255 →
    u.host.released = true →
    exec (.configurationRequest t fn (.relaxedOrdering on)) s = .next { u.emit (.config fn false) with
        host := { u.host with relaxed := mapPut false u.host.relaxed fn on },
        pending := s.pending }) ∧
  (∀ (s : State) (t : Tick) (fn : Nat),
    let u := s.at t
    fn ≤ 255 →
    exec (.bar0MisalignedAccess t fn false) s = .next { u.emit (.abort fn) with
        host := { u.host with barRefusals := sat32 u.host.barRefusals },
        pending := s.pending } ∧
      exec (.bar0MisalignedAccess t fn true) s = .next { ({ u with host := { u.host with barRefusals := sat32 u.host.barRefusals } } : State).logEvent 0x0104 .warn islHost fn .ok [fn] with
        pending := s.pending } ∧
      exec (.poisonedWrite t fn) s = .next { u.logEvent 0x0104 .warn islHost fn .ok [fn] with
        pending := s.pending } ∧
      exec (.ecrcFailure t fn) s = .next { u.logEvent 0x0104 .warn islHost fn .ok [fn] with
        pending := s.pending })

/-- Of two that meet, the completion governs when its stamp lies below the close of the timeout window and it arrives
within two ticks past it: a good one then marks the oldest outstanding read of the queue pair as done. Where the
timeout governs, the record completes with DMA_FAILED. A completion for which no read is outstanding is discarded and
counted in LATE_DISCARD. A waiting record whose deadline window has closed two ticks ago is recorded as not run and
completes with DEADLINE_MISSED. -/
def Obligations.OutboundReadsCompleteTimeOutOrExpire : Prop :=
  (∀ (s : State) (t : Tick) (fn q : Nat) (r : Rec) (stamp : Tick),
    let u := s.at t
    fn ≤ 255 →
    q ≤ 15 →
    u.readRec fn q = some r →
    governs stamp u.tick (r.fetched + u.cplTimeout fn) = true →
    exec (.dmaCompletion t fn q .record stamp true) s = .next { u with
        waiting := u.waiting.map fun x => if x.ref == r.ref then { x with readDone := true } else x,
        pending := s.pending }) ∧
  (∀ (s : State) (t : Tick) (fn q : Nat) (k : ReadKind) (stamp : Tick) (good : Bool),
    let u := s.at t
    fn ≤ 255 →
    q ≤ 15 →
    u.readIssue fn q k = none →
    exec (.dmaCompletion t fn q k stamp good) s = .next { u.lateDiscard islHost with
        host := { u.host with oldReads := mapPut 0 u.host.oldReads fn (mapGet 0 u.host.oldReads fn - 1) },
        pending := s.pending }) ∧
  (∀ (s : State) (t : Tick) (fn q : Nat) (r : Rec),
    let u := s.at t
    fn ≤ 255 →
    q ≤ 15 →
    u.readRec fn q = some r →
    r.fetched + u.cplTimeout fn + 2 ≤ u.tick →
    exec (.completionTimeout t fn q .record) s = .next { u.conclude r .dmaFailed 0xFFFF false false with
        pending := s.pending }) ∧
  (∀ (s : State) (t : Tick) (ref : RecRef) (r : Rec),
    let u := s.at t
    ref.ok = true →
    (u.waiting.find? fun x => x.ref == ref) = some r →
    r.deadline ≠ 0 →
    r.arrival + r.deadline + 2 ≤ u.tick →
    exec (.commandDeadlineExpiry t ref) s = .next { (u.notRun r.tenant r.seq .deadlineMissed).conclude r .deadlineMissed 0xFFFF false false with
        pending := s.pending })

/-- A 4-byte write by PF0 to IRQ_ATTN_EN takes its low 8 bits; a read by PF0 of TOP_SERIAL_LO returns the low half of the
serial and captures the whole value for the read of the high half. A read of RNG_FIFO_DATA by a warden core, as a
register read or by its own row, returns and removes the oldest word; an empty FIFO with the DRBG healthy holds the
access back. An access of BAR0 that is not naturally aligned gets Completer Abort. -/
def Obligations.RegisterAccessesGoThroughTheirPath : Prop :=
  (∀ (s : State) (t : Tick) (v : BitVec 64),
    let u := s.at t
    u.decodes 0x09 = true →
    (u.regAt .pf0 0x90008).isSome = true →
    exec (.registerWrite t .pf0 0x90008 v false) s = .next { u with
        irq := { u.irq with attnEn := (v.setWidth 32 : Word32).setWidth 8 },
        pending := s.pending }) ∧
  (∀ (s : State) (t : Tick) (w : Word32) (ws : List Word32),
    let u := s.at t
    u.rng.fifo = w :: ws →
    exec (.rngFifoDataRead t) s = .next { u with
        rng := { u.rng with fifo := ws },
        sent := .regRead (.warden 0) 0x0014001C (w.setWidth 64) :: u.sent,
        pending := s.pending } ∧
      exec (.pairCaptureRead t (.warden 0) 0x14001C false) s = .next { u with
        rng := { u.rng with fifo := ws },
        sent := .regRead (.warden 0) 0x0014001C (w.setWidth 64) :: u.sent,
        pending := s.pending }) ∧
  (∀ (s : State) (t : Tick),
    let u := s.at t
    u.rng.fifo = [] →
    u.rng.st = .healthy →
    exec (.rngFifoDataRead t) s = .next { u with sent := .stall :: u.sent, pending := s.pending }) ∧
  (∀ (s : State) (t : Tick),
    let u := s.at t
    u.decodes 0x00 = true →
    (u.regAt .pf0 0x00004).isSome = true →
    exec (.pairCaptureRead t .pf0 0x00004 false) s = .next { u with
        captures := mapSet u.captures (captureKey .pf0 0x00004) u.otp.serial,
        sent := .regRead .pf0 0x00004 (BitVec.ofNat 64 (u.otp.serial % 2 ^ 32)) :: u.sent,
        pending := s.pending }) ∧
  (∀ (s : State) (t : Tick) (off : Nat),
    let u := s.at t
    off % 4 ≠ 0 →
    exec (.pairCaptureRead t .pf0 off false) s = .next { u with
        host := { u.host with barRefusals := sat32 u.host.barRefusals },
        sent := .abort 0 :: u.sent,
        pending := s.pending })

/-- Outside DORMANT, a private write of two bytes or more sets the register index; a private read of 4 bytes with no
dynamic state changed returns the register at the index and steps the index by one; SETDASA and RSTDAA set and clear
the dynamic address; GETBCR, GETDCR and GETSTATUS return zero bytes and ENEC and DISEC are acknowledged. -/
def Obligations.TheI3cPortAnswersWithMainPower : Prop :=
  (∀ (s : State) (t : Tick) (d : Bytes),
    let u := s.at t
    u.mode ≠ .dormant →
    2 ≤ d.length →
    exec (.i3cPrivateWrite t d) s = .next { u with
        ports := { u.ports with index := fld d 0 2 },
        pending := s.pending }) ∧
  (∀ (s : State) (t : Tick),
    let u := s.at t
    u.mode ≠ .dormant →
    u.ports.index = 0x000 →
    exec (.i3cPrivateRead t 4) s = .next { u with
        ports := { u.ports with index := 1 },
        sent := .i3c (natLE 4 ((u.reg false 0 0x00000).getD 0)) :: u.sent,
        pending := s.pending }) ∧
  (∀ (s : State) (t : Tick) (a : BitVec 7),
    let u := s.at t
    u.mode ≠ .dormant →
    exec (.setdasa t a) s = .next { u with
        ports := { u.ports with dynamic := some a },
        sent := .ccc [] :: u.sent,
        pending := s.pending } ∧
      exec (.rstdaa t) s = .next { u with
        ports := { u.ports with dynamic := none },
        sent := .ccc [] :: u.sent,
        pending := s.pending } ∧
      exec (.getbcr t) s = .next { u with sent := .ccc [0x00] :: u.sent, pending := s.pending } ∧
      exec (.getdcr t) s = .next { u with sent := .ccc [0x00] :: u.sent, pending := s.pending } ∧
      exec (.getstatus t) s = .next { u with sent := .ccc [0x00, 0x00] :: u.sent, pending := s.pending } ∧
      exec (.enec t) s = .next { u with sent := .ccc [] :: u.sent, pending := s.pending } ∧
      exec (.disec t) s = .next { u with sent := .ccc [] :: u.sent, pending := s.pending })

/-- Outside DORMANT: IDCODE shifts out 0x000646B7; SAMPLE/PRELOAD captures the balls and loads the boundary register;
EXTEST and CLAMP drive the balls from it; HIGHZ loads; a TAP reset loads IDCODE; every code that is no instruction and
has no right in force is BYPASS and shifts a zero. A debug access with its right in force acts, here the halt of a
drover core that is on; without it, it is BYPASS. Which codes belong to which right the spec does not say (log entry
27). -/
def Obligations.TheJtagAndDebugPortsActUnderTheirRights : Prop :=
  (∀ (s : State) (t : Tick) (balls shift : Bytes),
    let u := s.at t
    u.mode ≠ .dormant →
    exec (.idcode t) s = .next { u with
        ports := { u.ports with instr := 0x01 },
        sent := .jtag (0x000646B7) :: u.sent,
        pending := s.pending } ∧
      exec (.samplePreload t balls shift) s = .next { u with
        ports := { u.ports with captured := balls, boundary := shift, instr := 0x02 },
        sent := .jtag (leNat balls) :: u.sent,
        pending := s.pending } ∧
      exec (.extest t) s = .next { u with
        ports := { u.ports with instr := 0x03 },
        sent := .jtag (leNat u.ports.boundary) :: u.sent,
        pending := s.pending } ∧
      exec (.clamp t) s = .next { u with
        ports := { u.ports with instr := 0x04 },
        sent := .jtag (leNat u.ports.boundary) :: u.sent,
        pending := s.pending } ∧
      exec (.highz t) s = .next { u with ports := { u.ports with instr := 0x05 }, pending := s.pending } ∧
      exec (.tapReset t) s = .next { u with ports := { u.ports with instr := 0x01 }, pending := s.pending }) ∧
  (∀ (s : State) (t : Tick) (code : Byte),
    let u := s.at t
    u.mode ≠ .dormant →
    u.takesBypass code = true →
    exec (.bypass t code) s = .next { u with
        ports := { u.ports with instr := 0xFF },
        sent := .jtag 0 :: u.sent,
        pending := s.pending }) ∧
  (∀ (s : State) (t : Tick) (code : Byte) (core : Nat),
    let u := s.at t
    u.mode ≠ .dormant →
    0x40 ≤ code.toNat →
    code.toNat ≤ 0x4F →
    4 ≤ core →
    core < 20 →
    u.unitOn (coreUnit core) 0 = true →
    u.debugRight 0 = true →
    exec (.debugAccess t code (.haltCore core)) s = .next { u with
        ports := { u.ports with instr := code, halted := core :: u.ports.halted.filter (· != core) },
        pending := s.pending }) ∧
  (∀ (s : State) (t : Tick) (code : Byte) (op : DebugOp),
    let u := s.at t
    u.mode ≠ .dormant →
    u.debugRight (debugNeeds op) = false →
    exec (.debugAccess t code op) s = .next { u with
        ports := { u.ports with instr := 0xFF },
        sent := .jtag 0 :: u.sent,
        pending := s.pending })

/-- In a mode in which PF0 decodes every window and with no request pending, an ON, RETAIN or OFF request is stored; one
written while another pends is discarded and counted. At its decision, while no barrier pends, a request that fails a
check is counted and takes its status; an ON request that passes is granted and its units return at its end, a RETAIN
request of named drover cores that passes sets the units at once. The end of a decided request that returns no unit
clears it, gives its status and raises PWR cause 0. The debug right clock_override sets an island clock within Table
19-10. -/
def Obligations.PowerRequestsAreStoredDecidedAndEnded : Prop :=
  (∀ (s : State) (t : Tick) (d : Nat) (units : BitVec 16) (discard : Bool) (rsv : Byte),
    let u := s.at t
    d ≤ 31 →
    u.allDecoded = true →
    u.pwr.req = none →
    exec (.domainOn t d units discard rsv) s = .next { u with
        pwr := { u.pwr with
          reqReg := BitVec.ofNat 32 (d + 32 * 0 + (if discard then 128 else 0) + 256 * units.toNat),
          req := some { domain := d, state := 0, units, discard, rsv } },
        pending := s.pending } ∧
      exec (.domainRetain t d units discard rsv) s = .next { u with
        pwr := { u.pwr with
          reqReg := BitVec.ofNat 32 (d + 32 * 1 + (if discard then 128 else 0) + 256 * units.toNat),
          req := some { domain := d, state := 1, units, discard, rsv } },
        pending := s.pending } ∧
      exec (.domainOff t d units discard rsv) s = .next { u with
        pwr := { u.pwr with
          reqReg := BitVec.ofNat 32 (d + 32 * 2 + (if discard then 128 else 0) + 256 * units.toNat),
          req := some { domain := d, state := 2, units, discard, rsv } },
        pending := s.pending }) ∧
  (∀ (s : State) (t : Tick) (d : Nat) (units : BitVec 16) (discard : Bool) (rsv : Byte),
    let u := s.at t
    d ≤ 31 →
    u.allDecoded = true →
    u.pwr.req.isSome = true →
    exec (.domainOff t d units discard rsv) s = .next { u with
        pwr := { u.pwr with refusals := sat32 u.pwr.refusals },
        pending := s.pending }) ∧
  (∀ (s : State) (t : Tick) (r : PowerReq) (st : Status),
    let u := s.at t
    u.pwr.req = some r →
    u.barrier = none →
    r.decided = none →
    u.mode ≠ .felled →
    u.mode ≠ .dormant →
    u.powerCheck r = some st →
    st ≠ .ownerMismatch →
    exec (.powerRequestDecision t) s = .next { u with
        pwr := { u.pwr with refusals := sat32 u.pwr.refusals, req := some { r with decided := some st } },
        pending := s.pending }) ∧
  (∀ (s : State) (t : Tick) (r : PowerReq),
    let u := s.at t
    u.pwr.req = some r →
    u.barrier = none →
    r.decided = none →
    u.mode ≠ .felled →
    u.mode ≠ .dormant →
    u.powerCheck r = none →
    r.state = 0 →
    exec (.powerRequestDecision t) s = .next { u with
        pwr := { u.pwr with req := some { r with decided := some .ok } },
        pending := s.pending }) ∧
  (∀ (s : State) (t : Tick) (r : PowerReq) (st : Status) (g p : Bool),
    let u := s.at t
    u.pwr.req = some r →
    r.decided = some st →
    st ≠ .ownerMismatch →
    st ≠ .ok ∨ r.state ≠ 0 →
    exec (.powerRequestEnd t g p) s = .next { ({ u with pwr := { u.pwr with req := none, status := st } } : State).raise .pwr 0 with
        pending := s.pending }) ∧
  (∀ (s : State) (t : Tick) (i mhz : Nat),
    let u := s.at t
    i ≤ 12 →
    u.mode ≠ .dormant →
    u.debugRight 11 = true →
    overrideOk i mhz = true →
    exec (.pwrClkOverrideWrite t i mhz) s = .next { u with
        pwr := { u.pwr with override := mapPut 0 u.pwr.override i mhz },
        pending := s.pending })

/-- While the attention summary that MSI-X enables stays zero, a write of ones to IRQ_GROUP_g clears those latches and
sends nothing; while it stays non-zero, vector 0 follows. A clear of a leaf cause clears those bits, and leaves the
latched group as it is. LOG_PEEK_INDEX selects the slot that LOG_PEEK_DATA shows; RPL_BREAK takes its value under its
debug right. -/
def Obligations.AttentionRegistersLatchAndClear : Prop :=
  (∀ (s : State) (t : Tick) (g : Nat) (v : Word32),
    let u := s.at t
    let x : State := { u with irq := { u.irq with group := mapPut 0 u.irq.group g (u.group g &&& ~~~ v) } }
    g ≤ 7 →
    u.mode ≠ .dormant →
    u.mode ≠ .boot →
    u.mode ≠ .felled →
    x.msixActive = false →
    exec (.irqGroupWrite t g v) s = .next { x with pending := s.pending }) ∧
  (∀ (s : State) (t : Tick) (g : Nat) (v : Word32),
    let u := s.at t
    let x : State := { u with irq := { u.irq with group := mapPut 0 u.irq.group g (u.group g &&& ~~~ v) } }
    g ≤ 7 →
    u.mode ≠ .dormant →
    u.mode ≠ .boot →
    u.mode ≠ .felled →
    x.msixActive = true →
    exec (.irqGroupWrite t g v) s = .next { x.msix 0 0 with pending := s.pending }) ∧
  (∀ (s : State) (t : Tick) (l : Leaf) (v : Word32),
    let u := s.at t
    u.mode ≠ .dormant →
    u.mode ≠ .felled →
    exec (.leafCauseClear t l v) s = .next { u with
        irq := { u.irq with cause := mapPut 0 u.irq.cause (leafNum l) (u.cause l &&& ~~~ v) },
        pending := s.pending }) ∧
  (∀ (s : State) (t : Tick) (p : Path) (v : Word32),
    let u := s.at t
    p.ok = true →
    u.mode ≠ .dormant →
    u.peekOpen p = true →
    exec (.logPeekIndexWrite t p v) s = .next { u with
        log := { u.log with
          peek := v.toNat % 16384,
          peekData := ((mapFind u.log.slots (v.toNat % 16384)).map logBytes).getD (zeros 64) },
        pending := s.pending }) ∧
  (∀ (s : State) (t : Tick) (v : Word32),
    let u := s.at t
    u.mode ≠ .dormant →
    u.debugRight 13 = true →
    exec (.rplBreakWrite t v) s = .next { u with
        rpl := { u.rpl with brk := v.toNat, broke := false },
        pending := s.pending })

/-- With no accepted write outstanding, a POT entry write that R493 accepts becomes outstanding and takes effect at its
effect event; a refused one leaves the table and gives its cause. The warden writes any entry of a protection unit
that is not locked; a drover core that holds a KH-1 record sets its straddle bit. A hand-over of an unlocked bank
group that is ON to a new owner starts, and when its words are wiped they read zero, its pages pass to the new owner,
and it is counted. A DMA engine with no locked entry takes its owner and loses its entries; an interrupt line takes
its core and loses what pended. -/
def Obligations.TheWorldsKeepTheirOwners : Prop :=
  (∀ (s : State) (t : Tick) (v : BitVec 16),
    let u := s.at t
    u.iso.potBusy = none →
    u.potCause u.iso.potIndex (v &&& 0x3FFF) = 0 →
    exec (.potEntryWrite t v) s = .next { u with
        iso := { u.iso with potBusy := some (u.iso.potIndex, v &&& 0x3FFF), potRefused := 0 },
        pending := s.pending }) ∧
  (∀ (s : State) (t : Tick) (v : BitVec 16),
    let u := s.at t
    u.iso.potBusy = none →
    u.potCause u.iso.potIndex (v &&& 0x3FFF) ≠ 0 →
    exec (.potEntryWrite t v) s = .next { u with
        iso := { u.iso with potRefused := u.potCause u.iso.potIndex (v &&& 0x3FFF) },
        pending := s.pending }) ∧
  (∀ (s : State) (t : Tick) (i : Nat) (v : BitVec 16),
    let u := s.at t
    u.iso.potBusy = some (i, v) →
    i < 0x10000 ∨ potOwner v = potOwner (u.pot i) ∨ potKey v ≠ potKey (u.pot i) →
    exec (.potEntryEffect t) s = .next { ({ u with iso := { u.iso with potBusy := none } } : State).setPot i v with
        pending := s.pending }) ∧
  (∀ (s : State) (t : Tick) (c m en : Nat) (v : Word32),
    let u := s.at t
    c ≤ 3 →
    m ≤ 31 →
    en ≤ 31 →
    (u.mpuEntry m en).attr.getLsbD 7 = false →
    u.mode ≠ .dormant →
    u.mode ≠ .felled →
    exec (.mpuEntryWrite t (.warden c) m en 0 v) s = .next { u with
        iso := { u.iso with mpu := mapPut {} u.iso.mpu (32 * m + en) { u.mpuEntry m en with base := v } },
        pending := s.pending } ∧
      exec (.mpuEntryWrite t (.warden c) m en 4 v) s = .next { u with
        iso := { u.iso with mpu := mapPut {} u.iso.mpu (32 * m + en) { u.mpuEntry m en with limit := v } },
        pending := s.pending } ∧
      exec (.mpuEntryWrite t (.warden c) m en 8 v) s = .next { u with
        iso := { u.iso with
          mpu := mapPut {} u.iso.mpu (32 * m + en) { u.mpuEntry m en with attr := v.setWidth 8 } },
        pending := s.pending }) ∧
  (∀ (s : State) (t : Tick) (core : Nat) (r : RecRef),
    let u := s.at t
    core ≤ 15 →
    u.kh1Run core = some r →
    exec (.kh1StraddleWrite t core true) s = .next { u with
        iso := { u.iso with straddle := (core, r) :: u.iso.straddle.filter fun x => x.1 != core },
        pending := s.pending }) ∧
  (∀ (s : State) (t : Tick) (g : Nat) (v : Word32),
    let u := s.at t
    g ≤ 7 →
    u.mode ≠ .dormant →
    u.mode ≠ .felled →
    ((List.range 512).all fun i => !potLocked (u.pot (512 * g + i))) = true →
    u.unitOn (groupUnit g).1 (groupUnit g).2 = true →
    (u.bank g).next = none →
    v.setWidth 9 ≠ (u.bank g).owner →
    exec (.bnkGroupOwnerWrite t g v) s = .next { u.setBank g { u.bank g with refused := false, next := some (v.setWidth 9) } with
        pending := s.pending }) ∧
  (∀ (s : State) (t : Tick) (g : Nat) (o : BitVec 9),
    let u := s.at t
    g ≤ 7 →
    (u.bank g).next = some o →
    ∃ s', exec (.bankGroupWipeDone t g) s = .next s' ∧ s'.bank g = { u.bank g with owner := o, next := none } ∧
      s'.iso.handovers = sat32 u.iso.handovers ∧
      s'.mem = u.mem.filter fun c => !(decide (0x04000000 + g * 2 ^ 21 ≤ c.1) && decide (c.1 < 0x04000000 + g * 2 ^ 21 + 2 ^ 21))) ∧
  (∀ (s : State) (t : Tick) (k : Nat) (v : Word32),
    let u := s.at t
    k ≤ 11 →
    u.mode ≠ .dormant →
    u.mode ≠ .felled →
    ((List.range 32).all fun en => !(u.mpuEntry (20 + k) en).attr.getLsbD 7) = true →
    exec (.isoDmaAssignWrite t k v) s = .next { u with
        iso := { u.iso with
          refused := false,
          dma := mapPut (if k < 8 then 0 else 0x100) u.iso.dma k (v.setWidth 9),
          mpu := u.iso.mpu.filter fun p => p.1 / 32 != 20 + k },
        pending := s.pending }) ∧
  (∀ (s : State) (t : Tick) (l core : Nat),
    let u := s.at t
    l ≤ 127 →
    core ≤ 19 →
    u.mode ≠ .dormant →
    u.mode ≠ .felled →
    exec (.isoIrqRouteWrite t l core) s = .next { u with
        iso := { u.iso with
          route := mapPut 0 u.iso.route l core,
          linesPending := u.iso.linesPending.filter (· != l) },
        pending := s.pending })

/-- A power-on reset, and an assertion of SYS_RESET_N of 10 us or more outside DORMANT with no OTP bit under way, return
the device to BOOT stage 1 at tick 0 with their cause (and the felled bit of a device that was FELLED), nothing
waiting or running, the OTP, vault and wake ledger kept; with an OTP bit under way the assertion waits. The release of
SYS_RESET_N sets tick 0. A loss of main power with VBAT present leads to DORMANT with vault and OTP kept. VBAT lost in
DORMANT empties the vault and the wake ledger; a cell fitted with neither supply starts the battery island from its
reset. -/
def Obligations.ResetsRestartTheTickAndKeepTheBatteryIsland : Prop :=
  (∀ (s : State) (t : Tick),
    let u := s.at t
    u.mode ≠ .dormant ∨ u.sysReset = false →
    u.mode ≠ .replay →
    ∃ s', exec (.powerOnReset t) s = .next s' ∧ s'.mode = .boot ∧ s'.bootStage = 1 ∧ s'.tick = 0 ∧
      s'.resetCause = 1 ||| (if u.mode = .felled then 8 else 0) ∧ s'.recoveryReq = false ∧ s'.otp = u.otp ∧
      s'.vault = u.vault ∧ s'.tmp.wake = u.tmp.wake ∧ s'.waiting = [] ∧ s'.running = [] ∧ s'.sessions = [] ∧
      s'.outcomes = []) ∧
  (∀ (s : State) (t : Tick) (ns : Nat),
    let u := s.at t
    10000 ≤ ns →
    u.mode ≠ .dormant →
    u.mode ≠ .replay →
    u.otpBusy = false →
    ∃ s', exec (.sysResetNAssert t ns) s = .next s' ∧ s'.mode = .boot ∧ s'.bootStage = 1 ∧ s'.tick = 0 ∧
      s'.sysReset = true ∧ s'.resetCause = 2 ||| (if u.mode = .felled then 8 else 0) ∧ s'.otp = u.otp ∧
      s'.vault = u.vault ∧ s'.waiting = [] ∧ s'.running = []) ∧
  (∀ (s : State) (t : Tick) (ns : Nat),
    let u := s.at t
    10000 ≤ ns →
    u.mode ≠ .dormant →
    u.otpBusy = true →
    exec (.sysResetNAssert t ns) s = .next { u with sysReset := true, resetDue := true, pending := s.pending }) ∧
  (∀ (s : State) (t : Tick),
    let u := s.at t
    u.sysReset = true →
    u.mode ≠ .dormant →
    u.resetDue = false →
    exec (.sysResetNDeassert t) s = .next { u with sysReset := false, tick := 0, pending := s.pending }) ∧
  (∀ (s : State) (t : Tick),
    let u := s.at t
    u.mode ≠ .dormant →
    u.mode ≠ .replay →
    u.vbat = true →
    u.tmp.condition.getLsbD 17 = false →
    ∃ s', exec (.mainPowerLoss t) s = .next s' ∧ s'.mode = .dormant ∧ s'.mainPower = false ∧ s'.otp = u.otp ∧
      s'.vault = u.vault ∧ s'.tmp.wake = u.tmp.wake ∧ s'.waiting = [] ∧ s'.running = []) ∧
  (∀ (s : State) (t : Tick),
    let u := s.at t
    u.mode = .dormant →
    ∃ s', exec (.vbatLossInDormant t) s = .next s' ∧ s'.mode = .dormant ∧ s'.vbat = false ∧ s'.vault = {} ∧
      s'.tmp.wake = [] ∧ s'.tmp.overflow = 0 ∧ s'.otp = u.otp) ∧
  (∀ (s : State) (t : Tick),
    let u := s.at t
    u.mode = .dormant →
    u.vbat = false →
    ∃ s', exec (.cellFitted t) s = .next s' ∧ s'.mode = .dormant ∧ s'.vbat = true ∧ s'.vault = {} ∧
      s'.tmp.wake = [] ∧ s'.otp = u.otp)

/-- Stage 1 takes the three copies of the code: the raw state stops BOOT and releases the endpoint, any other state that
agrees goes on with stage 2. Stage 2 with nothing to catch up and the vault alive goes on with stage 3, unless the
device is SCRAPPED or LOCKED. A failed known-answer test stops BOOT with cause 12; a good start-up whose draws are
served derives the identity and goes on with stage 5. A header that passes Table 3-8 is kept for stage 6; one that
does not, or no flash, enters RECOVERY with its cause. Settings that match the header and parse are applied, the
endpoint is released and a configured twin makes the state PAIRING. Firmware that matches its digests ends BOOT in
MUSTER for ISSUED and OWNED. -/
def Obligations.BootRunsItsStages : Prop :=
  (∀ (s : State) (t : Tick) (bad : List Nat),
    let u := s.at t
    u.inStage 1 = true →
    u.otp.lcs0 = u.otp.lcs1 →
    u.otp.lcs1 = u.otp.lcs2 →
    lifeOf u.otp.lcs0 ≠ .raw →
    u.tmp.severed = false →
    ∃ s', exec (.otpDecode t bad) s = .next s' ∧ s'.bootStage = 2 ∧ s'.mode = .boot ∧
      s'.lcs.copy0 = u.otp.lcs0 ∧ s'.lcs.copy1 = u.otp.lcs1 ∧ s'.lcs.copy2 = u.otp.lcs2 ∧
      s'.life = lifeOf u.otp.lcs0) ∧
  (∀ (s : State) (t : Tick),
    let u := s.at t
    u.inStage 2 = true →
    u.untallied = [] →
    u.tmp.overflow = 0 →
    u.vault.marker = true →
    u.life ≠ .scrapped →
    u.life ≠ .locked →
    u.tmp.severed = false →
    exec (.tallyCatchUp t) s = .next { u with
        tal := { u.tal with queue := u.tal.queue.filter (·.wake.isNone), catchup := true },
        bootStage := 3,
        pending := s.pending }) ∧
  (∀ (s : State) (t : Tick) (failed : List (Nat × Bool)),
    let u := s.at t
    u.inStage 3 = true →
    ∃ s', exec (.entropyStartUp t false failed) s = .next s' ∧ s'.bootStage = 15 ∧ s'.man.failCause = 12 ∧
      s'.host.released = true) ∧
  (∀ (s : State) (t : Tick) (failed : List (Nat × Bool)) (s1 s2 : State),
    let u := s.at t
    u.inStage 3 = true →
    u.bootEntropy true failed = (s1, true) →
    s1.bootDraws = some s2 →
    s2.tmp.severed = false →
    ∃ s', exec (.entropyStartUp t true failed) s = .next s' ∧ s'.bootStage = 5 ∧ s'.lcs.identity = true ∧
      s'.cel = s2.cel ∧ s'.smc = s2.smc ∧ s'.vault.nonce = s2.vault.nonce ∧
      s'.vault.bootCount = s2.vault.bootCount) ∧
  (∀ (s : State) (t : Tick) (h : Bytes) (flash : Nat),
    let u := s.at t
    u.inStage 5 = true →
    u.recoveryReq = false →
    u.tmp.severed = false →
    exec (.manifestHeaderRead t h flash) s = .next { (if u.headerCause h flash = 0 then { u with man := { u.man with header := h }, bootStage := 6 } else u.enterRecovery (u.headerCause h flash)) with
        pending := s.pending } ∧
      (∀ c, (u.enterRecovery c).mode = .recovery ∧ (u.enterRecovery c).bootStage = 0 ∧ (u.enterRecovery c).man.failCause = c ∧ (u.enterRecovery c).host.released = true)) ∧
  (∀ (s : State) (t : Tick),
    let u := s.at t
    u.inStage 5 = true →
    u.recoveryReq = false →
    u.tmp.severed = false →
    ∃ s', exec (.flashIdentificationTimeout t) s = .next s' ∧ s'.mode = .recovery ∧ s'.bootStage = 0 ∧
      s'.man.failCause = 1 ∧ s'.host.released = true) ∧
  (∀ (s : State) (t : Tick) (data : Bytes) (x : Settings) (en : Nat × Nat × Nat × Bytes),
    let u := s.at t
    u.inStage 6 = true →
    ((sections u.man.header).find? fun y => y.1 == 4) = some en →
    en.2.2.2 = sha384 data →
    en.2.2.1 = data.length →
    parseSettings u.otp.serial u.twinSerial data = some x →
    u.host.linkUp = false →
    u.tmp.severed = false →
    exec (.settingsSectionRead t data) s = .next { u with
        man := { u.man with set := x, applied := true },
        host := { u.host with released := true },
        twin := { u.twin with st := if u.twinSerial = 0 then .none else .pairing },
        bootStage := 7,
        pending := s.pending }) ∧
  (∀ (s : State) (t : Tick) (data : List Bytes),
    let u := s.at t
    u.inStage 7 = true →
    ((firmware u.man.header data).all fun p => sha384 p.2 == p.1.2.2.2 && p.2.length == p.1.2.2.1) = true →
    u.tmp.severed = false →
    u.life = .issued ∨ u.life = .owned →
    ∃ s', exec (.firmwareSectionsRead t data) s = .next s' ∧ s'.mode = .muster ∧ s'.bootStage = 0 ∧
      s'.man.measure = measurement u.man.header ∧ s'.man.version = fld u.man.header 8 4 ∧
      s'.vault.floor = max u.vault.floor (fld u.man.header 8 4))

/-- In RAW, with no transition under way and no glitch, LCS_ADVANCE begins the writes that R37 gives for the transition to
FACTORY. A verified bit write that is not the last sets that bit of that copy and goes on; the first failure of a
write is retried. A verified tally increment, outside RAW with main power and no reset waiting, sets the lowest clear
bit of its counter that has not failed, marks its wake entry tallied and leaves the queue. -/
def Obligations.TransitionsAndTheTallyProgramOtp : Prop :=
  (∀ (s : State) (t : Tick),
    let u := s.at t
    u.life = .raw →
    u.lifeBusy = false →
    u.glitching = false →
    u.mode ≠ .dormant →
    u.mode ≠ .felled →
    ∃ s', exec (.lcsAdvance t) s = .next s' ∧
      s'.lcs = { u.lcs with write := some { target := 1, todo := transitionWrites u.voted 1, ref := none } } ∧
      s'.otp = u.otp) ∧
  (∀ (s : State) (t : Tick) (w : LcsWrite) (b copy : Nat) (x : Nat × Nat) (rest : List (Nat × Nat)),
    let u := s.at t
    u.lcs.write = some w →
    w.todo = (b, copy) :: x :: rest →
    u.mainPower = true →
    exec (.lcsBitWrite t true) s = .next { u.setLcsBit b copy with
        lcs := { u.lcs with write := some { w with todo := x :: rest, retried := false } },
        pending := s.pending } ∧
      (copy = 0 → (u.setLcsBit b copy).otp = { u.otp with lcs0 := u.otp.lcs0 ||| BitVec.ofNat 32 (2 ^ b) })) ∧
  (∀ (s : State) (t : Tick) (w : LcsWrite) (x : Nat × Nat) (rest : List (Nat × Nat)),
    let u := s.at t
    u.lcs.write = some w →
    w.todo = x :: rest →
    w.retried = false →
    u.mainPower = true →
    exec (.lcsBitWrite t false) s = .next { u with
        lcs := { u.lcs with write := some { w with retried := true } },
        pending := s.pending }) ∧
  (∀ (s : State) (t : Tick) (j : TallyJob) (rest : List TallyJob) (b : Nat),
    let u := s.at t
    u.tal.queue = j :: rest →
    u.life ≠ .raw →
    u.mainPower = true →
    u.tallyBit j.cls = some b →
    u.resetDue = false →
    ∃ s', exec (.tallyIncrement t true) s = .next s' ∧ s'.tal.queue = rest ∧
      s'.otp = { u.otp with
        tally := mapPut 0 u.otp.tally j.cls (u.tallyBits j.cls ||| BitVec.ofNat 64 (2 ^ b)) })

/-- Outside DORMANT an onset of a class that has a debounce and is not sampled is recorded and raises nothing yet; with no
debounce, an armed class whose response is FELL leads to FELLED: the vault holds only its live marker, cellar and
memory keys are gone, nothing runs or waits. A clear rearms its class. A low excursion of a glitch class that has
lasted its window is a loss of main power; a short one of a class that has already alarmed leaves it clear. A
debounced class whose response is SEVER, held for its window, severs the device. In DORMANT a doze sample that sees an
armed battery class empties the vault and the device stays in DORMANT. The end of the clears turns the domains off. -/
def Obligations.TamperConditionsAreSeenAndAnswered : Prop :=
  (∀ (s : State) (t : Tick) (c : Nat) (d : Word32),
    let u := s.at t
    c ≤ 21 →
    u.mode ≠ .dormant →
    u.sampled c d = false →
    u.debounce c ≠ 0 →
    exec (.tamperConditionOnset t c d) s = .next { u with
        tmp := { u.tmp with
          condition := u.tmp.condition ||| BitVec.ofNat 32 (2 ^ c),
          onset := if u.tmp.condition.getLsbD c then u.tmp.onset else mapSet u.tmp.onset c (u.tick, d) },
        pending := s.pending }) ∧
  (∀ (s : State) (t : Tick) (c : Nat) (d : Word32),
    let u := s.at t
    c ≤ 21 →
    u.mode ≠ .dormant →
    u.sampled c d = false →
    u.debounce c = 0 →
    u.armed c = true →
    u.response c = .fell →
    ∃ s', exec (.tamperConditionOnset t c d) s = .next s' ∧ s'.mode = .felled ∧ s'.vault = { marker := true } ∧
      s'.cel.slots = [] ∧ s'.cel.bootKeys = [] ∧ s'.smc.keys = [] ∧ s'.running = [] ∧ s'.waiting = [] ∧
      s'.tmp.felled = true ∧ s'.otp = u.otp) ∧
  (∀ (s : State) (t : Tick) (c : Nat),
    let u := s.at t
    c ≤ 21 →
    u.mode ≠ .dormant →
    u.sampled c (mapGet (0, 0) u.tmp.onset c).2 = false →
    exec (.tamperConditionClear t c) s = .next { u with
        tmp := { u.tmp with
          condition := u.tmp.condition &&& ~~~ BitVec.ofNat 32 (2 ^ c),
          raised := u.tmp.raised &&& ~~~ BitVec.ofNat 32 (2 ^ c),
          onset := mapDel u.tmp.onset c },
        pending := s.pending }) ∧
  (∀ (s : State) (t : Tick) (c : Nat) (first : Tick) (d : Word32),
    let u := s.at t
    13 ≤ c →
    c ≤ 15 →
    u.mode ≠ .dormant →
    d.getLsbD 0 = false →
    first + 10 ≤ u.tick →
    exec (.glitchExcursionEnd t c first d) s = .next { u.deviceReset u.resetCause with
        mode := .dormant,
        bootStage := 0,
        mainPower := false,
        pending := s.pending }) ∧
  (∀ (s : State) (t : Tick) (c : Nat) (first : Tick) (d : Word32),
    let u := s.at t
    13 ≤ c →
    c ≤ 15 →
    u.mode ≠ .dormant →
    u.tick < first + 10 →
    u.armed c = false →
    exec (.glitchExcursionEnd t c first d) s = .next { u.clearCondition c with pending := s.pending }) ∧
  (∀ (s : State) (t : Tick) (c : Nat) (d : Word32),
    let u := s.at t
    c ≤ 21 →
    c < 13 ∨ 15 < c →
    u.mode ≠ .dormant →
    u.mode ≠ .felled →
    u.tmp.condition.getLsbD c = true →
    u.armed c = true →
    u.sampled c d = false →
    (mapGet (0, 0) u.tmp.onset c).1 + u.debounce c ≤ u.tick →
    u.response c = .sever →
    ∃ s', exec (.tamperDebounceExpiry t [(c, d)]) s = .next s' ∧ s'.tmp.severed = true ∧ s'.mode = u.mode ∧
      s'.vault = u.vault) ∧
  (∀ (s : State) (t : Tick) (c : Nat) (d : Word32),
    let u := s.at t
    u.mode = .dormant →
    c ≤ 12 →
    batteryClass c d = true →
    u.armed c = true →
    u.tmp.condition = 0 →
    ∃ s', exec (.dozeSample t [(c, d)]) s = .next s' ∧ s'.mode = .dormant ∧ s'.vault = { marker := true } ∧
      s'.tmp.condition.getLsbD c = true ∧ s'.tmp.raised.getLsbD c = true) ∧
  (∀ (s : State) (t : Tick),
    let u := s.at t
    u.mode = .felled →
    u.tmp.cleared = false →
    ∃ s', exec (.clearsDone t) s = .next s' ∧ s'.mode = .felled ∧ s'.tmp.cleared = true ∧ s'.cel = {} ∧
      s'.smc = {} ∧ s'.mem = [] ∧ s'.sessions = [] ∧ s'.otp = u.otp ∧ s'.vault = u.vault ∧ s'.log = u.log) ∧
  (∀ (s : State) (t : Tick) (a : ArrayKind) (w n : Nat),
    let u := s.at t
    0 < n →
    exec (.scrubberRead t a w 0) s = .next { u with pending := s.pending } ∧
      (n ≤ arrayCorrects a → exec (.scrubberRead t a w n) s = .next { u with
        corrected := mapInc u.corrected (arrayNum a) 0xFFFFFFFF,
        pending := s.pending }) ∧
      (arrayCorrects a < n → ∃ s', exec (.scrubberRead t a w n) s = .next s' ∧ s'.poison = (arrayNum a, w) :: u.poison.filter (· != (arrayNum a, w))))

/-- A legal barrier that waits starts when none pends. An acknowledgement in time of an island with no job is noted while
others are still to come; without a barrier it is late. A barrier whose window has closed is abandoned with SYSTEM
cause 1: its command, where one asked for it, ends with BUSY. A base copy with one command left records the base and
starts the capture. A severed device with nothing running has drained. The end of training sets the channels that are
up. Replay halts at RPL_BREAK. A closed LOG_FREEZE window ends the freeze, or leaves it to an export that still runs. -/
def Obligations.BarriersGatherAcknowledgementsOrTimeOut : Prop :=
  (∀ (s : State) (t : Tick) (b : Barrier) (bs : List Barrier),
    let u := s.at t
    u.barrier = none →
    u.barrierQ = b :: bs →
    barrierLegal u.life u.mode b.target = true →
    exec (.barrierStart t) s = .next { u with
        barrierQ := bs,
        barrier := some { b with request := u.tick, acks := (List.range 13).filter fun i => !u.islandOn i },
        pending := s.pending }) ∧
  (∀ (s : State) (t : Tick) (i : Nat) (stamp : Tick) (b : Barrier),
    let u := s.at t
    i ≤ 12 →
    u.barrier = some b →
    governs stamp u.tick (b.request + 100000) = true →
    u.islandBusy i = false →
    ((List.range 13).all (i :: b.acks.filter (· != i)).contains) = false →
    exec (.barrierAck t i stamp) s = .next { u with
        barrier := some { b with acks := i :: b.acks.filter (· != i) },
        rsw := { u.rsw with paused := u.rsw.paused || (u.rsw.active && i == islMemory) },
        pending := s.pending }) ∧
  (∀ (s : State) (t : Tick) (i : Nat) (stamp : Tick),
    let u := s.at t
    i ≤ 12 →
    u.barrier = none →
    exec (.barrierAck t i stamp) s = .next { u with
        late := mapInc u.late islAlways 0xFFFFFFFF,
        pending := s.pending }) ∧
  (∀ (s : State) (t : Tick) (b : Barrier) (r : RecRef) (run : Run),
    let u := s.at t
    u.barrier = some b →
    b.request + 100000 + 2 ≤ u.tick →
    b.cause = .command r →
    (u.running.find? fun x => x.record.ref == r) = some run →
    exec (.barrierTimeout t) s = .next { ((({ u with barrier := none } : State).raise .system 1).resumeResaw).finish run (fail .busy) with
        pending := s.pending }) ∧
  (∀ (s : State) (t : Tick) (b : Barrier),
    let u := s.at t
    u.barrier = some b →
    b.request + 100000 + 2 ≤ u.tick →
    b.cause = .following →
    exec (.barrierTimeout t) s = .next { (({ u with barrier := none } : State).raise .system 1).resumeResaw with
        pending := s.pending }) ∧
  (∀ (s : State) (t : Tick) (run : Run),
    let u := s.at t
    u.running = [run] →
    run.stage = .base →
    exec (.captureBaseCopyDone t) s = .next { (((({ u with base := some u.copyBase, rpl := { u.rpl with capturing := true, captured := false, full := false, records := 0, bytes := 0, spilled := false, items := [], index := none } } : State).logEvent 0x0802 .notice islHost 0x100 .ok []).captureTwin).finish run {}) with
        pending := s.pending }) ∧
  (∀ (s : State) (t : Tick),
    let u := s.at t
    u.tmp.severed = true →
    u.tmp.drained = false →
    u.running = [] →
    u.mode ≠ .felled →
    u.mode ≠ .dormant →
    ∃ s', exec (.severDrainDone t) s = .next s' ∧ s'.tmp.drained = true ∧ s'.rsw.paused = s'.rsw.active) ∧
  (∀ (s : State) (t : Tick) (ch0 ch1 mis : Bool) (config : Word32),
    let u := s.at t
    u.smc.trained = false →
    u.smc.keys ≠ [] →
    u.unitOn 16 0 = true →
    u.mode ≠ .dormant →
    u.mode ≠ .felled →
    (ch0 || (ch1 && !mis)) = true →
    (u.running.all fun x => x.stage != .sdram) = true →
    exec (.sdramTrainingDone t ch0 ch1 mis config) s = .next { u with
        smc := { u.smc with
          up0 := ch0,
          up1 := ch1 && !mis,
          trained := true,
          mismatch := mis,
          config := config &&& 0x1F7F },
        pending := s.pending }) ∧
  (∀ (s : State) (t : Tick) (x : List (Option Nat) × Nat × Rec × Tick × List CaptureItem),
    let u := s.at t
    u.mode = .replay →
    u.rpl.halted = false →
    nextCommand u.rpl.items = some x →
    u.rpl.brk = x.2.1 →
    u.rpl.broke = false →
    exec (.replayRecord t) s = .next { u with
        rpl := { u.rpl with halted := true, broke := true },
        pending := s.pending }) ∧
  (∀ (s : State) (t c : Tick),
    let u := s.at t
    u.log.freeze = some c →
    c ≤ u.tick →
    (0 < u.log.exports → exec (.logFreezeWindowClose t) s = .next { u with
        log := { u.log with freeze := none, exportFreeze := true },
        pending := s.pending }) ∧
      (u.log.exports = 0 → ∃ s', exec (.logFreezeWindowClose t) s = .next s' ∧ s' = { u.thaw false with pending := s.pending }))

/-- A start-up test that both parts pass makes the source healthy; with the DRBG failed for want of sources alone, the
last kind restored makes it starting again with at least two blocks to gather. A failed start-up or continuous test
quarantines a source: healthy and start-up bits clear, the tick noted, its count of quarantines advanced. A closed
block is counted while more are needed; the last one seeds the DRBG and raises SYSTEM cause 3. A quarantine of
1,000,000 ticks that is not the third starts the source up again. A refill fills the buffer of one lane and counts a
request. The warden FIFO is refilled to 64 words when it holds fewer than 32. -/
def Obligations.TheEntropySourcesAreTestedAndSeedTheDrbg : Prop :=
  (∀ (s : State) (t : Tick) (n : Nat),
    let u := s.at t
    let v : State := { u with rng := { u.rng with healthy := u.rng.healthy ||| srcBit n, startup := u.rng.startup &&& ~~~ srcBit n } }
    n ≤ 25 →
    u.unitOn 19 0 = true →
    u.rng.startup.getLsbD n = true →
    (v.rng.st = .failed → v.rng.katFailed = true ∨ v.rng.kindsOk = false) →
    exec (.startUpTestDone t n false false) s = .next { v with pending := s.pending }) ∧
  (∀ (s : State) (t : Tick) (n : Nat),
    let u := s.at t
    let v : State := { u with rng := { u.rng with healthy := u.rng.healthy ||| srcBit n, startup := u.rng.startup &&& ~~~ srcBit n } }
    n ≤ 25 →
    u.unitOn 19 0 = true →
    u.rng.startup.getLsbD n = true →
    v.rng.st = .failed →
    v.rng.katFailed = false →
    v.rng.kindsOk = true →
    exec (.startUpTestDone t n false false) s = .next { v with
        rng := { v.rng with st := .starting, blocks := 0, need := max 2 v.rng.need },
        pending := s.pending }) ∧
  (∀ (s : State) (t : Tick) (n : Nat),
    let u := s.at t
    n ≤ 25 →
    u.unitOn 19 0 = true →
    u.rng.healthy.getLsbD n = true →
    (∃ s', exec (.repetitionCountTestFail t n) s = .next s' ∧ s'.rng.healthy = u.rng.healthy &&& ~~~ srcBit n ∧ s'.rng.startup = u.rng.startup &&& ~~~ srcBit n ∧ s'.rng.quarantined = mapSet u.rng.quarantined n u.tick ∧ s'.rng.times = mapInc u.rng.times n 3 ∧ s'.rng.rct = sat32 u.rng.rct ∧ s'.rng.apt = u.rng.apt) ∧
      (∃ s', exec (.adaptiveProportionTestFail t n) s = .next s' ∧ s'.rng.healthy = u.rng.healthy &&& ~~~ srcBit n ∧ s'.rng.startup = u.rng.startup &&& ~~~ srcBit n ∧ s'.rng.quarantined = mapSet u.rng.quarantined n u.tick ∧ s'.rng.times = mapInc u.rng.times n 3 ∧ s'.rng.rct = u.rng.rct ∧ s'.rng.apt = sat32 u.rng.apt)) ∧
  (∀ (s : State) (t : Tick),
    let u := s.at t
    u.unitOn 19 0 = true →
    u.rng.st = .starting →
    u.rng.kindsOk = true →
    u.rng.blocks + 1 < u.rng.need →
    exec (.conditionerBlockClose t) s = .next { u with
        rng := { u.rng with blocks := u.rng.blocks + 1 },
        pending := s.pending }) ∧
  (∀ (s : State) (t : Tick),
    let u := s.at t
    u.unitOn 19 0 = true →
    u.rng.st = .starting →
    u.rng.kindsOk = true →
    u.rng.need ≤ u.rng.blocks + 1 →
    ∃ s', exec (.conditionerBlockClose t) s = .next s' ∧ s'.rng.st = .healthy ∧ s'.rng.blocks = 0 ∧
      s'.rng.need = 2 ∧ s'.rng.since = 0 ∧ s'.rng.cipherBuf = 0xFFFF ∧ s'.rng.bigBuf = 0xFFFFFFFF ∧
      s'.mode = u.mode ∧ s'.cel = u.cel ∧ s'.mem = u.mem) ∧
  (∀ (s : State) (t : Tick) (n q : Nat),
    let u := s.at t
    n ≤ 25 →
    mapFind u.rng.quarantined n = some q →
    q + 1000000 ≤ u.tick →
    mapGet 0 u.rng.times n < 3 →
    u.unitOn 19 0 = true →
    exec (.quarantineWindowClose t n) s = .next { u with
        rng := { u.rng with startup := u.rng.startup ||| srcBit n, quarantined := mapDel u.rng.quarantined n },
        pending := s.pending }) ∧
  (∀ (s : State) (t : Tick) (l : Nat),
    let u := s.at t
    l ≤ 15 →
    u.rng.st = .healthy →
    u.unitOn 19 0 = true →
    exec (.bufferRefill t .cipher l) s = .next { u with
        rng := { u.rng with
          cipherBuf := u.rng.cipherBuf ||| BitVec.ofNat 16 (2 ^ l),
          requests := sat32 u.rng.requests,
          since := u.rng.since + 1 },
        pending := s.pending }) ∧
  (∀ (s : State) (t : Tick) (l : Nat),
    let u := s.at t
    l ≤ 31 →
    u.rng.st = .healthy →
    u.unitOn 19 0 = true →
    exec (.bufferRefill t .bigNumber l) s = .next { u with
        rng := { u.rng with
          bigBuf := u.rng.bigBuf ||| BitVec.ofNat 32 (2 ^ l),
          requests := sat32 u.rng.requests,
          since := u.rng.since + 1 },
        pending := s.pending }) ∧
  (∀ (s : State) (t : Tick) (v : State) (b : Bytes),
    let u := s.at t
    u.rng.fifo.length < 32 →
    u.random (4 * (64 - u.rng.fifo.length)) = some (v, b) →
    exec (.wardenFifoRefill t) s = .next { v with
        rng := { v.rng with fifo := v.rng.fifo ++ (chunks 4 b).map fun w => BitVec.ofNat 32 (leNat w) },
        pending := s.pending })

/-- LANE_JOB_DISPATCH gives the oldest waiting job of a kind an idle lane that is on, and ends the job with
LANE_UNAVAILABLE where no lane of its kind is in service. A cipher job that has run more than 65,536 rounds takes the
reseed from its lane's buffer; where none can be had it stops with ENTROPY_FAILED; before that many rounds nothing is
drawn. A cipher job without a fault ends with its result and counts one job; one whose waybill fails ends with
WAYBILL_MISMATCH after its entry and cause. A digest job ends with its result, one with a residue fault with
COMPUTE_FAULT. A big-number job that is no RSA generation ends with its result after the counters of its job and wipe.
A decimal job without a fault goes on to its posting. -/
def Obligations.LaneJobsAreDispatchedAndEnd : Prop :=
  (∀ (s : State) (t : Tick) (l : Nat) (run : Run),
    let u := s.at t
    l ≤ 15 →
    (u.running.find? fun r => r.stage == .lane .cipher none) = some run →
    u.laneAny .cipher = false →
    exec (.laneJobDispatch t .cipher l) s = .next { u.endJob run (fail .laneUnavailable) with
        pending := s.pending }) ∧
  (∀ (s : State) (t : Tick) (k : LaneKind) (l : Nat) (run : Run),
    let u := s.at t
    k = .cipher ∧ l ≤ 15 ∨ k = .digest ∧ l ≤ 7 ∨ k = .bigNumber ∧ l ≤ 31 ∨ k = .decimal ∧ l ≤ 3 →
    (u.running.find? fun r => r.stage == .lane k none) = some run →
    u.laneAny k = true →
    l < Machine.laneCount k →
    u.laneOn k l = true →
    u.laneIdle k l = true →
    exec (.laneJobDispatch t k l) s = .next { u.laneStart run k l run.res with pending := s.pending } ∧
      (k = .digest ∨ k = .decimal → u.laneStart run k l run.res = u.park run (.lane k (some l)) run.res)) ∧
  (∀ (s : State) (t : Tick) (l : Nat) (run : Run),
    let u := s.at t
    l ≤ 15 →
    (u.running.find? fun r => r.stage == .lane .cipher (some l)) = some run →
    run.cycles ≤ 65536 →
    exec (.maskReseedPoint t l) s = .next { u with tick := u.tick, pending := s.pending }) ∧
  (∀ (s : State) (t : Tick) (l : Nat) (run : Run),
    let u := s.at t
    l ≤ 15 →
    (u.running.find? fun r => r.stage == .lane .cipher (some l)) = some run →
    65536 < run.cycles →
    u.rng.cipherBuf.getLsbD l = true →
    exec (.maskReseedPoint t l) s = .next { u with
        rng := { u.rng with cipherBuf := u.rng.cipherBuf &&& ~~~ BitVec.ofNat 16 (2 ^ l) },
        lanes := { u.lanes with
          counters := mapInc u.lanes.counters (0x1000 * kindNum .cipher + 0x008) 0xFFFFFFFF },
        pending := s.pending }) ∧
  (∀ (s : State) (t : Tick) (l : Nat) (run : Run),
    let u := s.at t
    l ≤ 15 →
    (u.running.find? fun r => r.stage == .lane .cipher (some l)) = some run →
    65536 < run.cycles →
    u.rng.cipherBuf.getLsbD l = false →
    u.rng.st ≠ .healthy →
    exec (.maskReseedPoint t l) s = .next { (u.laneCount .cipher 0x00C).endJob run (fail .entropyFailed) with
        pending := s.pending }) ∧
  (∀ (s : State) (t : Tick) (l : Nat) (run : Run),
    let u := s.at t
    l ≤ 15 →
    (u.running.find? fun r => r.stage == .lane .cipher (some l)) = some run →
    exec (.cipherJobDone t l .none) s = .next { (u.laneCount .cipher 0x004).endJob run run.res with
        pending := s.pending }) ∧
  (∀ (s : State) (t : Tick) (l g : Nat) (run : Run),
    let u := s.at t
    l ≤ 15 →
    (u.running.find? fun r => r.stage == .lane .cipher (some l)) = some run →
    exec (.cipherJobDone t l (.waybill g)) s = .next { ((u.laneCount .cipher 0x004).waybillFault .cipher l g run.record.tenant).endJob run (fail .waybillMismatch) with
        pending := s.pending }) ∧
  (∀ (s : State) (t : Tick) (l : Nat) (run : Run),
    let u := s.at t
    l ≤ 7 →
    (u.running.find? fun r => r.stage == .lane .digest (some l)) = some run →
    exec (.digestJobDone t l .none) s = .next { (if u.restarts run.res then u.laneCount .digest 0x004 else u).endJob run run.res with
        pending := s.pending }) ∧
  (∀ (s : State) (t : Tick) (l : Nat) (run : Run),
    let u := s.at t
    l ≤ 7 →
    (u.running.find? fun r => r.stage == .lane .digest (some l)) = some run →
    exec (.digestJobDone t l .residue) s = .next { (u.computeFault .digest l run.op run.record.tenant).endJob run (fail .computeFault) with
        pending := s.pending }) ∧
  (∀ (s : State) (t : Tick) (l d : Nat) (run : Run),
    let u := s.at t
    l ≤ 31 →
    (u.running.find? fun r => r.stage == .lane .bigNumber (some l)) = some run →
    isRsaGen run = false →
    exec (.bigNumberJobDone t l .none d) s = .next { (((u.laneCount .bigNumber 0x010).laneCount .bigNumber 0x014).laneCountBy .bigNumber 0x020 0).endJob run run.res with
        pending := s.pending }) ∧
  (∀ (s : State) (t : Tick) (l : Nat) (run : Run) (p : Posting),
    let u := s.at t
    l ≤ 3 →
    (u.running.find? fun r => r.stage == .lane .decimal (some l)) = some run →
    run.res.post = some p →
    exec (.decimalJobDone t l .none) s = .next { (u.laneCount .decimal 0x004).postEnd run p with
        pending := s.pending })

/-- A visit of a free slot, and of a live key whose lineage holds, only advances the position; a slot felled no later than
the commit at which the pass began becomes free with its generation kept. After slot 262,143 the next pass begins and
the passes are counted. With memory trained and its keys drawn, RESAW_START with a draw served makes the resaw active
for the key of RSW_CTRL with the new key drawn, at the first page of that key; while a resaw is active the control bit
is refused and a warden trigger waits in ascending order. A window of 4,096 bytes that is not the last of its page
passes the boundary and notes the tick; a paused resaw passes none. -/
def Obligations.TheSkidderWalksAndTheResawRewrites : Prop :=
  (∀ (s : State) (t : Tick),
    let u := s.at t
    u.cel.ready = true →
    u.unitOn 6 0 = true →
    u.cel.skidActive = true →
    (u.slot u.cel.skidPos).state = .free →
    u.cel.skidPos + 1 < 262144 →
    exec (.skidderVisit t) s = .next { u with
        cel := { u.cel with skidPos := u.cel.skidPos + 1 },
        pending := s.pending }) ∧
  (∀ (s : State) (t : Tick),
    let u := s.at t
    u.cel.ready = true →
    u.unitOn 6 0 = true →
    u.cel.skidActive = true →
    (u.slot u.cel.skidPos).state = .green →
    u.linkOk (u.slot u.cel.skidPos).parent = true →
    u.cel.skidPos = 262143 →
    exec (.skidderVisit t) s = .next { u with
        cel := { u.cel with skidPos := 0, passStart := u.cel.commit, passes := sat32 u.cel.passes },
        pending := s.pending }) ∧
  (∀ (s : State) (t : Tick),
    let u := s.at t
    u.cel.ready = true →
    u.unitOn 6 0 = true →
    u.cel.skidActive = true →
    (u.slot u.cel.skidPos).state = .felled →
    mapGet 0 u.cel.felledAt u.cel.skidPos ≤ u.cel.passStart →
    u.cel.skidPos + 1 < 262144 →
    exec (.skidderVisit t) s = .next { u with
        cel := { u.cel with
          slots := mapPut {} u.cel.slots u.cel.skidPos { generation := (u.slot u.cel.skidPos).generation },
          felledAt := mapDel u.cel.felledAt u.cel.skidPos,
          skidPos := u.cel.skidPos + 1 },
        pending := s.pending }) ∧
  (∀ (s : State) (t : Tick) (v : State) (b : Bytes),
    let u := s.at t
    u.smcReady = true →
    u.smc.keys ≠ [] →
    u.rsw.active = false →
    u.random 32 = some (v, b) →
    exec (.resawStart t none) s = .next { v with
        rsw := { v.rsw with
          key := u.rsw.ctrlKey,
          active := true,
          paused := false,
          startRefused := false,
          spare := b,
          boundary := 2 ^ 21 * (v.pagesOf u.rsw.ctrlKey).headD 0,
          last := v.tick },
        pending := s.pending }) ∧
  (∀ (s : State) (t : Tick),
    let u := s.at t
    u.smcReady = true →
    u.smc.keys ≠ [] →
    u.rsw.active = true →
    exec (.resawStart t none) s = .next { u with
        rsw := { u.rsw with startRefused := true },
        pending := s.pending }) ∧
  (∀ (s : State) (t : Tick) (k : Nat),
    let u := s.at t
    k ≤ 255 →
    u.smcReady = true →
    u.smc.keys ≠ [] →
    u.rsw.active = true →
    exec (.resawStart t (some k)) s = .next { u with
        rsw := { u.rsw with queue := insertAsc k u.rsw.queue },
        pending := s.pending }) ∧
  (∀ (s : State) (t : Tick) (n : Nat),
    let u := s.at t
    u.rsw.active = true →
    u.rsw.paused = false →
    u.smcReady = true →
    u.rsw.last + u.rsw.pace ≤ u.tick →
    (u.rsw.boundary + 4096) / 2 ^ 21 = u.rsw.boundary / 2 ^ 21 →
    u.smc.lines = [] →
    exec (.resawWindow t n) s = .next { ({ u with smc := { u.smc with poisonWrites := min 0xFFFFFFFF (u.smc.poisonWrites + min n 64) }, rsw := { u.rsw with skipped := min 0xFFFFFFFF (u.rsw.skipped + min n 64), boundary := u.rsw.boundary + 4096, last := u.tick } } : State).countWrites u.rsw.key 64 with
        pending := s.pending }) ∧
  (∀ (s : State) (t : Tick) (n : Nat),
    let u := s.at t
    u.rsw.paused = true →
    exec (.resawWindow t n) s = .next { u with tick := u.tick, pending := s.pending })

/-- On a powered card island an insertion at an empty port starts its filter; 100,000 ticks later it is recognised and its
cause raised. A removal before that ends the filter; a removal of a present card raises its cause and, before the
settling answer, ends the command with CARD_REMOVED. An over-current starts its filter, whose end raises its cause and
ends the command with CARD_PROTOCOL. The activation timer drives power, clock and reset in the order and at the times
of Table 7-10, until the port waits for the ATR; the deactivation timer drives them back, and a port that no command
holds goes idle. An ATR that does not come makes the port try the next class, or ends the command with CARD_PROTOCOL. -/
def Obligations.CardPortsFollowPresenceAndCurrent : Prop :=
  (∀ (s : State) (t : Tick) (n : Nat),
    let u := s.at t
    let p := u.cardPort n
    n ≤ 3 →
    u.unitOn 11 0 = true →
    p.present = false →
    exec (.cardInsertion t n) s = .next { u.setCard n { p with edge := some u.tick } with
        pending := s.pending }) ∧
  (∀ (s : State) (t : Tick) (n : Nat) (e : Tick),
    let u := s.at t
    let p := u.cardPort n
    n ≤ 3 →
    u.unitOn 11 0 = true →
    p.edge = some e →
    e + 100000 ≤ u.tick →
    exec (.cardInsertionRecognised t n) s = .next { (u.setCard n { p with present := true, edge := none }).raise .crd (4 * n) with
        pending := s.pending }) ∧
  (∀ (s : State) (t : Tick) (n : Nat),
    let u := s.at t
    let p := u.cardPort n
    n ≤ 3 →
    u.unitOn 11 0 = true →
    p.present = false →
    exec (.cardRemoval t n) s = .next { u.setCard n { p with edge := none } with pending := s.pending }) ∧
  (∀ (s : State) (t : Tick) (n : Nat),
    let u := s.at t
    let p := u.cardPort n
    n ≤ 3 →
    u.unitOn 11 0 = true →
    p.present = true →
    p.settled = false →
    exec (.cardRemoval t n) s = .next { ((u.setCard n { p with present := false }).raise .crd (4 * n + 1)).endCard n (fail .cardRemoved) with
        pending := s.pending }) ∧
  (∀ (s : State) (t : Tick) (n : Nat),
    let u := s.at t
    let p := u.cardPort n
    n ≤ 3 →
    u.unitOn 11 0 = true →
    exec (.overcurrentOnset t n) s = .next { u.setCard n { p with overAt := some u.tick } with
        pending := s.pending }) ∧
  (∀ (s : State) (t : Tick) (n : Nat) (o : Tick),
    let u := s.at t
    let p := u.cardPort n
    n ≤ 3 →
    u.unitOn 11 0 = true →
    p.overAt = some o →
    o + u.man.set.ocFilter ≤ u.tick →
    exec (.overcurrentFilterExpiry t n) s = .next { ((u.setCard n { p with overAt := none }).raise .crd (4 * n + 2)).endCard n (fail .cardProtocol) with
        pending := s.pending }) ∧
  (∀ (s : State) (t : Tick) (n : Nat),
    let u := s.at t
    let p := u.cardPort n
    n ≤ 3 →
    p.step = .activating 2 →
    p.since + 1000 ≤ u.tick →
    exec (.cardActivationTimer t n) s = .next { (u.emit (.cardSignals n p.cls false false true)).cardStep n p (.activating 3) with
        pending := s.pending }) ∧
  (∀ (s : State) (t : Tick) (n : Nat),
    let u := s.at t
    let p := u.cardPort n
    n ≤ 3 →
    p.step = .activating 3 →
    p.since + 10 ≤ u.tick →
    exec (.cardActivationTimer t n) s = .next { (u.emit (.cardSignals n p.cls false true true)).cardStep n p (.activating 4) with
        pending := s.pending }) ∧
  (∀ (s : State) (t : Tick) (n : Nat),
    let u := s.at t
    let p := u.cardPort n
    n ≤ 3 →
    p.step = .activating 4 →
    p.since + 250 ≤ u.tick →
    exec (.cardActivationTimer t n) s = .next { (u.emit (.cardSignals n p.cls true true true)).cardStep n p .atr with
        pending := s.pending }) ∧
  (∀ (s : State) (t : Tick) (n : Nat),
    let u := s.at t
    let p := u.cardPort n
    n ≤ 3 →
    p.step = .deactivating 2 →
    p.since + 10 ≤ u.tick →
    exec (.cardDeactivationTimer t n) s = .next { (u.emit (.cardSignals n p.cls false false true)).cardStep n p (.deactivating 3) with
        pending := s.pending }) ∧
  (∀ (s : State) (t : Tick) (n : Nat),
    let u := s.at t
    let p := u.cardPort n
    n ≤ 3 →
    p.step = .deactivating 3 →
    p.since + 10 ≤ u.tick →
    exec (.cardDeactivationTimer t n) s = .next { (u.emit (.cardSignals n p.cls false false false)).cardStep n p (.deactivating 4) with
        pending := s.pending }) ∧
  (∀ (s : State) (t : Tick) (n : Nat),
    let u := s.at t
    let p := u.cardPort n
    n ≤ 3 →
    p.step = .deactivating 4 →
    p.since + 10 ≤ u.tick →
    p.ref = none →
    exec (.cardDeactivationTimer t n) s = .next { (u.emit (.cardSignals n 0 false false false)).setCard n { present := p.present, edge := p.edge, overAt := p.overAt, ref := p.ref, tenant := p.tenant, enrol := p.enrol } with
        pending := s.pending }) ∧
  (∀ (s : State) (t : Tick) (n : Nat),
    let u := s.at t
    let p := u.cardPort n
    n ≤ 3 →
    p.step = .atr →
    p.classes = [] →
    exec (.atrTimeout t n) s = .next { u.endCard n (fail .cardProtocol) with pending := s.pending }) ∧
  (∀ (s : State) (t : Tick) (n : Nat),
    let u := s.at t
    let p := u.cardPort n
    n ≤ 3 →
    p.step = .atr →
    p.classes ≠ [] →
    exec (.atrTimeout t n) s = .next { (u.emit (.cardSignals n p.cls false true true)).cardStep n p (.deactivating 2) with
        pending := s.pending })

/-- A wrong ATR tries the next class or ends the command. The PPS response that repeats the request starts S(IFS);
another, or none, activates the card again without a PPS. S(IFS) answered with 254 begins SELECT. An I-block in
sequence that ends an answer is taken with its data; one that chains is acknowledged; an R-block that acknowledges a
chained block sends the next; a bad block, or none in time, is answered by an R-block while fewer than three have been
sent for it; S(WTX) is granted with its multiplier; S(ABORT) ends the command; S(RESYNCH) answered sends the step
again. A status word other than 9000 ends SELECT and READ CERT with CUSTODIAN_UNKNOWN, AUTHENTICATE, CONFIRM and BIND
with CARD_AUTH_FAILED; 9000 to SELECT sends READ CERT, a certificate that is admitted is followed by AUTHENTICATE, a
right card_mac by CONFIRM, CONFIRM of an enrolment by BIND, CONFIRM otherwise by the quorum step, and BIND by the new
roster. -/
def Obligations.TheCardExchangeGoesStepByStep : Prop :=
  (∀ (s : State) (t : Tick) (n : Nat) (a : Bytes),
    let u := s.at t
    let p := u.cardPort n
    n ≤ 3 →
    p.step = .atr →
    atrOk a = false →
    exec (.cardAtr t n a) s = .next { (u.captureCard n p.ref u.tick a).nextClass n with pending := s.pending }) ∧
  (∀ (s : State) (t : Tick) (n : Nat),
    let u := s.at t
    let p := u.cardPort n
    n ≤ 3 →
    p.step = .atr →
    exec (.cardAtr t n [0x3B, 0x80, 0x81, 0x31, 0x20, 0x45, 0x55]) s = .next { (u.captureCard n p.ref u.tick [0x3B, 0x80, 0x81, 0x31, 0x20, 0x45, 0x55]).startIfs n { p with ifsc := 32, bwi := 4, cwi := 5, crc := false, guard := 0 } with
        pending := s.pending }) ∧
  (∀ (s : State) (t : Tick) (n : Nat),
    let u := s.at t
    let p := u.cardPort n
    n ≤ 3 →
    p.step = .pps →
    exec (.ppsResponse t n (ppsRequest p.ta1)) s = .next { (u.captureCard n p.ref u.tick (ppsRequest p.ta1)).startIfs n { p with ppsDone := true, fi := fiOf (p.ta1 / 16), di := diOf (p.ta1 % 16) } with
        pending := s.pending }) ∧
  (∀ (s : State) (t : Tick) (n : Nat),
    let u := s.at t
    let p := u.cardPort n
    n ≤ 3 →
    p.step = .pps →
    exec (.ppsTimeout t n) s = .next { (u.emit (.cardSignals n p.cls false true true)).cardStep n { p with plain := true, classes := p.cls :: p.classes } (.deactivating 2) with
        pending := s.pending }) ∧
  (∀ (s : State) (t : Tick) (n : Nat),
    let u := s.at t
    let p := u.cardPort n
    n ≤ 3 →
    p.step = .ifs →
    p.resynching = false →
    exec (.sIfsResponse t n [0xFE]) s = .next { (u.captureCard n p.ref u.tick (t1Block p 0xE1 [0xFE])).sendApdu n p .select apduSelect with
        pending := s.pending }) ∧
  (∀ (s : State) (t : Tick) (n : Nat) (b : Bytes) (c : Tick),
    let u := s.at t
    let p := u.cardPort n
    n ≤ 3 →
    p.waits = true →
    u.cardInTime n c = true →
    t1Good p b = true →
    fld b 1 1 = (if p.nr then 0x40 else 0) →
    p.resynching = false →
    p.step ≠ .ifs →
    2 ≤ (p.rx ++ sub b 3 (fld b 2 1)).length →
    exec (.t1IBlock t n b c) s = .next { (u.captureCard n p.ref c b).setCard n { p with rx := p.rx ++ sub b 3 (fld b 2 1), nr := !p.nr, tries := 0, mult := 1, ns := if p.rx = [] then !p.ns else p.ns, acked := p.apdu.length, done := some c } with
        pending := s.pending }) ∧
  (∀ (s : State) (t : Tick) (n : Nat) (b : Bytes) (c : Tick),
    let u := s.at t
    let p := u.cardPort n
    n ≤ 3 →
    p.waits = true →
    u.cardInTime n c = true →
    t1Good p b = true →
    fld b 1 1 = (if p.ns then 0x80 else 0x90) →
    p.resynching = false →
    p.step ≠ .ifs →
    p.acked + p.ifsc < p.apdu.length →
    exec (.t1RBlock t n b c) s = .next { (u.captureCard n p.ref c b).sendI n { p with acked := p.acked + p.ifsc, ns := !p.ns, tries := 0, mult := 1 } with
        pending := s.pending }) ∧
  (∀ (s : State) (t : Tick) (n : Nat),
    let u := s.at t
    let p := u.cardPort n
    n ≤ 3 →
    p.waits = true →
    p.resynching = false →
    p.tries < 3 →
    exec (.t1BadBlock t n) s = .next { ({ u with cards := { u.cards with rblocks := sat32 u.cards.rblocks } } : State).sendBlock n { p with tries := p.tries + 1 } (if p.nr then 0x90 else 0x80) [] with
        pending := s.pending }) ∧
  (∀ (s : State) (t : Tick) (n : Nat),
    let u := s.at t
    let p := u.cardPort n
    n ≤ 3 →
    p.waits = true →
    3 ≤ p.tries →
    3 ≤ p.resynchs →
    exec (.t1BadBlock t n) s = .next { u.endCard n (fail .cardProtocol) with pending := s.pending }) ∧
  (∀ (s : State) (t : Tick) (n : Nat),
    let u := s.at t
    let p := u.cardPort n
    n ≤ 3 →
    p.waits = true →
    p.since + p.bwt + 2 ≤ u.tick →
    exec (.bwtExpiry t n) s = .next { u.recover n with pending := s.pending }) ∧
  (∀ (s : State) (t : Tick) (n : Nat) (m : Nat),
    let u := s.at t
    let p := u.cardPort n
    n ≤ 3 →
    p.waits = true →
    1 ≤ m →
    m ≤ 255 →
    p.resynching = false →
    p.granted + ({ p with mult := m } : CardPort).bwt ≤ 30000000 →
    exec (.sWtxRequest t n m) s = .next { (u.captureCard n p.ref u.tick (t1Block p 0xC3 [BitVec.ofNat 8 m])).sendBlock n { p with mult := m, granted := p.granted + ({ p with mult := m } : CardPort).bwt } 0xE3 [BitVec.ofNat 8 m] with
        pending := s.pending }) ∧
  (∀ (s : State) (t : Tick) (n : Nat),
    let u := s.at t
    let p := u.cardPort n
    n ≤ 3 →
    p.waits = true →
    exec (.sAbortRequest t n) s = .next { (u.captureCard n p.ref u.tick (t1Block p 0xC2 [])).endCard n (fail .cardProtocol) with
        pending := s.pending }) ∧
  (∀ (s : State) (t : Tick) (n : Nat),
    let u := s.at t
    let p := u.cardPort n
    n ≤ 3 →
    p.waits = true →
    p.resynching = true →
    exec (.sResynchResponse t n) s = .next { (u.captureCard n p.ref u.tick (t1Block p 0xE0 [])).sendAgain n { p with resynching := false, ns := false, nr := false, tries := 0, mult := 1 } with
        pending := s.pending }) ∧
  (∀ (s : State) (t : Tick) (n : Nat),
    let u := s.at t
    let p := u.cardPort n
    n ≤ 3 →
    p.answeredSw .select 0x9000 = true →
    exec (.selectAnswer t n 0x9000) s = .next { u.sendApdu n p .readCert apduReadCert with
        pending := s.pending }) ∧
  (∀ (s : State) (t : Tick) (n : Nat) (w : BitVec 16),
    let u := s.at t
    let p := u.cardPort n
    n ≤ 3 →
    p.answeredSw .select w = true →
    w ≠ 0x9000 →
    exec (.selectAnswer t n w) s = .next { u.endCard n (fail .custodianUnknown) with pending := s.pending }) ∧
  (∀ (s : State) (t : Tick) (n : Nat) (d : Bytes),
    let u := s.at t
    let p := u.cardPort n
    n ≤ 3 →
    p.answered .readCert d 0x9000 = true →
    exec (.readCertAnswer t n d 0x9000) s = .next { if d.length ≠ 160 ∨ u.certOk p.tenant d = false then u.endCard n (fail .custodianUnknown) else if p.enrol.isSome ∧ ((mapFind u.rosters p.tenant).map fun r => r.entries.any fun e => e.1 == certId d) = some true then u.endCard n (fail .bodyInvalid) else if p.enrol.isNone ∧ u.cardAdmitted p.tenant d = false then u.endCard n (fail .custodianUnknown) else u.sendApdu n { p with cert := d } .authenticate ([0x80, 0x20, 0x00, 0x00, BitVec.ofNat 8 (u.authData p).length] ++ u.authData p ++ [0x30]) with
        pending := s.pending }) ∧
  (∀ (s : State) (t : Tick) (n : Nat) (d : Bytes) (w : BitVec 16),
    let u := s.at t
    let p := u.cardPort n
    n ≤ 3 →
    p.answered .readCert d w = true →
    w ≠ 0x9000 →
    exec (.readCertAnswer t n d w) s = .next { u.endCard n (fail .custodianUnknown) with
        pending := s.pending }) ∧
  (∀ (s : State) (t : Tick) (n : Nat) (d : Bytes),
    let u := s.at t
    let p := u.cardPort n
    n ≤ 3 →
    p.answered .authenticate d 0x9000 = true →
    exec (.authenticateAnswer t n d 0x9000) s = .next { if d.length ≠ 48 ∨ d.drop 16 ≠ hmac256 (u.cardKey p) (ascii "CARD" ++ (u.authData p ++ d.take 16)) then u.endCard n (fail .cardAuthFailed) else u.sendApdu n { p with key := u.cardKey p, nonceC := d.take 16 } .confirm ([0x80, 0x22, 0x00, 0x00, 0x20] ++ hmac256 (u.cardKey p) (ascii "DEVC" ++ (u.authData p ++ d.take 16))) with
        pending := s.pending }) ∧
  (∀ (s : State) (t : Tick) (n : Nat) (w : BitVec 16) (c : Tick),
    let u := s.at t
    let p := u.cardPort n
    n ≤ 3 →
    p.answeredSw .confirm w = true →
    p.done = some c →
    w ≠ 0x9000 →
    exec (.confirmAnswer t n w c) s = .next { u.endCard n (fail .cardAuthFailed) with pending := s.pending }) ∧
  (∀ (s : State) (t : Tick) (n : Nat) (c : Tick),
    let u := s.at t
    let p := u.cardPort n
    n ≤ 3 →
    p.answeredSw .confirm 0x9000 = true →
    p.done = some c →
    p.enrol = none →
    exec (.confirmAnswer t n 0x9000 c) s = .next { (u.countCard p.tenant p.cert c).1.endCard n (u.countCard p.tenant p.cert c).2 with
        pending := s.pending }) ∧
  (∀ (s : State) (t : Tick) (n : Nat) (c : Tick) (i : Nat),
    let u := s.at t
    let p := u.cardPort n
    n ≤ 3 →
    p.answeredSw .confirm 0x9000 = true →
    p.done = some c →
    p.enrol = some i →
    exec (.confirmAnswer t n 0x9000 c) s = .next { u.sendApdu n p .bind (u.apduBind p i) with
        pending := s.pending }) ∧
  (∀ (s : State) (t : Tick) (n : Nat),
    let u := s.at t
    let p := u.cardPort n
    n ≤ 3 →
    p.answeredSw .bind 0x9000 = true →
    exec (.bindAnswer t n 0x9000) s = .next { (u.enrolled p.tenant (p.enrol.getD 0) p.cert).1.endCard n (u.enrolled p.tenant (p.enrol.getD 0) p.cert).2 with
        pending := s.pending })

/-- Insertion and removal of a transit card set presence and raise their causes; a removal ends the command by its phase,
CARD_REMOVED or CARD_TORN. After 1,000 ticks of power CMD0 and CMD8 go out; a CMD8 answered with 1AA leads to ACMD41,
and one without an answer ends the command with MEDIA_FORMAT. A busy ACMD41 is asked again after 10,000 ticks and ends
with CARD_PROTOCOL after 1,000,000. The voltage switch waits 5,000 ticks; data lines that stay low are power-cycled,
which takes 10,000 ticks and then starts over. A response, read or busy that times out, and a second CRC error, end
the command with CARD_PROTOCOL; a first CRC error is repeated. A good token waits for busy; the end of busy of the
first block writes the second; a good tuning block reads the share, a bad one is tried again up to 40 times. -/
def Obligations.TheTransitCardIsInitialisedAndRead : Prop :=
  (∀ (s : State) (t : Tick),
    let u := s.at t
    let p := u.cards.transit
    u.unitOn 11 0 = true →
    p.present = false →
    exec (.transitInsertion t) s = .next { (u.setTransit { p with present := true }).raise .trn 0 with
        pending := s.pending }) ∧
  (∀ (s : State) (t : Tick),
    let u := s.at t
    let p := u.cards.transit
    u.unitOn 11 0 = true →
    p.present = true →
    p.step.afterCount = false →
    exec (.transitRemoval t) s = .next { ((u.setTransit { p with present := false }).raise .trn 1).endTransit (fail (if p.step.tears then .cardTorn else .cardRemoved)) with
        pending := s.pending }) ∧
  (∀ (s : State) (t : Tick),
    let u := s.at t
    let p := u.cards.transit
    p.step = .powerUp →
    p.since + 1000 ≤ u.tick →
    exec (.sdPowerUpTimer t) s = .next { (u.emit (.sd 0 0 [])).sdSend p .cmd8 8 0x1AA with
        pending := s.pending }) ∧
  (∀ (s : State) (t : Tick) (d : Bytes),
    let u := s.at t
    let p := u.cards.transit
    p.step = .cmd8 →
    beNat d % 4096 = 0x1AA →
    exec (.sdCommandResponse t d true) s = .next { ((u.captureCard 4 p.ref u.tick d).setTransit { p with again := false }).sdSend { p with again := false, acmdAt := (u.captureCard 4 p.ref u.tick d).tick } .app41 55 0 with
        pending := s.pending }) ∧
  (∀ (s : State) (t : Tick) (d : Bytes),
    let u := s.at t
    let p := u.cards.transit
    p.step = .cmd8 →
    p.again = true →
    exec (.sdCommandResponse t d false) s = .next { u.sdCrc.1.sdFail false with pending := s.pending }) ∧
  (∀ (s : State) (t : Tick),
    let u := s.at t
    let p := u.cards.transit
    p.step = .cmd8 →
    exec (.sdResponseTimeout t) s = .next { u.endTransit (fail .mediaFormat) with pending := s.pending }) ∧
  (∀ (s : State) (t : Tick),
    let u := s.at t
    let p := u.cards.transit
    p.step ≠ .cmd8 →
    p.step.response = true →
    exec (.sdResponseTimeout t) s = .next { (u.raise .trn 4).endTransit (fail .cardProtocol) with
        pending := s.pending }) ∧
  (∀ (s : State) (t : Tick) (d : Bytes),
    let u := s.at t
    let p := u.cards.transit
    p.step = .readData 0 →
    exec (.sdReadBlock t d true) s = .next { (u.captureCard 4 p.ref u.tick d).sdSend { p with again := false, body := padTo 512 d } (.read 1) 17 (blockAddr 1) with
        pending := s.pending }) ∧
  (∀ (s : State) (t : Tick) (d : Bytes),
    let u := s.at t
    let p := u.cards.transit
    p.step = .readData 1 →
    p.again = false →
    exec (.sdReadBlock t d false) s = .next { u.sdCrc.1.sdSend u.sdCrc.1.cards.transit (.read 1) 17 (blockAddr 1) with
        pending := s.pending }) ∧
  (∀ (s : State) (t : Tick),
    let u := s.at t
    let p := u.cards.transit
    p.step.reads = true →
    p.since + 100000 ≤ u.tick →
    exec (.sdReadTimeout t) s = .next { (u.raise .trn 4).endTransit (fail .cardProtocol) with
        pending := s.pending }) ∧
  (∀ (s : State) (t : Tick) (b : Nat),
    let u := s.at t
    let p := u.cards.transit
    p.step = .token b →
    exec (.sdCrcStatusToken t true) s = .next { u.sdStep p (.busy b) with pending := s.pending }) ∧
  (∀ (s : State) (t : Tick),
    let u := s.at t
    let p := u.cards.transit
    p.step = .busy 0 →
    exec (.sdBusyEnd t) s = .next { u.sdSend { p with again := false } (.write 1) 24 (blockAddr 1) p.newTrailer with
        pending := s.pending }) ∧
  (∀ (s : State) (t : Tick),
    let u := s.at t
    let p := u.cards.transit
    p.step = .busy 1 →
    exec (.sdBusyEnd t) s = .next { u.sdSend { p with again := false } (.verify 0) 17 (blockAddr 0) with
        pending := s.pending }) ∧
  (∀ (s : State) (t : Tick),
    let u := s.at t
    let p := u.cards.transit
    p.step.busyWait = true →
    p.since + 500000 ≤ u.tick →
    exec (.sdBusyTimeout t) s = .next { (u.raise .trn 4).endTransit (fail .cardProtocol) with
        pending := s.pending }) ∧
  (∀ (s : State) (t : Tick),
    let u := s.at t
    let p := u.cards.transit
    p.step = .acmdWait →
    p.since + 10000 ≤ u.tick →
    exec (.acmd41Retry t) s = .next { u.sdSend p .app41 55 0 with pending := s.pending }) ∧
  (∀ (s : State) (t : Tick),
    let u := s.at t
    let p := u.cards.transit
    p.step = .app41 ∨ p.step = .acmd41 ∨ p.step = .acmdWait →
    p.acmdAt + 1000000 ≤ u.tick →
    exec (.acmd41Timeout t) s = .next { (u.raise .trn 4).endTransit (fail .cardProtocol) with
        pending := s.pending }) ∧
  (∀ (s : State) (t : Tick),
    let u := s.at t
    let p := u.cards.transit
    p.step = .switch →
    p.since + 5000 ≤ u.tick →
    exec (.voltageSwitchWait t true) s = .next { u.sdSend p .cmd2 2 0 with pending := s.pending }) ∧
  (∀ (s : State) (t : Tick),
    let u := s.at t
    let p := u.cards.transit
    p.step = .switch →
    p.since + 5000 ≤ u.tick →
    exec (.voltageSwitchWait t false) s = .next { u.sdStep p .datHigh with pending := s.pending }) ∧
  (∀ (s : State) (t : Tick),
    let u := s.at t
    let p := u.cards.transit
    p.step = .datHigh →
    p.since + 1000 ≤ u.tick →
    exec (.datHighTimeout t) s = .next { (u.emit (.sdPower false false)).sdStep { p with powered := false, v18 := false, only33 := true } .cycle with
        pending := s.pending }) ∧
  (∀ (s : State) (t : Tick),
    let u := s.at t
    let p := u.cards.transit
    p.step = .cycle →
    p.since + 10000 ≤ u.tick →
    exec (.sdPowerCycleWait t) s = .next { u.sdPowerOn p with pending := s.pending }) ∧
  (∀ (s : State) (t : Tick),
    let u := s.at t
    let p := u.cards.transit
    p.step = .tuning →
    exec (.sdTuningBlock t true) s = .next { u.sdSend { p with again := false } (.read 0) 17 (blockAddr 0) with
        pending := s.pending }) ∧
  (∀ (s : State) (t : Tick),
    let u := s.at t
    let p := u.cards.transit
    p.step = .tuning →
    p.attempts < 40 →
    exec (.sdTuningBlock t false) s = .next { u.sdSend { p with attempts := p.attempts + 1 } .cmd19 19 0 with
        pending := s.pending })

/-- Writing the enable of a port whose partner is configured makes it DOWN and detecting at once; clearing it drops the
port and disables it. A detected partner starts training at step 2; none is looked for again 1,000 ticks later; the
end of a back-off lets detection begin. A training sequence that does not complete its step on every lane is counted
for its lane. A training window that closes drops the port with cause 1; a lock loss drops a training port with cause
2, and puts an ACTIVE one into RETRAIN at step 2; the third window of a RETRAIN that closes drops it with cause 5, an
earlier one starts it over. NDL_RETRAIN does the same to an ACTIVE port, and NDL_DROP drops a port with cause 6. -/
def Obligations.LinkPortsTrainAndRetrain : Prop :=
  (∀ (s : State) (t : Tick) (n : Nat),
    let u := s.at t
    let p := u.port n
    n ≤ 3 →
    u.linkRuns = true →
    p.enable = false →
    u.tmp.severed = false →
    u.portWanted n = true →
    u.portPowered n = true →
    exec (.ndlPortEnable t n true) s = .next { u.setPort n { p with enable := true, st := .down, detect := u.tick } with
        pending := s.pending }) ∧
  (∀ (s : State) (t : Tick) (n : Nat),
    let u := s.at t
    let p := u.port n
    n ≤ 3 →
    u.linkRuns = true →
    exec (.ndlPortEnable t n false) s = .next { (u.dropPort n p.cause 0).setPort n { (u.dropPort n p.cause 0).port n with enable := false, st := .disabled } with
        pending := s.pending }) ∧
  (∀ (s : State) (t : Tick) (n : Nat),
    let u := s.at t
    let p := u.port n
    n ≤ 3 →
    u.linkRuns = true →
    p.st = .active →
    exec (.ndlRetrain t n) s = .next { u.setPort n ({ p.count 0x024 with st := .retrain, retrains := 0 }.toStep 2 u.tick) with
        pending := s.pending }) ∧
  (∀ (s : State) (t : Tick) (n : Nat),
    let u := s.at t
    let p := u.port n
    n ≤ 3 →
    u.linkRuns = true →
    p.st ≠ .down →
    exec (.ndlDrop t n) s = .next { u.dropPort n 6 1000 with pending := s.pending }) ∧
  (∀ (s : State) (t : Tick) (n : Nat),
    let u := s.at t
    let p := u.port n
    n ≤ 3 →
    p.st = .down →
    u.linkRuns = true →
    u.portPowered n = true →
    p.detect ≤ u.tick →
    exec (.ndlDetectTimer t n true) s = .next { u.setPort n ({ p with st := .training, reversed := false, polarity := 0 }.toStep 2 u.tick) with
        pending := s.pending }) ∧
  (∀ (s : State) (t : Tick) (n : Nat),
    let u := s.at t
    let p := u.port n
    n ≤ 3 →
    p.st = .down →
    u.linkRuns = true →
    u.portPowered n = true →
    p.detect ≤ u.tick →
    exec (.ndlDetectTimer t n false) s = .next { u.setPort n { p with detect := u.tick + 1000 } with
        pending := s.pending }) ∧
  (∀ (s : State) (t : Tick) (n : Nat),
    let u := s.at t
    let p := u.port n
    n ≤ 3 →
    p.st = .down →
    p.detect ≤ u.tick →
    exec (.keyFailBackoffExpiry t n) s = .next { u.setPort n { p with detect := u.tick } with
        pending := s.pending }) ∧
  (∀ (s : State) (t : Tick) (n : Nat) (l : Nat) (x : BitVec 80),
    let u := s.at t
    let p := u.port n
    n ≤ 3 →
    l ≤ 3 →
    p.st = .training →
    (p.judge l x).2 = true →
    stepCount p.step > mapGet 0 (p.judge l x).1.seen l + 1 →
    exec (.trainingSequence t n l x) s = .next { u.setPort n { (p.judge l x).1 with seen := mapPut 0 (p.judge l x).1.seen l (mapGet 0 (p.judge l x).1.seen l + 1) } with
        pending := s.pending }) ∧
  (∀ (s : State) (t : Tick) (n : Nat),
    let u := s.at t
    let p := u.port n
    n ≤ 3 →
    p.st = .training →
    p.stepTick + stepWindow p.step ≤ u.tick →
    exec (.trainingWindowExpiry t n) s = .next { u.dropPort n 1 1000 with pending := s.pending }) ∧
  (∀ (s : State) (t : Tick) (n : Nat) (l : Nat),
    let u := s.at t
    let p := u.port n
    n ≤ 3 →
    l ≤ 3 →
    p.st = .training →
    exec (.laneLockLoss t n l) s = .next { u.dropPort n 2 1000 with pending := s.pending }) ∧
  (∀ (s : State) (t : Tick) (n : Nat) (l : Nat),
    let u := s.at t
    let p := u.port n
    n ≤ 3 →
    l ≤ 3 →
    p.st = .active →
    exec (.laneLockLoss t n l) s = .next { u.setPort n ({ p.count 0x024 with st := .retrain, retrains := 0 }.toStep 2 u.tick) with
        pending := s.pending }) ∧
  (∀ (s : State) (t : Tick) (n : Nat),
    let u := s.at t
    let p := u.port n
    n ≤ 3 →
    p.st = .retrain →
    p.stepTick + 200 ≤ u.tick →
    2 ≤ p.retrains →
    exec (.retrainWindowExpiry t n) s = .next { u.dropPort n 5 1000 with pending := s.pending }) ∧
  (∀ (s : State) (t : Tick) (n : Nat),
    let u := s.at t
    let p := u.port n
    n ≤ 3 →
    p.st = .retrain →
    p.stepTick + 200 ≤ u.tick →
    p.retrains < 2 →
    exec (.retrainWindowExpiry t n) s = .next { u.setPort n ({ p.count 0x024 with retrains := p.retrains + 1 }.toStep 2 u.tick) with
        pending := s.pending })

/-- A flit whose CRC fails is counted and answered by a NAK; a good idle flit only takes the ack and credits; a good
sequenced flit with the expected number is accepted, one with another number answered by a NAK; a NAK replays every
unacknowledged flit. The replay timer resends them, and after four replays without an advance retrains the port. A
closed convoy whose checks hold frees its credit and hands its messages on with the stamp of its CLOSE; one that fails
is counted and logged, and drops the port with cause 4. An offer that fails its checks is counted and drops the port
with cause 3; a KEY_CONFIRM that fits makes the port ACTIVE, one that does not drops it. A message not for this member
leaves on the port that its route names with the hop advanced, or is dropped and counted. -/
def Obligations.LinkFlitsConvoysAndMessagesAreTaken : Prop :=
  (∀ (s : State) (t : Tick) (n : Nat) (f : BitVec 320),
    let u := s.at t
    let p := u.port n
    n ≤ 3 →
    p.session = true →
    p.st ≠ .retrain →
    flitGood (flitBytes f) = false →
    exec (.flitReceived t n f) s = .next { (u.setPort n (p.count 0x018)).sendNak n with pending := s.pending }) ∧
  (∀ (s : State) (t : Tick) (n : Nat) (f : BitVec 320),
    let u := s.at t
    let p := u.port n
    n ≤ 3 →
    p.session = true →
    p.st ≠ .retrain →
    flitGood (flitBytes f) = true →
    fld (flitBytes f) 0 1 / 32 = 0 →
    exec (.flitReceived t n f) s = .next { ((u.setPort n (p.acked (flitBytes f))).makeOffer n).pump n with
        pending := s.pending }) ∧
  (∀ (s : State) (t : Tick) (n : Nat) (f : BitVec 320),
    let u := s.at t
    let p := u.port n
    n ≤ 3 →
    p.session = true →
    p.st ≠ .retrain →
    flitGood (flitBytes f) = true →
    2 ≤ fld (flitBytes f) 0 1 / 32 →
    exec (.flitReceived t n f) s = .next { (((if flitSeq (flitBytes f) = p.rxSeq then (u.setPort n (p.acked (flitBytes f))).acceptFlit n (fld (flitBytes f) 0 1 / 32) (flitBytes f) else (u.setPort n (p.acked (flitBytes f))).sendNak n)).makeOffer n).pump n with
        pending := s.pending }) ∧
  (∀ (s : State) (t : Tick) (n : Nat) (f : BitVec 320),
    let u := s.at t
    let p := u.port n
    n ≤ 3 →
    p.session = true →
    p.st ≠ .retrain →
    flitGood (flitBytes f) = true →
    fld (flitBytes f) 0 1 / 32 = 1 →
    exec (.nakReceived t n f) s = .next { (((u.setPort n (p.acked (flitBytes f))).replayFrom n).makeOffer n).pump n with
        pending := s.pending }) ∧
  (∀ (s : State) (t : Tick) (n : Nat),
    let u := s.at t
    let p := u.port n
    n ≤ 3 →
    p.session = true →
    p.st ≠ .retrain →
    p.replay ≠ [] →
    p.replays < 4 →
    exec (.replayTimerExpiry t n) s = .next { (u.setPort n { p.count 0x020 with replays := p.replays + 1 }).emit (.flits n p.txAck p.replay.length) with
        pending := s.pending }) ∧
  (∀ (s : State) (t : Tick) (n : Nat),
    let u := s.at t
    let p := u.port n
    n ≤ 3 →
    p.st = .active →
    p.replay ≠ [] →
    4 ≤ p.replays →
    exec (.replayTimerExpiry t n) s = .next { u.setPort n ({ p.count 0x024 with st := .retrain, retrains := 0 }.toStep 2 u.tick) with
        pending := s.pending }) ∧
  (∀ (s : State) (t : Tick) (n : Nat) (x : Bytes × Bytes × Bytes × Tick) (l : List (Bytes × Bytes × Bytes × Tick)),
    let u := s.at t
    let p := u.port n
    n ≤ 3 →
    p.closed = x :: l →
    u.convoyOpen n x.1 x.2.1 x.2.2.1 = none →
    exec (.convoyTagCheck t n) s = .next { (((u.setPort n (p.count 0x028)).raise .ndl (4 * n + 3)).logEvent 0x0502 .alarm islLink 0x100 .ok [n]).dropPort n 4 1000 with
        pending := s.pending }) ∧
  (∀ (s : State) (t : Tick) (n : Nat) (x : Bytes × Bytes × Bytes × Tick) (l : List (Bytes × Bytes × Bytes × Tick)) (ms : List Bytes) (pair : Option (Nat × Nat)),
    let u := s.at t
    let p := u.port n
    n ≤ 3 →
    p.closed = x :: l →
    u.convoyOpen n x.1 x.2.1 x.2.2.1 = some (ms, pair) →
    exec (.convoyTagCheck t n) s = .next { ms.foldl (fun s m => s.admitMessage (if pair.isNone then 0 else n) x.2.2.2 m) (u.setPort n { p.count 0x034 with closed := l, freed := (p.freed + 1) % 16, rxPair := pair.elim p.rxPair fun y => mapPut 0 p.rxPair y.1 y.2 }) with
        pending := s.pending }) ∧
  (∀ (s : State) (t : Tick) (n : Nat) (o : Bytes),
    let u := s.at t
    let p := u.port n
    n ≤ 3 →
    p.st = .keying →
    p.peerOffer = [] →
    exec (.keyOffer t n o) s = .next { if u.offerOk n o then ((u.setPort n { p with peerOffer := o }).makeOffer n).agree n else u.keyFail n (fld o 8 8) with
        pending := s.pending }) ∧
  (∀ (s : State) (t : Tick) (n : Nat) (b : Bytes),
    let u := s.at t
    let p := u.port n
    n ≤ 3 →
    p.st = .keying →
    p.secret ≠ [] →
    b = u.confirmBody n (u.expectedPeer n) →
    exec (.keyConfirm t n b) s = .next { ((u.setPort n { p with st := .active, confirmed := true, ephemeral := 0, peer := u.expectedPeer n, connect := u.tick }).raise .ndl (4 * n)).portUp n with
        pending := s.pending }) ∧
  (∀ (s : State) (t : Tick) (n : Nat) (b : Bytes),
    let u := s.at t
    let p := u.port n
    n ≤ 3 →
    p.st = .keying →
    p.secret ≠ [] →
    b ≠ u.confirmBody n (u.expectedPeer n) →
    exec (.keyConfirm t n b) s = .next { u.keyFail n (u.expectedPeer n) with pending := s.pending }) ∧
  (∀ (s : State) (t : Tick) (n : Nat) (b : Bytes),
    let u := s.at t
    let hop := fld b 3 1 + 1
    let e := fld b 6 2 / 4 ^ hop % 4
    let m := sealMessage (b.take 3 ++ natLE 1 hop ++ sub b 4 (28 + fld b 0x0E 2))
    let v : State := { u with ndl := { u.ndl with inbox := u.ndl.inbox.filter fun x => !(x.1 == n && x.2.2 == b) } }
    n ≤ 3 →
    u.linkRuns = true →
    n ≠ 0 →
    msgDest b ≠ u.man.set.self →
    messageGranule b = none →
    1 ≤ e →
    hop < fld b 8 1 →
    (u.port e).st = .active →
    exec (.messageForward t n b) s = .next { (((v.setPort e { v.port e with txQ := (v.port e).txQ ++ [.passing (fld b 9 1) m] }).emit (.linkBytes e m)).pump e) with
        pending := s.pending })

/-- A PAIRED device applies a MIRROR_POSTING that continues its ledger, a CELLAR_SYNC, a DECISION_RECORD and a
COUNTER_ADVANCE of its twin once, remembering the transaction, and answers the first three with their acknowledgement;
a copy already applied is acknowledged and changes nothing else. An acknowledgement before its window closes commits
the transaction it names; another is a late completion of its island. A window that closes sends the same message
again with the resend flag and counts it. Outcomes gathered for the twin leave in one CELLAR_SYNC, and gathered
counter advances in one COUNTER_ADVANCE. -/
def Obligations.TheTwinTakesMirrorsAndAcknowledges : Prop :=
  (∀ (s : State) (t : Tick) (m : Msg) (l q : Nat) (o : Option OutcomeWire) (cs : List Change),
    let u := s.at t
    let v := u.took 0x0101 m
    let x := (cs.foldl State.mirrorApply v).mirrorOutcome o
    u.mode ∉ [Mode.dormant, .boot, .recovery, .felled] →
    m.body = .mirrorPosting l q o cs →
    v.mirrorNext l q = true →
    v.twin.st = .paired →
    m.port = 0 →
    m.reply = false →
    v.twin.applied.contains m.txn = false →
    exec (.mirrorPosting t m) s = .next { ({ x with twin := { x.twin with applied := (m.txn :: x.twin.applied).take 65536 } } : State).sendTwin m.txn true false (.mirrorAck l q) with
        pending := s.pending }) ∧
  (∀ (s : State) (t : Tick) (m : Msg) (l q : Nat) (o : Option OutcomeWire) (cs : List Change),
    let u := s.at t
    let v := u.took 0x0101 m
    u.mode ∉ [Mode.dormant, .boot, .recovery, .felled] →
    m.body = .mirrorPosting l q o cs →
    v.mirrorNext l q = true →
    v.twin.st = .paired →
    m.port = 0 →
    m.reply = false →
    v.twin.applied.contains m.txn = true →
    exec (.mirrorPosting t m) s = .next { v.sendTwin m.txn true false (.mirrorAck l q) with
        pending := s.pending }) ∧
  (∀ (s : State) (t : Tick) (m : Msg) (n : Nat) (o : Option OutcomeWire) (cs : List Change),
    let u := s.at t
    let v := u.took 0x0103 m
    let x := ((cs.foldl State.mirrorApply v).mirrorOutcome o).countMove cs
    u.mode ∉ [Mode.dormant, .boot, .recovery, .felled] →
    m.body = .cellarSync n o cs →
    v.twin.st = .paired →
    m.port = 0 →
    m.reply = false →
    v.twin.applied.contains m.txn = false →
    exec (.cellarSync t m) s = .next { ({ x with twin := { x.twin with applied := (m.txn :: x.twin.applied).take 65536 } } : State).sendTwin m.txn true false (.cellarSyncAck n) with
        pending := s.pending }) ∧
  (∀ (s : State) (t : Tick) (m : Msg) (d : Decision),
    let u := s.at t
    let v := u.took 0x0109 m
    let x := v.apply (.decision d)
    u.mode ∉ [Mode.dormant, .boot, .recovery, .felled] →
    m.body = .crossDecision d →
    v.twin.st = .paired →
    m.port = 0 →
    m.reply = false →
    v.twin.applied.contains m.txn = false →
    exec (.decisionRecord t m) s = .next { ({ x with twin := { x.twin with applied := (m.txn :: x.twin.applied).take 65536 } } : State).sendTwin m.txn true false (.mirrorAck d.ledger 0) with
        pending := s.pending }) ∧
  (∀ (s : State) (t : Tick) (m : Msg) (i g k : Nat),
    let u := s.at t
    let v := u.took 0x0105 m
    u.mode ∉ [Mode.dormant, .boot, .recovery, .felled] →
    m.body = .counterAdvance [(i, g, k)] →
    v.twin.st = .paired →
    m.port = 0 →
    m.reply = false →
    v.twin.applied.contains m.txn = false →
    (v.slot i).generation = g →
    (v.slot i).state = .seasoned →
    exec (.counterAdvance t m) s = .next { v with
        cel := { v.cel with
          slots := mapPut {} v.cel.slots i { v.slot i with counter := (v.slot i).counter + k } },
        twin := { v.twin with applied := (m.txn :: v.twin.applied).take 65536 },
        pending := s.pending }) ∧
  (∀ (s : State) (t : Tick) (m : Msg) (f : InFlight),
    let u := s.at t
    let v := u.took 0x0102 m
    u.mode ∉ [Mode.dormant, .boot, .recovery, .felled] →
    m.port = 0 →
    m.reply = true →
    (v.twin.flight.find? fun f => f.txn == m.txn && f.posting == true) = some f →
    governs m.stamp v.tick (f.last + v.flightWindow f) = true →
    exec (.mirrorAck t m) s = .next { v.commitFlight f false with pending := s.pending }) ∧
  (∀ (s : State) (t : Tick) (m : Msg),
    let u := s.at t
    let v := u.took 0x0102 m
    u.mode ∉ [Mode.dormant, .boot, .recovery, .felled] →
    m.port = 0 →
    m.reply = true →
    (v.twin.flight.find? fun f => f.txn == m.txn && f.posting == true) = none →
    exec (.mirrorAck t m) s = .next { v with
        late := mapInc v.late islLedger 0xFFFFFFFF,
        pending := s.pending }) ∧
  (∀ (s : State) (t : Tick) (m : Msg) (f : InFlight),
    let u := s.at t
    let v := u.took 0x0104 m
    u.mode ∉ [Mode.dormant, .boot, .recovery, .felled] →
    m.port = 0 →
    m.reply = true →
    (v.twin.flight.find? fun f => f.txn == m.txn && f.posting == false) = some f →
    governs m.stamp v.tick (f.last + v.flightWindow f) = true →
    exec (.cellarSyncAck t m) s = .next { v.commitFlight f false with pending := s.pending }) ∧
  (∀ (s : State) (t : Tick) (n : Nat) (f : InFlight) (a b : Nat) (o : Option OutcomeWire) (cs : List Change),
    let u := s.at t
    (u.twin.flight.find? fun f => f.txn == n && f.posting == true) = some f →
    f.msg = .mirrorPosting a b o cs →
    f.last + u.flightWindow f + 2 ≤ u.tick →
    exec (.mirrorTimeout t n) s = .next { ({ u with twin := { u.twin with flight := u.twin.flight.map fun g => if g.txn = n then { g with last := u.tick } else g }, board := { u.board with resends := sat32 u.board.resends } } : State).sendTwin n false true (.mirrorPosting a b o cs) with
        pending := s.pending }) ∧
  (∀ (s : State) (t : Tick) (n : Nat) (f : InFlight) (b : Nat) (o : Option OutcomeWire) (cs : List Change),
    let u := s.at t
    u.twin.resync = none →
    (u.twin.flight.find? fun f => f.txn == n && f.posting == false) = some f →
    f.msg = .cellarSync b o cs →
    f.last + u.flightWindow f + 2 ≤ u.tick →
    exec (.syncTimeout t n) s = .next { ({ u with twin := { u.twin with flight := u.twin.flight.map fun g => if g.txn = n then { g with last := u.tick } else g, resends := sat32 u.twin.resends } } : State).sendTwin n false true (.cellarSync b o cs) with
        pending := s.pending }) ∧
  (∀ (s : State) (t : Tick),
    let u := s.at t
    u.twin.st = .paired →
    u.cel.advances ≠ [] →
    exec (.counterAdvanceSend t) s = .next { ({ u.newTxn.1 with cel := { u.cel with advances := [], advanceTick := u.tick } } : State).sendTwin u.newTxn.2 false false (.counterAdvance u.cel.advances) with
        pending := s.pending }) ∧
  (∀ (s : State) (t : Tick),
    let u := s.at t
    u.twin.st = .paired →
    u.twin.batch ≠ [] →
    exec (.outcomeBatchSync t) s = .next { ({ u.newTxn.1 with twin := { u.newTxn.1.twin with batch := [], syncNum := u.twin.syncNum + 1, flight := u.newTxn.1.twin.flight ++ [{ txn := u.newTxn.2, msg := .cellarSync (u.twin.syncNum + 1) none (u.twin.batch.map .outcome), first := u.tick, last := u.tick }] } } : State).sendTwin u.newTxn.2 false false (.cellarSync (u.twin.syncNum + 1) none (u.twin.batch.map .outcome)) with
        pending := s.pending })

/-- A PAIRED device whose port 0 stays down for 10,000 ticks, or whose oldest message waits 10,000 ticks, leaves the pair
by the one operation that fences it or makes the keel LONE_KEEL; a PAIRING device whose port 0 has not come up within
10,000,000 ticks of MUSTER becomes LONE_KEEL if it is the keel, else FENCED. TWIN_STATE notes what the twin reports.
Where a resync is due the source sends pass 0 with its content and the other becomes target, its content discarded.
The target writes a pass and acknowledges it; after the final one both are PAIRED. Each acknowledgement in time sends
the next pass, the last one with the hold; a late one is discarded. The close of the resync's window, or of its hold,
abandons it: a target in MUSTER is PAIRING again, another FENCED. -/
def Obligations.ThePairPartsAndResynchronises : Prop :=
  (∀ (s : State) (t : Tick),
    let u := s.at t
    u.twin.st = .paired →
    (u.port 0).st ≠ .active →
    (u.port 0).st ≠ .retrain →
    (u.port 0).down + 10000 ≤ u.tick →
    exec (.twinDisconnectTimeout t) s = .next { u.leavePaired u.keel with pending := s.pending }) ∧
  (∀ (s : State) (t : Tick) (f : InFlight) (l : List InFlight),
    let u := s.at t
    u.twin.flight = f :: l →
    u.twin.st = .paired →
    f.first + 10000 + 2 ≤ u.tick →
    exec (.unacknowledgedTimeout t) s = .next { (u.leavePaired u.keel).portDown 0 6 1000 with
        pending := s.pending }) ∧
  (∀ (s : State) (t : Tick),
    let u := s.at t
    u.twin.st = .pairing →
    u.twin.muster + 10000000 ≤ u.tick →
    (u.port 0).connect = 0 →
    (u.port 0).connected = false →
    u.keel = true →
    exec (.pairingTimeout t) s = .next { ({ u with twin := { u.twin with st := .loneKeel } } : State).raise .twn 1 with
        pending := s.pending }) ∧
  (∀ (s : State) (t : Tick),
    let u := s.at t
    u.twin.st = .pairing →
    u.twin.muster + 10000000 ≤ u.tick →
    (u.port 0).connect = 0 →
    (u.port 0).connected = false →
    u.keel = false →
    exec (.pairingTimeout t) s = .next { (({ u with twin := { u.twin with st := .fenced, resync := none } } : State).raise .twn 2).captureTwin with
        pending := s.pending }) ∧
  (∀ (s : State) (t : Tick) (m : Msg) (ser keel e b : Nat) (st : TwinState) (mode : Mode),
    let u := s.at t
    let v := u.took 0x0108 m
    u.mode ∉ [Mode.dormant, .boot, .recovery, .felled] →
    m.body = .twinState ser keel st mode false e b →
    m.port = 0 →
    v.twin.st = .paired →
    keel = v.man.set.keelSerial →
    m.reply = true →
    v.twin.peerDetached = false →
    st ≠ .pairing →
    exec (.twinState t m) s = .next { ({ v with twin := { v.twin with peer := some st, peerMode := some mode, peerDetached := false } } : State).follow mode with
        pending := s.pending }) ∧
  (∀ (s : State) (t : Tick),
    let u := s.at t
    u.resyncDue = true →
    u.isSource = true →
    exec (.resyncStart t) s = .next { ({ u.tellTwin with twin := { u.tellTwin.twin with lines := 0, repair := false } } : State).sendPass { source := true, start := u.tick } 0 u.twinContent false with
        pending := s.pending }) ∧
  (∀ (s : State) (t : Tick),
    let u := s.at t
    u.resyncDue = true →
    u.isSource = false →
    exec (.resyncStart t) s = .next { ({ u.tellTwin with twin := { u.tellTwin.twin with lines := 0, repair := false } } : State).becomeTarget with
        pending := s.pending }) ∧
  (∀ (s : State) (t : Tick) (m : Msg) (p n : Nat) (cs : List Change) (x : Resync),
    let u := s.at t
    let v := u.took 0x0106 m
    let y := cs.foldl State.loadChange v
    u.mode ∉ [Mode.dormant, .boot, .recovery, .felled] →
    m.body = .resyncBulk p false n cs →
    m.port = 0 →
    m.reply = false →
    v.twin.applied.contains m.txn = false →
    v.twin.resync = some x →
    x.source = false →
    v.twin.st = .resync →
    exec (.resyncBulk t m) s = .next { ({ y with twin := { y.twin with lines := (if p = 0 then 0 else y.twin.lines) + n, resync := some { x with pass := p }, applied := m.txn :: y.twin.applied } } : State).sendTwin m.txn true false (.resyncAck p false) with
        pending := s.pending }) ∧
  (∀ (s : State) (t : Tick) (m : Msg) (x : Resync),
    let u := s.at t
    let v := u.took 0x0107 m
    u.mode ∉ [Mode.dormant, .boot, .recovery, .felled] →
    m.port = 0 →
    m.reply = true →
    v.twin.resync = some x →
    x.source = true →
    m.txn = x.txn →
    governs m.stamp v.tick (x.sent + v.man.set.syncTimeout) = true →
    x.hold = none →
    exec (.resyncAck t m) s = .next { v.sendPass x (x.pass + 1) x.dirty (!(x.pass == 0 || (decide (4096 ≤ x.lines) && decide (x.pass < 8)))) with
        pending := s.pending }) ∧
  (∀ (s : State) (t : Tick) (x : Resync),
    let u := s.at t
    u.twin.resync = some x →
    x.start + 2000000 ≤ u.tick →
    x.source = false →
    exec (.resyncWindowExpiry t) s = .next { State.logEvent { ({ u with twin := { u.twin with resync := none } } : State).raise .twn 4 with twin := { (({ u with twin := { u.twin with resync := none } } : State).raise .twn 4).twin with st := if u.mode = .muster then .pairing else .fenced } } 0x0603 .warn islWarden 0x100 .ok [x.pass] with
        pending := s.pending }) ∧
  (∀ (s : State) (t : Tick) (x : Resync) (h : Tick),
    let u := s.at t
    u.twin.resync = some x →
    x.hold = some h →
    h + 5000 ≤ u.tick →
    x.source = true →
    exec (.resyncHoldExpiry t) s = .next { (({ u with twin := { u.twin with resync := none } } : State).raise .twn 4).releaseHeld with
        pending := s.pending })

/-- A probe is answered with this device's serial and epoch. An echo with the configured serial notes the member's epoch,
and a lead catches a member that is behind up; another serial excludes the member with an alarm entry. A forwarded
record waits at the serving device of the same epoch and settles as any record; a device that does not serve answers
TWIN_FENCED, and another epoch is refused with EPOCH_AHEAD or EPOCH_BEHIND. A result in time of a command that runs at
one member completes that command with the member's answer. A move with the next number is applied and the number
answered; a repeat only answered. An acknowledgement that reaches its number clears the member; a forward whose window
closes is resent while the member is reachable. A receipt expires after 600,000,000 ticks. -/
def Obligations.TheCaravanForwardsMovesAndProbes : Prop :=
  (∀ (s : State) (t : Tick) (m : Msg),
    let u := s.at t
    let v := u.took 0x0003 m
    u.mode ∉ [Mode.dormant, .boot, .recovery, .felled] →
    (v.mine m false) = true →
    v.pairOf m.src ≠ 0 →
    exec (.routeProbe t m) s = .next { v.sendMember m.src m.tenant m.world m.txn true false (.routeEcho v.otp.serial v.car.epoch) with
        pending := s.pending }) ∧
  (∀ (s : State) (t : Tick) (m : Msg) (ser e : Nat),
    let u := s.at t
    let v := u.took 0x0004 m
    u.mode ∉ [Mode.dormant, .boot, .recovery, .felled] →
    m.body = .routeEcho ser e →
    (v.mine m true) = true →
    ((mapFind v.man.set.routes m.src).map (·.serial)) = some ser →
    v.lead = true →
    e < v.car.epoch →
    exec (.routeEcho t m) s = .next { ({ v with car := { v.car with epochs := mapPut 0 v.car.epochs m.src e } } : State).catchUpMember m.src with
        pending := s.pending }) ∧
  (∀ (s : State) (t : Tick) (m : Msg) (ser e : Nat),
    let u := s.at t
    let v := u.took 0x0004 m
    u.mode ∉ [Mode.dormant, .boot, .recovery, .felled] →
    m.body = .routeEcho ser e →
    (v.mine m true) = true →
    ((mapFind v.man.set.routes m.src).map (·.serial)) ≠ some ser →
    exec (.routeEcho t m) s = .next { ((v.exclude m.src).logEvent 0x0505 .alarm islWarden 0x100 .ok [m.src, ser]).unreached with
        pending := s.pending }) ∧
  (∀ (s : State) (t : Tick) (m : Msg) (tn sl : Nat) (r i n : Bytes),
    let u := s.at t
    let v := u.took 0x0220 m
    u.mode ∉ [Mode.dormant, .boot, .recovery, .felled] →
    m.body = .forward tn r i sl n →
    (v.mine m false) = true →
    v.mode ≠ .muster →
    m.epoch = v.car.epoch →
    v.serving = true →
    (v.waiting.any (fun x => x.ref == .forwarded m.src m.txn) || v.running.any (fun x => x.record.ref == .forwarded m.src m.txn)) = false →
    exec (.commandForward t m) s = .next { ({ v with waiting := v.waiting ++ [{ ref := .forwarded m.src m.txn, order := v.host.order, tenant := tn, raw := r, input := i, seq := fld r 0x10 6, arrival := m.stamp, fetched := v.tick, readDone := true, nonce := natLE 2 sl ++ n }], host := { v.host with order := v.host.order + 1 } } : State).settle (v.waiting.length + 1) with
        pending := s.pending }) ∧
  (∀ (s : State) (t : Tick) (m : Msg) (tn sl : Nat) (r i n : Bytes),
    let u := s.at t
    let v := u.took 0x0220 m
    u.mode ∉ [Mode.dormant, .boot, .recovery, .felled] →
    m.body = .forward tn r i sl n →
    (v.mine m false) = true →
    v.mode ≠ .muster →
    v.car.epoch < m.epoch →
    exec (.commandForward t m) s = .next { v.sendMember m.src m.tenant m.world m.txn true false (.epochRefuse .epochBehind v.car.epoch) with
        pending := s.pending }) ∧
  (∀ (s : State) (t : Tick) (m : Msg) (st : Status) (d : Nat) (lone : Bool) (b o : Bytes) (f : Forward) (run : Run),
    let u := s.at t
    let v := u.took 0x0221 m
    u.mode ∉ [Mode.dormant, .boot, .recovery, .felled] →
    m.body = .result st d lone b o →
    (v.mine m true) = true →
    (v.car.fwd.find? fun f => f.txn == m.txn && f.todo.contains m.src) = some f →
    governs m.stamp v.tick (f.sent + v.man.set.caravanTimeout) = true →
    v.car.behind.contains m.src = false →
    st ≠ .twinFenced →
    v.fwdRun f = some run →
    visitOps.contains ((nativeOp run.op).getD 0) = false →
    exec (.commandResult t m) s = .next { (v.dropFwd f.txn).complete run { run.res with status := st, detail := d, lone := lone, body := b, out := o } lone with
        pending := s.pending }) ∧
  (∀ (s : State) (t : Tick) (m : Msg) (n : Nat) (cs : List Change),
    let u := s.at t
    let v := u.took 0x0230 m
    u.mode ∉ [Mode.dormant, .boot, .recovery, .felled] →
    m.body = .ladingMove n cs →
    (v.mine m false) = true →
    m.epoch = v.car.epoch →
    n = v.car.move + 1 →
    exec (.ladingMove t m) s = .next { ({ v.applyAll cs with car := { (v.applyAll cs).car with move := n } } : State).sendMember m.src m.tenant m.world m.txn true false (.ladingAck n) with
        pending := s.pending }) ∧
  (∀ (s : State) (t : Tick) (m : Msg) (n : Nat) (cs : List Change),
    let u := s.at t
    let v := u.took 0x0230 m
    u.mode ∉ [Mode.dormant, .boot, .recovery, .felled] →
    m.body = .ladingMove n cs →
    (v.mine m false) = true →
    m.epoch = v.car.epoch →
    n ≠ v.car.move + 1 →
    n ≠ 1 →
    exec (.ladingMove t m) s = .next { v.sendMember m.src m.tenant m.world m.txn true false (.ladingAck v.car.move) with
        pending := s.pending }) ∧
  (∀ (s : State) (t : Tick) (m : Msg) (k : Nat) (w : Move),
    let u := s.at t
    let v := u.took 0x0231 m
    u.mode ∉ [Mode.dormant, .boot, .recovery, .felled] →
    m.body = .ladingAck k →
    (v.mine m true) = true →
    (v.car.moves.find? fun v => v.txn == m.txn) = some w →
    governs m.stamp v.tick (w.sent + v.man.set.caravanTimeout) = true →
    w.num ≤ k →
    exec (.ladingAck t m) s = .next { ({ v with car := { v.car with moves := v.car.moves.map fun x => if x.num ≤ k then { x with waiting := x.waiting.filter (· != m.src) } else x } } : State).moveCheck with
        pending := s.pending }) ∧
  (∀ (s : State) (t : Tick) (n : Nat) (f : Forward),
    let u := s.at t
    (u.car.fwd.find? fun f => f.txn == n) = some f →
    f.sent + u.man.set.caravanTimeout + 2 ≤ u.tick →
    u.reachable (f.todo.headD 0) = true →
    exec (.caravanTimeout t n) s = .next { u.resendFwd f with pending := s.pending }) ∧
  (∀ (s : State) (t : Tick) (tn : Nat) (n : Bytes),
    let u := s.at t
    exec (.receiptExpiry t tn n) s = .next { u with
        receipts := u.receipts.filter fun r => !(r.tenant == tn && r.nonce == n && decide (r.issued + 600000000 ≤ u.tick)),
        pending := s.pending })

/-- A member answers a PREPARE for the next epoch with READY when the target's conditions hold and keeps it, with READY
and the failing status when they do not, and with REFUSE for an epoch at or below its own or two above it. A COMMIT of
an epoch it holds is answered DONE; one for the mode it is in takes the epoch; another asks for the barrier. A
ROLLBACK of what it prepared drops it and counts it. The lead notes a READY in time and runs its own barrier when the
last is in, rolls the change back for a failing status, and for the close of the window; a DONE of a rollback is
noted, and a REFUSE with EPOCH_BEHIND marks the member behind and catches it up. -/
def Obligations.TheEpochProtocolPreparesCommitsAndRollsBack : Prop :=
  (∀ (s : State) (t : Tick) (m : Msg) (tg : Mode),
    let u := s.at t
    let v := u.took 0x0210 m
    u.mode ∉ [Mode.dormant, .boot, .recovery, .felled] →
    m.body = .epochPrepare tg →
    (v.mine m false) = true →
    m.epoch = v.car.epoch + 1 →
    v.car.prepared = none →
    v.modeCondition tg = none →
    exec (.epochPrepare t m) s = .next { ({ v with car := { v.car with prepared := some (tg, m.txn) } } : State).sendMember m.src m.tenant m.world m.txn true false (.epochReady .ok v.car.epoch) with
        pending := s.pending }) ∧
  (∀ (s : State) (t : Tick) (m : Msg) (tg : Mode) (st : Status),
    let u := s.at t
    let v := u.took 0x0210 m
    u.mode ∉ [Mode.dormant, .boot, .recovery, .felled] →
    m.body = .epochPrepare tg →
    (v.mine m false) = true →
    m.epoch = v.car.epoch + 1 →
    v.car.prepared = none →
    v.modeCondition tg = some st →
    exec (.epochPrepare t m) s = .next { v.sendMember m.src m.tenant m.world m.txn true false (.epochReady st v.car.epoch) with
        pending := s.pending }) ∧
  (∀ (s : State) (t : Tick) (m : Msg) (tg : Mode),
    let u := s.at t
    let v := u.took 0x0210 m
    u.mode ∉ [Mode.dormant, .boot, .recovery, .felled] →
    m.body = .epochPrepare tg →
    (v.mine m false) = true →
    m.epoch ≤ v.car.epoch →
    exec (.epochPrepare t m) s = .next { v.sendMember m.src m.tenant m.world m.txn true false (.epochRefuse .epochAhead v.car.epoch) with
        pending := s.pending }) ∧
  (∀ (s : State) (t : Tick) (m : Msg) (tg : Mode),
    let u := s.at t
    let v := u.took 0x0212 m
    u.mode ∉ [Mode.dormant, .boot, .recovery, .felled] →
    m.body = .epochCommit tg →
    (v.mine m false) = true →
    m.epoch ≤ v.car.epoch →
    exec (.epochCommit t m) s = .next { v.sendMember m.src 0 true m.txn true false (.epochDone .ok v.car.epoch) with
        pending := s.pending }) ∧
  (∀ (s : State) (t : Tick) (m : Msg),
    let u := s.at t
    let v := u.took 0x0212 m
    u.mode ∉ [Mode.dormant, .boot, .recovery, .felled] →
    m.body = .epochCommit v.mode →
    (v.mine m false) = true →
    v.car.epoch < m.epoch →
    v.car.committing = none →
    exec (.epochCommit t m) s = .next { (({ v with car := { v.car with epoch := m.epoch, prepared := none } } : State).raise .car 0).sendDone m.src m.txn .ok with
        pending := s.pending }) ∧
  (∀ (s : State) (t : Tick) (m : Msg) (tg : Mode),
    let u := s.at t
    let v := u.took 0x0212 m
    u.mode ∉ [Mode.dormant, .boot, .recovery, .felled] →
    m.body = .epochCommit tg →
    (v.mine m false) = true →
    v.car.epoch < m.epoch →
    v.car.committing = none →
    v.modeCondition tg = none →
    v.mode ≠ tg →
    exec (.epochCommit t m) s = .next { ({ v with car := { v.car with committing := some (m.epoch, m.src, m.txn) } } : State).askBarrier tg .commit with
        pending := s.pending }) ∧
  (∀ (s : State) (t : Tick) (m : Msg) (p : Mode × Nat),
    let u := s.at t
    let v := u.took 0x0213 m
    u.mode ∉ [Mode.dormant, .boot, .recovery, .felled] →
    (v.mine m false) = true →
    v.car.prepared = some p →
    m.epoch = v.car.epoch + 1 →
    exec (.epochRollback t m) s = .next { (({ v with car := { v.car with prepared := none, rollbacks := sat32 v.car.rollbacks } } : State).raise .car 1).sendDone m.src m.txn .ok with
        pending := s.pending }) ∧
  (∀ (s : State) (t : Tick) (m : Msg) (e : Nat) (x : EpochChange),
    let u := s.at t
    let v := u.took 0x0211 m
    u.mode ∉ [Mode.dormant, .boot, .recovery, .felled] →
    m.body = .epochReady .ok e →
    (v.mine m true) = true →
    v.car.change = some x →
    m.txn = x.txn →
    x.phase = 0 →
    governs m.stamp v.tick (x.start + 50000) = true →
    x.participants.contains m.src = true →
    exec (.epochReady t m) s = .next { ({ v with car := { v.car with change := some { x with ready := m.src :: x.ready.filter (· != m.src) } } } : State).readyCheck with
        pending := s.pending }) ∧
  (∀ (s : State) (t : Tick) (m : Msg) (st : Status) (e : Nat) (x : EpochChange),
    let u := s.at t
    let v := u.took 0x0211 m
    u.mode ∉ [Mode.dormant, .boot, .recovery, .felled] →
    m.body = .epochReady st e →
    (v.mine m true) = true →
    v.car.change = some x →
    m.txn = x.txn →
    x.phase = 0 →
    governs m.stamp v.tick (x.start + 50000) = true →
    st ≠ .ok →
    exec (.epochReady t m) s = .next { v.rollBack x st with pending := s.pending }) ∧
  (∀ (s : State) (t : Tick) (x : EpochChange),
    let u := s.at t
    u.car.change = some x →
    x.phase = 0 →
    x.start + 50000 + 2 ≤ u.tick →
    exec (.epochPrepareWindowExpiry t) s = .next { u.rollBack x .busy with pending := s.pending }) ∧
  (∀ (s : State) (t : Tick) (m : Msg) (st : Status) (e : Nat) (x : EpochChange),
    let u := s.at t
    let v := u.took 0x0215 m
    u.mode ∉ [Mode.dormant, .boot, .recovery, .felled] →
    m.body = .epochDone st e →
    (v.mine m true) = true →
    v.car.undo = some x →
    x.txn = m.txn →
    st ≠ .ok →
    exec (.epochDone t m) s = .next { v with
        car := { v.car with
          epochs := mapPut 0 v.car.epochs m.src e,
          retry := v.car.retry.filter fun x => x.1 != m.src,
          undo := if x.participants.all (m.src :: x.done).contains then none else some { x with done := m.src :: x.done } },
        pending := s.pending }) ∧
  (∀ (s : State) (t : Tick) (m : Msg) (e : Nat),
    let u := s.at t
    let v := u.took 0x0214 m
    u.mode ∉ [Mode.dormant, .boot, .recovery, .felled] →
    m.body = .epochRefuse .epochBehind e →
    (v.mine m true) = true →
    v.lead = true →
    exec (.epochRefuse t m) s = .next { (({ v with car := { v.car with epochs := mapPut 0 v.car.epochs m.src e, retry := (m.src, m.txn) :: v.car.retry.filter (· != (m.src, m.txn)) } } : State).markBehind m.src).catchUpMember m.src with
        pending := s.pending })

/-- At a participant of the same epoch that serves: a LEG_PREPARE of what is prepared is answered again, of what is
settled with LEG_DONE; a LEG_COMMIT and a LEG_ABORT of what is settled with LEG_DONE, a commit of what is unknown with
outcome 2 and an alarm entry, an abort of what is unknown with outcome 1; an abort of what is prepared settles it as
aborted. At the lead: a LEG_PREPARED or LEG_REFUSED of an unknown posting is late, and the sender of the first is told
to abort; a refusal in time refuses the command; LEG_DONE acknowledges; a reported posting without decision or run is
answered LEG_ABORT. The close of the prepare window aborts the posting and rolls its command back; that of the
decision window completes the command with the detail 0xFFFE. A record that waits for a mark goes on once it is clear;
a finished copy ends its CHECKPOINT with the image; a block is signed. -/
def Obligations.CrossHomePostingsPrepareDecideAndSettle : Prop :=
  (∀ (s : State) (t : Tick) (m : Msg) (l pt n hz : Nat) (a hm : Bool) (id vd : Bytes) (lg : List PrepLeg) (x : Prepared),
    let u := s.at t
    let v := u.took 0x0201 m
    u.mode ∉ [Mode.dormant, .boot, .recovery, .felled] →
    m.body = .legPrepare l a hm pt n id hz vd lg →
    (v.mine m false) = true →
    m.epoch = v.car.epoch →
    v.serving = true →
    v.preparedHere l id = some x →
    x.mirror = none →
    exec (.legPrepare t m) s = .next { v.sendPrepared m.src m.tenant m.txn l a hm id (v.preparedLegs x.post) with
        pending := s.pending }) ∧
  (∀ (s : State) (t : Tick) (m : Msg) (l pt n hz : Nat) (a hm : Bool) (id vd : Bytes) (lg : List PrepLeg) (y : Settled),
    let u := s.at t
    let v := u.took 0x0201 m
    u.mode ∉ [Mode.dormant, .boot, .recovery, .felled] →
    m.body = .legPrepare l a hm pt n id hz vd lg →
    (v.mine m false) = true →
    m.epoch = v.car.epoch →
    v.serving = true →
    v.preparedHere l id = none →
    v.settledHere l id = some y →
    exec (.legPrepare t m) s = .next { v.sendMember m.src m.tenant m.world m.txn true false (.legDone l id y.outcome .ok y.seq y.entry) with
        pending := s.pending }) ∧
  (∀ (s : State) (t : Tick) (m : Msg) (l : Nat) (a hm : Bool) (id vd : Bytes) (lg : List LegRecord) (x : Prepared),
    let u := s.at t
    let v := u.took 0x0204 m
    u.mode ∉ [Mode.dormant, .boot, .recovery, .felled] →
    m.body = .legCommit l a hm id vd lg →
    (v.mine m false) = true →
    m.epoch = v.car.epoch →
    v.serving = true →
    v.preparedHere l id = some x →
    exec (.legCommit t m) s = .next { v.commitPrepared { x with lead := m.src, txn := m.txn } lg vd with
        pending := s.pending }) ∧
  (∀ (s : State) (t : Tick) (m : Msg) (l : Nat) (a hm : Bool) (id vd : Bytes) (lg : List LegRecord),
    let u := s.at t
    let v := u.took 0x0204 m
    u.mode ∉ [Mode.dormant, .boot, .recovery, .felled] →
    m.body = .legCommit l a hm id vd lg →
    (v.mine m false) = true →
    m.epoch = v.car.epoch →
    v.serving = true →
    v.preparedHere l id = none →
    v.settledHere l id = none →
    exec (.legCommit t m) s = .next { (v.logEvent 0x0506 .alarm islLedger m.tenant .prepareRolledBack [l, m.src]).answer m (.legDone l id 2 .prepareRolledBack 0 []) with
        pending := s.pending }) ∧
  (∀ (s : State) (t : Tick) (m : Msg) (l : Nat) (id : Bytes) (x : Prepared),
    let u := s.at t
    let v := u.took 0x0205 m
    u.mode ∉ [Mode.dormant, .boot, .recovery, .felled] →
    m.body = .legAbort l id →
    (v.mine m false) = true →
    m.epoch = v.car.epoch →
    v.serving = true →
    v.preparedHere l id = some x →
    x.mirror = none →
    exec (.legAbort t m) s = .next { v.settlePart { x with lead := m.src, txn := m.txn } 1 0 [] with
        pending := s.pending }) ∧
  (∀ (s : State) (t : Tick) (m : Msg) (l pt n : Nat) (a hm : Bool) (id : Bytes) (lg : List PreparedLeg),
    let u := s.at t
    let v := u.took 0x0202 m
    u.mode ∉ [Mode.dormant, .boot, .recovery, .felled] →
    m.body = .legPrepared l a hm pt n id lg →
    (v.mine m true) = true →
    v.crossOf l id = none →
    exec (.legPrepared t m) s = .next { ({ v with late := mapInc v.late islLedger 0xFFFFFFFF } : State).sendMember m.src m.tenant false m.txn false false (.legAbort l id) with
        pending := s.pending }) ∧
  (∀ (s : State) (t : Tick) (m : Msg) (l : Nat) (a hm : Bool) (id : Bytes) (lg : List PreparedLeg) (x : CrossHome),
    let u := s.at t
    let v := u.took 0x0202 m
    u.mode ∉ [Mode.dormant, .boot, .recovery, .felled] →
    m.body = .legPrepared l a hm 0 1 id lg →
    (v.mine m true) = true →
    v.crossOf l id = some x →
    x.decided = none →
    governs m.stamp v.tick (x.first + 5000) = true →
    v.partsOf m.src m.txn = [] →
    exec (.legPrepared t m) s = .next { ({ v with board := { v.board with parts := v.board.parts.filter fun h => !(h.src == m.src && h.txn == m.txn) } } : State).crossPrepared x (v.pairOf m.src) lg with
        pending := s.pending }) ∧
  (∀ (s : State) (t : Tick) (m : Msg) (l d : Nat) (id : Bytes) (st : Status) (x : CrossHome),
    let u := s.at t
    let v := u.took 0x0203 m
    u.mode ∉ [Mode.dormant, .boot, .recovery, .felled] →
    m.body = .legRefused l id st d →
    (v.mine m true) = true →
    v.crossOf l id = some x →
    x.decided = none →
    governs m.stamp v.tick (x.first + 5000) = true →
    exec (.legRefused t m) s = .next { v.crossRefused x { failD st d with body := if st = .postingReplay then zeros 8 else [] } with
        pending := s.pending }) ∧
  (∀ (s : State) (t : Tick) (m : Msg) (l o q : Nat) (id e : Bytes) (st : Status),
    let u := s.at t
    let v := u.took 0x0206 m
    u.mode ∉ [Mode.dormant, .boot, .recovery, .felled] →
    m.body = .legDone l id o st q e →
    (v.mine m true) = true →
    exec (.legDone t m) s = .next { v.crossDone l id (v.pairOf m.src) q e with pending := s.pending }) ∧
  (∀ (s : State) (t : Tick) (m : Msg) (l : Nat) (id : Bytes),
    let u := s.at t
    let v := u.took 0x0207 m
    u.mode ∉ [Mode.dormant, .boot, .recovery, .felled] →
    m.body = .legReport [(l, id)] →
    (v.mine m false) = true →
    m.epoch = v.car.epoch →
    v.lead = true →
    (v.board.decisions.find? fun d => d.ledger == l && d.id == id) = none →
    v.crossOf l id = none →
    exec (.legReport t m) s = .next { v.sendMember m.src m.tenant false m.txn false false (.legAbort l id) with
        pending := s.pending }) ∧
  (∀ (s : State) (t : Tick) (l : Nat) (id : Bytes) (x : CrossHome) (run : Run),
    let u := s.at t
    u.crossOf l id = some x →
    x.decided = none →
    x.first + 5000 + 2 ≤ u.tick →
    u.crossRun x = some run →
    exec (.prepareWindowExpiry t l id) s = .next { ({ u.abortCross x with board := { (u.abortCross x).board with rollbacks := sat32 (u.abortCross x).board.rollbacks } } : State).finish run (fail .prepareRolledBack) with
        pending := s.pending }) ∧
  (∀ (s : State) (t : Tick) (l d : Nat) (id : Bytes) (x : CrossHome) (run : Run),
    let u := s.at t
    u.crossOf l id = some x →
    x.decided = some d →
    u.crossRun x = some run →
    d + 50000 + 2 ≤ u.tick →
    exec (.decisionWindowExpiry t l id) s = .next { (u.setCross { x with ref := none }).finish run (u.crossResult x 0xFFFE) with
        pending := s.pending }) ∧
  (∀ (s : State) (t : Tick) (r : RecRef) (run : Run) (p : Posting),
    let u := s.at t
    r.ok = true →
    (u.running.find? fun x => x.record.ref == r && x.stage == .context) = some run →
    run.res.post = some p →
    p.row = 5 →
    u.foreign (.command r) (.posting p.ledger p.id) = none →
    exec (.pendingMarkClear t r) s = .next { (u.postRow5 r p).1.did run (u.postRow5 r p).2 with
        pending := s.pending }) ∧
  (∀ (s : State) (t : Tick) (l n : Nat) (run : Run) (h : Head),
    let u := s.at t
    (u.running.find? fun x => x.stage == .checkpoint l) = some run →
    (u.board.heads.find? fun p => p.2.ledger == l) = some (n, h) →
    u.assigned l = false →
    exec (.checkpointCopyDone t l) s = .next { ({ u with board := { u.board with copying := u.board.copying.filter (· != l) } } : State).did run (spaced (run.cmd u.tick) { out := u.boardImage n ((u.epochEntry n).epoch + 1), changes := [.head n { h with checkpointPending := true, pendingEpoch := (u.epochEntry n).epoch + 1, imageNext := h.nextSeq }] }) with
        pending := s.pending }) ∧
  (∀ (s : State) (t : Tick) (l n i : Nat) (h : Head) (k : JournalBlock) (v w : State) (m r : Bytes),
    let u := s.at t
    (u.board.heads.find? fun p => p.2.ledger == l) = some (n, h) →
    (u.board.blocks.reverse.find? fun k => k.ledger == l && k.signature.isNone) = some k →
    u.resolve (some h.tenant) (u.desc n).signHandle signNeed = (v, .ok i) →
    v.material i = .ok m →
    v.random 56 = some (w, r) →
    (w.laneAny .bigNumber && w.laneAny .digest) = true →
    exec (.journalBlockSign t l) s = .next { w.apply (.blockSig l k.last (w.blockSig k m r)) with
        pending := s.pending })

/-- An accepted SESSION_OPEN whose handle resolves to an HMAC-SHA-256 key for session authentication, whose host_mac
verifies, whose host_pub is a point of P-256 and whose tenant has a free number adds a session with the key of R136
and answers its number, the device's point and device_mac. An accepted sealed SESSION_CLOSE with an empty body removes
the session that its header names. ASK_OUTCOME answers one 16-byte entry for each number asked. ATTEST gives a big-
number lane the signature of Table 5-6's bytes. GET_INFO answers one pair for each register asked. -/
def Obligations.SessionsOpenCloseAndReport : Prop :=
  (∀ (s : State) (t : Tick) (ref : RecRef) (r : Rec) (b i : Bytes) (k id : Nat) (v w : State) (m d : Bytes),
    let c := s.cmd t r b i
    let u := (s.begun t r b i).1
    let q := pointBytes 32 (p256Curve.mul (p256Curve.scalar d) p256Curve.base)
    Accepted s t ref 0x0101 r b i →
    b.length = 0x64 →
    u.resolve (some r.tenant) (fld b 0 4)
        { fits := fun x => x.type == 5, use := fun _ => useBit 12, units := some fun _ => 1 } = (v, .ok k) →
    v.material k = .ok m →
    hmac256 m (natLE 6 c.record.seq ++ sub b 4 64) = sub b 0x44 32 →
    p256Curve.validPoint 32 (sub b 4 64) = true →
    v.freeSession r.tenant = some id →
    v.random 40 = some (w, d) →
    exec (.sessionOpen t ref) s = .next (s.ends t r b i (fun _ => { w with
        sessions := w.sessions ++ [{ tenant := r.tenant, id, key := sessionKey (p256Curve.shared 32 (p256Curve.scalar d) (sub b 4 64)) (sub b 0x44 32) r.tenant id }] }) (.done { body := natLE 2 id ++ zeros 2 ++ q ++ hmac256 m (natLE 2 id ++ sub b 4 64 ++ q) }))) ∧
  (∀ (s : State) (t : Tick) (ref : RecRef) (r : Rec) (b i : Bytes),
    let u := (s.begun t r b i).1
    Accepted s t ref 0x0102 r b i →
    b = [] →
    r.isSealed = true →
    exec (.sessionClose t ref) s = .next (s.ends t r b i (fun _ => { u with
        sessions := u.sessions.filter fun x => !(x.tenant == r.tenant && x.id == fld r.raw 0x16 2) }) (.done {}))) ∧
  (∀ (s : State) (t : Tick) (ref : RecRef) (r : Rec) (b i : Bytes),
    let u := (s.begun t r b i).1
    Accepted s t ref 0x0103 r b i →
    0 < fld b 0 2 →
    fld b 0 2 ≤ 256 →
    b.length = 8 + 8 * fld b 0 2 →
    zeroAt b 2 6 = true →
    ((List.range (fld b 0 2)).all fun k => zeroAt b (8 + 8 * k + 6) 2) = true →
    exec (.askOutcome t ref) s = .next (s.ends t r b i id (.done { body := (List.range (fld b 0 2)).flatMap fun k => u.askEntry r.tenant (fld b (8 + 8 * k) 6) }))) ∧
  (∀ (s : State) (t : Tick) (ref : RecRef) (r : Rec) (b i : Bytes) (w : State) (d : Bytes),
    let u := (s.begun t r b i).1
    Accepted s t ref 0x0105 r b i →
    b.length = 32 →
    u.laneAny .bigNumber = true →
    u.random 56 = some (w, d) →
    exec (.attest t ref) s = .next (s.ends t r b i (fun _ => w) (.job .bigNumber (curveCycles 1600 6) [] { body := w.attestBytes r.tenant b ++ w.identitySig (sha384 (w.attestBytes r.tenant b)) d }))) ∧
  (∀ (s : State) (t : Tick) (ref : RecRef) (r : Rec) (b i : Bytes),
    let u := (s.begun t r b i).1
    let offs := (List.range (fld b 0 2)).map fun k => fld b (8 + 4 * k) 4
    Accepted s t ref 0x0104 r b i →
    0 < fld b 0 2 →
    fld b 0 2 ≤ 64 →
    b.length = 8 + 4 * fld b 0 2 →
    zeroAt b 2 6 = true →
    (offs.any fun o => o % 4 != 0 || decide (0x400000 ≤ o)) = false →
    exec (.getInfo t ref) s = .next (s.ends t r b i id (.done { body := natLE 2 (fld b 0 2) ++ zeros 6 ++ offs.flatMap (u.infoEntry r.tenant) })))

/-- MUSTER_COMPLETE with a quorum for it, its rows met and no change under way asks for the barrier to SERVICE,
DROWSE_ENTER for that to DROWSE; at the lead of a caravan the change goes by the epoch protocol. RECOVERY_ENTER sets
the recovery request and completes with an internal reset. LIFECYCLE_ADVANCE to the next state, authorised by a
transition warrant in FACTORY and by the life-cycle quorum otherwise, zeroes the arrays when it leaves FACTORY or
OWNED, erases the warrant, logs the transition and waits for the OTP. ACCEPT_WARRANT of a warrant that passes its
checks stores it, activates it, logs it and raises its interrupt; DROP_WARRANT takes it away with every debug halt and
power override. -/
def Obligations.ModeAndLifeCycleCommandsAskForTheirChange : Prop :=
  (∀ (s : State) (t : Tick) (ref : RecRef) (r : Rec) (b i : Bytes) (v : State),
    let u := (s.begun t r b i).1
    Accepted s t ref 0x0106 r b i →
    b = [] →
    u.changing? = false →
    u.quorumUse 0 purposeMuster = (v, none) →
    v.musterRows = none →
    ¬(1 < v.man.set.memberCount ∧ v.lead = true) →
    exec (.musterComplete t ref) s = .next (s.ends t r b i (fun _ => v.askBarrier .service (.command r.ref)) (.wait .barrier {}))) ∧
  (∀ (s : State) (t : Tick) (ref : RecRef) (r : Rec) (b i : Bytes),
    let u := (s.begun t r b i).1
    Accepted s t ref 0x0107 r b i →
    b = [] →
    u.changing? = false →
    ¬(1 < u.man.set.memberCount ∧ u.lead = true) →
    exec (.drowseEnter t ref) s = .next (s.ends t r b i (fun _ => u.askBarrier .drowse (.command r.ref)) (.wait .barrier {}))) ∧
  (∀ (s : State) (t : Tick) (ref : RecRef) (r : Rec) (b i : Bytes),
    let u := (s.begun t r b i).1
    Accepted s t ref 0x0107 r b i →
    b = [] →
    u.changing? = false →
    1 < u.man.set.memberCount →
    u.lead = true →
    exec (.drowseEnter t ref) s = .next (s.ends t r b i (fun _ => u.epochStart .drowse (some r.ref)) (.wait .epoch {}))) ∧
  (∀ (s : State) (t : Tick) (ref : RecRef) (r : Rec) (b i : Bytes),
    let u := (s.begun t r b i).1
    Accepted s t ref 0x0108 r b i →
    b = [] →
    exec (.recoveryEnter t ref) s = .next (s.ends t r b i (fun _ => { u with recoveryReq := true }) (.reset {}))) ∧
  (∀ (s : State) (t : Tick) (ref : RecRef) (r : Rec) (b i : Bytes) (v : State),
    let u := (s.begun t r b i).1
    let x := ((if v.life = .factory ∨ v.life = .owned then v.zeroArrays else v).eraseWarrant.logTransition (lifeCode u.life) (fld b 0 1) : State)
    Accepted s t ref 0x0109 r b i →
    b.length = (if u.life = .factory then 168 else 8) →
    fld b 0 1 = lifeCode u.life + 1 →
    zeroAt b 1 7 = true →
    u.lifeBusy = false →
    (if u.life = .factory then v = u ∧ u.warrantCheck (b.drop 8) 2 = none else u.quorumUse 0 purposeLife = (v, none)) →
    x.glitching = false →
    exec (.lifecycleAdvance t ref) s = .next (s.ends t r b i (fun _ => x.program (fld b 0 1) (some r.ref)) (.wait .otp {}))) ∧
  (∀ (s : State) (t : Tick) (ref : RecRef) (r : Rec) (b i : Bytes) (v : State),
    let u := (s.begun t r b i).1
    Accepted s t ref 0x010A r b i →
    b.length = 160 →
    u.lifeBusy = false →
    u.warrantCheck b 1 = none →
    fld b 0x28 4 &&& (grantable u.life).toNat = fld b 0x28 4 →
    (if u.life = .factory then (u, none) else u.quorumUse 0 purposeWarrant) = (v, none) →
    exec (.acceptWarrant t ref) s = .next (s.ends t r b i (fun _ => (({ v with
        vault := { v.vault with warrant := some b },
        lcs := { v.lcs with warrantActive := true } } : State).logEvent 0x0005 .notice islWarden 0x100 .ok [fld b 0x28 4, fld b 0x30 8, fld b 0x38 8]).raise .system 8) (.done {}))) ∧
  (∀ (s : State) (t : Tick) (ref : RecRef) (r : Rec) (b i : Bytes),
    let u := (s.begun t r b i).1
    Accepted s t ref 0x010B r b i →
    b = [] →
    exec (.dropWarrant t ref) s = .next (s.ends t r b i (fun _ => ({ u.eraseWarrant with
        ports := { u.eraseWarrant.ports with halted := [] },
        pwr := { u.eraseWarrant.pwr with override := [] } } : State).raise .system 8) (.done {})))

/-- A header of 2,048 bytes that is well formed, signed, at or above the rollback floor, for this device and state, and
whose slots are the last or the next ones opens a session. Input data of 1,024 to 65,536 bytes that continues a
section at its offset is appended and written to flash. With every section complete and the quorum where one is asked
for, RECOVERY_COMMIT programs the slots and writes the header; when the flash reads back the same the event is logged
and the device resets, and otherwise it completes with MANIFEST_DIGEST. RECOVERY_EXIT drops the session and resets. -/
def Obligations.RecoveryWritesAndCommitsANewManifest : Prop :=
  (∀ (s : State) (t : Tick) (ref : RecRef) (r : Rec) (b i : Bytes) (n : List Bool),
    let u := (s.begun t r b i).1
    Accepted s t ref 0x0110 r b i →
    b.length = 2048 →
    headerFormat b u.life (2 ^ 26) = true →
    u.headerSigned b = true →
    u.vault.floor ≤ fld b 8 4 →
    fld b 0x10 8 = 0 ∨ fld b 0x10 8 = u.otp.serial →
    (BitVec.ofNat 8 (fld b 0xC 1)).getLsbD (lifeCode u.life) = true →
    u.slotClasses b = .ok n →
    exec (.recoveryBegin t ref) s = .next (s.ends t r b i (fun _ => { u with
        man := { u.man with session := some { header := b, next := n } } }) (.done {}))) ∧
  (∀ (s : State) (t : Tick) (ref : RecRef) (r : Rec) (b i : Bytes) (x : RecoverySession) (k : Nat),
    let u := (s.begun t r b i).1
    Accepted s t ref 0x0111 r b i →
    b.length = 8 →
    zeroAt b 4 4 = true →
    1024 ≤ i.length →
    i.length ≤ 65536 →
    u.man.session = some x →
    ((List.range (fld x.header 6 2)).find? fun n =>
        decide (((sections x.header).getD n (0, 0, 0, [])).2.1 ≤ fld b 0 4) &&
        decide (fld b 0 4 + i.length ≤ ((sections x.header).getD n (0, 0, 0, [])).2.1 + ((sections x.header).getD n (0, 0, 0, [])).2.2.1) &&
        fld b 0 4 == ((sections x.header).getD n (0, 0, 0, [])).2.1 + (mapGet [] x.written n).length) = some k →
    exec (.recoveryWrite t ref) s = .next (s.ends t r b i (fun _ => ({ u with
        man := { u.man with
          session := some { x with written := mapSet x.written k (mapGet [] x.written k ++ i) } } } : State).emit (.flash (fld b 0 4) i)) (.done {}))) ∧
  (∀ (s : State) (t : Tick) (ref : RecRef) (r : Rec) (b i : Bytes) (x : RecoverySession) (v : State),
    let u := (s.begun t r b i).1
    let w := v.programSlots x
    let z := ((({ w with man := { w.man with session := some { x with next := [false, false, false] } } } : State).emit (.flashErase 0)).emit (.flash 0 x.header) : State)
    Accepted s t ref 0x0112 r b i →
    b = [] →
    u.man.session = some x →
    x.complete = true →
    (if u.commitQuorum then u.quorumUse 0 purposeRecovery else (u, none)) = (v, none) →
    exec (.recoveryCommit t ref true) s = .next (s.ends t r b i (fun _ => z.logEvent 0x0008 .notice islWarden 0x100 .ok [fld x.header 8 4, (x.next.zipIdx.map fun (b, i) => if b then 2 ^ i else 0).sum]) (.reset {}))) ∧
  (∀ (s : State) (t : Tick) (ref : RecRef) (r : Rec) (b i : Bytes) (x : RecoverySession) (v : State),
    let u := (s.begun t r b i).1
    let w := v.programSlots x
    Accepted s t ref 0x0112 r b i →
    b = [] →
    u.man.session = some x →
    x.complete = true →
    (if u.commitQuorum then u.quorumUse 0 purposeRecovery else (u, none)) = (v, none) →
    exec (.recoveryCommit t ref false) s = .next (s.ends t r b i (fun _ => (({ w with
        man := { w.man with session := some { x with next := [false, false, false] } } } : State).emit (.flashErase 0)).emit (.flash 0 x.header)) (.done (fail .manifestDigest)))) ∧
  (∀ (s : State) (t : Tick) (ref : RecRef) (r : Rec) (b i : Bytes),
    let u := (s.begun t r b i).1
    Accepted s t ref 0x0113 r b i →
    b = [] →
    exec (.recoveryExit t ref) s = .next (s.ends t r b i (fun _ => { u with man := { u.man with session := none } }) (.reset {})))

/-- CAPTURE_START on a device that stands alone and captures nothing sets the spill limit and waits for the base point, or
answers BUSY where the capture memory cannot hold the base image (the configuration says which, the model's choice).
CAPTURE_STOP ends the capture and answers its record and byte counts. REPLAY_START with a capture ends it, notes the
last record to replay and asks for the barrier to REPLAY. REPLAY_STOP logs the result, answers position, first
divergence and their number, and ends with an internal reset. -/
def Obligations.CaptureAndReplayStartAndStop : Prop :=
  (∀ (s : State) (t : Tick) (ref : RecRef) (r : Rec) (b i : Bytes),
    let u := (s.begun t r b i).1
    Accepted s t ref 0x0A04 r b i →
    b.length = 8 →
    fld b 0 4 ≤ 4096 →
    fld b 4 4 ≤ 1 →
    u.rpl.capturing = false →
    (u.running.all fun x => x.stage != .base) = true →
    u.rpl.captured = false ∨ fld b 4 4 = 1 →
    u.captureAlone = true →
    exec (.captureStart t ref) s = .next (s.ends t r b i (fun _ => if Config.captureFits (fld b 0 4) then { u with rpl := { u.rpl with spillLimit := fld b 0 4 } } else u) (if Config.captureFits (fld b 0 4) then .wait .base {} else .done (fail .busy)))) ∧
  (∀ (s : State) (t : Tick) (ref : RecRef) (r : Rec) (b i : Bytes),
    let u := (s.begun t r b i).1
    Accepted s t ref 0x0A05 r b i →
    b = [] →
    exec (.captureStop t ref) s = .next (s.ends t r b i (fun _ => u.stopCapture false) (.done { body := natLE 4 u.rpl.records ++ zeros 4 ++ natLE 8 u.rpl.bytes }))) ∧
  (∀ (s : State) (t : Tick) (ref : RecRef) (r : Rec) (b i : Bytes),
    let u := (s.begun t r b i).1
    Accepted s t ref 0x0A06 r b i →
    b.length = 8 →
    zeroAt b 4 4 = true →
    u.rpl.capturing = true ∨ u.rpl.captured = true →
    u.captureAlone = true →
    exec (.replayStart t ref) s = .next (s.ends t r b i (fun _ => ({ u.stopCapture false with
        rpl := { (u.stopCapture false).rpl with last := fld b 0 4 } } : State).askBarrier .replay (.command r.ref)) (.wait .barrier {}))) ∧
  (∀ (s : State) (t : Tick) (ref : RecRef) (r : Rec) (b i : Bytes),
    let u := (s.begun t r b i).1
    Accepted s t ref 0x0A07 r b i →
    b = [] →
    exec (.replayStop t ref) s = .next (s.ends t r b i (fun _ => u.replayEnded) (.reset { body := natLE 4 u.rpl.position ++ natLE 4 u.rpl.diverge ++ natLE 4 u.rpl.divergences ++ zeros 4 })))

/-- LOG_FREEZE for 1 to 10,000,000 ticks of a log that is not frozen sets the freeze to end then and answers the next
number. LOG_THAW ends a freeze and answers how many entries were held and counted, and answers zeros where none
stands. LOG_EXPORT reads up to 256 entries from a number on and has a big-number lane sign them with the device
identity; it reads all of them as it starts (the model's choice, log entry 16). -/
def Obligations.TheLogFreezesThawsAndExports : Prop :=
  (∀ (s : State) (t : Tick) (ref : RecRef) (r : Rec) (b i : Bytes),
    let u := (s.begun t r b i).1
    Accepted s t ref 0x0A01 r b i →
    b.length = 8 →
    0 < fld b 0 4 →
    fld b 0 4 ≤ 10000000 →
    zeroAt b 4 4 = true →
    u.log.frozen = false →
    exec (.logFreeze t ref) s = .next (s.ends t r b i (fun _ => { u with
        log := { u.log with freeze := some (u.tick + fld b 0 4) } }) (.done { body := natLE 8 u.log.next }))) ∧
  (∀ (s : State) (t : Tick) (ref : RecRef) (r : Rec) (b i : Bytes) (x : Tick),
    let u := (s.begun t r b i).1
    Accepted s t ref 0x0A02 r b i →
    b = [] →
    u.log.freeze = some x →
    exec (.logThaw t ref) s = .next (s.ends t r b i (fun _ => u.endFreeze) (.done { body := natLE 2 u.log.held.length ++ zeros 2 ++ natLE 4 u.log.counted }))) ∧
  (∀ (s : State) (t : Tick) (ref : RecRef) (r : Rec) (b i : Bytes),
    let u := (s.begun t r b i).1
    Accepted s t ref 0x0A02 r b i →
    b = [] →
    u.log.freeze = none →
    exec (.logThaw t ref) s = .next (s.ends t r b i id (.done { body := zeros 8 }))) ∧
  (∀ (s : State) (t : Tick) (ref : RecRef) (r : Rec) (b i : Bytes) (w : State) (d : Bytes),
    let u := (s.begun t r b i).1
    let es := w.log.from (fld b 0 8) (fld b 8 2)
    Accepted s t ref 0x0A03 r b i →
    b.length = 48 →
    0 < fld b 8 2 →
    fld b 8 2 ≤ 256 →
    zeroAt b 0xA 6 = true →
    u.laneAny .bigNumber = true →
    u.random 56 = some (w, d) →
    exec (.logExport t ref) s = .next (s.ends t r b i (fun _ => { w with
        log := { w.log with exports := w.log.exports + 1, exportFreeze := w.log.freeze.isNone } }) (.job .bigNumber (curveCycles 1600 6) [] { body := natLE 2 es.length ++ zeros 6 ++ natLE 8 ((es.getLast?.map fun e => e.seq + 1).getD (fld b 0 8)), out := w.exportBytes es (sub b 0x10 32) ++ w.identitySig (sha384 (w.exportBytes es (sub b 0x10 32))) d })))

/-- With its fields in range, its parent resolved and room below it, KEY_GENERATE draws the material and KEY_IMPORT
unwraps it; both write a new slot and directory entry and answer handle and check value. KEY_EXPORT of an exportable
key answers it wrapped. KEY_GREEN links a drawn or unwrapped green key and answers its check value. KEY_SEASON seasons
a green key that passes its test and fells one that fails it, with KEY_GREEN_MISMATCH. KEY_FELL fells the green key
alone, or the handle's keys with its entry. KEY_INFO answers the attributes and KH1_MAP_SET sets the entries asked. -/
def Obligations.KeyCommandsMakeMoveAndFellKeys : Prop :=
  (∀ (s : State) (t : Tick) (ref : RecRef) (r : Rec) (b i : Bytes) (v w : State) (p : Parent) (lv l h : Nat) (m : Bytes) (cs : List Change),
    let u := (s.begun t r b i).1
    let k : NewKey := { type := fld b 4 1, bits := fld b 8 2, usage := BitVec.ofNat 16 (fld b 6 2), owner := r.tenant, parent := p, level := l, exportable := fld b 10 2 == 1, limitClass := fld b 5 1, plain := m }
    Accepted s t ref 0x0201 r b i →
    b.length = 16 →
    fld b 6 2 < 2 ^ 15 →
    fld b 10 2 ≤ 1 →
    fld b 5 1 ≤ 63 →
    zeroAt b 0x0C 4 = true →
    u.classDefined (fld b 5 1) = true →
    fld b 4 1 < 0x10 →
    typeOk (fld b 4 1) (fld b 8 2) = true →
    u.parentOf r.tenant (fld b 0 4) = (v, .ok (p, lv)) →
    childLevel (fld b 4 1) lv = some l →
    v.random (fld b 8 2 / 8) = some (w, m) →
    w.newKey k = some (h, cs) →
    exec (.keyGenerate t ref) s = .next (s.ends t r b i (fun _ => w) (.done (keyResult h (checkValue (fld b 4 1) m) cs)))) ∧
  (∀ (s : State) (t : Tick) (ref : RecRef) (r : Rec) (b i : Bytes) (v w x y : State) (p : Parent) (lv l j h : Nat) (m e g : Bytes) (q : Nat × Nat) (cs : List Change),
    let u := (s.begun t r b i).1
    Accepted s t ref 0x0202 r b i →
    fld b 10 2 < 2 ^ 15 →
    fld b 14 2 ≤ 1 →
    fld b 9 1 ≤ 63 →
    varItem b 0x20 = (e, true) →
    zeroAt b 0x11 7 = true →
    u.classDefined (fld b 9 1) = true →
    fld b 0x10 1 = 0 ∨ fld b 0x10 1 = checkLen (fld b 8 1) →
    typeOk (fld b 8 1) (fld b 12 2) = true →
    u.parentOf r.tenant (fld b 0 4) = (v, .ok (p, lv)) →
    childLevel (fld b 8 1) lv = some l →
    v.resolve (some r.tenant) (fld b 4 4) { fits := fun x => pairOk x (fld b 8 1), use := fun _ => useBit 7, units := some (units (ceilDiv e.length 8)) } = (w, .ok j) →
    w.material j = .ok m →
    unwrapped (fld b 8 1) (fld b 12 2) (w.slot j) m e = .ok g →
    fld b 0x10 1 = 0 ∨ (checkValue (fld b 8 1) g).take (fld b 0x10 1) = sub b 0x18 (fld b 0x10 1) →
    (if fld b 8 1 = 0x10 then ((w.random (fld b 12 2 / 8)).map fun d => (d.1, blindPair g d.2)) else some (w, (0, 0))) = some (x, q) →
    x.newKey { type := fld b 8 1, bits := fld b 12 2, usage := BitVec.ofNat 16 (fld b 10 2), owner := r.tenant, parent := p, level := l, exportable := fld b 14 2 == 1, limitClass := fld b 9 1, plain := g, blinding := q } = some (h, cs) →
    exec (.keyImport t ref) s = .next (s.ends t r b i (fun _ => x) (.done (keyResult h (checkValue (fld b 8 1) g) cs)))) ∧
  (∀ (s : State) (t : Tick) (ref : RecRef) (r : Rec) (b i : Bytes) (v w : State) (k j : Nat) (m e : Bytes),
    let c := s.cmd t r b i
    let u := (s.begun t r b i).1
    let o := wrapKey (w.slot j).type e m
    Accepted s t ref 0x0203 r b i →
    b.length = 8 →
    u.resolve (some r.tenant) (fld b 0 4) { use := fun _ => useBit 14 } = (v, .ok k) →
    (v.slot k).exportable = true →
    v.material k = .ok m →
    v.resolve (some r.tenant) (fld b 4 4) { fits := fun x => pairOk x (v.slot k).type, use := fun _ => useBit 6, units := some (units (ceilDiv m.length 8)) } = (w, .ok j) →
    w.material j = .ok e →
    exec (.keyExport t ref) s = .next (s.ends t r b i (fun _ => w) (spaced c { body := natLE 4 o.length ++ o ++ zeros (pad4 o.length) }))) ∧
  (∀ (s : State) (t : Tick) (ref : RecRef) (r : Rec) (b i : Bytes) (v w : State) (k g : Nat) (m : Bytes) (y : Slot) (cs : List Change),
    let u := (s.begun t r b i).1
    let x := v.slot k
    Accepted s t ref 0x0204 r b i →
    varItem b 0x0C = ([], true) →
    fld b 4 1 = 0 →
    zeroAt b 5 3 = true →
    fld b 8 4 = 0 →
    u.resolve (some r.tenant) (fld b 0 4) { fits := fun x => !x.bound } = (v, .ok k) →
    (v.ahead.dirEntry (hIndex (fld b 0 4))).greenLinked = false →
    v.random (x.keyBits / 8) = some (w, m) →
    w.newSlot { type := x.type, bits := x.keyBits, usage := x.usage, owner := x.owner, parent := x.parent, level := x.level, exportable := x.exportable, limitClass := x.limitClass, plain := m, state := .green } = some (g, y, cs) →
    exec (.keyGreen t ref) s = .next (s.ends t r b i (fun _ => w) (.done { body := checkValue x.type m, changes := cs ++ [.directory (hIndex (fld b 0 4)) { w.ahead.dirEntry (hIndex (fld b 0 4)) with
        greenLinked := true,
        greenSlot := g,
        greenGen := y.generation }] }))) ∧
  (∀ (s : State) (t : Tick) (ref : RecRef) (r : Rec) (b i : Bytes) (v w : State) (k j g : Nat) (e q m : Bytes) (y : Slot) (cs : List Change),
    let u := (s.begun t r b i).1
    let x := v.slot k
    Accepted s t ref 0x0204 r b i →
    varItem b 0x0C = (e, true) →
    fld b 4 1 = 1 →
    zeroAt b 5 3 = true →
    u.resolve (some r.tenant) (fld b 0 4) { fits := fun x => !x.bound } = (v, .ok k) →
    (v.ahead.dirEntry (hIndex (fld b 0 4))).greenLinked = false →
    v.resolve (some r.tenant) (fld b 8 4) { fits := fun z => pairOk z x.type, use := fun _ => useBit 7, units := some (units (ceilDiv e.length 8)) } = (w, .ok j) →
    w.material j = .ok q →
    unwrapped x.type x.keyBits (w.slot j) q e = .ok m →
    w.newSlot { type := x.type, bits := x.keyBits, usage := x.usage, owner := x.owner, parent := x.parent, level := x.level, exportable := x.exportable, limitClass := x.limitClass, plain := m, state := .green } = some (g, y, cs) →
    exec (.keyGreen t ref) s = .next (s.ends t r b i (fun _ => w) (.done { body := checkValue x.type m, changes := cs ++ [.directory (hIndex (fld b 0 4)) { w.ahead.dirEntry (hIndex (fld b 0 4)) with
        greenLinked := true,
        greenSlot := g,
        greenGen := y.generation }] }))) ∧
  (∀ (s : State) (t : Tick) (ref : RecRef) (r : Rec) (b i : Bytes) (v a : State) (k g : Nat),
    let u := (s.begun t r b i).1
    let e := v.ahead.dirEntry (hIndex (fld b 0 4))
    let m := (v.ahead.slot g).material
    let pass := (if fld b 4 1 = 1 then (checkValue (v.slot k).type m).take (fld b 5 1) == sub b 8 (fld b 5 1) else knownAnswer (v.slot k).type m (sub b 0x10 16) (sub b 0x20 16) : Bool)
    Accepted s t ref 0x0205 r b i →
    b.length = 0x30 →
    fld b 4 1 = 1 ∨ fld b 4 1 = 2 →
    zeroAt b 6 2 = true →
    u.resolve (some r.tenant) (fld b 0 4) { fits := fun x => !x.bound } = (v, .ok k) →
    fld b 5 1 = (if fld b 4 1 = 1 then checkLen (v.slot k).type else 0) →
    e.greenLinked = true →
    v.ahead.gated e.greenSlot e.greenGen {} = (a, .ok g) →
    exec (.keySeason t ref) s = .next (s.ends t r b i (fun _ => v) (.done (if pass then { changes := v.seasonChanges (hIndex (fld b 0 4)) } else { failD .keyGreenMismatch 0 with
        changes := v.fellGreen (hIndex (fld b 0 4)) })))) ∧
  (∀ (s : State) (t : Tick) (ref : RecRef) (r : Rec) (b i : Bytes) (v : State) (k : Nat),
    let u := (s.begun t r b i).1
    Accepted s t ref 0x0206 r b i →
    b.length = 8 →
    fld b 4 4 = 1 →
    hKind (fld b 0 4) ≠ 2 →
    u.resolve (some r.tenant) (fld b 0 4) {} = (v, .ok k) →
    (v.ahead.dirEntry (hIndex (fld b 0 4))).greenLinked = true →
    exec (.keyFell t ref) s = .next (s.ends t r b i (fun _ => v) (.done { changes := v.fellGreen (hIndex (fld b 0 4)) }))) ∧
  (∀ (s : State) (t : Tick) (ref : RecRef) (r : Rec) (b i : Bytes) (v : State) (k : Nat),
    let u := (s.begun t r b i).1
    let e := v.ahead.dirEntry (hIndex (fld b 0 4))
    Accepted s t ref 0x0206 r b i →
    b.length = 8 →
    fld b 4 4 = 0 →
    hKind (fld b 0 4) ≠ 2 →
    u.resolve (some r.tenant) (fld b 0 4) {} = (v, .ok k) →
    exec (.keyFell t ref) s = .next (s.ends t r b i (fun _ => v) (.done { changes := v.ahead.fellSlot e.standing ++ (if e.greenLinked then v.ahead.fellSlot e.greenSlot else []) ++ [.directory (hIndex (fld b 0 4)) { dtag := e.dtag }] }))) ∧
  (∀ (s : State) (t : Tick) (ref : RecRef) (r : Rec) (b i : Bytes) (v : State) (k : Nat) (m : Bytes),
    let u := (s.begun t r b i).1
    let x := v.slot k
    let e := v.dirEntry (hIndex (fld b 0 4))
    Accepted s t ref 0x0207 r b i →
    b.length = 4 →
    u.resolve (some r.tenant) (fld b 0 4) {} = (v, .ok k) →
    v.material k = .ok m →
    exec (.keyInfo t ref) s = .next (s.ends t r b i (fun _ => v) (.done { body := natLE 1 x.type ++ natLE 1 x.limitClass ++ natLE 2 x.keyBits ++ natLE 2 x.usage.toNat ++ natLE 1 x.level ++ natLE 1 2 ++ natLE 2 x.generation ++ natLE 2 ((if x.exportable then 1 else 0) + (if e.greenLinked then 2 else 0) + (if x.bound then 4 else 0)) ++ zeros 4 ++ natLE 8 x.counter ++ natLE 8 (v.limit x) ++ checkValue x.type m }))) ∧
  (∀ (s : State) (t : Tick) (ref : RecRef) (r : Rec) (b i : Bytes),
    Accepted s t ref 0x0208 r b i →
    0 < fld b 2 2 →
    fld b 2 2 ≤ 1024 →
    fld b 0 2 + fld b 2 2 ≤ 4096 →
    b.length = 4 + 4 * fld b 2 2 →
    exec (.kh1MapSet t ref) s = .next (s.ends t r b i id (.done { changes := (List.range (fld b 2 2)).map fun k => .kh1 r.tenant (fld b 0 2 + k) (fld b (4 + 4 * k) 4) })))

/-- CELLAR_EXPORT writes the tenant's image under its trunk with the next image generation and marks it pending, or
confirms the last one. CELLAR_RESTORE of an image whose head, generation, tag and entries are accepted, whose slots
are free, and which is of this device or allowed by the restore quorum writes its slots, entries and map. TRUNK_IMPORT
with the trunk quorum writes an absent record with the next generation, logs it and closes the share set;
TRUNK_REPLACE rewraps what lies below a present record and answers the new image; DOMAIN_ROOT_SET does the one or the
other to record 0. -/
def Obligations.TrunksAndCellarImagesMoveAsTheCellarSays : Prop :=
  (∀ (s : State) (t : Tick) (ref : RecRef) (r : Rec) (b i : Bytes),
    let c := s.cmd t r b i
    let u := (s.begun t r b i).1
    let k := u.ahead.keyRec r.tenant
    let g := u.cellarImage r.tenant (k.imageGen + 1) k.material
    Accepted s t ref 0x0209 r b i →
    b.length = 8 →
    fld b 0 4 ≤ 1 →
    zeroAt b 4 4 = true →
    k.present = true →
    exec (.cellarExport t ref) s = .next (s.ends t r b i id (spaced c { body := natLE 4 (k.imageGen + 1) ++ zeros 4 ++ natLE 8 g.length, out := g, changes := [.keyRecord r.tenant { k with imageGen := k.imageGen + 1, imagePending := true }] }))) ∧
  (∀ (s : State) (t : Tick) (ref : RecRef) (r : Rec) (b i : Bytes),
    let u := (s.begun t r b i).1
    let k := u.ahead.keyRec r.tenant
    Accepted s t ref 0x0209 r b i →
    b.length = 8 →
    2 ≤ fld b 0 4 →
    fld b 0 4 ≤ 3 →
    zeroAt b 4 4 = true →
    k.present = true →
    exec (.cellarExport t ref) s = .next (s.ends t r b i id (.done { body := natLE 4 k.imageGen ++ zeros 4 ++ natLE 8 0, changes := [.keyRecord r.tenant { k with imagePending := false }] }))) ∧
  (∀ (s : State) (t : Tick) (ref : RecRef) (r : Rec) (b i : Bytes) (v : State) (p : Bytes) (l : List (Nat × Bytes)),
    let u := (s.begun t r b i).1
    let k := u.keyRec r.tenant
    let es := parseEntries p (fld i 0x18 4)
    Accepted s t ref 0x020A r b i →
    b.length = 8 →
    zeroAt b 0 8 = true →
    imageHeadOk i r.tenant = true →
    k.present = true →
    k.generation = fld i 0x14 2 →
    imageGenOk k (fld i 0x10 4) = none →
    (if (fld i 8 8 = u.otp.serial ∨ (fld i 8 8 ≠ 0 ∧ fld i 8 8 = u.twinSerial)) ∧ ¬(k.imageGen == 0) = true then v = u else u.quorumUse r.tenant purposeRestore = (v, none)) →
    gcmOpen (imageKey k.material r.tenant (fld i 0x10 4)) (natLE 4 (fld i 0x10 4) ++ zeros 8) (sub i 0 0x40) ((i.drop 0x40).take (i.length - 0x50)) (i.drop (i.length - 16)) = some p →
    p.length = 160 * fld i 0x18 4 + fld i 0x1C 4 + fld i 0x20 4 →
    parseBlobs (fld i 0x1C 4 / 8) (sub p (160 * fld i 0x18 4) (fld i 0x1C 4)) = some l →
    imageOk r.tenant k.generation es l = true →
    (es.any fun e => (v.ahead.dirEntry e.index).valid) = false →
    ((entrySlots es).any fun x => decide ((v.ahead.slot x.1).state ≠ .free)) = false →
    (v.freeBlob (l.map fun x => x.2.length).sum).isNone = false →
    exec (.cellarRestore t ref) s = .next (s.ends t r b i (fun _ => v) (.done { body := natLE 4 (fld i 0x10 4) ++ natLE 4 (entrySlots es).length, changes := v.restoreChanges r.tenant (fld i 0x10 4) es l (p.drop (160 * fld i 0x18 4 + fld i 0x1C 4)) }))) ∧
  (∀ (s : State) (t : Tick) (ref : RecRef) (r : Rec) (b i : Bytes) (v w : State) (m : Bytes),
    let c := s.cmd t r b i
    let u := (s.begun t r b i).1
    Accepted s t ref 0x020B r b i →
    trunkBody b = true →
    u.quorumUse r.tenant purposeTrunk = (v, none) →
    (v.keyRec r.tenant).present = false →
    (if fld b 0 1 = 0 then v.random 32 else (v.heldTrunk c).map fun m => (v.dropRound c, m)) = some (w, m) →
    exec (.trunkImport t ref) s = .next (s.ends t r b i (fun _ => w.logEvent 0x0301 .notice islWarden 0x100 .ok [r.tenant, ((w.keyRec r.tenant).generation + 1) % 65536]) (.done { changes := (.keyRecord r.tenant { w.keyRec r.tenant with
        material := m,
        present := true,
        generation := ((w.keyRec r.tenant).generation + 1) % 65536 } :: w.closeSet r.tenant) }))) ∧
  (∀ (s : State) (t : Tick) (ref : RecRef) (r : Rec) (b i : Bytes) (v w : State) (m : Bytes),
    let c := s.cmd t r b i
    let u := (s.begun t r b i).1
    let k := v.keyRec r.tenant
    let g := (w.ahead.applyAll (w.replaceTrunk r.tenant m)).cellarImage r.tenant (k.imageGen + 1) m
    Accepted s t ref 0x020C r b i →
    trunkBody b = true →
    u.quorumUse r.tenant purposeTrunk = (v, none) →
    k.present = true →
    (if fld b 0 1 = 0 then v.random 32 else (v.heldTrunk c).map fun m => (v.dropRound c, m)) = some (w, m) →
    spaceFail c 16 g.length = none →
    exec (.trunkReplace t ref) s = .next (s.ends t r b i (fun _ => w.logEvent 0x0301 .notice islWarden 0x100 .ok [r.tenant, k.generation]) (.done { body := natLE 4 (k.imageGen + 1) ++ zeros 4 ++ natLE 8 g.length, out := g, changes := (w.replaceTrunk r.tenant m ++ [.keyRecord r.tenant { k with
        material := m,
        imageGen := k.imageGen + 1,
        imagePending := true }] ++ w.closeSet r.tenant) }))) ∧
  (∀ (s : State) (t : Tick) (ref : RecRef) (r : Rec) (b i : Bytes) (v w : State) (m : Bytes),
    let c := s.cmd t r b i
    let u := (s.begun t r b i).1
    Accepted s t ref 0x020D r b i →
    trunkBody b = true →
    u.quorumUse 0 purposeTrunk = (v, none) →
    (v.keyRec 0).present = false →
    (if fld b 0 1 = 0 then v.random 32 else (v.heldTrunk c).map fun m => (v.dropRound c, m)) = some (w, m) →
    exec (.domainRootSet t ref) s = .next (s.ends t r b i (fun _ => w.logEvent 0x0301 .notice islWarden 0x100 .ok [r.tenant, ((w.keyRec 0).generation + 1) % 65536]) (.done { changes := (.keyRecord 0 { w.keyRec 0 with
        material := m,
        present := true,
        generation := ((w.keyRec 0).generation + 1) % 65536 } :: w.closeSet 0) }))) ∧
  (∀ (s : State) (t : Tick) (ref : RecRef) (r : Rec) (b i : Bytes) (v w : State) (m : Bytes),
    let c := s.cmd t r b i
    let u := (s.begun t r b i).1
    let x := (w.logEvent 0x0301 .notice islWarden 0x100 .ok [r.tenant, (w.keyRec 0).generation] : State)
    Accepted s t ref 0x020D r b i →
    trunkBody b = true →
    u.quorumUse 0 purposeTrunk = (v, none) →
    (v.keyRec 0).present = true →
    (if fld b 0 1 = 0 then v.random 32 else (v.heldTrunk c).map fun m => (v.dropRound c, m)) = some (w, m) →
    exec (.domainRootSet t ref) s = .next (s.ends t r b i (fun _ => x) (.done { changes := x.replaceTrunk 0 m ++ x.closeSet 0 })))

/-- With a body that obeys its layout, keys that resolve for the mode's types, usage and units, and lengths, counter and
key parts that pass, each of these answers a cipher-lane job that holds the keys latched, with the cycles of Table 8-3
and the result of the mode: output and iv_out, the MAC, OK or VERIFY_FAILED. GCM encryption with iv_source 1 draws its
IV. The KH-1 functions find their key by its number and give the output, or the first 8 bytes of the MAC, in the data
field. -/
def Obligations.CiphersAndMacsRunOnALane : Prop :=
  (∀ (s : State) (t : Tick) (ref : RecRef) (r : Rec) (b i : Bytes) (v w : State) (k : Nat) (p : CipherReq),
    let u := (s.begun t r b i).1
    let q := parseCipher b true i
    let x := v.slot k
    Accepted s t ref 0x0301 r b i →
    cipherBodyOk b q = true →
    q.mode ≠ 5 →
    u.resolve (some r.tenant) q.handle { fits := modeFits q.mode, use := fun _ => modeUse q.mode q.enc, units := some (units (ceilDiv q.data.length 8)) } = (v, .ok k) →
    (if q.mode = 4 ∧ q.enc = true ∧ q.ivSource = 1 then (v.random 12).map fun d => (d.1, { q with iv := d.2 }) else some (v, q)) = some (w, p) →
    cipherCheck p x x.material [] = none →
    exec (.encrypt t ref) s = .next (s.ends t r b i (fun _ => w) (.job .cipher (cipherCycles p.mode p.enc x p.aadLen ((if p.mode = 4 then gcmLen p else none).getD p.data.length) p.unitLen) [k] (cipherRun p x x.material [])))) ∧
  (∀ (s : State) (t : Tick) (ref : RecRef) (r : Rec) (b i : Bytes) (v w : State) (k j : Nat),
    let u := (s.begun t r b i).1
    let q := parseCipher b true i
    let x := w.slot k
    Accepted s t ref 0x0301 r b i →
    cipherBodyOk b q = true →
    q.mode = 5 →
    u.resolve (some r.tenant) q.handle { fits := modeFits q.mode, use := fun _ => modeUse q.mode q.enc, units := some (units (ceilDiv q.data.length 8)) } = (v, .ok k) →
    v.resolve (some r.tenant) q.handleB { fits := fun y => modeFits 5 y && y.type == (v.slot k).type, use := fun _ => modeUse q.mode q.enc, units := some (units (ceilDiv q.data.length 8)) } = (w, .ok j) →
    cipherCheck q x x.material (w.slot j).material = none →
    exec (.encrypt t ref) s = .next (s.ends t r b i (fun _ => w) (.job .cipher (cipherCycles q.mode q.enc x q.aadLen q.data.length q.unitLen) [k, j] (cipherRun q x x.material (w.slot j).material)))) ∧
  (∀ (s : State) (t : Tick) (ref : RecRef) (r : Rec) (b i : Bytes) (v w : State) (k : Nat) (p : CipherReq),
    let u := (s.begun t r b i).1
    let q := parseCipher b false i
    let x := v.slot k
    Accepted s t ref 0x0302 r b i →
    cipherBodyOk b q = true →
    q.mode ≠ 5 →
    u.resolve (some r.tenant) q.handle { fits := modeFits q.mode, use := fun _ => modeUse q.mode q.enc, units := some (units (ceilDiv q.data.length 8)) } = (v, .ok k) →
    (if q.mode = 4 ∧ q.enc = true ∧ q.ivSource = 1 then (v.random 12).map fun d => (d.1, { q with iv := d.2 }) else some (v, q)) = some (w, p) →
    cipherCheck p x x.material [] = none →
    exec (.decrypt t ref) s = .next (s.ends t r b i (fun _ => w) (.job .cipher (cipherCycles p.mode p.enc x p.aadLen ((if p.mode = 4 then gcmLen p else none).getD p.data.length) p.unitLen) [k] (cipherRun p x x.material [])))) ∧
  (∀ (s : State) (t : Tick) (ref : RecRef) (r : Rec) (b i : Bytes) (v w : State) (k j : Nat),
    let u := (s.begun t r b i).1
    let q := parseCipher b false i
    let x := w.slot k
    Accepted s t ref 0x0302 r b i →
    cipherBodyOk b q = true →
    q.mode = 5 →
    u.resolve (some r.tenant) q.handle { fits := modeFits q.mode, use := fun _ => modeUse q.mode q.enc, units := some (units (ceilDiv q.data.length 8)) } = (v, .ok k) →
    v.resolve (some r.tenant) q.handleB { fits := fun y => modeFits 5 y && y.type == (v.slot k).type, use := fun _ => modeUse q.mode q.enc, units := some (units (ceilDiv q.data.length 8)) } = (w, .ok j) →
    cipherCheck q x x.material (w.slot j).material = none →
    exec (.decrypt t ref) s = .next (s.ends t r b i (fun _ => w) (.job .cipher (cipherCycles q.mode q.enc x q.aadLen q.data.length q.unitLen) [k, j] (cipherRun q x x.material (w.slot j).material)))) ∧
  (∀ (s : State) (t : Tick) (ref : RecRef) (r : Rec) (b i : Bytes) (v : State) (k : Nat),
    let u := (s.begun t r b i).1
    let x := v.slot k
    let m := (macOf (fld b 4 1) x.material i).take (fld b 5 1)
    Accepted s t ref 0x0303 r b i →
    macBody b false = true →
    u.resolve (some r.tenant) (fld b 0 4) { fits := fun x => if fld b 4 1 = 0x10 then isAes x else isTdea x, use := fun _ => useBit 2, units := some (units (ceilDiv i.length 8)) } = (v, .ok k) →
    (if fld b 4 1 = 0x10 then lenCheck i.length 0 (2 ^ 36) 1 else lenCheck i.length 8 (2 ^ 23) 8) = none →
    (isTdea x = true → tdeaDistinct x.material = true) →
    exec (.macGenerate t ref) s = .next (s.ends t r b i (fun _ => v) (.job .cipher (if fld b 4 1 = 0x10 then 4 + rk x + rk x * max 1 (ceilDiv i.length 16) else 4 + 16 * (i.length / 8 - 1) + 48) [k] { body := padTo 16 m }))) ∧
  (∀ (s : State) (t : Tick) (ref : RecRef) (r : Rec) (b i : Bytes) (v : State) (k : Nat),
    let u := (s.begun t r b i).1
    let x := v.slot k
    let m := (macOf (fld b 4 1) x.material i).take (fld b 5 1)
    Accepted s t ref 0x0304 r b i →
    macBody b true = true →
    u.resolve (some r.tenant) (fld b 0 4) { fits := fun x => if fld b 4 1 = 0x10 then isAes x else isTdea x, use := fun _ => useBit 3, units := some (units (ceilDiv i.length 8)) } = (v, .ok k) →
    (if fld b 4 1 = 0x10 then lenCheck i.length 0 (2 ^ 36) 1 else lenCheck i.length 8 (2 ^ 23) 8) = none →
    (isTdea x = true → tdeaDistinct x.material = true) →
    exec (.macVerify t ref) s = .next (s.ends t r b i (fun _ => v) (.job .cipher (if fld b 4 1 = 0x10 then 4 + rk x + rk x * max 1 (ceilDiv i.length 16) else 4 + 16 * (i.length / 8 - 1) + 48) [k] (if m = (sub b 8 16).take (fld b 5 1) then {} else fail .verifyFailed)))) ∧
  (∀ (s : State) (t : Tick) (ref : RecRef) (r : Rec) (b i : Bytes) (v w : State) (k j : Nat),
    let u := (s.begun t r b i).1
    let x := w.slot k
    let y := w.slot j
    let p := (cipherRun { handle := 0, mode := fld b 8 1, enc := false, iv := sub b 0x10 16, data := i } x x.material []).out
    let o := (cipherRun { handle := 0, mode := fld b 9 1, enc := true, iv := sub b 0x20 16, data := p } y y.material []).out
    Accepted s t ref 0x0305 r b i →
    b.length = 0x30 →
    1 ≤ fld b 8 1 →
    fld b 8 1 ≤ 2 →
    1 ≤ fld b 9 1 →
    fld b 9 1 ≤ 2 →
    zeroAt b 0xA 6 = true →
    (fld b 8 1 = 1 → zeroAt b 0x10 16 = true) →
    (fld b 9 1 = 1 → zeroAt b 0x20 16 = true) →
    u.resolve (some r.tenant) (fld b 0 4) { fits := modeFits (fld b 8 1), use := fun _ => useBit 1, units := some (units (ceilDiv i.length 8)) } = (v, .ok k) →
    v.resolve (some r.tenant) (fld b 4 4) { fits := modeFits (fld b 9 1), use := fun _ => useBit 0, units := some (units (ceilDiv i.length 8)) } = (w, .ok j) →
    lenCheck i.length (max (lenRule (fld b 8 1) false (isTdea x) 16).1 (lenRule (fld b 9 1) true (isTdea y) 16).1) (min (lenRule (fld b 8 1) false (isTdea x) 16).2.1 (lenRule (fld b 9 1) true (isTdea y) 16).2.1) (max (lenRule (fld b 8 1) false (isTdea x) 16).2.2 (lenRule (fld b 9 1) true (isTdea y) 16).2.2) = none →
    (isTdea x = true → tdeaDistinct x.material = true ∧ zeroAt b 0x18 8 = true) →
    (isTdea y = true → tdeaDistinct y.material = true ∧ zeroAt b 0x28 8 = true) →
    exec (.translate t ref) s = .next (s.ends t r b i (fun _ => w) (.job .cipher (setupCycles x false + setupCycles y true + blockCycles x i.length + blockCycles y i.length) [k, j] { body := padTo 16 (o.drop (o.length - if isTdea y then 8 else 16)), out := o }))) ∧
  (∀ (s : State) (t : Tick) (ref : RecRef) (r : Rec) (b i : Bytes) (v : State) (h k : Nat),
    let c := s.cmd t r b i
    let u := (s.begun t r b i).1
    let d := sub b 0x40 (beNat (sub b 0x0E 2))
    let n := (if kh1Mod c = 1 then u.ivLen r.tenant h else 0 : Nat)
    let q : CipherReq := { handle := h, mode := kh1Mod c + 1, enc := true, iv := padTo 16 (d.take n), data := d.drop n }
    let x := v.slot k
    let o := cipherRun q x x.material []
    Accepted s t ref 0x10010 r b i →
    beNat (sub b 0x0E 2) ≤ 176 →
    u.kh1Handle r.tenant (beNat (sub b 8 2)) = some h →
    kh1Mod c ≤ 1 →
    u.resolve (some r.tenant) h { fits := modeFits q.mode, use := fun _ => modeUse q.mode q.enc, units := some (units (ceilDiv q.data.length 8)) } = (v, .ok k) →
    cipherCheck q x x.material [] = none →
    exec (.encipher t ref) s = .next (s.ends t r b i (fun _ => v) (.job .cipher (cipherCycles q.mode q.enc x 0 q.data.length 16) [k] { o with
        out := if o.status = .ok then o.out else [],
        body := [] }))) ∧
  (∀ (s : State) (t : Tick) (ref : RecRef) (r : Rec) (b i : Bytes) (v : State) (h k : Nat),
    let c := s.cmd t r b i
    let u := (s.begun t r b i).1
    let d := sub b 0x40 (beNat (sub b 0x0E 2))
    let n := (if kh1Mod c = 1 then u.ivLen r.tenant h else 0 : Nat)
    let q : CipherReq := { handle := h, mode := kh1Mod c + 1, enc := false, iv := padTo 16 (d.take n), data := d.drop n }
    let x := v.slot k
    let o := cipherRun q x x.material []
    Accepted s t ref 0x10011 r b i →
    beNat (sub b 0x0E 2) ≤ 176 →
    u.kh1Handle r.tenant (beNat (sub b 8 2)) = some h →
    kh1Mod c ≤ 1 →
    u.resolve (some r.tenant) h { fits := modeFits q.mode, use := fun _ => modeUse q.mode q.enc, units := some (units (ceilDiv q.data.length 8)) } = (v, .ok k) →
    cipherCheck q x x.material [] = none →
    exec (.decipher t ref) s = .next (s.ends t r b i (fun _ => v) (.job .cipher (cipherCycles q.mode q.enc x 0 q.data.length 16) [k] { o with
        out := if o.status = .ok then o.out else [],
        body := [] }))) ∧
  (∀ (s : State) (t : Tick) (ref : RecRef) (r : Rec) (b i : Bytes) (v : State) (h k : Nat),
    let c := s.cmd t r b i
    let u := (s.begun t r b i).1
    let d := sub b 0x40 (beNat (sub b 0x0E 2))
    let e := d
    let x := v.slot k
    let m := (macOf (kh1MacMode c) x.material e).take 8
    Accepted s t ref 0x10020 r b i →
    beNat (sub b 0x0E 2) ≤ 176 →
    u.kh1Handle r.tenant (beNat (sub b 8 2)) = some h →
    kh1Mod c ≤ 1 →
    u.resolve (some r.tenant) h { fits := fun x => if kh1MacMode c = 0x10 then isAes x else isTdea x, use := fun _ => useBit 2, units := some (units (ceilDiv e.length 8)) } = (v, .ok k) →
    (if kh1MacMode c = 0x10 then lenCheck e.length 0 (2 ^ 36) 1 else lenCheck e.length 8 (2 ^ 23) 8) = none →
    (isTdea x = true → tdeaDistinct x.material = true) →
    exec (.macGen t ref) s = .next (s.ends t r b i (fun _ => v) (.job .cipher (if kh1MacMode c = 0x10 then 4 + rk x + rk x * max 1 (ceilDiv e.length 16) else 4 + 16 * (e.length / 8 - 1) + 48) [k] { out := (padTo 16 m).take 8 }))) ∧
  (∀ (s : State) (t : Tick) (ref : RecRef) (r : Rec) (b i : Bytes) (v : State) (h k : Nat),
    let c := s.cmd t r b i
    let u := (s.begun t r b i).1
    let d := sub b 0x40 (beNat (sub b 0x0E 2))
    let e := d.take (d.length - 8)
    let x := v.slot k
    let m := (macOf (kh1MacMode c) x.material e).take 8
    Accepted s t ref 0x10021 r b i →
    beNat (sub b 0x0E 2) ≤ 176 →
    u.kh1Handle r.tenant (beNat (sub b 8 2)) = some h →
    kh1Mod c ≤ 1 →
    8 ≤ d.length →
    u.resolve (some r.tenant) h { fits := fun x => if kh1MacMode c = 0x10 then isAes x else isTdea x, use := fun _ => useBit 3, units := some (units (ceilDiv e.length 8)) } = (v, .ok k) →
    (if kh1MacMode c = 0x10 then lenCheck e.length 0 (2 ^ 36) 1 else lenCheck e.length 8 (2 ^ 23) 8) = none →
    (isTdea x = true → tdeaDistinct x.material = true) →
    exec (.macVer t ref) s = .next (s.ends t r b i (fun _ => v) (.job .cipher (if kh1MacMode c = 0x10 then 4 + rk x + rk x * max 1 (ceilDiv e.length 16) else 4 + 16 * (e.length / 8 - 1) + 48) [k] (if m = (d.drop (d.length - 8)).take 8 then {} else fail .verifyFailed))))

/-- GET_RANDOM of 1 to 4,096 bytes answers that many drawn bytes, with a reseed first where flag 0 asks for it; KH-1
RANDOM of 1 to 176 bytes answers them in the data field. The bytes are those the model's free source gives (log entry
7). -/
def Obligations.RandomBytesAreDrawnWhileTheDrbgIsHealthy : Prop :=
  (∀ (s : State) (t : Tick) (ref : RecRef) (r : Rec) (b i : Bytes) (w : State) (d : Bytes),
    let u := (s.begun t r b i).1
    Accepted s t ref 0x0601 r b i →
    b.length = 8 →
    0 < fld b 0 4 →
    fld b 0 4 ≤ 4096 →
    fld b 4 4 ≤ 1 →
    u.random (fld b 0 4) (fld b 4 4 == 1) = some (w, d) →
    exec (.getRandom t ref) s = .next (s.ends t r b i (fun _ => w) (.done { out := d }))) ∧
  (∀ (s : State) (t : Tick) (ref : RecRef) (r : Rec) (b i : Bytes) (w : State) (d : Bytes),
    let u := (s.begun t r b i).1
    Accepted s t ref 0x10050 r b i →
    0 < beNat (sub b 0x0E 2) →
    beNat (sub b 0x0E 2) ≤ 176 →
    u.random (beNat (sub b 0x0E 2)) = some (w, d) →
    exec (.random t ref) s = .next (s.ends t r b i (fun _ => w) (.done { out := d })))

/-- With a body that obeys its layout, a context that is free and fits, and a message within its limit, DIGEST and the
HMAC commands answer a digest-lane job of the blocks it compresses, with the context's change and the digest, MAC or
verification as its result; an HMAC uses the state cache, and its key stays latched. DIGEST_SAVE of a context at a
block boundary answers its sealed state blob, and DIGEST_RESTORE of a blob of this tenant whose tag holds, and whose
key stands as it did, opens the context again. -/
def Obligations.DigestsAndHmacsRunOnADigestLane : Prop :=
  (∀ (s : State) (t : Tick) (ref : RecRef) (r : Rec) (b i : Bytes),
    let u := (s.begun t r b i).1
    let q : DigestReq := { ctx := fld b 0 1, alg := fld b 1 1, final := fld b 2 1 == 1 }
    let j := ctxKey r.tenant q.ctx
    let old := (if q.ctx = oneShot then {} else u.ctx j : DigestCtx)
    let x := startCtx q old (shaInitial q.alg)
    Accepted s t ref 0x0401 r b i →
    b.length = 8 →
    q.ctx ≤ 15 ∨ q.ctx = oneShot →
    digestCodes.contains q.alg = true →
    fld b 2 1 ≤ 1 →
    zeroAt b 3 5 = true →
    u.ctxRefused q j = none →
    x.count + i.length ≤ digestMax q.alg →
    exec (.digest t ref) s = .next (s.ends t r b i id (.job .digest (digestCycles q.alg * digestBlocks q x 0 i.length) [] (digestResult q j old x 0 id i)))) ∧
  (∀ (s : State) (t : Tick) (ref : RecRef) (r : Rec) (b i : Bytes) (v w : State) (k : Nat) (m : Bytes) (hit : Bool),
    let u := (s.begun t r b i).1
    let q := parseHmac b false
    let j := ctxKey r.tenant q.ctx
    let p := hmacBlock q.alg m
    let old := (if q.ctx = oneShot then {} else w.ctx j : DigestCtx)
    let x := startCtx q old (absorbBlocks q.alg (shaInitial q.alg) (p.map (· ^^^ 0x36)))
    let f := fun d : Bytes => digestEnd q.alg (absorbBlocks q.alg (shaInitial q.alg) (p.map (· ^^^ 0x5C))) d (digestBlock q.alg + d.length)
    Accepted s t ref 0x0402 r b i →
    hmacBodyOk b q false = true →
    u.ctxRefused q j = none →
    u.resolve (some r.tenant) q.handle { fits := fun x => x.type == 5, use := fun _ => useBit 2, units := some fun _ => 1 } = (v, .ok k) →
    v.material k = .ok m →
    (if ((q.ctx != oneShot && (v.ctx j).phase == 1) && !q.ends) || !v.laneAny .digest then (v, true) else v.cacheUse k q.alg) = (w, hit) →
    digestBlock q.alg + x.count + i.length ≤ digestMax q.alg →
    exec (.hmacGenerate t ref) s = .next (s.ends t r b i (fun _ => w) (.job .digest (digestCycles q.alg * digestBlocks q x (digestBlock q.alg) i.length + ((if hit then 0 else missCycles q.alg m.length) + if q.ends then digestCycles q.alg else 0)) [k] (digestResult q j old x (digestBlock q.alg) f i)))) ∧
  (∀ (s : State) (t : Tick) (ref : RecRef) (r : Rec) (b i : Bytes) (v w : State) (k : Nat) (m : Bytes) (hit : Bool),
    let u := (s.begun t r b i).1
    let q := parseHmac b true
    let j := ctxKey r.tenant q.ctx
    let p := hmacBlock q.alg m
    let old := (if q.ctx = oneShot then {} else w.ctx j : DigestCtx)
    let x := startCtx q old (absorbBlocks q.alg (shaInitial q.alg) (p.map (· ^^^ 0x36)))
    let f := fun d : Bytes => digestEnd q.alg (absorbBlocks q.alg (shaInitial q.alg) (p.map (· ^^^ 0x5C))) d (digestBlock q.alg + d.length)
    Accepted s t ref 0x0403 r b i →
    hmacBodyOk b q true = true →
    u.ctxRefused q j = none →
    u.resolve (some r.tenant) q.handle { fits := fun x => x.type == 5, use := fun _ => useBit 3, units := some fun _ => 1 } = (v, .ok k) →
    v.material k = .ok m →
    (if ((q.ctx != oneShot && (v.ctx j).phase == 1) && !q.ends) || !v.laneAny .digest then (v, true) else v.cacheUse k q.alg) = (w, hit) →
    digestBlock q.alg + x.count + i.length ≤ digestMax q.alg →
    exec (.hmacVerify t ref) s = .next (s.ends t r b i (fun _ => w) (.job .digest (digestCycles q.alg * digestBlocks q x (digestBlock q.alg) i.length + ((if hit then 0 else missCycles q.alg m.length) + if q.ends then digestCycles q.alg else 0)) [k] (digestResult q j old x (digestBlock q.alg) f i)))) ∧
  (∀ (s : State) (t : Tick) (ref : RecRef) (r : Rec) (b i : Bytes) (v w : State) (g : Nat) (d : Bytes),
    let u := (s.begun t r b i).1
    let j := ctxKey r.tenant (fld b 0 1)
    let x := u.ctx j
    Accepted s t ref 0x0404 r b i →
    ctxBody b = true →
    u.ctxBusy j = false →
    x.phase ≠ 2 →
    x.tail = [] →
    (u.keyRec r.tenant).present = true →
    (if x.handle = 0 then v = u ∧ g = 0 else ∃ k, u.resolve (some r.tenant) x.handle {} = (v, .ok k) ∧ g = (v.slot k).generation) →
    v.random 12 = some (w, d) →
    exec (.digestSave t ref) s = .next (s.ends t r b i (fun _ => w) (.done { out := stateBlob (w.digestKey r.tenant) d r.tenant g x }))) ∧
  (∀ (s : State) (t : Tick) (ref : RecRef) (r : Rec) (b i : Bytes) (v : State) (m : Bytes),
    let u := (s.begun t r b i).1
    let j := ctxKey r.tenant (fld b 0 1)
    Accepted s t ref 0x0405 r b i →
    ctxBody b = true →
    u.ctxBusy j = false →
    (u.ctx j).phase ≠ 1 →
    i.length = 280 →
    sub i 0 4 = ascii "KHDS" →
    fld i 4 2 = 1 →
    zeroAt i 0xE 18 = true →
    zeroAt i 0x2C 4 = true →
    fld i 6 1 = r.tenant →
    (u.keyRec r.tenant).present = true →
    gcmOpen (u.digestKey r.tenant) (sub i 0x20 12) (i.take 0x30) (sub i 0x30 216) (sub i 0x108 16) = some m →
    (if fld i 8 4 = 0 then v = u else ∃ k, u.resolve (some r.tenant) (fld i 8 4) {} = (v, .ok k) ∧ (v.slot k).generation = fld i 0xC 2) →
    exec (.digestRestore t ref) s = .next (s.ends t r b i (fun _ => v) (.done { body := natLE 16 (fld m 0 16), changes := [.stream j { phase := 1, alg := fld i 7 1, handle := fld i 8 4, count := fld m 0 16, chain := (m.drop 16).take (chainLen (fld i 7 1)) }] })))

/-- With its fields in range, its key resolved and its buffers large enough, PK_SIGN answers a big-number job whose result
is the signature: RSA with the encoding of the scheme and the squared blinding pair, ECDSA with a drawn scalar and
zeros where r or s is zero, Ed25519 as the standard says. PK_VERIFY with a key by handle or inline, and a signature of
the scheme's length, answers a job whose status is the first row of Table 9-5 that applies, OK where the equation
holds, and VERIFY_FAILED otherwise. The job waits for no digest lane, but needs one powered where it hashes. -/
def Obligations.SignaturesAreMadeAndCheckedOnABigNumberLane : Prop :=
  (∀ (s : State) (t : Tick) (ref : RecRef) (r : Rec) (b i : Bytes) (v w : State) (k : Nat) (m d : Bytes),
    let c := s.cmd t r b i
    let u := (s.begun t r b i).1
    let q := parseSign b
    let em := if q.scheme = 1 then pkcs1Encode q.hash ((rsaPub m).bits / 8) (q.digest i) else pssEncode q.hash (rsaPub m).bits (q.digest i) d
    Accepted s t ref 0x0501 r b i →
    b.length = 8 →
    q.ok (fld b 7 1) = true →
    (q.prehashed = true → i.length = digestOut q.hash) →
    u.resolve (some r.tenant) q.handle { fits := privFits q.scheme, use := fun _ => useBit 4, units := some fun _ => 1 } = (v, .ok k) →
    v.material k = .ok m →
    q.scheme ≤ 2 →
    (rsaPub m).ok = true →
    (if q.scheme = 2 ∧ q.salt ≠ 0 then v.random q.salt else some (v, [])) = some (w, d) →
    spaceFail c 8 ((rsaPub m).bits / 8) = none →
    (q.hashes = true → w.laneAny .digest = true) →
    exec (.pkSign t ref) s = .next (s.ends t r b i (fun _ => w) (.job .bigNumber (rsaPrivCycles (lenClass (v.slot k).keyBits)) [k] { signResult (natBE ((rsaPub m).bits / 8) (rsaPrivate m (beNat em))) true with
        changes := w.squarePair k (rsaPub m).n }))) ∧
  (∀ (s : State) (t : Tick) (ref : RecRef) (r : Rec) (b i : Bytes) (v w : State) (k : Nat) (m d : Bytes) (e : Curve),
    let c := s.cmd t r b i
    let u := (s.begun t r b i).1
    let q := parseSign b
    let n := ceilDiv (bitLen e.n) 8
    let y := e.sign (fld m 8 (8 * lenClass (v.slot k).keyBits)) (q.digest i) (e.scalar d)
    Accepted s t ref 0x0501 r b i →
    b.length = 8 →
    q.ok (fld b 7 1) = true →
    (q.prehashed = true → i.length = digestOut q.hash) →
    u.resolve (some r.tenant) q.handle { fits := privFits q.scheme, use := fun _ => useBit 4, units := some fun _ => 1 } = (v, .ok k) →
    v.material k = .ok m →
    q.scheme = 3 →
    v.keyCurve r.tenant m (8 + 3 * (8 * lenClass (v.slot k).keyBits)) = some e →
    v.random (8 * lenClass (v.slot k).keyBits + 8) = some (w, d) →
    spaceFail c 8 (2 * n) = none →
    (q.hashes = true → w.laneAny .digest = true) →
    exec (.pkSign t ref) s = .next (s.ends t r b i (fun _ => w) (.job .bigNumber (curveCycles 1600 (lenClass (v.slot k).keyBits)) [k] (signResult (natBE n y.1 ++ natBE n y.2) (y.1 != 0 && y.2 != 0))))) ∧
  (∀ (s : State) (t : Tick) (ref : RecRef) (r : Rec) (b i : Bytes) (v : State) (k : Nat) (m : Bytes),
    let c := s.cmd t r b i
    let u := (s.begun t r b i).1
    let q := parseSign b
    Accepted s t ref 0x0501 r b i →
    b.length = 8 →
    q.ok (fld b 7 1) = true →
    (q.prehashed = true → i.length = digestOut q.hash) →
    u.resolve (some r.tenant) q.handle { fits := privFits q.scheme, use := fun _ => useBit 4, units := some fun _ => 1 } = (v, .ok k) →
    v.material k = .ok m →
    q.scheme = 4 →
    i.length ≤ 32768 →
    spaceFail c 8 64 = none →
    v.laneAny .digest = true →
    exec (.pkSign t ref) s = .next (s.ends t r b i (fun _ => v) (.job .bigNumber (curveCycles 1280 4) [k] (signResult (edSign (sub m 8 32) i) true)))) ∧
  (∀ (s : State) (t : Tick) (ref : RecRef) (r : Rec) (b i : Bytes) (v : State) (k : Bytes) (inl : Bool),
    let u := (s.begun t r b i).1
    let q := parseSign b
    let rest := if inl then i.drop k.length else i
    let sig := rest.take (fld b 8 4)
    let msg := rest.drop (fld b 8 4)
    Accepted s t ref 0x0502 r b i →
    b.length = 16 →
    q.ok (fld b 7 1) = true →
    (if fld b 0 4 = 0 then fld b 0xC 4 ≤ i.length ∧ inlineOk q.scheme u r.tenant (i.take (fld b 0xC 4)) = true ∧ v = u ∧ k = i.take (fld b 0xC 4) ∧ inl = true else fld b 0xC 4 = 0 ∧ inl = false ∧ ∃ j, u.resolve (some r.tenant) (fld b 0 4) { fits := pubFits q.scheme, use := fun _ => useBit 5, units := some fun _ => 1 } = (v, .ok j) ∧ v.material j = .ok k) →
    q.scheme ≤ 2 →
    (rsaPub k).ok = true →
    fld b 8 4 = (rsaPub k).bits / 8 →
    fld b 8 4 ≤ rest.length →
    (q.prehashed = true → msg.length = digestOut q.hash) →
    (q.hashes = true → v.laneAny .digest = true) →
    exec (.pkVerify t ref) s = .next (s.ends t r b i (fun _ => v) (.job .bigNumber (rsaPubCycles (lenClass (rsaPub k).bits)) [] (fail (verifyStatus q none inl k sig msg))))) ∧
  (∀ (s : State) (t : Tick) (ref : RecRef) (r : Rec) (b i : Bytes) (v : State) (k : Bytes) (inl : Bool) (e : Curve),
    let u := (s.begun t r b i).1
    let q := parseSign b
    let rest := if inl then i.drop k.length else i
    let sig := rest.take (fld b 8 4)
    let msg := rest.drop (fld b 8 4)
    Accepted s t ref 0x0502 r b i →
    b.length = 16 →
    q.ok (fld b 7 1) = true →
    (if fld b 0 4 = 0 then fld b 0xC 4 ≤ i.length ∧ inlineOk q.scheme u r.tenant (i.take (fld b 0xC 4)) = true ∧ v = u ∧ k = i.take (fld b 0xC 4) ∧ inl = true else fld b 0xC 4 = 0 ∧ inl = false ∧ ∃ j, u.resolve (some r.tenant) (fld b 0 4) { fits := pubFits q.scheme, use := fun _ => useBit 5, units := some fun _ => 1 } = (v, .ok j) ∧ v.material j = .ok k) →
    q.scheme = 3 →
    v.keyCurve r.tenant k (k.length - 32) = some e →
    fld b 8 4 = 2 * ceilDiv (bitLen e.n) 8 →
    fld b 8 4 ≤ rest.length →
    (q.prehashed = true → msg.length = digestOut q.hash) →
    (q.hashes = true → v.laneAny .digest = true) →
    exec (.pkVerify t ref) s = .next (s.ends t r b i (fun _ => v) (.job .bigNumber (curveCycles 768 (lenClass (bitLen e.p))) [] (fail (verifyStatus q (some e) inl k sig msg))))) ∧
  (∀ (s : State) (t : Tick) (ref : RecRef) (r : Rec) (b i : Bytes) (v : State) (k : Bytes) (inl : Bool),
    let u := (s.begun t r b i).1
    let q := parseSign b
    let rest := if inl then i.drop k.length else i
    let sig := rest.take (fld b 8 4)
    let msg := rest.drop (fld b 8 4)
    Accepted s t ref 0x0502 r b i →
    b.length = 16 →
    q.ok (fld b 7 1) = true →
    (if fld b 0 4 = 0 then fld b 0xC 4 ≤ i.length ∧ inlineOk q.scheme u r.tenant (i.take (fld b 0xC 4)) = true ∧ v = u ∧ k = i.take (fld b 0xC 4) ∧ inl = true else fld b 0xC 4 = 0 ∧ inl = false ∧ ∃ j, u.resolve (some r.tenant) (fld b 0 4) { fits := pubFits q.scheme, use := fun _ => useBit 5, units := some fun _ => 1 } = (v, .ok j) ∧ v.material j = .ok k) →
    q.scheme = 4 →
    fld b 8 4 = 64 →
    fld b 8 4 ≤ rest.length →
    (q.prehashed = true → msg.length = digestOut q.hash) →
    (q.hashes = true → v.laneAny .digest = true) →
    exec (.pkVerify t ref) s = .next (s.ends t r b i (fun _ => v) (.job .bigNumber (curveCycles 640 4) [] (fail (verifyStatus q none inl k sig msg)))))

/-- With fields in range, keys resolved and lengths and buffers that fit: PK_ENCRYPT draws the OAEP seed and gives the
ciphertext, PK_DECRYPT the message or DECRYPT_FAILED, with INPUT_ZERO and INPUT_RANGE first; PK_KEYGEN draws for each
type, places the private key and gives handle and public key, or CELLAR_FULL where the cellar has no room (RSA primes
are free values of the model); PK_DERIVE derives a key from the shared secret, or ends with the status of Table 9-5;
CURVE_LOAD checks a curve with drawn witnesses and gives its slot and digest or the detail of the first check that
fails, and removes the tenant's curve at once. -/
def Obligations.PublicKeyEncryptionGenerationAndDerivation : Prop :=
  (∀ (s : State) (t : Tick) (ref : RecRef) (r : Rec) (b i : Bytes) (v w : State) (k d : Bytes) (inl : Bool),
    let c := s.cmd t r b i
    let u := (s.begun t r b i).1
    let q := rsaPub k
    let n := q.bits / 8
    let rest := if inl then i.drop k.length else i
    Accepted s t ref 0x0503 r b i →
    b.length = 16 →
    digestCodes.contains (fld b 4 1) = true →
    zeroAt b 5 3 = true →
    fld b 8 4 ≤ 256 →
    (if fld b 0 4 = 0 then fld b 0xC 4 ≤ i.length ∧ inlineOk 5 u r.tenant (i.take (fld b 0xC 4)) = true ∧ v = u ∧ k = i.take (fld b 0xC 4) ∧ inl = true else fld b 0xC 4 = 0 ∧ inl = false ∧ ∃ j, u.resolve (some r.tenant) (fld b 0 4) { fits := pubFits 5, use := fun _ => useBit 0, units := some fun _ => 1 } = (v, .ok j) ∧ v.material j = .ok k) →
    q.ok = true →
    fld b 8 4 ≤ rest.length →
    (rest.drop (fld b 8 4)).length ≤ n - 2 * digestOut (fld b 4 1) - 2 →
    spaceFail c 8 n = none →
    v.laneAny .digest = true →
    v.random (digestOut (fld b 4 1)) = some (w, d) →
    exec (.pkEncrypt t ref) s = .next (s.ends t r b i (fun _ => w) (.job .bigNumber (rsaPubCycles (lenClass q.bits)) [] (if inl = true ∧ q.n % 2 = 0 then fail .inputRange else { body := natLE 4 n ++ zeros 4, out := natBE n (powMod q.n (beNat (oaepEncode (fld b 4 1) n (rest.take (fld b 8 4)) d (rest.drop (fld b 8 4)))) q.e) })))) ∧
  (∀ (s : State) (t : Tick) (ref : RecRef) (r : Rec) (b i : Bytes) (v : State) (j : Nat) (k : Bytes),
    let c := s.cmd t r b i
    let u := (s.begun t r b i).1
    let q := rsaPub k
    let n := q.bits / 8
    let x := beNat (i.drop (fld b 8 4))
    Accepted s t ref 0x0504 r b i →
    b.length = 16 →
    digestCodes.contains (fld b 4 1) = true →
    zeroAt b 5 3 = true →
    zeroAt b 0xC 4 = true →
    fld b 8 4 ≤ 256 →
    u.resolve (some r.tenant) (fld b 0 4) { fits := privFits 5, use := fun _ => useBit 1, units := some fun _ => 1 } = (v, .ok j) →
    v.material j = .ok k →
    q.ok = true →
    i.length = fld b 8 4 + n →
    spaceFail c 8 (n - 2 * digestOut (fld b 4 1) - 2) = none →
    v.laneAny .digest = true →
    exec (.pkDecrypt t ref) s = .next (s.ends t r b i (fun _ => v) (.job .bigNumber (rsaPrivCycles (lenClass q.bits)) [j] { (if x = 0 then fail .inputZero else if q.n ≤ x then fail .inputRange else match oaepDecode (fld b 4 1) (i.take (fld b 8 4)) (natBE n (rsaPrivate k x)) with | some m => { body := natLE 4 m.length ++ zeros 4, out := m } | none => fail .decryptFailed : Result) with changes := v.squarePair j q.n }))) ∧
  (∀ (s : State) (t : Tick) (ref : RecRef) (r : Rec) (b i : Bytes) (v w : State) (p : Parent) (lv l : Nat) (d : Bytes),
    let c := s.cmd t r b i
    let u := (s.begun t r b i).1
    let m := rsaPlain (fld b 8 2) (Config.rsaPrime (fld b 8 2 / 2) w.draws) (Config.rsaPrime (fld b 8 2 / 2) (w.draws + 1))
    Accepted s t ref 0x0505 r b i →
    b.length = 16 →
    fld b 5 1 ≤ 63 →
    fld b 6 2 < 2 ^ 15 →
    fld b 0xB 1 ≤ 1 →
    zeroAt b 0xC 4 = true →
    genIdOk (fld b 4 1) (fld b 0xA 1) = true →
    u.classDefined (fld b 5 1) = true →
    u.parentOf r.tenant (fld b 0 4) = (v, .ok (p, lv)) →
    childLevel (fld b 4 1) lv = some l →
    fld b 4 1 = 0x10 →
    typeOk (fld b 4 1) (fld b 8 2) = true →
    v.random (fld b 8 2 / 8) = some (w, d) →
    spaceFail c (8 + (m.take (8 + fld b 8 2 / 8)).length) 0 = none →
    exec (.pkKeygen t ref) s = .next (s.ends t r b i (fun _ => w) (match w.newKey { type := fld b 4 1, bits := fld b 8 2, usage := BitVec.ofNat 16 (fld b 6 2), owner := r.tenant, parent := p, level := l, exportable := fld b 0xB 1 == 1, limitClass := fld b 5 1, plain := m, blinding := blindPair m d } with | none => .done (fail .cellarFull) | some (h, cs) => .job .bigNumber 0 [] { body := natLE 4 h ++ zeros 4 ++ (m.take (8 + fld b 8 2 / 8)), changes := cs }))) ∧
  (∀ (s : State) (t : Tick) (ref : RecRef) (r : Rec) (b i : Bytes) (v w : State) (p : Parent) (lv l : Nat) (d : Bytes),
    let c := s.cmd t r b i
    let u := (s.begun t r b i).1
    Accepted s t ref 0x0505 r b i →
    b.length = 16 →
    fld b 5 1 ≤ 63 →
    fld b 6 2 < 2 ^ 15 →
    fld b 0xB 1 ≤ 1 →
    zeroAt b 0xC 4 = true →
    genIdOk (fld b 4 1) (fld b 0xA 1) = true →
    u.classDefined (fld b 5 1) = true →
    u.parentOf r.tenant (fld b 0 4) = (v, .ok (p, lv)) →
    childLevel (fld b 4 1) lv = some l →
    fld b 4 1 = 0x12 →
    fld b 8 2 = 0 →
    v.random 32 = some (w, d) →
    spaceFail c (8 + ([4] ++ zeros 7 ++ edPublic d).length) 0 = none →
    exec (.pkKeygen t ref) s = .next (s.ends t r b i (fun _ => w) (match w.newKey { type := fld b 4 1, bits := 256, usage := BitVec.ofNat 16 (fld b 6 2), owner := r.tenant, parent := p, level := l, exportable := fld b 0xB 1 == 1, limitClass := fld b 5 1, plain := ([4] ++ zeros 7 ++ d ++ edPublic d), blinding := (0, 0) } with | none => .done (fail .cellarFull) | some (h, cs) => .job .bigNumber (curveCycles 1280 4) [] { body := natLE 4 h ++ zeros 4 ++ ([4] ++ zeros 7 ++ edPublic d), changes := cs }))) ∧
  (∀ (s : State) (t : Tick) (ref : RecRef) (r : Rec) (b i : Bytes) (v w : State) (p : Parent) (lv l : Nat) (d : Bytes),
    let c := s.cmd t r b i
    let u := (s.begun t r b i).1
    Accepted s t ref 0x0505 r b i →
    b.length = 16 →
    fld b 5 1 ≤ 63 →
    fld b 6 2 < 2 ^ 15 →
    fld b 0xB 1 ≤ 1 →
    zeroAt b 0xC 4 = true →
    genIdOk (fld b 4 1) (fld b 0xA 1) = true →
    u.classDefined (fld b 5 1) = true →
    u.parentOf r.tenant (fld b 0 4) = (v, .ok (p, lv)) →
    childLevel (fld b 4 1) lv = some l →
    fld b 4 1 = 0x13 →
    fld b 8 2 = 0 →
    v.random 32 = some (w, d) →
    spaceFail c (8 + ([5] ++ zeros 7 ++ x25519 d (natLE 32 9)).length) 0 = none →
    exec (.pkKeygen t ref) s = .next (s.ends t r b i (fun _ => w) (match w.newKey { type := fld b 4 1, bits := 256, usage := BitVec.ofNat 16 (fld b 6 2), owner := r.tenant, parent := p, level := l, exportable := fld b 0xB 1 == 1, limitClass := fld b 5 1, plain := ([5] ++ zeros 7 ++ d ++ x25519 d (natLE 32 9)), blinding := (0, 0) } with | none => .done (fail .cellarFull) | some (h, cs) => .job .bigNumber (curveCycles 768 4) [] { body := natLE 4 h ++ zeros 4 ++ ([5] ++ zeros 7 ++ x25519 d (natLE 32 9)), changes := cs }))) ∧
  (∀ (s : State) (t : Tick) (ref : RecRef) (r : Rec) (b i : Bytes) (v w : State) (p : Parent) (lv l : Nat) (d : Bytes) (e : Curve),
    let c := s.cmd t r b i
    let u := (s.begun t r b i).1
    let y := e.mul (e.scalar d) e.base
    let z := ((v.curveAt r.tenant (fld b 0xA 1)).map (·.digest)).getD []
    Accepted s t ref 0x0505 r b i →
    b.length = 16 →
    fld b 5 1 ≤ 63 →
    fld b 6 2 < 2 ^ 15 →
    fld b 0xB 1 ≤ 1 →
    zeroAt b 0xC 4 = true →
    genIdOk (fld b 4 1) (fld b 0xA 1) = true →
    u.classDefined (fld b 5 1) = true →
    u.parentOf r.tenant (fld b 0 4) = (v, .ok (p, lv)) →
    childLevel (fld b 4 1) lv = some l →
    fld b 4 1 = 0x11 ∨ fld b 4 1 = 0x14 →
    fld b 8 2 = 0 →
    (if fld b 0xA 1 < 0x80 then namedCurve (fld b 0xA 1) else (v.curveAt r.tenant (fld b 0xA 1)).map (·.curve)) = some e →
    v.random (8 * lenClass (bitLen e.p) + 8) = some (w, d) →
    spaceFail c (8 + (eccPublic (fld b 0xA 1) (8 * lenClass (bitLen e.p)) y z).length) 0 = none →
    exec (.pkKeygen t ref) s = .next (s.ends t r b i (fun _ => w) (match w.newKey { type := fld b 4 1, bits := bitLen e.p, usage := BitVec.ofNat 16 (fld b 6 2), owner := r.tenant, parent := p, level := l, exportable := fld b 0xB 1 == 1, limitClass := fld b 5 1, plain := ([BitVec.ofNat 8 (fld b 0xA 1)] ++ zeros 7 ++ natLE (8 * lenClass (bitLen e.p)) (e.scalar d) ++ pointBytes (8 * lenClass (bitLen e.p)) y ++ z), blinding := (0, 0) } with | none => .done (fail .cellarFull) | some (h, cs) => .job .bigNumber (curveCycles 1600 (lenClass (bitLen e.p))) [] { body := natLE 4 h ++ zeros 4 ++ (eccPublic (fld b 0xA 1) (8 * lenClass (bitLen e.p)) y z), changes := cs }))) ∧
  (∀ (s : State) (t : Tick) (ref : RecRef) (r : Rec) (b i : Bytes) (v w : State) (p : Parent) (lv l j h : Nat) (k z : Bytes) (e : Option Curve) (cs : List Change),
    let u := (s.begun t r b i).1
    let x := v.slot j
    let n : NewKey := { type := fld b 8 1, bits := fld b 12 2, usage := BitVec.ofNat 16 (fld b 10 2), owner := r.tenant, parent := p, level := l, exportable := fld b 14 2 == 1, limitClass := fld b 9 1, plain := hkdf256 z (zeros 32) (sub b 0x18 (fld b 0x10 4)) (fld b 12 2 / 8) }
    Accepted s t ref 0x0506 r b i →
    b.length = 0x58 →
    fld b 10 2 < 2 ^ 15 →
    fld b 14 2 ≤ 1 →
    fld b 9 1 ≤ 63 →
    zeroAt b 0x14 4 = true →
    fld b 0x10 4 ≤ 64 →
    u.classDefined (fld b 9 1) = true →
    1 ≤ fld b 8 1 →
    fld b 8 1 ≤ 5 →
    typeOk (fld b 8 1) (fld b 12 2) = true →
    u.resolve (some r.tenant) (fld b 0 4) { fits := privFits 6, use := fun _ => useBit 8, units := some fun _ => 1 } = (v, .ok j) →
    v.material j = .ok k →
    peerOk k i (8 * lenClass x.keyBits) x.type = true →
    (if x.type = 0x13 then none else v.keyCurve r.tenant k (8 + 3 * (8 * lenClass x.keyBits))) = e →
    x.type = 0x13 ∨ e.isSome = true →
    v.parentOf r.tenant (fld b 4 4) = (w, .ok (p, lv)) →
    childLevel (fld b 8 1) lv = some l →
    sharedSecret e (8 * lenClass x.keyBits) k i = .ok z →
    w.newKey n = some (h, cs) →
    exec (.pkDerive t ref) s = .next (s.ends t r b i (fun _ => w) (.job .bigNumber (if x.type = 0x13 then curveCycles 768 4 else curveCycles 704 (lenClass x.keyBits)) [j] (keyResult h (checkValue (fld b 8 1) n.plain) cs)))) ∧
  (∀ (s : State) (t : Tick) (ref : RecRef) (r : Rec) (b i : Bytes) (v : State) (d : Bytes) (n : Nat),
    let u := (s.begun t r b i).1
    let w := 8 * lenClass (fld b 2 2)
    let e : Curve := { p := fld i 0 w, a := fld i w w, b := fld i (2 * w) w, gx := fld i (3 * w) w, gy := fld i (4 * w) w, n := fld i (5 * w) w, h := fld i (6 * w) 1 }
    Accepted s t ref 0x0507 r b i →
    b.length = 8 →
    fld b 0 1 = 0 →
    fld b 1 1 = 0 →
    zeroAt b 4 4 = true →
    i.length = 6 * w + 1 →
    256 ≤ fld b 2 2 →
    fld b 2 2 ≤ 1024 →
    u.freeCurve = some n →
    u.random (128 * w) = some (v, d) →
    exec (.curveLoad t ref) s = .next (s.ends t r b i (fun _ => v) (.job .bigNumber (curveCycles 19520 (lenClass (fld b 2 2))) [] (match curveCheck (fld b 2 2) e (((chunks w d).map leNat).take 64) (((chunks w d).map leNat).drop 64) with | some x => failD .curveRejected x | none => { body := [BitVec.ofNat 8 (0x80 + n)] ++ zeros 7 ++ sha256 (sub b 2 2 ++ i), changes := [.curve n (some { owner := r.tenant, cls := lenClass (fld b 2 2), digest := sha256 (sub b 2 2 ++ i), curve := e })] })))) ∧
  (∀ (s : State) (t : Tick) (ref : RecRef) (r : Rec) (b i : Bytes) (x : CurveSlot),
    let u := (s.begun t r b i).1
    Accepted s t ref 0x0507 r b i →
    b.length = 8 →
    fld b 0 1 = 1 →
    fld b 2 2 = 0 →
    zeroAt b 4 4 = true →
    u.curveAt r.tenant (fld b 1 1) = some x →
    exec (.curveLoad t ref) s = .next (s.ends t r b i id (.done { body := [BitVec.ofNat 8 (fld b 1 1)] ++ zeros 7 ++ x.digest, changes := [.curve (fld b 1 1 - 0x80) none] })))

/-- LEDGER_CREATE of a well-formed body with a free id, room and resolving handles writes epoch entry, descriptor and head
with the slot and nonce drawn or given. An opening, a state change, a posting or an accrual that passes rows 1 to 4 of
Table 11-7 (layout, ledger, twin state, keys and channel MAC), row 5 (mark and posting-id filter), and its own checks
or rows 7 to 11 (seals, accounts, currencies, versions and states) makes its marks and starts its decimal job with the
ledger's keys latched. A posting of several homes passes the lead's rows and starts its cross-home protocol. -/
def Obligations.LedgersOpenAndPostingsStartTheirDecimalJob : Prop :=
  (∀ (s : State) (t : Tick) (ref : RecRef) (r : Rec) (b i : Bytes) (v : State) (n : Nat) (nonce : Bytes),
    let u := (s.begun t r b i).1
    let d := parseDesc b
    let held := u.ahead.vault.epochs.filter fun p => p.2.ledger != 0
    Accepted s t ref 0x0701 r b i →
    descOk b = true →
    (held.any fun p => p.2.ledger == fld b 0 2) = false →
    held.length < 512 →
    (held.filter fun p => p.2.tenant == r.tenant).length < 16 →
    (∀ x ∈ [(d.sealHandle, hmacNeed 10), (d.journalHandle, hmacNeed 13), (d.signHandle, signNeed)] ++ d.channels.map fun h => (h, hmacNeed 11), ∃ j, u.resolve (some r.tenant) x.1 x.2 = (u, .ok j)) →
    ((u.ahead.board.heads.filter fun p => p.2.ledger != 0).map fun p => (u.ahead.desc p.1).window).sum + d.window ≤ 16777216 →
    (if r.nonce.length = 10 then v = u ∧ n = fld r.nonce 0 2 ∧ nonce = sub r.nonce 2 8 else u.ahead.freeLedger = some n ∧ u.random 8 = some (v, nonce)) →
    exec (.ledgerCreate t ref) s = .next (s.ends t r b i (fun _ => v) (.done { body := natLE 2 n ++ zeros 6, changes := [.epochEntry n { ledger := fld b 0 2, epoch := 0, tenant := r.tenant }, .descriptor n d, .head n { ledger := fld b 0 2, tenant := r.tenant, nextSeq := 1, chain := zeros 32, nonce }] }))) ∧
  (∀ (s : State) (t : Tick) (ref : RecRef) (r : Rec) (b i : Bytes) (v : State) (n : Nat) (sk : List LedgerKey) (jk : LedgerKey),
    let u := (s.begun t r b i).1
    let p : Posting := { kind := 3, slot := n, ledger := fld b 0 2, tenant := r.tenant, id := sub b 0x30 16, horizon := fld b 0x20 8, valueDate := zeros 8, sealKeys := sk, journalKey := jk.2.2.1, cls := fld b 4 1, legs := [{ tag := sub b 0x10 16, currency := fld b 2 2, exponent := (((v.desc n).currency (fld b 2 2)).map (·.exponent)).getD 0 }] }
    let w := v.addMarks (.command r.ref) [.posting (fld b 0 2) p.id]
    Accepted s t ref 0x0702 r b i →
    b.length = 80 →
    zeroAt b 5 3 = true →
    zeroAt b 0xC 4 = true →
    zeroAt b 0x28 8 = true →
    u.ledgerSlot (fld b 0 2) r.tenant = some n →
    u.rowThree = none →
    u.rowFour r.tenant (u.desc n) (fld b 8 4) 0x40 b = (v, .ok (sk, jk)) →
    v.foreign (.command r.ref) (.posting (fld b 0 2) p.id) = none →
    v.filterHit n p.horizon p.id = none →
    w.openChecks p = none →
    exec (.accountOpen t ref) s = .next (s.ends t r b i (fun _ => w) (p.job))) ∧
  (∀ (s : State) (t : Tick) (ref : RecRef) (r : Rec) (b i : Bytes) (v : State) (n : Nat) (sk : List LedgerKey) (jk : LedgerKey),
    let u := (s.begun t r b i).1
    let x := sub b 0x20 128
    let p : Posting := { kind := 4, slot := n, ledger := fld b 0 2, tenant := r.tenant, id := zeros 16, valueDate := zeros 8, sealKeys := sk, journalKey := jk.2.2.1, newState := fld b 2 1, legs := [legOf (sub x 0 16) (fld x 0x12 2) false 0 x 0] }
    Accepted s t ref 0x0703 r b i →
    b.length = 160 →
    1 ≤ fld b 2 1 →
    fld b 2 1 ≤ 3 →
    zeroAt b 3 5 = true →
    zeroAt b 0xC 4 = true →
    (sealAmounts x).isNone = false →
    u.ledgerSlot (fld b 0 2) r.tenant = some n →
    u.rowThree = none →
    u.rowFour r.tenant (u.desc n) (fld b 8 4) 0x10 b = (v, .ok (sk, jk)) →
    v.sealRows p = none →
    v.legMark (.command r.ref) p = none →
    v.versionRows p = none →
    v.transitionOk p = true →
    exec (.accountSetState t ref) s = .next (s.ends t r b i (fun _ => v.addMarks (.command r.ref) (p.legs.map fun g => .context g.index)) (p.job))) ∧
  (∀ (s : State) (t : Tick) (ref : RecRef) (r : Rec) (b i : Bytes) (v : State) (n : Nat) (sk : List LedgerKey) (jk : LedgerKey) (l : List Leg),
    let c := s.cmd t r b i
    let u := (s.begun t r b i).1
    let p := postingOf c n sk jk l
    let w := v.addMarks (.command r.ref) [.posting (fld b 0 2) p.id]
    Accepted s t ref 0x0704 r b i →
    64 ≤ b.length →
    1 ≤ fld b 2 1 →
    fld b 2 1 ≤ 16 →
    b.length = 64 + 192 * fld b 2 1 →
    zeroAt b 3 1 = true →
    zeroAt b 0x28 8 = true →
    parseLegs (some (u.desc n)) ((List.range (fld b 2 1)).map fun k => sub b (64 + 192 * k) 192) 0 [] [] = .ok l →
    u.ledgerSlot (fld b 0 2) r.tenant = some n →
    u.rowThree = none →
    u.rowFour r.tenant (u.desc n) (fld b 4 4) 0x30 b = (v, .ok (sk, jk)) →
    v.crossHome c = false →
    v.foreign (.command r.ref) (.posting (fld b 0 2) p.id) = none →
    v.filterHit n p.horizon p.id = none →
    w.sealRows p = none →
    w.legMark (.command r.ref) p = none →
    w.versionRows p = none →
    exec (.postLegs t ref) s = .next (s.ends t r b i (fun _ => w) (p.job))) ∧
  (∀ (s : State) (t : Tick) (ref : RecRef) (r : Rec) (b i : Bytes) (v : State) (n : Nat) (sk : List LedgerKey) (jk : LedgerKey) (l : List Leg),
    let c := s.cmd t r b i
    let u := (s.begun t r b i).1
    Accepted s t ref 0x0704 r b i →
    64 ≤ b.length →
    1 ≤ fld b 2 1 →
    fld b 2 1 ≤ 16 →
    b.length = 64 + 192 * fld b 2 1 →
    zeroAt b 3 1 = true →
    zeroAt b 0x28 8 = true →
    parseLegs (some (u.desc n)) ((List.range (fld b 2 1)).map fun k => sub b (64 + 192 * k) 192) 0 [] [] = .ok l →
    u.ledgerSlot (fld b 0 2) r.tenant = some n →
    u.rowThree = none →
    u.rowFour r.tenant (u.desc n) (fld b 4 4) 0x30 b = (v, .ok (sk, jk)) →
    v.crossHome c = true →
    v.leadRows (postingOf c n sk jk l) = none →
    v.laneAny .decimal = true →
    exec (.postLegs t ref) s = .next (s.ends t r b i (fun _ => (v.crossStart r.ref (postingOf c n sk jk l)).1) ((v.crossStart r.ref (postingOf c n sk jk l)).2))) ∧
  (∀ (s : State) (t : Tick) (ref : RecRef) (r : Rec) (b i : Bytes) (v : State) (n : Nat) (sk : List LedgerKey) (jk : LedgerKey) (q : Int) (x1 y1 : Int × Int),
    let c := s.cmd t r b i
    let u := (s.begun t r b i).1
    let x := sub b 0x60 128
    let y := sub b 0xE0 128
    let p : Posting := { kind := 2, slot := n, ledger := fld b 0 2, tenant := r.tenant, id := sub b 0x20 16, horizon := fld b 0x10 8, valueDate := sub b 0x18 8, sealKeys := sk, journalKey := jk.2.2.1, rate := q, numer := fld b 4 2, basis := fld b 2 2, legs := [legOf (sub x 0 16) (fld x 0x12 2) false 0 x 0, legOf (sub y 0 16) (fld y 0x12 2) false 0 y 1] }
    let w := v.addMarks (.command r.ref) [.posting (fld b 0 2) p.id]
    Accepted s t ref 0x0705 r b i →
    b.length = 352 →
    fld b 2 2 = 360 ∨ fld b 2 2 = 365 ∨ fld b 2 2 = 366 →
    fld b 4 2 ≤ 366 →
    zeroAt b 6 2 = true →
    zeroAt b 0xC 4 = true →
    ld63 b 0x40 = some q →
    sealAmounts x = some x1 →
    sealAmounts y = some y1 →
    sub x 0 16 ≠ sub y 0 16 →
    u.ledgerSlot (fld b 0 2) r.tenant = some n →
    u.rowThree = none →
    u.rowFour r.tenant (u.desc n) (fld b 8 4) 0x30 b = (v, .ok (sk, jk)) →
    v.crossHome c = false →
    v.foreign (.command r.ref) (.posting (fld b 0 2) p.id) = none →
    v.filterHit n p.horizon p.id = none →
    w.sealRows p = none →
    w.legMark (.command r.ref) p = none →
    w.versionRows p = none →
    exec (.accrue t ref) s = .next (s.ends t r b i (fun _ => w) (p.job)))

/-- SEAL_FETCH by sequence or posting id answers the kept response. JOURNAL_BLOCK gives a held block, or the last one
after closing what is open, signed already or signed by a big-number job. CHECKPOINT takes a copy of the ledger or
confirms the pending epoch with a journal entry of kind 5. BOARD_RESTORE of an image whose header, generation, epoch,
tag and indexes are accepted writes the slot and its accounts. JOURNAL_ROLL_FORWARD of entries whose MACs and chain
hold raises the versions, and the head for the device's own journal. The KH-1 balance MACs cover the amount and the
account of the record. -/
def Obligations.LedgersAreFetchedBlockedCheckpointedAndRestored : Prop :=
  (∀ (s : State) (t : Tick) (ref : RecRef) (r : Rec) (b i : Bytes) (q : Nat) (x : StoredResponse),
    let c := s.cmd t r b i
    let u := (s.begun t r b i).1
    Accepted s t ref 0x0706 r b i →
    b.length = 32 →
    fld b 2 1 ≤ 1 →
    zeroAt b 3 5 = true →
    (u.ledgerSlot (fld b 0 2) r.tenant).isNone = false →
    (if fld b 2 1 = 0 then q = fld b 8 8 else ∃ e, (u.board.filter.find? fun e => e.ledger == fld b 0 2 && e.id == sub b 0x10 16) = some e ∧ q = e.seq) →
    (u.board.responses.find? fun x => x.ledger == fld b 0 2 && x.seq == q) = some x →
    exec (.sealFetch t ref) s = .next (s.ends t r b i id (spaced c { body := x.body }))) ∧
  (∀ (s : State) (t : Tick) (ref : RecRef) (r : Rec) (b i : Bytes) (n : Nat) (k : JournalBlock) (g : Bytes) (x : State) (cs : List Change),
    let c := s.cmd t r b i
    let u := (s.begun t r b i).1
    Accepted s t ref 0x0707 r b i →
    b.length = 16 →
    fld b 2 1 ≤ 1 →
    zeroAt b 3 5 = true →
    u.ledgerSlot (fld b 0 2) r.tenant = some n →
    (if fld b 2 1 = 0 then x = u ∧ cs = [] ∧ (u.board.blocks.find? fun k => k.ledger == fld b 0 2 && decide (k.first ≤ fld b 8 8) && decide (fld b 8 8 ≤ k.last)) = some k else cs = (if (u.head n).lastBlock + 1 < (u.head n).nextSeq then [Change.head n { u.head n with lastBlock := (u.head n).nextSeq - 1 }] else []) ∧ x = u.applyAll cs ∧ x.lastBlock (fld b 0 2) = some k) →
    k.signature = some g →
    exec (.journalBlock t ref) s = .next (s.ends t r b i (fun _ => x) (spaced c { out := x.blockHead k ++ g, changes := cs }))) ∧
  (∀ (s : State) (t : Tick) (ref : RecRef) (r : Rec) (b i : Bytes) (n i2 : Nat) (k : JournalBlock) (x v w : State) (cs : List Change) (m d : Bytes),
    let c := s.cmd t r b i
    let u := (s.begun t r b i).1
    Accepted s t ref 0x0707 r b i →
    b.length = 16 →
    fld b 2 1 ≤ 1 →
    zeroAt b 3 5 = true →
    u.ledgerSlot (fld b 0 2) r.tenant = some n →
    (if fld b 2 1 = 0 then x = u ∧ cs = [] ∧ (u.board.blocks.find? fun k => k.ledger == fld b 0 2 && decide (k.first ≤ fld b 8 8) && decide (fld b 8 8 ≤ k.last)) = some k else cs = (if (u.head n).lastBlock + 1 < (u.head n).nextSeq then [Change.head n { u.head n with lastBlock := (u.head n).nextSeq - 1 }] else []) ∧ x = u.applyAll cs ∧ x.lastBlock (fld b 0 2) = some k) →
    k.signature = none →
    x.resolve (some r.tenant) (x.desc n).signHandle signNeed = (v, .ok i2) →
    v.material i2 = .ok m →
    v.laneAny .digest = true →
    v.random 56 = some (w, d) →
    spaceFail c 0 176 = none →
    exec (.journalBlock t ref) s = .next (s.ends t r b i (fun _ => w) (.job .bigNumber (curveCycles 1600 6) [i2] { out := w.blockHead k ++ w.blockSig k m d, changes := cs ++ [.blockSig k.ledger k.last (w.blockSig k m d)] }))) ∧
  (∀ (s : State) (t : Tick) (ref : RecRef) (r : Rec) (b i : Bytes) (n : Nat),
    let u := (s.begun t r b i).1
    Accepted s t ref 0x0708 r b i →
    b.length = 8 →
    fld b 2 1 = 0 →
    zeroAt b 3 1 = true →
    zeroAt b 6 2 = true →
    u.ledgerSlot (fld b 0 2) r.tenant = some n →
    (u.epochEntry n).epoch ≠ 0xFFFF →
    (u.keyRec r.tenant).present = true →
    u.board.copying.contains (u.head n).ledger = false →
    exec (.checkpoint t ref) s = .next (s.ends t r b i (fun _ => { u with
        board := { u.board with copying := (u.head n).ledger :: u.board.copying } }) (.wait (.checkpoint (u.head n).ledger) {}))) ∧
  (∀ (s : State) (t : Tick) (ref : RecRef) (r : Rec) (b i : Bytes) (n : Nat) (v : State) (jk : List LedgerKey),
    let u := (s.begun t r b i).1
    let h := u.ahead.head n
    let e := (u.ahead.epochEntry n).epoch + 1
    let x := (v.nextEntry n (jk.headD (0, 0, [], false)).2.2.1 5 0 (zeros 16) (natLE 2 e ++ zeros 6) []).2.2
    Accepted s t ref 0x0708 r b i →
    b.length = 8 →
    fld b 2 1 = 1 →
    zeroAt b 3 1 = true →
    zeroAt b 6 2 = true →
    u.ledgerSlot (fld b 0 2) r.tenant = some n →
    h.checkpointPending = true →
    h.pendingEpoch = e →
    fld b 4 2 = e →
    u.ledgerKeys r.tenant (u.desc n).journalHandle 13 = (v, .ok jk) →
    exec (.checkpoint t ref) s = .next (s.ends t r b i (fun _ => v) (.done { changes := [.epochEntry n { ledger := h.ledger, epoch := e, tenant := h.tenant }, .head n { x with
        floor := h.imageNext,
        checkpointPending := false,
        pendingEpoch := 0,
        imageNext := 0 }] }))) ∧
  (∀ (s : State) (t : Tick) (ref : RecRef) (r : Rec) (b i : Bytes) (v : State) (p : Bytes),
    let u := (s.begun t r b i).1
    let held := u.vault.epochs.find? fun p => p.2.ledger == fld i 0x10 2
    Accepted s t ref 0x0709 r b i →
    b = [] →
    boardHeadOk i r.tenant = true →
    (u.keyRec r.tenant).present = true →
    (u.keyRec r.tenant).generation = fld i 0x14 2 →
    (held.any fun p => p.2.epoch != fld i 0x12 2 || p.2.tenant != r.tenant) = false →
    (if (fld i 8 8 = u.otp.serial ∨ (fld i 8 8 ≠ 0 ∧ fld i 8 8 = u.twinSerial)) ∧ ¬held.isNone = true then v = u else u.quorumUse r.tenant purposeRestore = (v, none)) →
    gcmOpen (boardKey (u.keyRec r.tenant).material r.tenant (fld i 0x10 2) (fld i 0x12 2)) (boardIv (fld i 0x10 2) (fld i 0x12 2)) (sub i 0 0x20) ((i.drop 0x20).take (i.length - 0x30)) (i.drop (i.length - 16)) = some p →
    v.boardFree (fld i 0x10 2) (fld i 0x16 2) (imageContexts p (fld i 0x18 4)) = true →
    exec (.boardRestore t ref) s = .next (s.ends t r b i (fun _ => v) (.done { changes := v.boardChanges r.tenant (fld i 0x16 2) (fld i 0x12 2) p (imageContexts p (fld i 0x18 4)) }))) ∧
  (∀ (s : State) (t : Tick) (ref : RecRef) (r : Rec) (b i : Bytes) (n : Nat) (v : State) (jk : List LedgerKey) (es : List Entry),
    let u := (s.begun t r b i).1
    Accepted s t ref 0x070A r b i →
    b.length = 24 →
    zeroAt b 2 6 = true →
    1 ≤ fld b 0x10 4 →
    fld b 0x10 4 ≤ 64 →
    zeroAt b 0x14 4 = true →
    u.ledgerSlot (fld b 0 2) r.tenant = some n →
    u.ledgerKeys r.tenant (u.desc n).journalHandle 13 = (v, .ok jk) →
    parseEntriesJ (fld b 0 2) (fld b 0x10 4) 0 i = .ok es →
    chainFault (jk.headD (0, 0, [], false)).2.2.1 (if fld b 8 8 = v.otp.serial then some ((v.head n).nextSeq, (v.head n).chain) else none) 0 es = none →
    exec (.journalRollForward t ref) s = .next (s.ends t r b i (fun _ => v) (.done { changes := v.rollContexts n es ++ if fld b 8 8 = v.otp.serial then v.rollOwn n es else [] }))) ∧
  (∀ (s : State) (t : Tick) (ref : RecRef) (r : Rec) (b i : Bytes) (v : State) (h k : Nat) (z : Int),
    let u := (s.begun t r b i).1
    let d := sub b 0x40 (beNat (sub b 0x0E 2))
    let e := sub b 0x10 8 ++ sub b 0x20 16
    let x := v.slot k
    let m := (macOf 0x11 x.material e).take 8
    Accepted s t ref 0x10030 r b i →
    beNat (sub b 0x0E 2) ≤ 176 →
    u.kh1Handle r.tenant (beNat (sub b 8 2)) = some h →
    packedVal (sub b 0x10 8) = some z →
    u.resolve (some r.tenant) h { fits := isTdea, use := fun _ => useBit 2, units := some (units (ceilDiv e.length 8)) } = (v, .ok k) →
    lenCheck e.length 8 (2 ^ 23) 8 = none →
    (isTdea x = true → tdeaDistinct x.material = true) →
    exec (.balMacGen t ref) s = .next (s.ends t r b i (fun _ => v) (.job .cipher (4 + 16 * (e.length / 8 - 1) + 48) [k] { out := (padTo 16 m).take 8 }))) ∧
  (∀ (s : State) (t : Tick) (ref : RecRef) (r : Rec) (b i : Bytes) (v : State) (h k : Nat) (z : Int),
    let u := (s.begun t r b i).1
    let d := sub b 0x40 (beNat (sub b 0x0E 2))
    let e := sub b 0x10 8 ++ sub b 0x20 16
    let x := v.slot k
    let m := (macOf 0x11 x.material e).take 8
    Accepted s t ref 0x10031 r b i →
    beNat (sub b 0x0E 2) ≤ 176 →
    u.kh1Handle r.tenant (beNat (sub b 8 2)) = some h →
    8 ≤ d.length →
    packedVal (sub b 0x10 8) = some z →
    u.resolve (some r.tenant) h { fits := isTdea, use := fun _ => useBit 3, units := some (units (ceilDiv e.length 8)) } = (v, .ok k) →
    lenCheck e.length 8 (2 ^ 23) 8 = none →
    (isTdea x = true → tdeaDistinct x.material = true) →
    exec (.balMacVer t ref) s = .next (s.ends t r b i (fun _ => v) (.job .cipher (4 + 16 * (e.length / 8 - 1) + 48) [k] (if m = (d.take 8).take 8 then {} else fail .verifyFailed))))

/-- TWIN_STATUS naming a member of the caravan answers the twin state, keel, serving, the two flags, the twin's serial,
the lone tick and the resync lines, and changes nothing. TWIN_DETACH of a PAIRED pair without a resync answers OK,
sets the detached hold, tells the twin and leaves PAIRED. TWIN_REPAIR with port 0 ACTIVE of a pair that is not PAIRED
clears the hold, marks the repair and tells the twin; of a PAIRED pair it completes with no effect (model's choice,
logged). CARAVAN_STATUS answers epoch, member count, epoch state and one row per member; another member's twin state
in it is a free value (logged). -/
def Obligations.TwinAndCaravanCommandsReportPartAndRepair : Prop :=
  (∀ (s : State) (t : Tick) (ref : RecRef) (r : Rec) (b i : Bytes),
    let u := (s.begun t r b i).1
    Accepted s t ref 0x0901 r b i →
    u.memberBody b = true →
    exec (.twinStatus t ref) s = .next (s.ends t r b i id (.done { body := natLE 1 (twinCode u.twin.st) ++ natLE 1 (if u.keel then 1 else 0) ++ natLE 1 (if u.serving then 1 else 0) ++ natLE 1 ((if u.twin.detached then 1 else 0) + 2 * (if u.twin.resync.isSome then 1 else 0)) ++ zeros 4 ++ natLE 8 u.twinSerial ++ natLE 8 u.twin.lone ++ natLE 4 u.twin.lines ++ zeros 4 }))) ∧
  (∀ (s : State) (t : Tick) (ref : RecRef) (r : Rec) (b i : Bytes) (run : Run),
    let u := (s.begun t r b i).1
    let v := u.finish run {}
    let w : State := { v with twin := { v.twin with detached := true, repair := false } }
    Accepted s t ref 0x0902 r b i →
    u.memberBody b = true →
    u.twin.resync.isSome = false →
    u.twin.st = .paired →
    (u.running.find? fun x => x.record.ref == r.ref) = some run →
    exec (.twinDetach t ref) s = .next (s.ends t r b i (fun _ => w.tellTwin.leavePaired w.keel) (.wait .twin {}))) ∧
  (∀ (s : State) (t : Tick) (ref : RecRef) (r : Rec) (b i : Bytes),
    let u := (s.begun t r b i).1
    let v : State := { u with twin := { u.twin with detached := false, peerDetached := false, repair := true } }
    Accepted s t ref 0x0903 r b i →
    u.memberBody b = true →
    u.twin.resync.isSome = false →
    (u.port 0).st = .active →
    u.twin.st ≠ .paired →
    exec (.twinRepair t ref) s = .next (s.ends t r b i (fun _ => v.tellTwin) (.done {}))) ∧
  (∀ (s : State) (t : Tick) (ref : RecRef) (r : Rec) (b i : Bytes),
    let u := (s.begun t r b i).1
    Accepted s t ref 0x0903 r b i →
    u.memberBody b = true →
    u.twin.resync.isSome = false →
    (u.port 0).st = .active →
    u.twin.st = .paired →
    exec (.twinRepair t ref) s = .next (s.ends t r b i id (.done {}))) ∧
  (∀ (s : State) (t : Tick) (ref : RecRef) (r : Rec) (b i : Bytes),
    let u := (s.begun t r b i).1
    Accepted s t ref 0x0904 r b i →
    b = [] →
    exec (.caravanStatus t ref) s = .next (s.ends t r b i id (.done { body := natLE 4 u.car.epoch ++ natLE 1 u.man.set.memberCount ++ natLE 1 u.epochState ++ zeros 2 ++ (List.range u.man.set.memberCount).flatMap fun m => natLE 1 m ++ natLE 1 (if u.reachable m then 1 else 0) ++ (if m = u.man.set.self then natLE 1 (twinCode u.twin.st) else [Config.memberTwinState m u.tick]) ++ natLE 1 ((if u.car.stale.contains m then 1 else 0) + if u.car.behind.contains m then 2 else 0) ++ natLE 4 (if m = u.man.set.self then u.car.epoch else mapGet 0 u.car.epochs m) })))

/-- With a body that obeys its layout, a PAN in range and keys that resolve for the formats and usage bits, PIN_TRANSLATE
answers a job of 512 cycles that holds both keys latched, with the PIN block of the target format under the second key
(fill drawn unless the format has none), or PIN_FORMAT with the first failing check of Table 8-6; PIN_VERIFY the
reference value, OK or VERIFY_FAILED; the card check commands the decimalised check value, OK or VERIFY_FAILED. The
KH-1 functions do the same; the order of their inline data is the model's (PRESUMED, log entry 13). -/
def Obligations.PinAndCardCheckCommandsRunOnALane : Prop :=
  (∀ (s : State) (t : Tick) (ref : RecRef) (r : Rec) (b i : Bytes) (v w z : State) (i1 j : Nat) (pan : List Nat) (fill : Bytes),
    let u := (s.begun t r b i).1
    let x := w.slot i1
    let y := w.slot j
    let res : Result := (match readPin (fld b 8 1) (openPin (fld b 8 1) x.material pan (sub b 0x20 16)) with | .error d => failD .pinFormat d | .ok pin => if (fld b 9 1) = 1 ∧ (fld b 8 1) ≠ 1 then failD .pinFormat 5 else { body := padTo 16 (makePin (fld b 9 1) y.material pan pin fill) })
    Accepted s t ref 0x0B01 r b i →
    b.length = 0x30 →
    pinFormat (fld b 8 1) = true →
    pinFormat (fld b 9 1) = true →
    zeroAt b 0xB 5 = true →
    zeroAt b 0x1A 6 = true →
    (fld b 8 1 ≠ 4 → zeroAt b 0x28 8 = true) →
    bodyPan (usesPan (fld b 8 1) || usesPan (fld b 9 1)) (fld b 0xA 1) (sub b 0x10 10) = some pan →
    u.resolve (some r.tenant) (fld b 0 4) { fits := pinFits (fld b 8 1), use := fun _ => useBit 9, units := some fun _ => 1 } = (v, .ok i1) →
    v.resolve (some r.tenant) (fld b 4 4) { fits := pinFits (fld b 9 1), use := fun _ => useBit 9, units := some fun _ => 1 } = (w, .ok j) →
    keyParts x = true →
    keyParts y = true →
    (if fld b 9 1 = 0 then z = w ∧ fill = [] else w.random 14 = some (z, fill)) →
    exec (.pinTranslate t ref) s = .next (s.ends t r b i (fun _ => z) (.job .cipher 512 [i1, j] res))) ∧
  (∀ (s : State) (t : Tick) (ref : RecRef) (r : Rec) (b i : Bytes) (v w : State) (i1 j : Nat) (pan : List Nat),
    let u := (s.begun t r b i).1
    let x := w.slot i1
    let y := w.slot j
    let res : Result := (match readPin (fld b 8 1) (openPin (fld b 8 1) x.material pan (sub b 0x20 16)) with | .error d => failD .pinFormat d | .ok pin => if fld b 9 1 == 1 then { body := pinReference y.material pan pin ++ zeros 4 } else if pinReference y.material pan pin = sub b 0x1C 4 then { body := zeros 8 } else fail .verifyFailed)
    Accepted s t ref 0x0B02 r b i →
    b.length = 0x30 →
    pinFormat (fld b 8 1) = true →
    fld b 9 1 ≤ 1 →
    zeroAt b 0xB 5 = true →
    zeroAt b 0x1A 2 = true →
    (fld b 9 1 = 1 → zeroAt b 0x1C 4 = true) →
    (fld b 8 1 ≠ 4 → zeroAt b 0x28 8 = true) →
    bodyPan true (fld b 0xA 1) (sub b 0x10 10) = some pan →
    u.resolve (some r.tenant) (fld b 0 4) { fits := pinFits (fld b 8 1), use := fun _ => useBit 9, units := some fun _ => 1 } = (v, .ok i1) →
    v.resolve (some r.tenant) (fld b 4 4) { fits := isAes, use := fun _ => if (fld b 9 1 == 1) then useBit 9 ||| useBit 2 else useBit 9, units := some fun _ => 1 } = (w, .ok j) →
    keyParts x = true →
    exec (.pinVerify t ref) s = .next (s.ends t r b i (fun _ => w) (.job .cipher 512 [i1, j] res))) ∧
  (∀ (s : State) (t : Tick) (ref : RecRef) (r : Rec) (b i : Bytes) (v : State) (i1 : Nat),
    let u := (s.begun t r b i).1
    let n := fld b 4 1
    let a := packNibbles ((decimalise (aesCmac (v.slot i1).material (sub b 8 10 ++ sub b 0x12 2 ++ sub b 0x14 2 ++ zeros 2))).take n ++ List.replicate (8 - n) 15)
    Accepted s t ref 0x0B03 r b i →
    b.length = 0x1C →
    3 ≤ n →
    n ≤ 5 →
    zeroAt b 6 2 = true →
    zeroAt b 0x16 2 = true →
    (nibbles (sub b 0x12 2)).all (fun d => decide (d ≤ 9)) = true →
    ((nibbles (sub b 0x14 2)).take 3).all (fun d => decide (d ≤ 9)) = true →
    (nibbles (sub b 0x14 2)).getD 3 0 = 15 →
    zeroAt b 0x18 4 = true →
    (bodyPan true (fld b 5 1) (sub b 8 10)).isSome = true →
    u.resolve (some r.tenant) (fld b 0 4) { fits := isAes, use := fun _ => useBit 9, units := some fun _ => 1 } = (v, .ok i1) →
    exec (.cardCheckGenerate t ref) s = .next (s.ends t r b i (fun _ => v) (.job .cipher 512 [i1] { body := a }))) ∧
  (∀ (s : State) (t : Tick) (ref : RecRef) (r : Rec) (b i : Bytes) (v : State) (i1 : Nat),
    let u := (s.begun t r b i).1
    let n := fld b 4 1
    let a := packNibbles ((decimalise (aesCmac (v.slot i1).material (sub b 8 10 ++ sub b 0x12 2 ++ sub b 0x14 2 ++ zeros 2))).take n ++ List.replicate (8 - n) 15)
    Accepted s t ref 0x0B04 r b i →
    b.length = 0x1C →
    3 ≤ n →
    n ≤ 5 →
    zeroAt b 6 2 = true →
    zeroAt b 0x16 2 = true →
    (nibbles (sub b 0x12 2)).all (fun d => decide (d ≤ 9)) = true →
    ((nibbles (sub b 0x14 2)).take 3).all (fun d => decide (d ≤ 9)) = true →
    (nibbles (sub b 0x14 2)).getD 3 0 = 15 →
    (((nibbles (sub b 0x18 4)).take n).all (fun d => decide (d ≤ 9)) = true ∧ ((nibbles (sub b 0x18 4)).drop n).all (· == 15) = true) →
    (bodyPan true (fld b 5 1) (sub b 8 10)).isSome = true →
    u.resolve (some r.tenant) (fld b 0 4) { fits := isAes, use := fun _ => useBit 9, units := some fun _ => 1 } = (v, .ok i1) →
    exec (.cardCheckVerify t ref) s = .next (s.ends t r b i (fun _ => v) (.job .cipher 512 [i1] (if a = sub b 0x18 4 then {} else fail .verifyFailed)))) ∧
  (∀ (s : State) (t : Tick) (ref : RecRef) (r : Rec) (b i : Bytes) (h g : Nat) (v w z : State) (i1 j : Nat) (pan : List Nat) (fill : Bytes),
    let c := s.cmd t r b i
    let u := (s.begun t r b i).1
    let d := sub b 0x40 (beNat (sub b 0x0E 2))
    let f := kh1Mod c / 16
    let e := kh1Mod c % 16
    let x := w.slot i1
    let y := w.slot j
    let res : Result := (match readPin f (openPin f x.material pan (sub d 22 16)) with | .error d => failD .pinFormat d | .ok pin => if e = 1 ∧ f ≠ 1 then failD .pinFormat 5 else { body := padTo 16 (makePin e y.material pan pin fill) })
    Accepted s t ref 0x10040 r b i →
    beNat (sub b 0x0E 2) ≤ 176 →
    u.kh1Handle r.tenant (beNat (sub b 8 2)) = some h →
    u.kh1Handle r.tenant (beNat (sub b 0x0A 2)) = some g →
    d.length = 38 →
    pinFormat f = true →
    pinFormat e = true →
    bodyPan (usesPan f || usesPan e) (fld d 0 1) (sub d 6 10) = some pan →
    u.resolve (some r.tenant) h { fits := pinFits f, use := fun _ => useBit 9, units := some fun _ => 1 } = (v, .ok i1) →
    v.resolve (some r.tenant) g { fits := pinFits e, use := fun _ => useBit 9, units := some fun _ => 1 } = (w, .ok j) →
    keyParts x = true →
    keyParts y = true →
    (if e = 0 then z = w ∧ fill = [] else w.random 14 = some (z, fill)) →
    exec (.pinXlate t ref) s = .next (s.ends t r b i (fun _ => z) (.job .cipher 512 [i1, j] { res with
        out := if res.status = .ok then res.body.take (pinLen e) else [],
        body := [] }))) ∧
  (∀ (s : State) (t : Tick) (ref : RecRef) (r : Rec) (b i : Bytes) (h g : Nat) (v w : State) (i1 j : Nat) (pan : List Nat),
    let c := s.cmd t r b i
    let u := (s.begun t r b i).1
    let d := sub b 0x40 (beNat (sub b 0x0E 2))
    let f := kh1Mod c
    let x := w.slot i1
    let y := w.slot j
    let res : Result := (match readPin f (openPin f x.material pan (sub d 22 16)) with | .error d => failD .pinFormat d | .ok pin => if false then { body := pinReference y.material pan pin ++ zeros 4 } else if pinReference y.material pan pin = sub d 18 4 then { body := zeros 8 } else fail .verifyFailed)
    Accepted s t ref 0x10041 r b i →
    beNat (sub b 0x0E 2) ≤ 176 →
    u.kh1Handle r.tenant (beNat (sub b 8 2)) = some h →
    u.kh1Handle r.tenant (beNat (sub b 0x0A 2)) = some g →
    d.length = 38 →
    pinFormat f = true →
    bodyPan true (fld d 0 1) (sub d 6 10) = some pan →
    u.resolve (some r.tenant) h { fits := pinFits f, use := fun _ => useBit 9, units := some fun _ => 1 } = (v, .ok i1) →
    v.resolve (some r.tenant) g { fits := isAes, use := fun _ => if false then useBit 9 ||| useBit 2 else useBit 9, units := some fun _ => 1 } = (w, .ok j) →
    keyParts x = true →
    exec (.kh1PinVerify t ref) s = .next (s.ends t r b i (fun _ => w) (.job .cipher 512 [i1, j] { res with
        out := if res.status = .ok then [] else [],
        body := [] })))

/-- With a body that obeys its layout, a key that resolves, may be exported and is no trunk-type key, and a present domain
root, LADING_EXPORT answers the record of Table 15-7 as output; with the move flag the key's slots are felled and its
directory entry freed. LADING_IMPORT action 0 draws a nonce, keeps the receipt and answers the nonce and the device
serial. Action 1, with a record whose head passes checks 1 to 3, whose tag verifies and whose key fits its parent and
has a defined class, writes the key with the counter the record carries, closes the receipt and answers handle and
check value. -/
def Obligations.LadingRecordsLeaveAndArrive : Prop :=
  (∀ (s : State) (t : Tick) (ref : RecRef) (r : Rec) (b i : Bytes) (v : State) (k : Nat) (root m : Bytes),
    let c := s.cmd t r b i
    let u := (s.begun t r b i).1
    let x := v.slot k
    let o := v.ladingRecord c root m x
    let e := v.ahead.dirEntry (hIndex (fld b 0 4))
    Accepted s t ref 0x020E r b i →
    b.length = 0x28 →
    fld b 4 4 ≤ 1 →
    fld b 0x10 2 < 2 ^ 14 →
    fld b 0x12 2 < 2 ^ 14 →
    zeroAt b 0x14 4 = true →
    u.resolve (some r.tenant) (fld b 0 4) {} = (v, .ok k) →
    x.exportable = true →
    x.type ≠ 6 →
    v.domainRoot = some root →
    v.material k = .ok m →
    spaceFail c 0 o.length = none →
    exec (.ladingExport t ref) s = .next (s.ends t r b i (fun _ => v) (.done { out := o, changes := if fld b 4 4 = 1 then v.ahead.fellSlot e.standing ++ (if e.greenLinked then v.ahead.fellSlot e.greenSlot else []) ++ [.directory (hIndex (fld b 0 4)) { dtag := e.dtag }] else [] }))) ∧
  (∀ (s : State) (t : Tick) (ref : RecRef) (r : Rec) (b i : Bytes) (v : State) (nonce : Bytes),
    let u := (s.begun t r b i).1
    Accepted s t ref 0x020F r b i →
    b.length = 8 →
    fld b 0 1 = 0 →
    zeroAt b 1 1 = true →
    zeroAt b 4 4 = true →
    fld b 2 2 < 2 ^ 14 →
    (u.receipts.filter fun x => x.tenant == r.tenant).length < 16 →
    u.random 16 = some (v, nonce) →
    exec (.ladingImport t ref) s = .next (s.ends t r b i (fun _ => { v with
        receipts := v.receipts ++ [{ tenant := r.tenant, nonce, dest := fld b 2 2, issued := v.tick }] }) (.done { body := nonce ++ natLE 8 v.otp.serial }))) ∧
  (∀ (s : State) (t : Tick) (ref : RecRef) (r : Rec) (b i : Bytes) (v w : State) (x : Slot) (m : Bytes) (p : Parent) (lv l h : Nat) (q : Nat × Nat) (cs : List Change),
    let u := (s.begun t r b i).1
    Accepted s t ref 0x020F r b i →
    b.length = 8 →
    fld b 0 1 = 1 →
    zeroAt b 1 1 = true →
    zeroAt b 2 2 = true →
    u.ladingHead r.tenant i = true →
    u.ladingOpen r.tenant i = some (x, m) →
    u.parentOf r.tenant (fld b 4 4) = (v, .ok (p, lv)) →
    childLevel x.type lv = some l →
    typeOk x.type x.keyBits = true →
    x.type ≠ 6 →
    plainOk x.type x.keyBits m = true →
    v.classDefined x.limitClass = true →
    (if x.type = 0x10 then (v.random (x.keyBits / 8)).map fun d => (d.1, blindPair m d.2) else some (v, (0, 0))) = some (w, q) →
    w.newKey { type := x.type, bits := x.keyBits, usage := x.usage, owner := r.tenant, parent := p, level := l, exportable := x.exportable, limitClass := x.limitClass, plain := m, blinding := q } = some (h, cs) →
    exec (.ladingImport t ref) s = .next (s.ends t r b i (fun _ => w.closeReceipt r.tenant (sub i 0x20 16)) (.done (keyResult h (checkValue x.type m) (cs.map fun a => match a with | .slot j y => Change.slot j { y with counter := x.counter } | a => a)))))

/-- QUORUM_BEGIN of a tenant with custody whose roster loads opens a quorum and answers M, the roster count and
generation; QUORUM_STATUS reports it and QUORUM_CANCEL closes it. CUSTODIAN_REMOVE with a quorum removes the card from
the roster, which takes the next generation. CARD_AUTHENTICATE with a quorum open, and CUSTODIAN_ENROL (with a quorum
where the roster already reaches M, and with a custody nonce, drawn where it is zero), draw the port's ephemeral and
nonce, start the activation of the port where it is idle, and wait for the card. SHARE_EXPORT opens a set or issues
from the open one, and with SHARE_IMPORT action 0 powers the transit card and waits for it; SHARE_IMPORT action 1
drops the session's round. An enrolment's quorum is judged by the loaded roster (model's choice, logged). -/
def Obligations.CustodyCommandsRunQuorumsCardsAndShares : Prop :=
  (∀ (s : State) (t : Tick) (ref : RecRef) (r : Rec) (b i : Bytes) (v : State) (cu : Custody) (e : CustodyEntry),
    let u := (s.begun t r b i).1
    let w := v.setQuorum r.tenant { phase := 1, purposes := BitVec.ofNat 8 (fld b 0 1), uses := fld b 1 1 }
    Accepted s t ref 0x0803 r b i →
    b.length = 8 →
    fld b 0 1 ≠ 0 →
    fld b 1 1 ≠ 0 →
    fld b 1 1 ≤ 16 →
    zeroAt b 2 6 = true →
    u.custodyOf r.tenant = some cu →
    u.loadRoster r.tenant i = (v, .ok e) →
    exec (.quorumBegin t ref) s = .next (s.ends t r b i (fun _ => w) (.done { body := natLE 1 cu.m ++ natLE 1 (w.rosterCount r.tenant) ++ natLE 2 e.rosterGen ++ zeros 4, changes := u.custodyChange r.tenant e }))) ∧
  (∀ (s : State) (t : Tick) (ref : RecRef) (r : Rec) (b i : Bytes),
    let u := (s.begun t r b i).1
    let q := u.quorum r.tenant
    Accepted s t ref 0x0805 r b i →
    b = [] →
    exec (.quorumStatus t ref) s = .next (s.ends t r b i id (.done { body := natLE 1 q.phase ++ natLE 1 q.counted.length ++ natLE 1 (if q.phase = 0 then 0 else q.uses) ++ natLE 1 q.purposes.toNat ++ natLE 1 (u.quorumM r.tenant) ++ zeros 3 ++ natLE 8 q.openTick ++ natLE 8 q.closeTick, out := ((mapFind u.rosters r.tenant).map (u.rosterImage r.tenant)).getD [] }))) ∧
  (∀ (s : State) (t : Tick) (ref : RecRef) (r : Rec) (b i : Bytes),
    let u := (s.begun t r b i).1
    Accepted s t ref 0x0806 r b i →
    b = [] →
    exec (.quorumCancel t ref) s = .next (s.ends t r b i (fun _ => u.setQuorum r.tenant {}) (.done {}))) ∧
  (∀ (s : State) (t : Tick) (ref : RecRef) (r : Rec) (b i : Bytes) (v : State) (x : Roster),
    let u := (s.begun t r b i).1
    let y := { x with gen := nextGen (v.custodyEntry r.tenant).rosterGen, entries := x.entries.filter fun a => a.1 != fld b 0 8 }
    let w := { v with rosters := mapSet v.rosters r.tenant y }
    Accepted s t ref 0x0802 r b i →
    b.length = 8 →
    u.quorumUse r.tenant purposeRoster = (v, none) →
    mapFind v.rosters r.tenant = some x →
    (x.entries.all fun a => a.1 != fld b 0 8) = false →
    v.quorumM r.tenant ≤ (x.entries.filter fun a => a.1 != fld b 0 8).length →
    exec (.custodianRemove t ref) s = .next (s.ends t r b i (fun _ => w) (.done { body := natLE 8 (fld b 0 8) ++ natLE 2 y.gen ++ natLE 1 y.entries.length ++ zeros 5, out := w.rosterImage r.tenant y, changes := [.custody r.tenant { v.custodyEntry r.tenant with
        rosterGen := y.gen,
        rosterPending := false }] }))) ∧
  (∀ (s : State) (t : Tick) (ref : RecRef) (r : Rec) (b i : Bytes) (w : State) (d : Bytes),
    let u := (s.begun t r b i).1
    let p := u.cardPort (fld b 0 1)
    let q : CardPort := { p with ref := some r.ref, tenant := r.tenant, enrol := none, plain := false, eph := p256Curve.scalar (d.take 40), nonceD := d.drop 40, classes := u.portClasses (fld b 0 1) }
    Accepted s t ref 0x0804 r b i →
    b.length = 8 →
    fld b 0 1 ≤ 3 →
    zeroAt b 1 7 = true →
    u.portClasses (fld b 0 1) ≠ [] →
    (u.quorum r.tenant).phase ≠ 0 →
    u.domainFail 11 = none →
    p.ref = none →
    p.present = true →
    u.random 56 = some (w, d) →
    exec (.cardAuthenticate t ref) s = .next (s.ends t r b i (fun _ => (match p.step, u.portClasses (fld b 0 1) with | .idle, k :: rest => w.activate (fld b 0 1) q k rest | _, _ => w.setCard (fld b 0 1) q)) (.wait (.card (fld b 0 1)) { changes := [] }))) ∧
  (∀ (s : State) (t : Tick) (ref : RecRef) (r : Rec) (b i : Bytes) (v0 v1 v w : State) (d : Bytes) (e : CustodyEntry),
    let u := (s.begun t r b i).1
    let v2 := v1.applyAll (v0.custodyChange r.tenant e)
    let p := v.cardPort (fld b 0 1)
    let q : CardPort := { p with ref := some r.ref, tenant := r.tenant, enrol := some (fld b 1 1), plain := false, eph := p256Curve.scalar (d.take 40), nonceD := d.drop 40, classes := v.portClasses (fld b 0 1) }
    Accepted s t ref 0x0801 r b i →
    b.length = 8 →
    fld b 0 1 ≤ 3 →
    zeroAt b 2 6 = true →
    u.portClasses (fld b 0 1) ≠ [] →
    fld b 1 1 ≤ 31 →
    (u.custodyOf r.tenant).isNone = false →
    (if u.quorumM r.tenant ≤ u.rosterCount r.tenant then u.quorumUse r.tenant purposeRoster = (v0, none) else v0 = u) →
    v0.loadRoster r.tenant i = (v1, .ok e) →
    ((mapFind v2.rosters r.tenant).map fun x => x.entries.any fun a => a.2.2 == fld b 1 1) ≠ some true →
    (if v2.vault.custodyNonce ≠ zeros 32 then some v2 else (v2.random 32).map fun d => { d.1 with vault := { d.1.vault with custodyNonce := d.2 } }) = some v →
    v.domainFail 11 = none →
    p.ref = none →
    p.present = true →
    v.random 56 = some (w, d) →
    exec (.custodianEnrol t ref) s = .next (s.ends t r b i (fun _ => (match p.step, v.portClasses (fld b 0 1) with | .idle, k :: rest => w.activate (fld b 0 1) q k rest | _, _ => w.setCard (fld b 0 1) q)) (.wait (.card (fld b 0 1)) { changes := v0.custodyChange r.tenant e }))) ∧
  (∀ (s : State) (t : Tick) (ref : RecRef) (r : Rec) (b i : Bytes) (v : State),
    let u := (s.begun t r b i).1
    let e := { v.custodyEntry r.tenant with shareSet := nextGen (v.custodyEntry r.tenant).shareSet, shareN := fld b 1 1, shareK := fld b 2 1, sharesIssued := 0, setOpen := true }
    let w := v.apply (.custody r.tenant e)
    Accepted s t ref 0x0807 r b i →
    b.length = 8 →
    fld b 0 1 = 1 →
    zeroAt b 3 1 = true →
    zeroAt b 6 2 = true →
    u.quorumUse r.tenant purposeShares = (v, none) →
    (v.keyRec r.tenant).present = true →
    2 ≤ fld b 2 1 →
    fld b 2 1 ≤ fld b 1 1 →
    fld b 1 1 ≤ 16 →
    w.domainFail 11 = none →
    w.cards.transit.ref = none →
    w.cards.transit.present = true →
    exec (.shareExport t ref) s = .next (s.ends t r b i (fun _ => w.sdPowerOn { present := true, ref := some r.ref, tenant := r.tenant, export_ := true }) (.wait .transit { changes := [.custody r.tenant e] }))) ∧
  (∀ (s : State) (t : Tick) (ref : RecRef) (r : Rec) (b i : Bytes) (v : State),
    let u := (s.begun t r b i).1
    Accepted s t ref 0x0807 r b i →
    b.length = 8 →
    fld b 0 1 = 0 →
    zeroAt b 3 1 = true →
    zeroAt b 6 2 = true →
    u.quorumUse r.tenant purposeShares = (v, none) →
    (v.keyRec r.tenant).present = true →
    (v.custodyEntry r.tenant).setOpen = true →
    fld b 4 2 = (v.custodyEntry r.tenant).shareSet →
    v.domainFail 11 = none →
    v.cards.transit.ref = none →
    v.cards.transit.present = true →
    exec (.shareExport t ref) s = .next (s.ends t r b i (fun _ => v.sdPowerOn { present := true, ref := some r.ref, tenant := r.tenant, export_ := true }) (.wait .transit { changes := [] }))) ∧
  (∀ (s : State) (t : Tick) (ref : RecRef) (r : Rec) (b i : Bytes) (v : State),
    let u := (s.begun t r b i).1
    Accepted s t ref 0x0808 r b i →
    b.length = 8 →
    fld b 0 1 = 0 →
    zeroAt b 1 7 = true →
    u.quorumUse r.tenant purposeShares = (v, none) →
    v.domainFail 11 = none →
    v.cards.transit.ref = none →
    v.cards.transit.present = true →
    exec (.shareImport t ref) s = .next (s.ends t r b i (fun _ => v.sdPowerOn { present := true, ref := some r.ref, tenant := r.tenant, export_ := false }) (.wait .transit { changes := [] }))) ∧
  (∀ (s : State) (t : Tick) (ref : RecRef) (r : Rec) (b i : Bytes) (v : State),
    let u := (s.begun t r b i).1
    Accepted s t ref 0x0808 r b i →
    b.length = 8 →
    fld b 0 1 = 1 →
    zeroAt b 1 7 = true →
    u.quorumUse r.tenant purposeShares = (v, none) →
    exec (.shareImport t ref) s = .next (s.ends t r b i (fun _ => { v with
        rounds := v.rounds.filter fun x => !(x.tenant == r.tenant && x.session == fld r.raw 0x16 2) }) (.done { body := zeros 8 })))
end

