-- ==== Sys2Proof/Laws/Command.lean ====
section
/-! SUPPORT. What a command row does once its record is accepted. -/

namespace Sys2Proof.Machine

/-- The run that `launch` sees is the begun one. -/
theorem begun_fst (s : State) (t : Tick) (r : Rec) (b i : Bytes) : (s.begun t r b i).1 = ((s.at t).start r).1 := rfl

/-- The opcode's meaning runs on the begun state, and what it answers takes effect. -/
theorem runCommand_accepted {s : State} {t : Tick} {ref : RecRef} {op : Nat} {r : Rec} {b i : Bytes}
    (h : Accepted s t ref op r b i) (body : Cmd → State → State × Did) (f : State → State) (d : Did)
    (hb : body (s.cmd t r b i) (s.begun t r b i).1 = (f (s.begun t r b i).1, d)) :
    (s.act t fun u => u.runCommand op body ref) = .next (s.ends t r b i f d) := by
  obtain ⟨-, hw, ho, hs, hf, hc, hp, hn, ht⟩ := h
  have e : (s.begun t r b i).2.op = r.op := rfl
  have e2 : ((s.begun t r b i).2).body = b := rfl
  have e3 : ((s.begun t r b i).2).input = i := rfl
  subst ho
  unfold State.act State.runCommand
  simp only [hw, hs, hf, ne_eq, not_true_eq_false, false_and, or_self, if_false]
  have hl : ((s.at t).start r).1.launch { ((s.at t).start r).2 with body := b, input := i } body
      = ((f (s.begun t r b i).1).did (s.begun t r b i).2 d) := by
    unfold State.launch
    have hp' : ((s.at t).start r).1.place ((s.at t).start r).2.record ((nativeOp ((s.at t).start r).2.op).getD 0) b i = none := hp
    simp only [hp']
    unfold State.runBody
    have hn' : ((s.at t).start r).1.needsFail (needs ((nativeOp ((s.at t).start r).2.op).getD 0) b) = none := hn
    simp only [hn']
    have ht' : ¬ ((needs ((nativeOp ((s.at t).start r).2.op).getD 0) b).contains 16 = true ∧
        ¬ ((s.at t).start r).1.smc.trained = true) := by
      rintro ⟨h1, h2⟩
      rcases ht with h | h
      · exact absurd (h1.symm.trans h) (by decide)
      · exact h2 h
    simp only [ht', if_false]
    have hb' := hb
    simp only [State.cmd, begun_fst] at hb'
    exact congrArg (fun p : State × Did => p.1.did (s.begun t r b i).2 p.2) hb'
  simp only [hc]
  simp only [hl]
  rfl

/-- A command row is a run of its opcode's meaning on the record that it names. -/
def IsCommandRow (p : Nat × (Tick → RecRef → Instr)) : Prop :=
  ∃ body : Cmd → State → State × Did, ∀ (t : Tick) (ref : RecRef) (s : State), ref.ok = true →
    exec (p.2 t ref) s = s.act t fun s => s.runCommand p.1 body ref

theorem commandRows1_run : ∀ p ∈ commandRows1, IsCommandRow p := by
  unfold commandRows1
  repeat' (first | exact List.forall_mem_nil _ | refine List.forall_mem_cons.mpr ⟨⟨_, fun _ _ _ h => if_pos h⟩, ?_⟩)

theorem commandRows2_run : ∀ p ∈ commandRows2, IsCommandRow p := by
  unfold commandRows2
  repeat' (first | exact List.forall_mem_nil _ | refine List.forall_mem_cons.mpr ⟨⟨_, fun _ _ _ h => if_pos h⟩, ?_⟩)

theorem commandRows3_run : ∀ p ∈ commandRows3, IsCommandRow p := by
  unfold commandRows3
  repeat' (first | exact List.forall_mem_nil _ | refine List.forall_mem_cons.mpr ⟨⟨_, fun _ _ _ h => if_pos h⟩, ?_⟩)

/-- Every command row runs its opcode's meaning on the record that it names. -/
theorem commandRows_run (n : Nat) (row : Tick → RecRef → Instr) (h : (n, row) ∈ commandRows) : IsCommandRow (n, row) := by
  rcases List.mem_append.mp h with h | h
  · rcases List.mem_append.mp h with h | h
    · exact commandRows1_run _ h
    · exact commandRows2_run _ h
  · exact commandRows3_run _ h

end Sys2Proof.Machine
end

