-- ==== Sys2Proof/Laws/Maps.lean ====
section
/-! SUPPORT. Laws of the sparse maps: a read after a write, other keys, and the canonical form. -/

namespace Sys2Proof.Machine

variable {α : Type}

theorem mapFind_mapSet_self (m : Map α) (k : Nat) (v : α) : mapFind (mapSet m k v) k = some v := by
  induction m with
  | nil => simp [mapSet, mapFind]
  | cons p m ih =>
    obtain ⟨k', v'⟩ := p
    simp only [mapSet]
    split
    · simp [mapFind]
    · split
      · simp [mapFind]
      · rename_i h1 h2; simp [mapFind, h2, ih]

theorem mapFind_mapSet_ne (m : Map α) {k y : Nat} (v : α) (h : y ≠ k) : mapFind (mapSet m k v) y = mapFind m y := by
  induction m with
  | nil => simp [mapSet, mapFind, h]
  | cons p m ih =>
    obtain ⟨k', v'⟩ := p
    simp only [mapSet]
    split
    · simp [mapFind, h]
    · split
      · rename_i h1 h2; subst h2; simp [mapFind, h]
      · simp only [mapFind, ih]

theorem mapFind_mapDel_ne (m : Map α) {k y : Nat} (h : y ≠ k) : mapFind (mapDel m k) y = mapFind m y := by
  induction m with
  | nil => rfl
  | cons p m ih =>
    obtain ⟨k', v'⟩ := p
    simp only [mapDel]
    split
    · rename_i h1; subst h1; simp [mapFind, h]
    · simp only [mapFind, ih]

/-- A map's read after a write of a value other than the default. -/
theorem mapGet_mapPut_self [DecidableEq α] {d : α} (m : Map α) (k : Nat) {v : α} (h : v ≠ d) :
    mapGet d (mapPut d m k v) k = v := by
  simp [mapGet, mapPut, h, mapFind_mapSet_self]

/-- A write leaves every other key alone. -/
theorem mapGet_mapPut_ne [DecidableEq α] {d : α} (m : Map α) {k y : Nat} (v : α) (h : y ≠ k) :
    mapGet d (mapPut d m k v) y = mapGet d m y := by
  unfold mapGet mapPut
  split
  · rw [mapFind_mapDel_ne m h]
  · rw [mapFind_mapSet_ne m v h]

/-- Keys strictly rise from above `b`. -/
def risesFrom (b : Nat) : Map α → Bool
  | [] => true
  | (k, _) :: m => decide (b ≤ k) && risesFrom (k + 1) m

theorem risesFrom_le {b c : Nat} (h : c ≤ b) : ∀ {m : Map α}, risesFrom b m = true → risesFrom c m = true
  | [], _ => rfl
  | (k, v) :: m, hm => by
    simp only [risesFrom, Bool.and_eq_true, decide_eq_true_eq] at hm ⊢
    exact ⟨Nat.le_trans h hm.1, hm.2⟩

theorem mapFind_below {b y : Nat} (h : y < b) : ∀ {m : Map α}, risesFrom b m = true → mapFind m y = none
  | [], _ => rfl
  | (k, v) :: m, hm => by
    simp only [risesFrom, Bool.and_eq_true, decide_eq_true_eq] at hm
    have : y ≠ k := by omega
    simp only [mapFind, this, if_false]
    exact mapFind_below (by omega) hm.2

theorem risesFrom_mapSet {b k : Nat} (v : α) (hb : b ≤ k) : ∀ {m : Map α}, risesFrom b m = true →
    risesFrom b (mapSet m k v) = true
  | [], _ => by simp [mapSet, risesFrom, hb]
  | (k', v') :: m, hm => by
    simp only [risesFrom, Bool.and_eq_true, decide_eq_true_eq] at hm
    simp only [mapSet]
    split
    · rename_i h; simp only [risesFrom, Bool.and_eq_true, decide_eq_true_eq]; exact ⟨hb, by omega, hm.2⟩
    · split
      · rename_i h1 h2; subst h2; simp only [risesFrom, Bool.and_eq_true, decide_eq_true_eq]; exact hm
      · rename_i h1 h2
        simp only [risesFrom, Bool.and_eq_true, decide_eq_true_eq]
        have : k' + 1 ≤ k := by omega
        exact ⟨hm.1, risesFrom_mapSet v this hm.2⟩

theorem risesFrom_mapDel {b k : Nat} : ∀ {m : Map α}, risesFrom b m = true → risesFrom b (mapDel m k) = true
  | [], _ => rfl
  | (k', v') :: m, hm => by
    simp only [risesFrom, Bool.and_eq_true, decide_eq_true_eq] at hm
    simp only [mapDel]
    split
    · exact risesFrom_le (by omega) hm.2
    · simp only [risesFrom, Bool.and_eq_true, decide_eq_true_eq]; exact ⟨hm.1, risesFrom_mapDel hm.2⟩

theorem mapFind_mapDel_self {b k : Nat} : ∀ {m : Map α}, risesFrom b m = true → mapFind (mapDel m k) k = none
  | [], _ => rfl
  | (k', v') :: m, hm => by
    simp only [risesFrom, Bool.and_eq_true, decide_eq_true_eq] at hm
    simp only [mapDel]
    split
    · rename_i h; subst h; exact mapFind_below (by omega) hm.2
    · rename_i h; simp only [mapFind, h, if_false]; exact mapFind_mapDel_self hm.2

/-- No value of the map is the default. -/
def noDefault [DecidableEq α] (d : α) (m : Map α) : Bool := m.all fun p => decide (p.2 ≠ d)

/-- The canonical form, said by its two parts. -/
theorem mapWf_iff [DecidableEq α] (d : α) : ∀ (m : Map α), mapWf d m = true ↔ risesFrom 0 m = true ∧ noDefault d m = true
  | [] => by simp [mapWf, risesFrom, noDefault]
  | [(k, v)] => by simp [mapWf, risesFrom, noDefault]
  | (k, v) :: (k', v') :: m => by
    have ih := mapWf_iff d ((k', v') :: m)
    simp only [mapWf, Bool.and_eq_true, decide_eq_true_eq, ih, risesFrom, noDefault, List.all_cons]
    constructor
    · rintro ⟨⟨h1, h2⟩, ⟨h3, h4⟩, h5⟩; exact ⟨⟨Nat.zero_le _, by omega, h4⟩, h2, h5⟩
    · rintro ⟨⟨h1, h2, h3⟩, h4, h5⟩; exact ⟨⟨by omega, h4⟩, ⟨Nat.zero_le _, h3⟩, h5⟩

theorem noDefault_mapSet [DecidableEq α] {d v : α} (hv : v ≠ d) (k : Nat) : ∀ {m : Map α}, noDefault d m = true →
    noDefault d (mapSet m k v) = true
  | [], _ => by simp [mapSet, noDefault, hv]
  | (k', v') :: m, hm => by
    simp only [noDefault, List.all_cons, Bool.and_eq_true, decide_eq_true_eq] at hm
    have ih := noDefault_mapSet hv k hm.2
    simp only [noDefault] at ih
    simp only [mapSet]
    split
    · simp [noDefault, hv, hm.1]; simpa [noDefault] using hm.2
    · split
      · simp [noDefault, hv]; simpa [noDefault] using hm.2
      · simp only [noDefault, List.all_cons, Bool.and_eq_true, decide_eq_true_eq]; exact ⟨hm.1, ih⟩

theorem noDefault_mapDel [DecidableEq α] {d : α} (k : Nat) : ∀ {m : Map α}, noDefault d m = true →
    noDefault d (mapDel m k) = true
  | [], _ => rfl
  | (k', v') :: m, hm => by
    simp only [noDefault, List.all_cons, Bool.and_eq_true, decide_eq_true_eq] at hm
    have ih := noDefault_mapDel k hm.2
    simp only [noDefault] at ih
    simp only [mapDel]
    split
    · exact hm.2
    · simp only [noDefault, List.all_cons, Bool.and_eq_true, decide_eq_true_eq]; exact ⟨hm.1, ih⟩

/-- Every write keeps the canonical form. -/
theorem mapWf_mapPut [DecidableEq α] {d : α} {m : Map α} (h : mapWf d m = true) (k : Nat) (v : α) :
    mapWf d (mapPut d m k v) = true := by
  rw [mapWf_iff] at h ⊢
  unfold mapPut
  split
  · exact ⟨risesFrom_mapDel h.1, noDefault_mapDel k h.2⟩
  · rename_i hv; exact ⟨risesFrom_mapSet v (Nat.zero_le _) h.1, noDefault_mapSet hv k h.2⟩

/-- A map's read after any write, in the canonical form. -/
theorem mapGet_mapPut_wf [DecidableEq α] {d : α} {m : Map α} (h : mapWf d m = true) (k : Nat) (v : α) :
    mapGet d (mapPut d m k v) k = v := by
  rw [mapWf_iff] at h
  unfold mapGet mapPut
  split
  · rename_i hv; rw [mapFind_mapDel_self h.1, hv]; rfl
  · rw [mapFind_mapSet_self]; rfl

end Sys2Proof.Machine
end

