-- ==== Sys2Proof/Laws/Memory.lean ====
section
/-! SUPPORT. Laws of the scratch banks' and local RAMs' memory: every operation on it keeps the canonical form. -/

namespace Sys2Proof.Machine

/-- A byte written keeps the form. -/
theorem memPut_wf {m : List Host.Cell} (h : Memory.wf m = true) (a : Nat) (v : Byte) : Memory.wf (memPut m a v) = true :=
  mapWf_mapPut h a v

/-- A read after a write of one byte, and of any other. -/
theorem memGet_memPut {m : List Host.Cell} (h : Memory.wf m = true) (a : Nat) (v : Byte) (x : Nat) :
    memGet (memPut m a v) x = if x = a then v else memGet m x := by
  by_cases e : x = a
  · subst e; rw [if_pos rfl]; exact mapGet_mapPut_wf h x v
  · rw [if_neg e]; exact mapGet_mapPut_ne m v e

/-- Bytes stored keep the form. -/
theorem memStore_wf {m : List Host.Cell} (h : Memory.wf m = true) (a : Nat) (l : Bytes) : Memory.wf (memStore m a l) = true := by
  induction l generalizing m a with
  | nil => exact h
  | cons b l ih => exact ih (memPut_wf h a b) (a + 1)

/-- Bytes copied one by one keep the form. -/
theorem memPut_foldl_wf {m : List Host.Cell} (h : Memory.wf m = true) (l : List Host.Cell) (f : Nat → Nat) :
    Memory.wf (l.foldl (fun m c => memPut m (f c.1) c.2) m) = true := by
  induction l generalizing m with
  | nil => exact h
  | cons c l ih => exact ih (memPut_wf h _ _)

theorem risesFrom_filter {b : Nat} (p : Nat × Byte → Bool) : ∀ {m : List Host.Cell}, risesFrom b m = true →
    risesFrom b (m.filter p) = true
  | [], _ => rfl
  | (k, v) :: m, h => by
    simp only [risesFrom, Bool.and_eq_true, decide_eq_true_eq] at h
    rw [List.filter_cons]
    split
    · simp only [risesFrom, Bool.and_eq_true, decide_eq_true_eq]
      exact ⟨h.1, risesFrom_filter p h.2⟩
    · exact risesFrom_le (Nat.le_succ_of_le h.1) (risesFrom_filter p h.2)

/-- Ranges cleared keep the form. -/
theorem memFilter_wf {m : List Host.Cell} (h : Memory.wf m = true) (p : Host.Cell → Bool) : Memory.wf (m.filter p) = true := by
  obtain ⟨h1, h2⟩ := (mapWf_iff 0 m).mp h
  refine (mapWf_iff 0 _).mpr ⟨risesFrom_filter p h1, ?_⟩
  unfold noDefault at h2 ⊢
  rw [List.all_eq_true] at h2 ⊢
  exact fun x hx => h2 x (List.mem_filter.mp hx).1

/-- The memory after reset has the form. -/
theorem reset_mem_wf : Memory.wf State.reset.mem = true := rfl

end Sys2Proof.Machine
end

