-- ==== Sys2Proof/Laws/PerInstr.lean ====
section
/-! SUPPORT. Facts proved once per command: its check does not depend on the tick at which it comes. -/

namespace Sys2Proof.Laws.Checked

/-- The check of a command is the same at every tick. -/
def Statement (i : Instr) : Prop :=
  match i with
  | .sessionOpen t r => ∀ u, (Instr.sessionOpen u r).wf = (Instr.sessionOpen t r).wf
  | .sessionClose t r => ∀ u, (Instr.sessionClose u r).wf = (Instr.sessionClose t r).wf
  | .askOutcome t r => ∀ u, (Instr.askOutcome u r).wf = (Instr.askOutcome t r).wf
  | .getInfo t r => ∀ u, (Instr.getInfo u r).wf = (Instr.getInfo t r).wf
  | .attest t r => ∀ u, (Instr.attest u r).wf = (Instr.attest t r).wf
  | .musterComplete t r => ∀ u, (Instr.musterComplete u r).wf = (Instr.musterComplete t r).wf
  | .drowseEnter t r => ∀ u, (Instr.drowseEnter u r).wf = (Instr.drowseEnter t r).wf
  | .recoveryEnter t r => ∀ u, (Instr.recoveryEnter u r).wf = (Instr.recoveryEnter t r).wf
  | .lifecycleAdvance t r => ∀ u, (Instr.lifecycleAdvance u r).wf = (Instr.lifecycleAdvance t r).wf
  | .acceptWarrant t r => ∀ u, (Instr.acceptWarrant u r).wf = (Instr.acceptWarrant t r).wf
  | .dropWarrant t r => ∀ u, (Instr.dropWarrant u r).wf = (Instr.dropWarrant t r).wf
  | .recoveryBegin t r => ∀ u, (Instr.recoveryBegin u r).wf = (Instr.recoveryBegin t r).wf
  | .recoveryWrite t r => ∀ u, (Instr.recoveryWrite u r).wf = (Instr.recoveryWrite t r).wf
  | .recoveryCommit t r readBack => ∀ u, (Instr.recoveryCommit u r readBack).wf = (Instr.recoveryCommit t r readBack).wf
  | .recoveryExit t r => ∀ u, (Instr.recoveryExit u r).wf = (Instr.recoveryExit t r).wf
  | .keyGenerate t r => ∀ u, (Instr.keyGenerate u r).wf = (Instr.keyGenerate t r).wf
  | .keyImport t r => ∀ u, (Instr.keyImport u r).wf = (Instr.keyImport t r).wf
  | .keyExport t r => ∀ u, (Instr.keyExport u r).wf = (Instr.keyExport t r).wf
  | .keyGreen t r => ∀ u, (Instr.keyGreen u r).wf = (Instr.keyGreen t r).wf
  | .keySeason t r => ∀ u, (Instr.keySeason u r).wf = (Instr.keySeason t r).wf
  | .keyFell t r => ∀ u, (Instr.keyFell u r).wf = (Instr.keyFell t r).wf
  | .keyInfo t r => ∀ u, (Instr.keyInfo u r).wf = (Instr.keyInfo t r).wf
  | .kh1MapSet t r => ∀ u, (Instr.kh1MapSet u r).wf = (Instr.kh1MapSet t r).wf
  | .cellarExport t r => ∀ u, (Instr.cellarExport u r).wf = (Instr.cellarExport t r).wf
  | .cellarRestore t r => ∀ u, (Instr.cellarRestore u r).wf = (Instr.cellarRestore t r).wf
  | .trunkImport t r => ∀ u, (Instr.trunkImport u r).wf = (Instr.trunkImport t r).wf
  | .trunkReplace t r => ∀ u, (Instr.trunkReplace u r).wf = (Instr.trunkReplace t r).wf
  | .domainRootSet t r => ∀ u, (Instr.domainRootSet u r).wf = (Instr.domainRootSet t r).wf
  | .ladingExport t r => ∀ u, (Instr.ladingExport u r).wf = (Instr.ladingExport t r).wf
  | .ladingImport t r => ∀ u, (Instr.ladingImport u r).wf = (Instr.ladingImport t r).wf
  | .encrypt t r => ∀ u, (Instr.encrypt u r).wf = (Instr.encrypt t r).wf
  | .decrypt t r => ∀ u, (Instr.decrypt u r).wf = (Instr.decrypt t r).wf
  | .macGenerate t r => ∀ u, (Instr.macGenerate u r).wf = (Instr.macGenerate t r).wf
  | .macVerify t r => ∀ u, (Instr.macVerify u r).wf = (Instr.macVerify t r).wf
  | .translate t r => ∀ u, (Instr.translate u r).wf = (Instr.translate t r).wf
  | .digest t r => ∀ u, (Instr.digest u r).wf = (Instr.digest t r).wf
  | .hmacGenerate t r => ∀ u, (Instr.hmacGenerate u r).wf = (Instr.hmacGenerate t r).wf
  | .hmacVerify t r => ∀ u, (Instr.hmacVerify u r).wf = (Instr.hmacVerify t r).wf
  | .digestSave t r => ∀ u, (Instr.digestSave u r).wf = (Instr.digestSave t r).wf
  | .digestRestore t r => ∀ u, (Instr.digestRestore u r).wf = (Instr.digestRestore t r).wf
  | .pkSign t r => ∀ u, (Instr.pkSign u r).wf = (Instr.pkSign t r).wf
  | .pkVerify t r => ∀ u, (Instr.pkVerify u r).wf = (Instr.pkVerify t r).wf
  | .pkEncrypt t r => ∀ u, (Instr.pkEncrypt u r).wf = (Instr.pkEncrypt t r).wf
  | .pkDecrypt t r => ∀ u, (Instr.pkDecrypt u r).wf = (Instr.pkDecrypt t r).wf
  | .pkKeygen t r => ∀ u, (Instr.pkKeygen u r).wf = (Instr.pkKeygen t r).wf
  | .pkDerive t r => ∀ u, (Instr.pkDerive u r).wf = (Instr.pkDerive t r).wf
  | .curveLoad t r => ∀ u, (Instr.curveLoad u r).wf = (Instr.curveLoad t r).wf
  | .getRandom t r => ∀ u, (Instr.getRandom u r).wf = (Instr.getRandom t r).wf
  | .ledgerCreate t r => ∀ u, (Instr.ledgerCreate u r).wf = (Instr.ledgerCreate t r).wf
  | .accountOpen t r => ∀ u, (Instr.accountOpen u r).wf = (Instr.accountOpen t r).wf
  | .accountSetState t r => ∀ u, (Instr.accountSetState u r).wf = (Instr.accountSetState t r).wf
  | .postLegs t r => ∀ u, (Instr.postLegs u r).wf = (Instr.postLegs t r).wf
  | .accrue t r => ∀ u, (Instr.accrue u r).wf = (Instr.accrue t r).wf
  | .sealFetch t r => ∀ u, (Instr.sealFetch u r).wf = (Instr.sealFetch t r).wf
  | .journalBlock t r => ∀ u, (Instr.journalBlock u r).wf = (Instr.journalBlock t r).wf
  | .checkpoint t r => ∀ u, (Instr.checkpoint u r).wf = (Instr.checkpoint t r).wf
  | .boardRestore t r => ∀ u, (Instr.boardRestore u r).wf = (Instr.boardRestore t r).wf
  | .journalRollForward t r => ∀ u, (Instr.journalRollForward u r).wf = (Instr.journalRollForward t r).wf
  | .custodianEnrol t r => ∀ u, (Instr.custodianEnrol u r).wf = (Instr.custodianEnrol t r).wf
  | .custodianRemove t r => ∀ u, (Instr.custodianRemove u r).wf = (Instr.custodianRemove t r).wf
  | .quorumBegin t r => ∀ u, (Instr.quorumBegin u r).wf = (Instr.quorumBegin t r).wf
  | .cardAuthenticate t r => ∀ u, (Instr.cardAuthenticate u r).wf = (Instr.cardAuthenticate t r).wf
  | .quorumStatus t r => ∀ u, (Instr.quorumStatus u r).wf = (Instr.quorumStatus t r).wf
  | .quorumCancel t r => ∀ u, (Instr.quorumCancel u r).wf = (Instr.quorumCancel t r).wf
  | .shareExport t r => ∀ u, (Instr.shareExport u r).wf = (Instr.shareExport t r).wf
  | .shareImport t r => ∀ u, (Instr.shareImport u r).wf = (Instr.shareImport t r).wf
  | .twinStatus t r => ∀ u, (Instr.twinStatus u r).wf = (Instr.twinStatus t r).wf
  | .twinDetach t r => ∀ u, (Instr.twinDetach u r).wf = (Instr.twinDetach t r).wf
  | .twinRepair t r => ∀ u, (Instr.twinRepair u r).wf = (Instr.twinRepair t r).wf
  | .caravanStatus t r => ∀ u, (Instr.caravanStatus u r).wf = (Instr.caravanStatus t r).wf
  | .logFreeze t r => ∀ u, (Instr.logFreeze u r).wf = (Instr.logFreeze t r).wf
  | .logThaw t r => ∀ u, (Instr.logThaw u r).wf = (Instr.logThaw t r).wf
  | .logExport t r => ∀ u, (Instr.logExport u r).wf = (Instr.logExport t r).wf
  | .captureStart t r => ∀ u, (Instr.captureStart u r).wf = (Instr.captureStart t r).wf
  | .captureStop t r => ∀ u, (Instr.captureStop u r).wf = (Instr.captureStop t r).wf
  | .replayStart t r => ∀ u, (Instr.replayStart u r).wf = (Instr.replayStart t r).wf
  | .replayStop t r => ∀ u, (Instr.replayStop u r).wf = (Instr.replayStop t r).wf
  | .pinTranslate t r => ∀ u, (Instr.pinTranslate u r).wf = (Instr.pinTranslate t r).wf
  | .pinVerify t r => ∀ u, (Instr.pinVerify u r).wf = (Instr.pinVerify t r).wf
  | .cardCheckGenerate t r => ∀ u, (Instr.cardCheckGenerate u r).wf = (Instr.cardCheckGenerate t r).wf
  | .cardCheckVerify t r => ∀ u, (Instr.cardCheckVerify u r).wf = (Instr.cardCheckVerify t r).wf
  | .encipher t r => ∀ u, (Instr.encipher u r).wf = (Instr.encipher t r).wf
  | .decipher t r => ∀ u, (Instr.decipher u r).wf = (Instr.decipher t r).wf
  | .macGen t r => ∀ u, (Instr.macGen u r).wf = (Instr.macGen t r).wf
  | .macVer t r => ∀ u, (Instr.macVer u r).wf = (Instr.macVer t r).wf
  | .balMacGen t r => ∀ u, (Instr.balMacGen u r).wf = (Instr.balMacGen t r).wf
  | .balMacVer t r => ∀ u, (Instr.balMacVer u r).wf = (Instr.balMacVer t r).wf
  | .pinXlate t r => ∀ u, (Instr.pinXlate u r).wf = (Instr.pinXlate t r).wf
  | .kh1PinVerify t r => ∀ u, (Instr.kh1PinVerify u r).wf = (Instr.kh1PinVerify t r).wf
  | .random t r => ∀ u, (Instr.random u r).wf = (Instr.random t r).wf
  | .sqTailDoorbell t fn q v => ∀ u, (Instr.sqTailDoorbell u fn q v).wf = (Instr.sqTailDoorbell t fn q v).wf
  | .cqHeadDoorbell t fn q v => ∀ u, (Instr.cqHeadDoorbell u fn q v).wf = (Instr.cqHeadDoorbell t fn q v).wf
  | .sqEntryFetched t fn q f => ∀ u, (Instr.sqEntryFetched u fn q f).wf = (Instr.sqEntryFetched t fn q f).wf
  | .queueEnable t fn q v => ∀ u, (Instr.queueEnable u fn q v).wf = (Instr.queueEnable t fn q v).wf
  | .queueDisable t fn q v => ∀ u, (Instr.queueDisable u fn q v).wf = (Instr.queueDisable t fn q v).wf
  | .queueDrainEnd t fn q => ∀ u, (Instr.queueDrainEnd u fn q).wf = (Instr.queueDrainEnd t fn q).wf
  | .msixAggregationTimeout t fn q => ∀ u, (Instr.msixAggregationTimeout u fn q).wf = (Instr.msixAggregationTimeout t fn q).wf
  | .ttuWindowWrite t fn w reg v => ∀ u, (Instr.ttuWindowWrite u fn w reg v).wf = (Instr.ttuWindowWrite t fn w reg v).wf
  | .flrStart t vf => ∀ u, (Instr.flrStart u vf).wf = (Instr.flrStart t vf).wf
  | .flrComplete t vf => ∀ u, (Instr.flrComplete u vf).wf = (Instr.flrComplete t vf).wf
  | .vfDisable t vfEnable numVfs => ∀ u, (Instr.vfDisable u vfEnable numVfs).wf = (Instr.vfDisable t vfEnable numVfs).wf
  | .configurationRequest t fn c => ∀ u, (Instr.configurationRequest u fn c).wf = (Instr.configurationRequest t fn c).wf
  | .hostInterfaceReset t k => ∀ u, (Instr.hostInterfaceReset u k).wf = (Instr.hostInterfaceReset t k).wf
  | .bar0MisalignedAccess t fn write => ∀ u, (Instr.bar0MisalignedAccess u fn write).wf = (Instr.bar0MisalignedAccess t fn write).wf
  | .poisonedWrite t fn => ∀ u, (Instr.poisonedWrite u fn).wf = (Instr.poisonedWrite t fn).wf
  | .ecrcFailure t fn => ∀ u, (Instr.ecrcFailure u fn).wf = (Instr.ecrcFailure t fn).wf
  | .dmaCompletion t fn q k stamp good => ∀ u, (Instr.dmaCompletion u fn q k stamp good).wf = (Instr.dmaCompletion t fn q k stamp good).wf
  | .completionTimeout t fn q k => ∀ u, (Instr.completionTimeout u fn q k).wf = (Instr.completionTimeout t fn q k).wf
  | .registerWrite t path off v eight => ∀ u, (Instr.registerWrite u path off v eight).wf = (Instr.registerWrite t path off v eight).wf
  | .pairCaptureRead t path off eight => ∀ u, (Instr.pairCaptureRead u path off eight).wf = (Instr.pairCaptureRead t path off eight).wf
  | .rngFifoDataRead t => ∀ u, (Instr.rngFifoDataRead u).wf = (Instr.rngFifoDataRead t).wf
  | .domainOn t domain units discard rsv => ∀ u, (Instr.domainOn u domain units discard rsv).wf = (Instr.domainOn t domain units discard rsv).wf
  | .domainRetain t domain units discard rsv => ∀ u, (Instr.domainRetain u domain units discard rsv).wf = (Instr.domainRetain t domain units discard rsv).wf
  | .domainOff t domain units discard rsv => ∀ u, (Instr.domainOff u domain units discard rsv).wf = (Instr.domainOff t domain units discard rsv).wf
  | .powerRequestDecision t => ∀ u, (Instr.powerRequestDecision u).wf = (Instr.powerRequestDecision t).wf
  | .powerRequestEnd t copyGood testsPass => ∀ u, (Instr.powerRequestEnd u copyGood testsPass).wf = (Instr.powerRequestEnd t copyGood testsPass).wf
  | .pwrClkOverrideWrite t island mhz => ∀ u, (Instr.pwrClkOverrideWrite u island mhz).wf = (Instr.pwrClkOverrideWrite t island mhz).wf
  | .irqGroupWrite t g v => ∀ u, (Instr.irqGroupWrite u g v).wf = (Instr.irqGroupWrite t g v).wf
  | .leafCauseClear t leaf v => ∀ u, (Instr.leafCauseClear u leaf v).wf = (Instr.leafCauseClear t leaf v).wf
  | .resawStart t index => ∀ u, (Instr.resawStart u index).wf = (Instr.resawStart t index).wf
  | .resawWindow t poisoned => ∀ u, (Instr.resawWindow u poisoned).wf = (Instr.resawWindow t poisoned).wf
  | .ndlPortEnable t port on => ∀ u, (Instr.ndlPortEnable u port on).wf = (Instr.ndlPortEnable t port on).wf
  | .ndlRetrain t port => ∀ u, (Instr.ndlRetrain u port).wf = (Instr.ndlRetrain t port).wf
  | .ndlDrop t port => ∀ u, (Instr.ndlDrop u port).wf = (Instr.ndlDrop t port).wf
  | .potEntryWrite t v => ∀ u, (Instr.potEntryWrite u v).wf = (Instr.potEntryWrite t v).wf
  | .potEntryEffect t => ∀ u, (Instr.potEntryEffect u).wf = (Instr.potEntryEffect t).wf
  | .mpuEntryWrite t path mpu entry reg v => ∀ u, (Instr.mpuEntryWrite u path mpu entry reg v).wf = (Instr.mpuEntryWrite t path mpu entry reg v).wf
  | .kh1StraddleWrite t core on => ∀ u, (Instr.kh1StraddleWrite u core on).wf = (Instr.kh1StraddleWrite t core on).wf
  | .bnkGroupOwnerWrite t g v => ∀ u, (Instr.bnkGroupOwnerWrite u g v).wf = (Instr.bnkGroupOwnerWrite t g v).wf
  | .bankGroupWipeDone t g => ∀ u, (Instr.bankGroupWipeDone u g).wf = (Instr.bankGroupWipeDone t g).wf
  | .isoDmaAssignWrite t k v => ∀ u, (Instr.isoDmaAssignWrite u k v).wf = (Instr.isoDmaAssignWrite t k v).wf
  | .isoIrqRouteWrite t l core => ∀ u, (Instr.isoIrqRouteWrite u l core).wf = (Instr.isoIrqRouteWrite t l core).wf
  | .logPeekIndexWrite t path v => ∀ u, (Instr.logPeekIndexWrite u path v).wf = (Instr.logPeekIndexWrite t path v).wf
  | .rplBreakWrite t v => ∀ u, (Instr.rplBreakWrite u v).wf = (Instr.rplBreakWrite t v).wf
  | .i3cPrivateWrite t data => ∀ u, (Instr.i3cPrivateWrite u data).wf = (Instr.i3cPrivateWrite t data).wf
  | .i3cPrivateRead t n => ∀ u, (Instr.i3cPrivateRead u n).wf = (Instr.i3cPrivateRead t n).wf
  | .setdasa t addr => ∀ u, (Instr.setdasa u addr).wf = (Instr.setdasa t addr).wf
  | .rstdaa t => ∀ u, (Instr.rstdaa u).wf = (Instr.rstdaa t).wf
  | .getbcr t => ∀ u, (Instr.getbcr u).wf = (Instr.getbcr t).wf
  | .getdcr t => ∀ u, (Instr.getdcr u).wf = (Instr.getdcr t).wf
  | .getstatus t => ∀ u, (Instr.getstatus u).wf = (Instr.getstatus t).wf
  | .enec t => ∀ u, (Instr.enec u).wf = (Instr.enec t).wf
  | .disec t => ∀ u, (Instr.disec u).wf = (Instr.disec t).wf
  | .idcode t => ∀ u, (Instr.idcode u).wf = (Instr.idcode t).wf
  | .samplePreload t balls shift => ∀ u, (Instr.samplePreload u balls shift).wf = (Instr.samplePreload t balls shift).wf
  | .extest t => ∀ u, (Instr.extest u).wf = (Instr.extest t).wf
  | .clamp t => ∀ u, (Instr.clamp u).wf = (Instr.clamp t).wf
  | .highz t => ∀ u, (Instr.highz u).wf = (Instr.highz t).wf
  | .bypass t code => ∀ u, (Instr.bypass u code).wf = (Instr.bypass t code).wf
  | .lcsAdvance t => ∀ u, (Instr.lcsAdvance u).wf = (Instr.lcsAdvance t).wf
  | .debugAccess t code op => ∀ u, (Instr.debugAccess u code op).wf = (Instr.debugAccess t code op).wf
  | .tapReset t => ∀ u, (Instr.tapReset u).wf = (Instr.tapReset t).wf
  | .powerOnReset t => ∀ u, (Instr.powerOnReset u).wf = (Instr.powerOnReset t).wf
  | .sysResetNAssert t ns => ∀ u, (Instr.sysResetNAssert u ns).wf = (Instr.sysResetNAssert t ns).wf
  | .sysResetNDeassert t => ∀ u, (Instr.sysResetNDeassert u).wf = (Instr.sysResetNDeassert t).wf
  | .mainPowerLoss t => ∀ u, (Instr.mainPowerLoss u).wf = (Instr.mainPowerLoss t).wf
  | .vbatLossInDormant t => ∀ u, (Instr.vbatLossInDormant u).wf = (Instr.vbatLossInDormant t).wf
  | .otpDecode t badEntries => ∀ u, (Instr.otpDecode u badEntries).wf = (Instr.otpDecode t badEntries).wf
  | .tallyCatchUp t => ∀ u, (Instr.tallyCatchUp u).wf = (Instr.tallyCatchUp t).wf
  | .entropyStartUp t katPass failed => ∀ u, (Instr.entropyStartUp u katPass failed).wf = (Instr.entropyStartUp t katPass failed).wf
  | .manifestHeaderRead t header flashSize => ∀ u, (Instr.manifestHeaderRead u header flashSize).wf = (Instr.manifestHeaderRead t header flashSize).wf
  | .flashIdentificationTimeout t => ∀ u, (Instr.flashIdentificationTimeout u).wf = (Instr.flashIdentificationTimeout t).wf
  | .settingsSectionRead t data => ∀ u, (Instr.settingsSectionRead u data).wf = (Instr.settingsSectionRead t data).wf
  | .firmwareSectionsRead t sections => ∀ u, (Instr.firmwareSectionsRead u sections).wf = (Instr.firmwareSectionsRead t sections).wf
  | .sdramTrainingDone t ch0 ch1 mismatch config => ∀ u, (Instr.sdramTrainingDone u ch0 ch1 mismatch config).wf = (Instr.sdramTrainingDone t ch0 ch1 mismatch config).wf
  | .barrierStart t => ∀ u, (Instr.barrierStart u).wf = (Instr.barrierStart t).wf
  | .barrierAck t island stamp => ∀ u, (Instr.barrierAck u island stamp).wf = (Instr.barrierAck t island stamp).wf
  | .barrierTimeout t => ∀ u, (Instr.barrierTimeout u).wf = (Instr.barrierTimeout t).wf
  | .lcsBitWrite t verified => ∀ u, (Instr.lcsBitWrite u verified).wf = (Instr.lcsBitWrite t verified).wf
  | .tallyIncrement t verified => ∀ u, (Instr.tallyIncrement u verified).wf = (Instr.tallyIncrement t verified).wf
  | .tamperConditionOnset t cls detail => ∀ u, (Instr.tamperConditionOnset u cls detail).wf = (Instr.tamperConditionOnset t cls detail).wf
  | .tamperConditionClear t cls => ∀ u, (Instr.tamperConditionClear u cls).wf = (Instr.tamperConditionClear t cls).wf
  | .glitchExcursionEnd t cls first detail => ∀ u, (Instr.glitchExcursionEnd u cls first detail).wf = (Instr.glitchExcursionEnd t cls first detail).wf
  | .tamperDebounceExpiry t classes => ∀ u, (Instr.tamperDebounceExpiry u classes).wf = (Instr.tamperDebounceExpiry t classes).wf
  | .dozeSample t held => ∀ u, (Instr.dozeSample u held).wf = (Instr.dozeSample t held).wf
  | .severDrainDone t => ∀ u, (Instr.severDrainDone u).wf = (Instr.severDrainDone t).wf
  | .clearsDone t => ∀ u, (Instr.clearsDone u).wf = (Instr.clearsDone t).wf
  | .cardInsertion t port => ∀ u, (Instr.cardInsertion u port).wf = (Instr.cardInsertion t port).wf
  | .cardInsertionRecognised t port => ∀ u, (Instr.cardInsertionRecognised u port).wf = (Instr.cardInsertionRecognised t port).wf
  | .cardRemoval t port => ∀ u, (Instr.cardRemoval u port).wf = (Instr.cardRemoval t port).wf
  | .overcurrentOnset t port => ∀ u, (Instr.overcurrentOnset u port).wf = (Instr.overcurrentOnset t port).wf
  | .overcurrentFilterExpiry t port => ∀ u, (Instr.overcurrentFilterExpiry u port).wf = (Instr.overcurrentFilterExpiry t port).wf
  | .cardActivationTimer t port => ∀ u, (Instr.cardActivationTimer u port).wf = (Instr.cardActivationTimer t port).wf
  | .cardDeactivationTimer t port => ∀ u, (Instr.cardDeactivationTimer u port).wf = (Instr.cardDeactivationTimer t port).wf
  | .atrTimeout t port => ∀ u, (Instr.atrTimeout u port).wf = (Instr.atrTimeout t port).wf
  | .cardAtr t port atr => ∀ u, (Instr.cardAtr u port atr).wf = (Instr.cardAtr t port atr).wf
  | .ppsResponse t port data => ∀ u, (Instr.ppsResponse u port data).wf = (Instr.ppsResponse t port data).wf
  | .ppsTimeout t port => ∀ u, (Instr.ppsTimeout u port).wf = (Instr.ppsTimeout t port).wf
  | .sIfsResponse t port data => ∀ u, (Instr.sIfsResponse u port data).wf = (Instr.sIfsResponse t port data).wf
  | .t1IBlock t port block stamp => ∀ u, (Instr.t1IBlock u port block stamp).wf = (Instr.t1IBlock t port block stamp).wf
  | .t1RBlock t port block stamp => ∀ u, (Instr.t1RBlock u port block stamp).wf = (Instr.t1RBlock t port block stamp).wf
  | .t1BadBlock t port => ∀ u, (Instr.t1BadBlock u port).wf = (Instr.t1BadBlock t port).wf
  | .bwtExpiry t port => ∀ u, (Instr.bwtExpiry u port).wf = (Instr.bwtExpiry t port).wf
  | .sWtxRequest t port mult => ∀ u, (Instr.sWtxRequest u port mult).wf = (Instr.sWtxRequest t port mult).wf
  | .sAbortRequest t port => ∀ u, (Instr.sAbortRequest u port).wf = (Instr.sAbortRequest t port).wf
  | .sResynchResponse t port => ∀ u, (Instr.sResynchResponse u port).wf = (Instr.sResynchResponse t port).wf
  | .selectAnswer t port sw => ∀ u, (Instr.selectAnswer u port sw).wf = (Instr.selectAnswer t port sw).wf
  | .readCertAnswer t port data sw => ∀ u, (Instr.readCertAnswer u port data sw).wf = (Instr.readCertAnswer t port data sw).wf
  | .authenticateAnswer t port data sw => ∀ u, (Instr.authenticateAnswer u port data sw).wf = (Instr.authenticateAnswer t port data sw).wf
  | .confirmAnswer t port sw stamp => ∀ u, (Instr.confirmAnswer u port sw stamp).wf = (Instr.confirmAnswer t port sw stamp).wf
  | .bindAnswer t port sw => ∀ u, (Instr.bindAnswer u port sw).wf = (Instr.bindAnswer t port sw).wf
  | .transitInsertion t => ∀ u, (Instr.transitInsertion u).wf = (Instr.transitInsertion t).wf
  | .transitRemoval t => ∀ u, (Instr.transitRemoval u).wf = (Instr.transitRemoval t).wf
  | .sdPowerUpTimer t => ∀ u, (Instr.sdPowerUpTimer u).wf = (Instr.sdPowerUpTimer t).wf
  | .sdCommandResponse t data crcGood => ∀ u, (Instr.sdCommandResponse u data crcGood).wf = (Instr.sdCommandResponse t data crcGood).wf
  | .sdResponseTimeout t => ∀ u, (Instr.sdResponseTimeout u).wf = (Instr.sdResponseTimeout t).wf
  | .sdReadBlock t data crcGood => ∀ u, (Instr.sdReadBlock u data crcGood).wf = (Instr.sdReadBlock t data crcGood).wf
  | .sdReadTimeout t => ∀ u, (Instr.sdReadTimeout u).wf = (Instr.sdReadTimeout t).wf
  | .sdCrcStatusToken t good => ∀ u, (Instr.sdCrcStatusToken u good).wf = (Instr.sdCrcStatusToken t good).wf
  | .sdBusyEnd t => ∀ u, (Instr.sdBusyEnd u).wf = (Instr.sdBusyEnd t).wf
  | .sdBusyTimeout t => ∀ u, (Instr.sdBusyTimeout u).wf = (Instr.sdBusyTimeout t).wf
  | .acmd41Retry t => ∀ u, (Instr.acmd41Retry u).wf = (Instr.acmd41Retry t).wf
  | .acmd41Timeout t => ∀ u, (Instr.acmd41Timeout u).wf = (Instr.acmd41Timeout t).wf
  | .voltageSwitchWait t datHigh => ∀ u, (Instr.voltageSwitchWait u datHigh).wf = (Instr.voltageSwitchWait t datHigh).wf
  | .datHighTimeout t => ∀ u, (Instr.datHighTimeout u).wf = (Instr.datHighTimeout t).wf
  | .sdPowerCycleWait t => ∀ u, (Instr.sdPowerCycleWait u).wf = (Instr.sdPowerCycleWait t).wf
  | .sdTuningBlock t good => ∀ u, (Instr.sdTuningBlock u good).wf = (Instr.sdTuningBlock t good).wf
  | .ndlDetectTimer t port terminated => ∀ u, (Instr.ndlDetectTimer u port terminated).wf = (Instr.ndlDetectTimer t port terminated).wf
  | .trainingSequence t port lane ts => ∀ u, (Instr.trainingSequence u port lane ts).wf = (Instr.trainingSequence t port lane ts).wf
  | .trainingWindowExpiry t port => ∀ u, (Instr.trainingWindowExpiry u port).wf = (Instr.trainingWindowExpiry t port).wf
  | .keyFailBackoffExpiry t port => ∀ u, (Instr.keyFailBackoffExpiry u port).wf = (Instr.keyFailBackoffExpiry t port).wf
  | .laneLockLoss t port lane => ∀ u, (Instr.laneLockLoss u port lane).wf = (Instr.laneLockLoss t port lane).wf
  | .retrainWindowExpiry t port => ∀ u, (Instr.retrainWindowExpiry u port).wf = (Instr.retrainWindowExpiry t port).wf
  | .flitReceived t port flit => ∀ u, (Instr.flitReceived u port flit).wf = (Instr.flitReceived t port flit).wf
  | .nakReceived t port flit => ∀ u, (Instr.nakReceived u port flit).wf = (Instr.nakReceived t port flit).wf
  | .replayTimerExpiry t port => ∀ u, (Instr.replayTimerExpiry u port).wf = (Instr.replayTimerExpiry t port).wf
  | .convoyTagCheck t port => ∀ u, (Instr.convoyTagCheck u port).wf = (Instr.convoyTagCheck t port).wf
  | .messageForward t port msg => ∀ u, (Instr.messageForward u port msg).wf = (Instr.messageForward t port msg).wf
  | .keyOffer t port offer => ∀ u, (Instr.keyOffer u port offer).wf = (Instr.keyOffer t port offer).wf
  | .keyConfirm t port confirm => ∀ u, (Instr.keyConfirm u port confirm).wf = (Instr.keyConfirm t port confirm).wf
  | .routeProbe t m => ∀ u, (Instr.routeProbe u m).wf = (Instr.routeProbe t m).wf
  | .routeEcho t m => ∀ u, (Instr.routeEcho u m).wf = (Instr.routeEcho t m).wf
  | .mirrorPosting t m => ∀ u, (Instr.mirrorPosting u m).wf = (Instr.mirrorPosting t m).wf
  | .mirrorAck t m => ∀ u, (Instr.mirrorAck u m).wf = (Instr.mirrorAck t m).wf
  | .cellarSync t m => ∀ u, (Instr.cellarSync u m).wf = (Instr.cellarSync t m).wf
  | .cellarSyncAck t m => ∀ u, (Instr.cellarSyncAck u m).wf = (Instr.cellarSyncAck t m).wf
  | .counterAdvance t m => ∀ u, (Instr.counterAdvance u m).wf = (Instr.counterAdvance t m).wf
  | .resyncBulk t m => ∀ u, (Instr.resyncBulk u m).wf = (Instr.resyncBulk t m).wf
  | .resyncAck t m => ∀ u, (Instr.resyncAck u m).wf = (Instr.resyncAck t m).wf
  | .twinState t m => ∀ u, (Instr.twinState u m).wf = (Instr.twinState t m).wf
  | .decisionRecord t m => ∀ u, (Instr.decisionRecord u m).wf = (Instr.decisionRecord t m).wf
  | .legPrepare t m => ∀ u, (Instr.legPrepare u m).wf = (Instr.legPrepare t m).wf
  | .legPrepared t m => ∀ u, (Instr.legPrepared u m).wf = (Instr.legPrepared t m).wf
  | .legRefused t m => ∀ u, (Instr.legRefused u m).wf = (Instr.legRefused t m).wf
  | .legCommit t m => ∀ u, (Instr.legCommit u m).wf = (Instr.legCommit t m).wf
  | .legAbort t m => ∀ u, (Instr.legAbort u m).wf = (Instr.legAbort t m).wf
  | .legDone t m => ∀ u, (Instr.legDone u m).wf = (Instr.legDone t m).wf
  | .legReport t m => ∀ u, (Instr.legReport u m).wf = (Instr.legReport t m).wf
  | .epochPrepare t m => ∀ u, (Instr.epochPrepare u m).wf = (Instr.epochPrepare t m).wf
  | .epochReady t m => ∀ u, (Instr.epochReady u m).wf = (Instr.epochReady t m).wf
  | .epochCommit t m => ∀ u, (Instr.epochCommit u m).wf = (Instr.epochCommit t m).wf
  | .epochRollback t m => ∀ u, (Instr.epochRollback u m).wf = (Instr.epochRollback t m).wf
  | .epochRefuse t m => ∀ u, (Instr.epochRefuse u m).wf = (Instr.epochRefuse t m).wf
  | .epochDone t m => ∀ u, (Instr.epochDone u m).wf = (Instr.epochDone t m).wf
  | .commandForward t m => ∀ u, (Instr.commandForward u m).wf = (Instr.commandForward t m).wf
  | .commandResult t m => ∀ u, (Instr.commandResult u m).wf = (Instr.commandResult t m).wf
  | .ladingMove t m => ∀ u, (Instr.ladingMove u m).wf = (Instr.ladingMove t m).wf
  | .ladingAck t m => ∀ u, (Instr.ladingAck u m).wf = (Instr.ladingAck t m).wf
  | .mirrorTimeout t txn => ∀ u, (Instr.mirrorTimeout u txn).wf = (Instr.mirrorTimeout t txn).wf
  | .syncTimeout t txn => ∀ u, (Instr.syncTimeout u txn).wf = (Instr.syncTimeout t txn).wf
  | .caravanTimeout t txn => ∀ u, (Instr.caravanTimeout u txn).wf = (Instr.caravanTimeout t txn).wf
  | .epochPrepareWindowExpiry t => ∀ u, (Instr.epochPrepareWindowExpiry u).wf = (Instr.epochPrepareWindowExpiry t).wf
  | .prepareWindowExpiry t ledger id => ∀ u, (Instr.prepareWindowExpiry u ledger id).wf = (Instr.prepareWindowExpiry t ledger id).wf
  | .decisionWindowExpiry t ledger id => ∀ u, (Instr.decisionWindowExpiry u ledger id).wf = (Instr.decisionWindowExpiry t ledger id).wf
  | .twinDisconnectTimeout t => ∀ u, (Instr.twinDisconnectTimeout u).wf = (Instr.twinDisconnectTimeout t).wf
  | .unacknowledgedTimeout t => ∀ u, (Instr.unacknowledgedTimeout u).wf = (Instr.unacknowledgedTimeout t).wf
  | .pairingTimeout t => ∀ u, (Instr.pairingTimeout u).wf = (Instr.pairingTimeout t).wf
  | .resyncStart t => ∀ u, (Instr.resyncStart u).wf = (Instr.resyncStart t).wf
  | .resyncWindowExpiry t => ∀ u, (Instr.resyncWindowExpiry u).wf = (Instr.resyncWindowExpiry t).wf
  | .resyncHoldExpiry t => ∀ u, (Instr.resyncHoldExpiry u).wf = (Instr.resyncHoldExpiry t).wf
  | .counterAdvanceSend t => ∀ u, (Instr.counterAdvanceSend u).wf = (Instr.counterAdvanceSend t).wf
  | .outcomeBatchSync t => ∀ u, (Instr.outcomeBatchSync u).wf = (Instr.outcomeBatchSync t).wf
  | .receiptExpiry t tenant nonce => ∀ u, (Instr.receiptExpiry u tenant nonce).wf = (Instr.receiptExpiry t tenant nonce).wf
  | .pendingMarkClear t r => ∀ u, (Instr.pendingMarkClear u r).wf = (Instr.pendingMarkClear t r).wf
  | .checkpointCopyDone t ledger => ∀ u, (Instr.checkpointCopyDone u ledger).wf = (Instr.checkpointCopyDone t ledger).wf
  | .journalBlockSign t ledger => ∀ u, (Instr.journalBlockSign u ledger).wf = (Instr.journalBlockSign t ledger).wf
  | .captureBaseCopyDone t => ∀ u, (Instr.captureBaseCopyDone u).wf = (Instr.captureBaseCopyDone t).wf
  | .replayRecord t => ∀ u, (Instr.replayRecord u).wf = (Instr.replayRecord t).wf
  | .logFreezeWindowClose t => ∀ u, (Instr.logFreezeWindowClose u).wf = (Instr.logFreezeWindowClose t).wf
  | .skidderVisit t => ∀ u, (Instr.skidderVisit u).wf = (Instr.skidderVisit t).wf
  | .scrubberRead t a word errors => ∀ u, (Instr.scrubberRead u a word errors).wf = (Instr.scrubberRead t a word errors).wf
  | .laneJobDispatch t k lane => ∀ u, (Instr.laneJobDispatch u k lane).wf = (Instr.laneJobDispatch t k lane).wf
  | .maskReseedPoint t lane => ∀ u, (Instr.maskReseedPoint u lane).wf = (Instr.maskReseedPoint t lane).wf
  | .cipherJobDone t lane fault => ∀ u, (Instr.cipherJobDone u lane fault).wf = (Instr.cipherJobDone t lane fault).wf
  | .digestJobDone t lane fault => ∀ u, (Instr.digestJobDone u lane fault).wf = (Instr.digestJobDone t lane fault).wf
  | .bigNumberJobDone t lane fault discards => ∀ u, (Instr.bigNumberJobDone u lane fault discards).wf = (Instr.bigNumberJobDone t lane fault discards).wf
  | .decimalJobDone t lane fault => ∀ u, (Instr.decimalJobDone u lane fault).wf = (Instr.decimalJobDone t lane fault).wf
  | .startUpTestDone t source rctFail aptFail => ∀ u, (Instr.startUpTestDone u source rctFail aptFail).wf = (Instr.startUpTestDone t source rctFail aptFail).wf
  | .repetitionCountTestFail t source => ∀ u, (Instr.repetitionCountTestFail u source).wf = (Instr.repetitionCountTestFail t source).wf
  | .adaptiveProportionTestFail t source => ∀ u, (Instr.adaptiveProportionTestFail u source).wf = (Instr.adaptiveProportionTestFail t source).wf
  | .conditionerBlockClose t => ∀ u, (Instr.conditionerBlockClose u).wf = (Instr.conditionerBlockClose t).wf
  | .quarantineWindowClose t source => ∀ u, (Instr.quarantineWindowClose u source).wf = (Instr.quarantineWindowClose t source).wf
  | .bufferRefill t k lane => ∀ u, (Instr.bufferRefill u k lane).wf = (Instr.bufferRefill t k lane).wf
  | .wardenFifoRefill t => ∀ u, (Instr.wardenFifoRefill u).wf = (Instr.wardenFifoRefill t).wf
  | .commandDeadlineExpiry t r => ∀ u, (Instr.commandDeadlineExpiry u r).wf = (Instr.commandDeadlineExpiry t r).wf
  | .cellFitted t => ∀ u, (Instr.cellFitted u).wf = (Instr.cellFitted t).wf
  | .pcieLinkUp t width speed => ∀ u, (Instr.pcieLinkUp u width speed).wf = (Instr.pcieLinkUp t width speed).wf

theorem sessionOpen (t : Tick) (r : Machine.RecRef) : Statement (.sessionOpen t r) := fun _ => rfl
theorem sessionClose (t : Tick) (r : Machine.RecRef) : Statement (.sessionClose t r) := fun _ => rfl
theorem askOutcome (t : Tick) (r : Machine.RecRef) : Statement (.askOutcome t r) := fun _ => rfl
theorem getInfo (t : Tick) (r : Machine.RecRef) : Statement (.getInfo t r) := fun _ => rfl
theorem attest (t : Tick) (r : Machine.RecRef) : Statement (.attest t r) := fun _ => rfl
theorem musterComplete (t : Tick) (r : Machine.RecRef) : Statement (.musterComplete t r) := fun _ => rfl
theorem drowseEnter (t : Tick) (r : Machine.RecRef) : Statement (.drowseEnter t r) := fun _ => rfl
theorem recoveryEnter (t : Tick) (r : Machine.RecRef) : Statement (.recoveryEnter t r) := fun _ => rfl
theorem lifecycleAdvance (t : Tick) (r : Machine.RecRef) : Statement (.lifecycleAdvance t r) := fun _ => rfl
theorem acceptWarrant (t : Tick) (r : Machine.RecRef) : Statement (.acceptWarrant t r) := fun _ => rfl
theorem dropWarrant (t : Tick) (r : Machine.RecRef) : Statement (.dropWarrant t r) := fun _ => rfl
theorem recoveryBegin (t : Tick) (r : Machine.RecRef) : Statement (.recoveryBegin t r) := fun _ => rfl
theorem recoveryWrite (t : Tick) (r : Machine.RecRef) : Statement (.recoveryWrite t r) := fun _ => rfl
theorem recoveryCommit (t : Tick) (r : Machine.RecRef) (readBack : Bool) : Statement (.recoveryCommit t r readBack) := fun _ => rfl
theorem recoveryExit (t : Tick) (r : Machine.RecRef) : Statement (.recoveryExit t r) := fun _ => rfl
theorem keyGenerate (t : Tick) (r : Machine.RecRef) : Statement (.keyGenerate t r) := fun _ => rfl
theorem keyImport (t : Tick) (r : Machine.RecRef) : Statement (.keyImport t r) := fun _ => rfl
theorem keyExport (t : Tick) (r : Machine.RecRef) : Statement (.keyExport t r) := fun _ => rfl
theorem keyGreen (t : Tick) (r : Machine.RecRef) : Statement (.keyGreen t r) := fun _ => rfl
theorem keySeason (t : Tick) (r : Machine.RecRef) : Statement (.keySeason t r) := fun _ => rfl
theorem keyFell (t : Tick) (r : Machine.RecRef) : Statement (.keyFell t r) := fun _ => rfl
theorem keyInfo (t : Tick) (r : Machine.RecRef) : Statement (.keyInfo t r) := fun _ => rfl
theorem kh1MapSet (t : Tick) (r : Machine.RecRef) : Statement (.kh1MapSet t r) := fun _ => rfl
theorem cellarExport (t : Tick) (r : Machine.RecRef) : Statement (.cellarExport t r) := fun _ => rfl
theorem cellarRestore (t : Tick) (r : Machine.RecRef) : Statement (.cellarRestore t r) := fun _ => rfl
theorem trunkImport (t : Tick) (r : Machine.RecRef) : Statement (.trunkImport t r) := fun _ => rfl
theorem trunkReplace (t : Tick) (r : Machine.RecRef) : Statement (.trunkReplace t r) := fun _ => rfl
theorem domainRootSet (t : Tick) (r : Machine.RecRef) : Statement (.domainRootSet t r) := fun _ => rfl
theorem ladingExport (t : Tick) (r : Machine.RecRef) : Statement (.ladingExport t r) := fun _ => rfl
theorem ladingImport (t : Tick) (r : Machine.RecRef) : Statement (.ladingImport t r) := fun _ => rfl
theorem encrypt (t : Tick) (r : Machine.RecRef) : Statement (.encrypt t r) := fun _ => rfl
theorem decrypt (t : Tick) (r : Machine.RecRef) : Statement (.decrypt t r) := fun _ => rfl
theorem macGenerate (t : Tick) (r : Machine.RecRef) : Statement (.macGenerate t r) := fun _ => rfl
theorem macVerify (t : Tick) (r : Machine.RecRef) : Statement (.macVerify t r) := fun _ => rfl
theorem translate (t : Tick) (r : Machine.RecRef) : Statement (.translate t r) := fun _ => rfl
theorem digest (t : Tick) (r : Machine.RecRef) : Statement (.digest t r) := fun _ => rfl
theorem hmacGenerate (t : Tick) (r : Machine.RecRef) : Statement (.hmacGenerate t r) := fun _ => rfl
theorem hmacVerify (t : Tick) (r : Machine.RecRef) : Statement (.hmacVerify t r) := fun _ => rfl
theorem digestSave (t : Tick) (r : Machine.RecRef) : Statement (.digestSave t r) := fun _ => rfl
theorem digestRestore (t : Tick) (r : Machine.RecRef) : Statement (.digestRestore t r) := fun _ => rfl
theorem pkSign (t : Tick) (r : Machine.RecRef) : Statement (.pkSign t r) := fun _ => rfl
theorem pkVerify (t : Tick) (r : Machine.RecRef) : Statement (.pkVerify t r) := fun _ => rfl
theorem pkEncrypt (t : Tick) (r : Machine.RecRef) : Statement (.pkEncrypt t r) := fun _ => rfl
theorem pkDecrypt (t : Tick) (r : Machine.RecRef) : Statement (.pkDecrypt t r) := fun _ => rfl
theorem pkKeygen (t : Tick) (r : Machine.RecRef) : Statement (.pkKeygen t r) := fun _ => rfl
theorem pkDerive (t : Tick) (r : Machine.RecRef) : Statement (.pkDerive t r) := fun _ => rfl
theorem curveLoad (t : Tick) (r : Machine.RecRef) : Statement (.curveLoad t r) := fun _ => rfl
theorem getRandom (t : Tick) (r : Machine.RecRef) : Statement (.getRandom t r) := fun _ => rfl
theorem ledgerCreate (t : Tick) (r : Machine.RecRef) : Statement (.ledgerCreate t r) := fun _ => rfl
theorem accountOpen (t : Tick) (r : Machine.RecRef) : Statement (.accountOpen t r) := fun _ => rfl
theorem accountSetState (t : Tick) (r : Machine.RecRef) : Statement (.accountSetState t r) := fun _ => rfl
theorem postLegs (t : Tick) (r : Machine.RecRef) : Statement (.postLegs t r) := fun _ => rfl
theorem accrue (t : Tick) (r : Machine.RecRef) : Statement (.accrue t r) := fun _ => rfl
theorem sealFetch (t : Tick) (r : Machine.RecRef) : Statement (.sealFetch t r) := fun _ => rfl
theorem journalBlock (t : Tick) (r : Machine.RecRef) : Statement (.journalBlock t r) := fun _ => rfl
theorem checkpoint (t : Tick) (r : Machine.RecRef) : Statement (.checkpoint t r) := fun _ => rfl
theorem boardRestore (t : Tick) (r : Machine.RecRef) : Statement (.boardRestore t r) := fun _ => rfl
theorem journalRollForward (t : Tick) (r : Machine.RecRef) : Statement (.journalRollForward t r) := fun _ => rfl
theorem custodianEnrol (t : Tick) (r : Machine.RecRef) : Statement (.custodianEnrol t r) := fun _ => rfl
theorem custodianRemove (t : Tick) (r : Machine.RecRef) : Statement (.custodianRemove t r) := fun _ => rfl
theorem quorumBegin (t : Tick) (r : Machine.RecRef) : Statement (.quorumBegin t r) := fun _ => rfl
theorem cardAuthenticate (t : Tick) (r : Machine.RecRef) : Statement (.cardAuthenticate t r) := fun _ => rfl
theorem quorumStatus (t : Tick) (r : Machine.RecRef) : Statement (.quorumStatus t r) := fun _ => rfl
theorem quorumCancel (t : Tick) (r : Machine.RecRef) : Statement (.quorumCancel t r) := fun _ => rfl
theorem shareExport (t : Tick) (r : Machine.RecRef) : Statement (.shareExport t r) := fun _ => rfl
theorem shareImport (t : Tick) (r : Machine.RecRef) : Statement (.shareImport t r) := fun _ => rfl
theorem twinStatus (t : Tick) (r : Machine.RecRef) : Statement (.twinStatus t r) := fun _ => rfl
theorem twinDetach (t : Tick) (r : Machine.RecRef) : Statement (.twinDetach t r) := fun _ => rfl
theorem twinRepair (t : Tick) (r : Machine.RecRef) : Statement (.twinRepair t r) := fun _ => rfl
theorem caravanStatus (t : Tick) (r : Machine.RecRef) : Statement (.caravanStatus t r) := fun _ => rfl
theorem logFreeze (t : Tick) (r : Machine.RecRef) : Statement (.logFreeze t r) := fun _ => rfl
theorem logThaw (t : Tick) (r : Machine.RecRef) : Statement (.logThaw t r) := fun _ => rfl
theorem logExport (t : Tick) (r : Machine.RecRef) : Statement (.logExport t r) := fun _ => rfl
theorem captureStart (t : Tick) (r : Machine.RecRef) : Statement (.captureStart t r) := fun _ => rfl
theorem captureStop (t : Tick) (r : Machine.RecRef) : Statement (.captureStop t r) := fun _ => rfl
theorem replayStart (t : Tick) (r : Machine.RecRef) : Statement (.replayStart t r) := fun _ => rfl
theorem replayStop (t : Tick) (r : Machine.RecRef) : Statement (.replayStop t r) := fun _ => rfl
theorem pinTranslate (t : Tick) (r : Machine.RecRef) : Statement (.pinTranslate t r) := fun _ => rfl
theorem pinVerify (t : Tick) (r : Machine.RecRef) : Statement (.pinVerify t r) := fun _ => rfl
theorem cardCheckGenerate (t : Tick) (r : Machine.RecRef) : Statement (.cardCheckGenerate t r) := fun _ => rfl
theorem cardCheckVerify (t : Tick) (r : Machine.RecRef) : Statement (.cardCheckVerify t r) := fun _ => rfl
theorem encipher (t : Tick) (r : Machine.RecRef) : Statement (.encipher t r) := fun _ => rfl
theorem decipher (t : Tick) (r : Machine.RecRef) : Statement (.decipher t r) := fun _ => rfl
theorem macGen (t : Tick) (r : Machine.RecRef) : Statement (.macGen t r) := fun _ => rfl
theorem macVer (t : Tick) (r : Machine.RecRef) : Statement (.macVer t r) := fun _ => rfl
theorem balMacGen (t : Tick) (r : Machine.RecRef) : Statement (.balMacGen t r) := fun _ => rfl
theorem balMacVer (t : Tick) (r : Machine.RecRef) : Statement (.balMacVer t r) := fun _ => rfl
theorem pinXlate (t : Tick) (r : Machine.RecRef) : Statement (.pinXlate t r) := fun _ => rfl
theorem kh1PinVerify (t : Tick) (r : Machine.RecRef) : Statement (.kh1PinVerify t r) := fun _ => rfl
theorem random (t : Tick) (r : Machine.RecRef) : Statement (.random t r) := fun _ => rfl
theorem sqTailDoorbell (t : Tick) (fn q v : Nat) : Statement (.sqTailDoorbell t fn q v) := fun _ => rfl
theorem cqHeadDoorbell (t : Tick) (fn q v : Nat) : Statement (.cqHeadDoorbell t fn q v) := fun _ => rfl
theorem sqEntryFetched (t : Tick) (fn q : Nat) (f : Machine.Fetched) : Statement (.sqEntryFetched t fn q f) := fun _ => rfl
theorem queueEnable (t : Tick) (fn q : Nat) (v : Word32) : Statement (.queueEnable t fn q v) := fun _ => rfl
theorem queueDisable (t : Tick) (fn q : Nat) (v : Word32) : Statement (.queueDisable t fn q v) := fun _ => rfl
theorem queueDrainEnd (t : Tick) (fn q : Nat) : Statement (.queueDrainEnd t fn q) := fun _ => rfl
theorem msixAggregationTimeout (t : Tick) (fn q : Nat) : Statement (.msixAggregationTimeout t fn q) := fun _ => rfl
theorem ttuWindowWrite (t : Tick) (fn w reg : Nat) (v : Word32) : Statement (.ttuWindowWrite t fn w reg v) := fun _ => rfl
theorem flrStart (t : Tick) (vf : Nat) : Statement (.flrStart t vf) := fun _ => rfl
theorem flrComplete (t : Tick) (vf : Nat) : Statement (.flrComplete t vf) := fun _ => rfl
theorem vfDisable (t : Tick) (vfEnable : Bool) (numVfs : Nat) : Statement (.vfDisable t vfEnable numVfs) := fun _ => rfl
theorem configurationRequest (t : Tick) (fn : Nat) (c : Machine.CfgReq) : Statement (.configurationRequest t fn c) := fun _ => rfl
theorem hostInterfaceReset (t : Tick) (k : Machine.HifReset) : Statement (.hostInterfaceReset t k) := fun _ => rfl
theorem bar0MisalignedAccess (t : Tick) (fn : Nat) (write : Bool) : Statement (.bar0MisalignedAccess t fn write) := fun _ => rfl
theorem poisonedWrite (t : Tick) (fn : Nat) : Statement (.poisonedWrite t fn) := fun _ => rfl
theorem ecrcFailure (t : Tick) (fn : Nat) : Statement (.ecrcFailure t fn) := fun _ => rfl
theorem dmaCompletion (t : Tick) (fn q : Nat) (k : Machine.ReadKind) (stamp : Tick) (good : Bool) : Statement (.dmaCompletion t fn q k stamp good) := fun _ => rfl
theorem completionTimeout (t : Tick) (fn q : Nat) (k : Machine.ReadKind) : Statement (.completionTimeout t fn q k) := fun _ => rfl
theorem registerWrite (t : Tick) (path : Machine.Path) (off : Nat) (v : BitVec 64) (eight : Bool) : Statement (.registerWrite t path off v eight) := fun _ => rfl
theorem pairCaptureRead (t : Tick) (path : Machine.Path) (off : Nat) (eight : Bool) : Statement (.pairCaptureRead t path off eight) := fun _ => rfl
theorem rngFifoDataRead (t : Tick) : Statement (.rngFifoDataRead t) := fun _ => rfl
theorem domainOn (t : Tick) (domain : Nat) (units : BitVec 16) (discard : Bool) (rsv : Byte) : Statement (.domainOn t domain units discard rsv) := fun _ => rfl
theorem domainRetain (t : Tick) (domain : Nat) (units : BitVec 16) (discard : Bool) (rsv : Byte) : Statement (.domainRetain t domain units discard rsv) := fun _ => rfl
theorem domainOff (t : Tick) (domain : Nat) (units : BitVec 16) (discard : Bool) (rsv : Byte) : Statement (.domainOff t domain units discard rsv) := fun _ => rfl
theorem powerRequestDecision (t : Tick) : Statement (.powerRequestDecision t) := fun _ => rfl
theorem powerRequestEnd (t : Tick) (copyGood testsPass : Bool) : Statement (.powerRequestEnd t copyGood testsPass) := fun _ => rfl
theorem pwrClkOverrideWrite (t : Tick) (island mhz : Nat) : Statement (.pwrClkOverrideWrite t island mhz) := fun _ => rfl
theorem irqGroupWrite (t : Tick) (g : Nat) (v : Word32) : Statement (.irqGroupWrite t g v) := fun _ => rfl
theorem leafCauseClear (t : Tick) (leaf : Machine.Leaf) (v : Word32) : Statement (.leafCauseClear t leaf v) := fun _ => rfl
theorem resawStart (t : Tick) (index : Option Nat) : Statement (.resawStart t index) := fun _ => rfl
theorem resawWindow (t : Tick) (poisoned : Nat) : Statement (.resawWindow t poisoned) := fun _ => rfl
theorem ndlPortEnable (t : Tick) (port : Nat) (on : Bool) : Statement (.ndlPortEnable t port on) := fun _ => rfl
theorem ndlRetrain (t : Tick) (port : Nat) : Statement (.ndlRetrain t port) := fun _ => rfl
theorem ndlDrop (t : Tick) (port : Nat) : Statement (.ndlDrop t port) := fun _ => rfl
theorem potEntryWrite (t : Tick) (v : BitVec 16) : Statement (.potEntryWrite t v) := fun _ => rfl
theorem potEntryEffect (t : Tick) : Statement (.potEntryEffect t) := fun _ => rfl
theorem mpuEntryWrite (t : Tick) (path : Machine.Path) (mpu entry reg : Nat) (v : Word32) : Statement (.mpuEntryWrite t path mpu entry reg v) := fun _ => rfl
theorem kh1StraddleWrite (t : Tick) (core : Nat) (on : Bool) : Statement (.kh1StraddleWrite t core on) := fun _ => rfl
theorem bnkGroupOwnerWrite (t : Tick) (g : Nat) (v : Word32) : Statement (.bnkGroupOwnerWrite t g v) := fun _ => rfl
theorem bankGroupWipeDone (t : Tick) (g : Nat) : Statement (.bankGroupWipeDone t g) := fun _ => rfl
theorem isoDmaAssignWrite (t : Tick) (k : Nat) (v : Word32) : Statement (.isoDmaAssignWrite t k v) := fun _ => rfl
theorem isoIrqRouteWrite (t : Tick) (l core : Nat) : Statement (.isoIrqRouteWrite t l core) := fun _ => rfl
theorem logPeekIndexWrite (t : Tick) (path : Machine.Path) (v : Word32) : Statement (.logPeekIndexWrite t path v) := fun _ => rfl
theorem rplBreakWrite (t : Tick) (v : Word32) : Statement (.rplBreakWrite t v) := fun _ => rfl
theorem i3cPrivateWrite (t : Tick) (data : Bytes) : Statement (.i3cPrivateWrite t data) := fun _ => rfl
theorem i3cPrivateRead (t : Tick) (n : Nat) : Statement (.i3cPrivateRead t n) := fun _ => rfl
theorem setdasa (t : Tick) (addr : BitVec 7) : Statement (.setdasa t addr) := fun _ => rfl
theorem rstdaa (t : Tick) : Statement (.rstdaa t) := fun _ => rfl
theorem getbcr (t : Tick) : Statement (.getbcr t) := fun _ => rfl
theorem getdcr (t : Tick) : Statement (.getdcr t) := fun _ => rfl
theorem getstatus (t : Tick) : Statement (.getstatus t) := fun _ => rfl
theorem enec (t : Tick) : Statement (.enec t) := fun _ => rfl
theorem disec (t : Tick) : Statement (.disec t) := fun _ => rfl
theorem idcode (t : Tick) : Statement (.idcode t) := fun _ => rfl
theorem samplePreload (t : Tick) (balls shift : Bytes) : Statement (.samplePreload t balls shift) := fun _ => rfl
theorem extest (t : Tick) : Statement (.extest t) := fun _ => rfl
theorem clamp (t : Tick) : Statement (.clamp t) := fun _ => rfl
theorem highz (t : Tick) : Statement (.highz t) := fun _ => rfl
theorem bypass (t : Tick) (code : Byte) : Statement (.bypass t code) := fun _ => rfl
theorem lcsAdvance (t : Tick) : Statement (.lcsAdvance t) := fun _ => rfl
theorem debugAccess (t : Tick) (code : Byte) (op : Machine.DebugOp) : Statement (.debugAccess t code op) := fun _ => rfl
theorem tapReset (t : Tick) : Statement (.tapReset t) := fun _ => rfl
theorem powerOnReset (t : Tick) : Statement (.powerOnReset t) := fun _ => rfl
theorem sysResetNAssert (t : Tick) (ns : Nat) : Statement (.sysResetNAssert t ns) := fun _ => rfl
theorem sysResetNDeassert (t : Tick) : Statement (.sysResetNDeassert t) := fun _ => rfl
theorem mainPowerLoss (t : Tick) : Statement (.mainPowerLoss t) := fun _ => rfl
theorem vbatLossInDormant (t : Tick) : Statement (.vbatLossInDormant t) := fun _ => rfl
theorem otpDecode (t : Tick) (badEntries : List Nat) : Statement (.otpDecode t badEntries) := fun _ => rfl
theorem tallyCatchUp (t : Tick) : Statement (.tallyCatchUp t) := fun _ => rfl
theorem entropyStartUp (t : Tick) (katPass : Bool) (failed : List (Nat × Bool)) : Statement (.entropyStartUp t katPass failed) := fun _ => rfl
theorem manifestHeaderRead (t : Tick) (header : Bytes) (flashSize : Nat) : Statement (.manifestHeaderRead t header flashSize) := fun _ => rfl
theorem flashIdentificationTimeout (t : Tick) : Statement (.flashIdentificationTimeout t) := fun _ => rfl
theorem settingsSectionRead (t : Tick) (data : Bytes) : Statement (.settingsSectionRead t data) := fun _ => rfl
theorem firmwareSectionsRead (t : Tick) (sections : List Bytes) : Statement (.firmwareSectionsRead t sections) := fun _ => rfl
theorem sdramTrainingDone (t : Tick) (ch0 ch1 mismatch : Bool) (config : Word32) : Statement (.sdramTrainingDone t ch0 ch1 mismatch config) := fun _ => rfl
theorem barrierStart (t : Tick) : Statement (.barrierStart t) := fun _ => rfl
theorem barrierAck (t : Tick) (island : Nat) (stamp : Tick) : Statement (.barrierAck t island stamp) := fun _ => rfl
theorem barrierTimeout (t : Tick) : Statement (.barrierTimeout t) := fun _ => rfl
theorem lcsBitWrite (t : Tick) (verified : Bool) : Statement (.lcsBitWrite t verified) := fun _ => rfl
theorem tallyIncrement (t : Tick) (verified : Bool) : Statement (.tallyIncrement t verified) := fun _ => rfl
theorem tamperConditionOnset (t : Tick) (cls : Nat) (detail : Word32) : Statement (.tamperConditionOnset t cls detail) := fun _ => rfl
theorem tamperConditionClear (t : Tick) (cls : Nat) : Statement (.tamperConditionClear t cls) := fun _ => rfl
theorem glitchExcursionEnd (t : Tick) (cls : Nat) (first : Tick) (detail : Word32) : Statement (.glitchExcursionEnd t cls first detail) := fun _ => rfl
theorem tamperDebounceExpiry (t : Tick) (classes : List (Nat × Word32)) : Statement (.tamperDebounceExpiry t classes) := fun _ => rfl
theorem dozeSample (t : Tick) (held : List (Nat × Word32)) : Statement (.dozeSample t held) := fun _ => rfl
theorem severDrainDone (t : Tick) : Statement (.severDrainDone t) := fun _ => rfl
theorem clearsDone (t : Tick) : Statement (.clearsDone t) := fun _ => rfl
theorem cardInsertion (t : Tick) (port : Nat) : Statement (.cardInsertion t port) := fun _ => rfl
theorem cardInsertionRecognised (t : Tick) (port : Nat) : Statement (.cardInsertionRecognised t port) := fun _ => rfl
theorem cardRemoval (t : Tick) (port : Nat) : Statement (.cardRemoval t port) := fun _ => rfl
theorem overcurrentOnset (t : Tick) (port : Nat) : Statement (.overcurrentOnset t port) := fun _ => rfl
theorem overcurrentFilterExpiry (t : Tick) (port : Nat) : Statement (.overcurrentFilterExpiry t port) := fun _ => rfl
theorem cardActivationTimer (t : Tick) (port : Nat) : Statement (.cardActivationTimer t port) := fun _ => rfl
theorem cardDeactivationTimer (t : Tick) (port : Nat) : Statement (.cardDeactivationTimer t port) := fun _ => rfl
theorem atrTimeout (t : Tick) (port : Nat) : Statement (.atrTimeout t port) := fun _ => rfl
theorem cardAtr (t : Tick) (port : Nat) (atr : Bytes) : Statement (.cardAtr t port atr) := fun _ => rfl
theorem ppsResponse (t : Tick) (port : Nat) (data : Bytes) : Statement (.ppsResponse t port data) := fun _ => rfl
theorem ppsTimeout (t : Tick) (port : Nat) : Statement (.ppsTimeout t port) := fun _ => rfl
theorem sIfsResponse (t : Tick) (port : Nat) (data : Bytes) : Statement (.sIfsResponse t port data) := fun _ => rfl
theorem t1IBlock (t : Tick) (port : Nat) (block : Bytes) (stamp : Tick) : Statement (.t1IBlock t port block stamp) := fun _ => rfl
theorem t1RBlock (t : Tick) (port : Nat) (block : Bytes) (stamp : Tick) : Statement (.t1RBlock t port block stamp) := fun _ => rfl
theorem t1BadBlock (t : Tick) (port : Nat) : Statement (.t1BadBlock t port) := fun _ => rfl
theorem bwtExpiry (t : Tick) (port : Nat) : Statement (.bwtExpiry t port) := fun _ => rfl
theorem sWtxRequest (t : Tick) (port : Nat) (mult : Nat) : Statement (.sWtxRequest t port mult) := fun _ => rfl
theorem sAbortRequest (t : Tick) (port : Nat) : Statement (.sAbortRequest t port) := fun _ => rfl
theorem sResynchResponse (t : Tick) (port : Nat) : Statement (.sResynchResponse t port) := fun _ => rfl
theorem selectAnswer (t : Tick) (port : Nat) (sw : BitVec 16) : Statement (.selectAnswer t port sw) := fun _ => rfl
theorem readCertAnswer (t : Tick) (port : Nat) (data : Bytes) (sw : BitVec 16) : Statement (.readCertAnswer t port data sw) := fun _ => rfl
theorem authenticateAnswer (t : Tick) (port : Nat) (data : Bytes) (sw : BitVec 16) : Statement (.authenticateAnswer t port data sw) := fun _ => rfl
theorem confirmAnswer (t : Tick) (port : Nat) (sw : BitVec 16) (stamp : Tick) : Statement (.confirmAnswer t port sw stamp) := fun _ => rfl
theorem bindAnswer (t : Tick) (port : Nat) (sw : BitVec 16) : Statement (.bindAnswer t port sw) := fun _ => rfl
theorem transitInsertion (t : Tick) : Statement (.transitInsertion t) := fun _ => rfl
theorem transitRemoval (t : Tick) : Statement (.transitRemoval t) := fun _ => rfl
theorem sdPowerUpTimer (t : Tick) : Statement (.sdPowerUpTimer t) := fun _ => rfl
theorem sdCommandResponse (t : Tick) (data : Bytes) (crcGood : Bool) : Statement (.sdCommandResponse t data crcGood) := fun _ => rfl
theorem sdResponseTimeout (t : Tick) : Statement (.sdResponseTimeout t) := fun _ => rfl
theorem sdReadBlock (t : Tick) (data : Bytes) (crcGood : Bool) : Statement (.sdReadBlock t data crcGood) := fun _ => rfl
theorem sdReadTimeout (t : Tick) : Statement (.sdReadTimeout t) := fun _ => rfl
theorem sdCrcStatusToken (t : Tick) (good : Bool) : Statement (.sdCrcStatusToken t good) := fun _ => rfl
theorem sdBusyEnd (t : Tick) : Statement (.sdBusyEnd t) := fun _ => rfl
theorem sdBusyTimeout (t : Tick) : Statement (.sdBusyTimeout t) := fun _ => rfl
theorem acmd41Retry (t : Tick) : Statement (.acmd41Retry t) := fun _ => rfl
theorem acmd41Timeout (t : Tick) : Statement (.acmd41Timeout t) := fun _ => rfl
theorem voltageSwitchWait (t : Tick) (datHigh : Bool) : Statement (.voltageSwitchWait t datHigh) := fun _ => rfl
theorem datHighTimeout (t : Tick) : Statement (.datHighTimeout t) := fun _ => rfl
theorem sdPowerCycleWait (t : Tick) : Statement (.sdPowerCycleWait t) := fun _ => rfl
theorem sdTuningBlock (t : Tick) (good : Bool) : Statement (.sdTuningBlock t good) := fun _ => rfl
theorem ndlDetectTimer (t : Tick) (port : Nat) (terminated : Bool) : Statement (.ndlDetectTimer t port terminated) := fun _ => rfl
theorem trainingSequence (t : Tick) (port lane : Nat) (ts : BitVec 80) : Statement (.trainingSequence t port lane ts) := fun _ => rfl
theorem trainingWindowExpiry (t : Tick) (port : Nat) : Statement (.trainingWindowExpiry t port) := fun _ => rfl
theorem keyFailBackoffExpiry (t : Tick) (port : Nat) : Statement (.keyFailBackoffExpiry t port) := fun _ => rfl
theorem laneLockLoss (t : Tick) (port lane : Nat) : Statement (.laneLockLoss t port lane) := fun _ => rfl
theorem retrainWindowExpiry (t : Tick) (port : Nat) : Statement (.retrainWindowExpiry t port) := fun _ => rfl
theorem flitReceived (t : Tick) (port : Nat) (flit : BitVec 320) : Statement (.flitReceived t port flit) := fun _ => rfl
theorem nakReceived (t : Tick) (port : Nat) (flit : BitVec 320) : Statement (.nakReceived t port flit) := fun _ => rfl
theorem replayTimerExpiry (t : Tick) (port : Nat) : Statement (.replayTimerExpiry t port) := fun _ => rfl
theorem convoyTagCheck (t : Tick) (port : Nat) : Statement (.convoyTagCheck t port) := fun _ => rfl
theorem messageForward (t : Tick) (port : Nat) (msg : Bytes) : Statement (.messageForward t port msg) := fun _ => rfl
theorem keyOffer (t : Tick) (port : Nat) (offer : Bytes) : Statement (.keyOffer t port offer) := fun _ => rfl
theorem keyConfirm (t : Tick) (port : Nat) (confirm : Bytes) : Statement (.keyConfirm t port confirm) := fun _ => rfl
theorem routeProbe (t : Tick) (m : Machine.Msg) : Statement (.routeProbe t m) := fun _ => rfl
theorem routeEcho (t : Tick) (m : Machine.Msg) : Statement (.routeEcho t m) := fun _ => rfl
theorem mirrorPosting (t : Tick) (m : Machine.Msg) : Statement (.mirrorPosting t m) := fun _ => rfl
theorem mirrorAck (t : Tick) (m : Machine.Msg) : Statement (.mirrorAck t m) := fun _ => rfl
theorem cellarSync (t : Tick) (m : Machine.Msg) : Statement (.cellarSync t m) := fun _ => rfl
theorem cellarSyncAck (t : Tick) (m : Machine.Msg) : Statement (.cellarSyncAck t m) := fun _ => rfl
theorem counterAdvance (t : Tick) (m : Machine.Msg) : Statement (.counterAdvance t m) := fun _ => rfl
theorem resyncBulk (t : Tick) (m : Machine.Msg) : Statement (.resyncBulk t m) := fun _ => rfl
theorem resyncAck (t : Tick) (m : Machine.Msg) : Statement (.resyncAck t m) := fun _ => rfl
theorem twinState (t : Tick) (m : Machine.Msg) : Statement (.twinState t m) := fun _ => rfl
theorem decisionRecord (t : Tick) (m : Machine.Msg) : Statement (.decisionRecord t m) := fun _ => rfl
theorem legPrepare (t : Tick) (m : Machine.Msg) : Statement (.legPrepare t m) := fun _ => rfl
theorem legPrepared (t : Tick) (m : Machine.Msg) : Statement (.legPrepared t m) := fun _ => rfl
theorem legRefused (t : Tick) (m : Machine.Msg) : Statement (.legRefused t m) := fun _ => rfl
theorem legCommit (t : Tick) (m : Machine.Msg) : Statement (.legCommit t m) := fun _ => rfl
theorem legAbort (t : Tick) (m : Machine.Msg) : Statement (.legAbort t m) := fun _ => rfl
theorem legDone (t : Tick) (m : Machine.Msg) : Statement (.legDone t m) := fun _ => rfl
theorem legReport (t : Tick) (m : Machine.Msg) : Statement (.legReport t m) := fun _ => rfl
theorem epochPrepare (t : Tick) (m : Machine.Msg) : Statement (.epochPrepare t m) := fun _ => rfl
theorem epochReady (t : Tick) (m : Machine.Msg) : Statement (.epochReady t m) := fun _ => rfl
theorem epochCommit (t : Tick) (m : Machine.Msg) : Statement (.epochCommit t m) := fun _ => rfl
theorem epochRollback (t : Tick) (m : Machine.Msg) : Statement (.epochRollback t m) := fun _ => rfl
theorem epochRefuse (t : Tick) (m : Machine.Msg) : Statement (.epochRefuse t m) := fun _ => rfl
theorem epochDone (t : Tick) (m : Machine.Msg) : Statement (.epochDone t m) := fun _ => rfl
theorem commandForward (t : Tick) (m : Machine.Msg) : Statement (.commandForward t m) := fun _ => rfl
theorem commandResult (t : Tick) (m : Machine.Msg) : Statement (.commandResult t m) := fun _ => rfl
theorem ladingMove (t : Tick) (m : Machine.Msg) : Statement (.ladingMove t m) := fun _ => rfl
theorem ladingAck (t : Tick) (m : Machine.Msg) : Statement (.ladingAck t m) := fun _ => rfl
theorem mirrorTimeout (t : Tick) (txn : Nat) : Statement (.mirrorTimeout t txn) := fun _ => rfl
theorem syncTimeout (t : Tick) (txn : Nat) : Statement (.syncTimeout t txn) := fun _ => rfl
theorem caravanTimeout (t : Tick) (txn : Nat) : Statement (.caravanTimeout t txn) := fun _ => rfl
theorem epochPrepareWindowExpiry (t : Tick) : Statement (.epochPrepareWindowExpiry t) := fun _ => rfl
theorem prepareWindowExpiry (t : Tick) (ledger : Nat) (id : Bytes) : Statement (.prepareWindowExpiry t ledger id) := fun _ => rfl
theorem decisionWindowExpiry (t : Tick) (ledger : Nat) (id : Bytes) : Statement (.decisionWindowExpiry t ledger id) := fun _ => rfl
theorem twinDisconnectTimeout (t : Tick) : Statement (.twinDisconnectTimeout t) := fun _ => rfl
theorem unacknowledgedTimeout (t : Tick) : Statement (.unacknowledgedTimeout t) := fun _ => rfl
theorem pairingTimeout (t : Tick) : Statement (.pairingTimeout t) := fun _ => rfl
theorem resyncStart (t : Tick) : Statement (.resyncStart t) := fun _ => rfl
theorem resyncWindowExpiry (t : Tick) : Statement (.resyncWindowExpiry t) := fun _ => rfl
theorem resyncHoldExpiry (t : Tick) : Statement (.resyncHoldExpiry t) := fun _ => rfl
theorem counterAdvanceSend (t : Tick) : Statement (.counterAdvanceSend t) := fun _ => rfl
theorem outcomeBatchSync (t : Tick) : Statement (.outcomeBatchSync t) := fun _ => rfl
theorem receiptExpiry (t : Tick) (tenant : Nat) (nonce : Bytes) : Statement (.receiptExpiry t tenant nonce) := fun _ => rfl
theorem pendingMarkClear (t : Tick) (r : Machine.RecRef) : Statement (.pendingMarkClear t r) := fun _ => rfl
theorem checkpointCopyDone (t : Tick) (ledger : Nat) : Statement (.checkpointCopyDone t ledger) := fun _ => rfl
theorem journalBlockSign (t : Tick) (ledger : Nat) : Statement (.journalBlockSign t ledger) := fun _ => rfl
theorem captureBaseCopyDone (t : Tick) : Statement (.captureBaseCopyDone t) := fun _ => rfl
theorem replayRecord (t : Tick) : Statement (.replayRecord t) := fun _ => rfl
theorem logFreezeWindowClose (t : Tick) : Statement (.logFreezeWindowClose t) := fun _ => rfl
theorem skidderVisit (t : Tick) : Statement (.skidderVisit t) := fun _ => rfl
theorem scrubberRead (t : Tick) (a : Machine.ArrayKind) (word errors : Nat) : Statement (.scrubberRead t a word errors) := fun _ => rfl
theorem laneJobDispatch (t : Tick) (k : Machine.LaneKind) (lane : Nat) : Statement (.laneJobDispatch t k lane) := fun _ => rfl
theorem maskReseedPoint (t : Tick) (lane : Nat) : Statement (.maskReseedPoint t lane) := fun _ => rfl
theorem cipherJobDone (t : Tick) (lane : Nat) (fault : Machine.JobFault) : Statement (.cipherJobDone t lane fault) := fun _ => rfl
theorem digestJobDone (t : Tick) (lane : Nat) (fault : Machine.JobFault) : Statement (.digestJobDone t lane fault) := fun _ => rfl
theorem bigNumberJobDone (t : Tick) (lane : Nat) (fault : Machine.JobFault) (discards : Nat) : Statement (.bigNumberJobDone t lane fault discards) := fun _ => rfl
theorem decimalJobDone (t : Tick) (lane : Nat) (fault : Machine.JobFault) : Statement (.decimalJobDone t lane fault) := fun _ => rfl
theorem startUpTestDone (t : Tick) (source : Nat) (rctFail aptFail : Bool) : Statement (.startUpTestDone t source rctFail aptFail) := fun _ => rfl
theorem repetitionCountTestFail (t : Tick) (source : Nat) : Statement (.repetitionCountTestFail t source) := fun _ => rfl
theorem adaptiveProportionTestFail (t : Tick) (source : Nat) : Statement (.adaptiveProportionTestFail t source) := fun _ => rfl
theorem conditionerBlockClose (t : Tick) : Statement (.conditionerBlockClose t) := fun _ => rfl
theorem quarantineWindowClose (t : Tick) (source : Nat) : Statement (.quarantineWindowClose t source) := fun _ => rfl
theorem bufferRefill (t : Tick) (k : Machine.LaneKind) (lane : Nat) : Statement (.bufferRefill t k lane) := fun _ => rfl
theorem wardenFifoRefill (t : Tick) : Statement (.wardenFifoRefill t) := fun _ => rfl
theorem commandDeadlineExpiry (t : Tick) (r : Machine.RecRef) : Statement (.commandDeadlineExpiry t r) := fun _ => rfl
theorem cellFitted (t : Tick) : Statement (.cellFitted t) := fun _ => rfl
theorem pcieLinkUp (t : Tick) (width speed : Nat) : Statement (.pcieLinkUp t width speed) := fun _ => rfl

end Sys2Proof.Laws.Checked
end

