-- ==== Sys2Proof/Laws/State.lean ====
section
/-! SUPPORT. What the shared operations change, said once each, and then field by field: no later proof unfolds them. -/

namespace Sys2Proof.Machine

/-- Coming of a tick changes the tick alone. -/
theorem at_eq (s : State) (t : Tick) : s.at t = { s with tick := (s.at t).tick } := by
  unfold State.at; split <;> rfl

/-- The tick outside DORMANT. -/
theorem at_tick (s : State) (t : Tick) (h : s.mode ≠ .dormant) : (s.at t).tick = max s.tick t := by
  simp [State.at, h]

/-- A signalled vector changes its pending bit or the output. -/
theorem msix_eq (s : State) (fn v : Nat) :
    ∃ w o, s.msix fn v = { s with host := { s.host with vectors := w }, sent := o } := by
  simp only [State.msix]; split
  · exact ⟨_, _, rfl⟩
  · exact ⟨s.host.vectors, _, rfl⟩

theorem msixEdge_eq (old s : State) :
    ∃ w o, old.msixEdge s = { s with host := { s.host with vectors := w }, sent := o } := by
  unfold State.msixEdge; split
  · exact msix_eq ..
  · exact ⟨s.host.vectors, s.sent, rfl⟩

/-- A raised cause changes the attention tree, and vector 0's pending bit or the output. -/
theorem raise_eq (s : State) (l : Leaf) (b : Nat) :
    ∃ i w o, s.raise l b = { s with irq := i, host := { s.host with vectors := w }, sent := o } := by
  unfold State.raise; split
  · simp only []
    split
    · obtain ⟨w, o, h⟩ := msixEdge_eq s { s with irq := { s.irq with
        cause := mapPut 0 s.irq.cause (leafNum l) (s.cause l ||| BitVec.ofNat 32 (2 ^ b))
        group := mapPut 0 s.irq.group (leafGroup l) (s.group (leafGroup l) ||| BitVec.ofNat 32 (2 ^ leafBit l)) } }
      exact ⟨_, w, o, h⟩
    · obtain ⟨w, o, h⟩ := msixEdge_eq s { s with irq := { s.irq with
        cause := mapPut 0 s.irq.cause (leafNum l) (s.cause l ||| BitVec.ofNat 32 (2 ^ b)) } }
      exact ⟨_, w, o, h⟩
  · exact ⟨s.irq, s.host.vectors, s.sent, rfl⟩

/-- A recorded entry changes the log and what raising an ALARM changes. -/
theorem record_eq (s : State) (e : LogEntry) :
    ∃ l i w o, s.record e = { s with log := l, irq := i, host := { s.host with vectors := w }, sent := o } := by
  unfold State.record
  simp only []
  split
  · obtain ⟨i, w, o, h⟩ := raise_eq { s with log := { s.log with next := e.seq + 1, slots := (s.log.write e).slots,
                                                                  dropped := (s.log.write e).dropped } } .system 5
    exact ⟨_, i, w, o, h⟩
  · exact ⟨_, s.irq, s.host.vectors, s.sent, rfl⟩

theorem thaw_eq (s : State) (f : Bool) :
    ∃ l i w o, s.thaw f = { s with log := l, irq := i, host := { s.host with vectors := w }, sent := o } := by
  unfold State.thaw
  simp only []
  have step : ∀ x : State, (∃ l i w o, x = { s with log := l, irq := i, host := { s.host with vectors := w }, sent := o }) →
      ∀ c b, (∃ l i w o, x.raise c b = { s with log := l, irq := i, host := { s.host with vectors := w }, sent := o }) := by
    rintro x ⟨l, i, w, o, rfl⟩ c b
    obtain ⟨i', w', o', h⟩ := raise_eq { s with log := l, irq := i, host := { s.host with vectors := w }, sent := o } c b
    exact ⟨l, i', w', o', h⟩
  have fin : ∀ x : State, (∃ l i w o, x = { s with log := l, irq := i, host := { s.host with vectors := w }, sent := o }) →
      ∀ e, (∃ l i w o, x.record e = { s with log := l, irq := i, host := { s.host with vectors := w }, sent := o }) := by
    rintro x ⟨l, i, w, o, rfl⟩ e
    obtain ⟨l', i', w', o', h⟩ := record_eq { s with log := l, irq := i, host := { s.host with vectors := w }, sent := o } e
    exact ⟨l', i', w', o', h⟩
  refine fin _ ?_ _
  split <;> split
  · exact step _ ⟨_, s.irq, s.host.vectors, s.sent, rfl⟩ _ _
  · exact step _ (step _ ⟨_, s.irq, s.host.vectors, s.sent, rfl⟩ _ _) _ _
  · exact ⟨_, s.irq, s.host.vectors, s.sent, rfl⟩
  · exact step _ ⟨_, s.irq, s.host.vectors, s.sent, rfl⟩ _ _

/-- An event changes the log, the count that a replay suppresses, and what raising an ALARM changes. -/
theorem logEvent_eq (s : State) (ev : Nat) (sev : Severity) (is_ at_ : Nat) (st : Status) (d : List Nat) :
    ∃ l n i w o, s.logEvent ev sev is_ at_ st d = { s with log := l, rpl := { s.rpl with suppressed := n }, irq := i,
                                                            host := { s.host with vectors := w }, sent := o } := by
  unfold State.logEvent
  split
  · exact ⟨s.log, _, s.irq, s.host.vectors, s.sent, rfl⟩
  · simp only []
    split
    · split
      · split
        · exact ⟨_, s.rpl.suppressed, s.irq, s.host.vectors, s.sent, rfl⟩
        · obtain ⟨l, i, w, o, h⟩ := thaw_eq { s with log := { s.log with next := (s.newEntry ev sev is_ at_ st d).seq + 1 } } true
          rw [h]
          obtain ⟨l', i', w', o', h'⟩ := record_eq { s with log := l, irq := i, host := { s.host with vectors := w }, sent := o }
            (s.newEntry ev sev is_ at_ st d)
          rw [h']
          exact ⟨_, s.rpl.suppressed, i', w', o', rfl⟩
      · exact ⟨_, s.rpl.suppressed, s.irq, s.host.vectors, s.sent, rfl⟩
    · obtain ⟨l, i, w, o, h⟩ := record_eq s (s.newEntry ev sev is_ at_ st d)
      rw [h]
      exact ⟨l, s.rpl.suppressed, i, w, o, rfl⟩

@[simp] theorem at_mode (s : State) (t : Tick) : (s.at t).mode = s.mode := by rw [at_eq]
@[simp] theorem at_bootStage (s : State) (t : Tick) : (s.at t).bootStage = s.bootStage := by rw [at_eq]
@[simp] theorem at_barrier (s : State) (t : Tick) : (s.at t).barrier = s.barrier := by rw [at_eq]
@[simp] theorem at_barrierQ (s : State) (t : Tick) : (s.at t).barrierQ = s.barrierQ := by rw [at_eq]
@[simp] theorem at_recoveryReq (s : State) (t : Tick) : (s.at t).recoveryReq = s.recoveryReq := by rw [at_eq]
@[simp] theorem at_resetCause (s : State) (t : Tick) : (s.at t).resetCause = s.resetCause := by rw [at_eq]
@[simp] theorem at_mainPower (s : State) (t : Tick) : (s.at t).mainPower = s.mainPower := by rw [at_eq]
@[simp] theorem at_vbat (s : State) (t : Tick) : (s.at t).vbat = s.vbat := by rw [at_eq]
@[simp] theorem at_sysReset (s : State) (t : Tick) : (s.at t).sysReset = s.sysReset := by rw [at_eq]
@[simp] theorem at_resetDue (s : State) (t : Tick) : (s.at t).resetDue = s.resetDue := by rw [at_eq]
@[simp] theorem at_otp (s : State) (t : Tick) : (s.at t).otp = s.otp := by rw [at_eq]
@[simp] theorem at_lcs (s : State) (t : Tick) : (s.at t).lcs = s.lcs := by rw [at_eq]
@[simp] theorem at_vault (s : State) (t : Tick) : (s.at t).vault = s.vault := by rw [at_eq]
@[simp] theorem at_man (s : State) (t : Tick) : (s.at t).man = s.man := by rw [at_eq]
@[simp] theorem at_log (s : State) (t : Tick) : (s.at t).log = s.log := by rw [at_eq]
@[simp] theorem at_irq (s : State) (t : Tick) : (s.at t).irq = s.irq := by rw [at_eq]
@[simp] theorem at_pwr (s : State) (t : Tick) : (s.at t).pwr = s.pwr := by rw [at_eq]
@[simp] theorem at_tmp (s : State) (t : Tick) : (s.at t).tmp = s.tmp := by rw [at_eq]
@[simp] theorem at_tal (s : State) (t : Tick) : (s.at t).tal = s.tal := by rw [at_eq]
@[simp] theorem at_host (s : State) (t : Tick) : (s.at t).host = s.host := by rw [at_eq]
@[simp] theorem at_waiting (s : State) (t : Tick) : (s.at t).waiting = s.waiting := by rw [at_eq]
@[simp] theorem at_running (s : State) (t : Tick) : (s.at t).running = s.running := by rw [at_eq]
@[simp] theorem at_sessions (s : State) (t : Tick) : (s.at t).sessions = s.sessions := by rw [at_eq]
@[simp] theorem at_outcomes (s : State) (t : Tick) : (s.at t).outcomes = s.outcomes := by rw [at_eq]
@[simp] theorem at_floors (s : State) (t : Tick) : (s.at t).floors = s.floors := by rw [at_eq]
@[simp] theorem at_kh1 (s : State) (t : Tick) : (s.at t).kh1 = s.kh1 := by rw [at_eq]
@[simp] theorem at_rpl (s : State) (t : Tick) : (s.at t).rpl = s.rpl := by rw [at_eq]
@[simp] theorem at_rosters (s : State) (t : Tick) : (s.at t).rosters = s.rosters := by rw [at_eq]
@[simp] theorem at_quorums (s : State) (t : Tick) : (s.at t).quorums = s.quorums := by rw [at_eq]
@[simp] theorem at_twin (s : State) (t : Tick) : (s.at t).twin = s.twin := by rw [at_eq]
@[simp] theorem at_car (s : State) (t : Tick) : (s.at t).car = s.car := by rw [at_eq]
@[simp] theorem at_receipts (s : State) (t : Tick) : (s.at t).receipts = s.receipts := by rw [at_eq]
@[simp] theorem at_ndl (s : State) (t : Tick) : (s.at t).ndl = s.ndl := by rw [at_eq]
@[simp] theorem at_lanes (s : State) (t : Tick) : (s.at t).lanes = s.lanes := by rw [at_eq]
@[simp] theorem at_late (s : State) (t : Tick) : (s.at t).late = s.late := by rw [at_eq]
@[simp] theorem at_digests (s : State) (t : Tick) : (s.at t).digests = s.digests := by rw [at_eq]
@[simp] theorem at_rng (s : State) (t : Tick) : (s.at t).rng = s.rng := by rw [at_eq]
@[simp] theorem at_cel (s : State) (t : Tick) : (s.at t).cel = s.cel := by rw [at_eq]
@[simp] theorem at_curves (s : State) (t : Tick) : (s.at t).curves = s.curves := by rw [at_eq]
@[simp] theorem at_rounds (s : State) (t : Tick) : (s.at t).rounds = s.rounds := by rw [at_eq]
@[simp] theorem at_corrected (s : State) (t : Tick) : (s.at t).corrected = s.corrected := by rw [at_eq]
@[simp] theorem at_poison (s : State) (t : Tick) : (s.at t).poison = s.poison := by rw [at_eq]
@[simp] theorem at_smc (s : State) (t : Tick) : (s.at t).smc = s.smc := by rw [at_eq]
@[simp] theorem at_rsw (s : State) (t : Tick) : (s.at t).rsw = s.rsw := by rw [at_eq]
@[simp] theorem at_iso (s : State) (t : Tick) : (s.at t).iso = s.iso := by rw [at_eq]
@[simp] theorem at_mem (s : State) (t : Tick) : (s.at t).mem = s.mem := by rw [at_eq]
@[simp] theorem at_cards (s : State) (t : Tick) : (s.at t).cards = s.cards := by rw [at_eq]
@[simp] theorem at_board (s : State) (t : Tick) : (s.at t).board = s.board := by rw [at_eq]
@[simp] theorem at_ports (s : State) (t : Tick) : (s.at t).ports = s.ports := by rw [at_eq]
@[simp] theorem at_base (s : State) (t : Tick) : (s.at t).base = s.base := by rw [at_eq]
@[simp] theorem at_captures (s : State) (t : Tick) : (s.at t).captures = s.captures := by rw [at_eq]
@[simp] theorem at_sent (s : State) (t : Tick) : (s.at t).sent = s.sent := by rw [at_eq]
@[simp] theorem at_draws (s : State) (t : Tick) : (s.at t).draws = s.draws := by rw [at_eq]
@[simp] theorem at_pending (s : State) (t : Tick) : (s.at t).pending = s.pending := by rw [at_eq]

@[simp] theorem emit_tick (s : State) (o : Out) : (s.emit o).tick = s.tick := rfl
@[simp] theorem emit_mode (s : State) (o : Out) : (s.emit o).mode = s.mode := rfl
@[simp] theorem emit_bootStage (s : State) (o : Out) : (s.emit o).bootStage = s.bootStage := rfl
@[simp] theorem emit_barrier (s : State) (o : Out) : (s.emit o).barrier = s.barrier := rfl
@[simp] theorem emit_barrierQ (s : State) (o : Out) : (s.emit o).barrierQ = s.barrierQ := rfl
@[simp] theorem emit_recoveryReq (s : State) (o : Out) : (s.emit o).recoveryReq = s.recoveryReq := rfl
@[simp] theorem emit_resetCause (s : State) (o : Out) : (s.emit o).resetCause = s.resetCause := rfl
@[simp] theorem emit_mainPower (s : State) (o : Out) : (s.emit o).mainPower = s.mainPower := rfl
@[simp] theorem emit_vbat (s : State) (o : Out) : (s.emit o).vbat = s.vbat := rfl
@[simp] theorem emit_sysReset (s : State) (o : Out) : (s.emit o).sysReset = s.sysReset := rfl
@[simp] theorem emit_resetDue (s : State) (o : Out) : (s.emit o).resetDue = s.resetDue := rfl
@[simp] theorem emit_otp (s : State) (o : Out) : (s.emit o).otp = s.otp := rfl
@[simp] theorem emit_lcs (s : State) (o : Out) : (s.emit o).lcs = s.lcs := rfl
@[simp] theorem emit_vault (s : State) (o : Out) : (s.emit o).vault = s.vault := rfl
@[simp] theorem emit_man (s : State) (o : Out) : (s.emit o).man = s.man := rfl
@[simp] theorem emit_log (s : State) (o : Out) : (s.emit o).log = s.log := rfl
@[simp] theorem emit_irq (s : State) (o : Out) : (s.emit o).irq = s.irq := rfl
@[simp] theorem emit_pwr (s : State) (o : Out) : (s.emit o).pwr = s.pwr := rfl
@[simp] theorem emit_tmp (s : State) (o : Out) : (s.emit o).tmp = s.tmp := rfl
@[simp] theorem emit_tal (s : State) (o : Out) : (s.emit o).tal = s.tal := rfl
@[simp] theorem emit_host (s : State) (o : Out) : (s.emit o).host = s.host := rfl
@[simp] theorem emit_waiting (s : State) (o : Out) : (s.emit o).waiting = s.waiting := rfl
@[simp] theorem emit_running (s : State) (o : Out) : (s.emit o).running = s.running := rfl
@[simp] theorem emit_sessions (s : State) (o : Out) : (s.emit o).sessions = s.sessions := rfl
@[simp] theorem emit_outcomes (s : State) (o : Out) : (s.emit o).outcomes = s.outcomes := rfl
@[simp] theorem emit_floors (s : State) (o : Out) : (s.emit o).floors = s.floors := rfl
@[simp] theorem emit_kh1 (s : State) (o : Out) : (s.emit o).kh1 = s.kh1 := rfl
@[simp] theorem emit_rpl (s : State) (o : Out) : (s.emit o).rpl = s.rpl := rfl
@[simp] theorem emit_rosters (s : State) (o : Out) : (s.emit o).rosters = s.rosters := rfl
@[simp] theorem emit_quorums (s : State) (o : Out) : (s.emit o).quorums = s.quorums := rfl
@[simp] theorem emit_twin (s : State) (o : Out) : (s.emit o).twin = s.twin := rfl
@[simp] theorem emit_car (s : State) (o : Out) : (s.emit o).car = s.car := rfl
@[simp] theorem emit_receipts (s : State) (o : Out) : (s.emit o).receipts = s.receipts := rfl
@[simp] theorem emit_ndl (s : State) (o : Out) : (s.emit o).ndl = s.ndl := rfl
@[simp] theorem emit_lanes (s : State) (o : Out) : (s.emit o).lanes = s.lanes := rfl
@[simp] theorem emit_late (s : State) (o : Out) : (s.emit o).late = s.late := rfl
@[simp] theorem emit_digests (s : State) (o : Out) : (s.emit o).digests = s.digests := rfl
@[simp] theorem emit_rng (s : State) (o : Out) : (s.emit o).rng = s.rng := rfl
@[simp] theorem emit_cel (s : State) (o : Out) : (s.emit o).cel = s.cel := rfl
@[simp] theorem emit_curves (s : State) (o : Out) : (s.emit o).curves = s.curves := rfl
@[simp] theorem emit_rounds (s : State) (o : Out) : (s.emit o).rounds = s.rounds := rfl
@[simp] theorem emit_corrected (s : State) (o : Out) : (s.emit o).corrected = s.corrected := rfl
@[simp] theorem emit_poison (s : State) (o : Out) : (s.emit o).poison = s.poison := rfl
@[simp] theorem emit_smc (s : State) (o : Out) : (s.emit o).smc = s.smc := rfl
@[simp] theorem emit_rsw (s : State) (o : Out) : (s.emit o).rsw = s.rsw := rfl
@[simp] theorem emit_iso (s : State) (o : Out) : (s.emit o).iso = s.iso := rfl
@[simp] theorem emit_mem (s : State) (o : Out) : (s.emit o).mem = s.mem := rfl
@[simp] theorem emit_cards (s : State) (o : Out) : (s.emit o).cards = s.cards := rfl
@[simp] theorem emit_board (s : State) (o : Out) : (s.emit o).board = s.board := rfl
@[simp] theorem emit_ports (s : State) (o : Out) : (s.emit o).ports = s.ports := rfl
@[simp] theorem emit_base (s : State) (o : Out) : (s.emit o).base = s.base := rfl
@[simp] theorem emit_captures (s : State) (o : Out) : (s.emit o).captures = s.captures := rfl
@[simp] theorem emit_draws (s : State) (o : Out) : (s.emit o).draws = s.draws := rfl
@[simp] theorem emit_pending (s : State) (o : Out) : (s.emit o).pending = s.pending := rfl
@[simp] theorem emit_sent (s : State) (o : Out) : (s.emit o).sent = o :: s.sent := rfl

@[simp] theorem msix_tick (s : State) (fn v : Nat) : (s.msix fn v).tick = s.tick := by obtain ⟨_, _, h⟩ := msix_eq s fn v; rw [h]
@[simp] theorem msix_mode (s : State) (fn v : Nat) : (s.msix fn v).mode = s.mode := by obtain ⟨_, _, h⟩ := msix_eq s fn v; rw [h]
@[simp] theorem msix_bootStage (s : State) (fn v : Nat) : (s.msix fn v).bootStage = s.bootStage := by obtain ⟨_, _, h⟩ := msix_eq s fn v; rw [h]
@[simp] theorem msix_barrier (s : State) (fn v : Nat) : (s.msix fn v).barrier = s.barrier := by obtain ⟨_, _, h⟩ := msix_eq s fn v; rw [h]
@[simp] theorem msix_barrierQ (s : State) (fn v : Nat) : (s.msix fn v).barrierQ = s.barrierQ := by obtain ⟨_, _, h⟩ := msix_eq s fn v; rw [h]
@[simp] theorem msix_recoveryReq (s : State) (fn v : Nat) : (s.msix fn v).recoveryReq = s.recoveryReq := by obtain ⟨_, _, h⟩ := msix_eq s fn v; rw [h]
@[simp] theorem msix_resetCause (s : State) (fn v : Nat) : (s.msix fn v).resetCause = s.resetCause := by obtain ⟨_, _, h⟩ := msix_eq s fn v; rw [h]
@[simp] theorem msix_mainPower (s : State) (fn v : Nat) : (s.msix fn v).mainPower = s.mainPower := by obtain ⟨_, _, h⟩ := msix_eq s fn v; rw [h]
@[simp] theorem msix_vbat (s : State) (fn v : Nat) : (s.msix fn v).vbat = s.vbat := by obtain ⟨_, _, h⟩ := msix_eq s fn v; rw [h]
@[simp] theorem msix_sysReset (s : State) (fn v : Nat) : (s.msix fn v).sysReset = s.sysReset := by obtain ⟨_, _, h⟩ := msix_eq s fn v; rw [h]
@[simp] theorem msix_resetDue (s : State) (fn v : Nat) : (s.msix fn v).resetDue = s.resetDue := by obtain ⟨_, _, h⟩ := msix_eq s fn v; rw [h]
@[simp] theorem msix_otp (s : State) (fn v : Nat) : (s.msix fn v).otp = s.otp := by obtain ⟨_, _, h⟩ := msix_eq s fn v; rw [h]
@[simp] theorem msix_lcs (s : State) (fn v : Nat) : (s.msix fn v).lcs = s.lcs := by obtain ⟨_, _, h⟩ := msix_eq s fn v; rw [h]
@[simp] theorem msix_vault (s : State) (fn v : Nat) : (s.msix fn v).vault = s.vault := by obtain ⟨_, _, h⟩ := msix_eq s fn v; rw [h]
@[simp] theorem msix_man (s : State) (fn v : Nat) : (s.msix fn v).man = s.man := by obtain ⟨_, _, h⟩ := msix_eq s fn v; rw [h]
@[simp] theorem msix_log (s : State) (fn v : Nat) : (s.msix fn v).log = s.log := by obtain ⟨_, _, h⟩ := msix_eq s fn v; rw [h]
@[simp] theorem msix_irq (s : State) (fn v : Nat) : (s.msix fn v).irq = s.irq := by obtain ⟨_, _, h⟩ := msix_eq s fn v; rw [h]
@[simp] theorem msix_pwr (s : State) (fn v : Nat) : (s.msix fn v).pwr = s.pwr := by obtain ⟨_, _, h⟩ := msix_eq s fn v; rw [h]
@[simp] theorem msix_tmp (s : State) (fn v : Nat) : (s.msix fn v).tmp = s.tmp := by obtain ⟨_, _, h⟩ := msix_eq s fn v; rw [h]
@[simp] theorem msix_tal (s : State) (fn v : Nat) : (s.msix fn v).tal = s.tal := by obtain ⟨_, _, h⟩ := msix_eq s fn v; rw [h]
@[simp] theorem msix_waiting (s : State) (fn v : Nat) : (s.msix fn v).waiting = s.waiting := by obtain ⟨_, _, h⟩ := msix_eq s fn v; rw [h]
@[simp] theorem msix_running (s : State) (fn v : Nat) : (s.msix fn v).running = s.running := by obtain ⟨_, _, h⟩ := msix_eq s fn v; rw [h]
@[simp] theorem msix_sessions (s : State) (fn v : Nat) : (s.msix fn v).sessions = s.sessions := by obtain ⟨_, _, h⟩ := msix_eq s fn v; rw [h]
@[simp] theorem msix_outcomes (s : State) (fn v : Nat) : (s.msix fn v).outcomes = s.outcomes := by obtain ⟨_, _, h⟩ := msix_eq s fn v; rw [h]
@[simp] theorem msix_floors (s : State) (fn v : Nat) : (s.msix fn v).floors = s.floors := by obtain ⟨_, _, h⟩ := msix_eq s fn v; rw [h]
@[simp] theorem msix_kh1 (s : State) (fn v : Nat) : (s.msix fn v).kh1 = s.kh1 := by obtain ⟨_, _, h⟩ := msix_eq s fn v; rw [h]
@[simp] theorem msix_rpl (s : State) (fn v : Nat) : (s.msix fn v).rpl = s.rpl := by obtain ⟨_, _, h⟩ := msix_eq s fn v; rw [h]
@[simp] theorem msix_rosters (s : State) (fn v : Nat) : (s.msix fn v).rosters = s.rosters := by obtain ⟨_, _, h⟩ := msix_eq s fn v; rw [h]
@[simp] theorem msix_quorums (s : State) (fn v : Nat) : (s.msix fn v).quorums = s.quorums := by obtain ⟨_, _, h⟩ := msix_eq s fn v; rw [h]
@[simp] theorem msix_twin (s : State) (fn v : Nat) : (s.msix fn v).twin = s.twin := by obtain ⟨_, _, h⟩ := msix_eq s fn v; rw [h]
@[simp] theorem msix_car (s : State) (fn v : Nat) : (s.msix fn v).car = s.car := by obtain ⟨_, _, h⟩ := msix_eq s fn v; rw [h]
@[simp] theorem msix_receipts (s : State) (fn v : Nat) : (s.msix fn v).receipts = s.receipts := by obtain ⟨_, _, h⟩ := msix_eq s fn v; rw [h]
@[simp] theorem msix_ndl (s : State) (fn v : Nat) : (s.msix fn v).ndl = s.ndl := by obtain ⟨_, _, h⟩ := msix_eq s fn v; rw [h]
@[simp] theorem msix_lanes (s : State) (fn v : Nat) : (s.msix fn v).lanes = s.lanes := by obtain ⟨_, _, h⟩ := msix_eq s fn v; rw [h]
@[simp] theorem msix_late (s : State) (fn v : Nat) : (s.msix fn v).late = s.late := by obtain ⟨_, _, h⟩ := msix_eq s fn v; rw [h]
@[simp] theorem msix_digests (s : State) (fn v : Nat) : (s.msix fn v).digests = s.digests := by obtain ⟨_, _, h⟩ := msix_eq s fn v; rw [h]
@[simp] theorem msix_rng (s : State) (fn v : Nat) : (s.msix fn v).rng = s.rng := by obtain ⟨_, _, h⟩ := msix_eq s fn v; rw [h]
@[simp] theorem msix_cel (s : State) (fn v : Nat) : (s.msix fn v).cel = s.cel := by obtain ⟨_, _, h⟩ := msix_eq s fn v; rw [h]
@[simp] theorem msix_curves (s : State) (fn v : Nat) : (s.msix fn v).curves = s.curves := by obtain ⟨_, _, h⟩ := msix_eq s fn v; rw [h]
@[simp] theorem msix_rounds (s : State) (fn v : Nat) : (s.msix fn v).rounds = s.rounds := by obtain ⟨_, _, h⟩ := msix_eq s fn v; rw [h]
@[simp] theorem msix_corrected (s : State) (fn v : Nat) : (s.msix fn v).corrected = s.corrected := by obtain ⟨_, _, h⟩ := msix_eq s fn v; rw [h]
@[simp] theorem msix_poison (s : State) (fn v : Nat) : (s.msix fn v).poison = s.poison := by obtain ⟨_, _, h⟩ := msix_eq s fn v; rw [h]
@[simp] theorem msix_smc (s : State) (fn v : Nat) : (s.msix fn v).smc = s.smc := by obtain ⟨_, _, h⟩ := msix_eq s fn v; rw [h]
@[simp] theorem msix_rsw (s : State) (fn v : Nat) : (s.msix fn v).rsw = s.rsw := by obtain ⟨_, _, h⟩ := msix_eq s fn v; rw [h]
@[simp] theorem msix_iso (s : State) (fn v : Nat) : (s.msix fn v).iso = s.iso := by obtain ⟨_, _, h⟩ := msix_eq s fn v; rw [h]
@[simp] theorem msix_mem (s : State) (fn v : Nat) : (s.msix fn v).mem = s.mem := by obtain ⟨_, _, h⟩ := msix_eq s fn v; rw [h]
@[simp] theorem msix_cards (s : State) (fn v : Nat) : (s.msix fn v).cards = s.cards := by obtain ⟨_, _, h⟩ := msix_eq s fn v; rw [h]
@[simp] theorem msix_board (s : State) (fn v : Nat) : (s.msix fn v).board = s.board := by obtain ⟨_, _, h⟩ := msix_eq s fn v; rw [h]
@[simp] theorem msix_ports (s : State) (fn v : Nat) : (s.msix fn v).ports = s.ports := by obtain ⟨_, _, h⟩ := msix_eq s fn v; rw [h]
@[simp] theorem msix_base (s : State) (fn v : Nat) : (s.msix fn v).base = s.base := by obtain ⟨_, _, h⟩ := msix_eq s fn v; rw [h]
@[simp] theorem msix_captures (s : State) (fn v : Nat) : (s.msix fn v).captures = s.captures := by obtain ⟨_, _, h⟩ := msix_eq s fn v; rw [h]
@[simp] theorem msix_draws (s : State) (fn v : Nat) : (s.msix fn v).draws = s.draws := by obtain ⟨_, _, h⟩ := msix_eq s fn v; rw [h]
@[simp] theorem msix_pending (s : State) (fn v : Nat) : (s.msix fn v).pending = s.pending := by obtain ⟨_, _, h⟩ := msix_eq s fn v; rw [h]
@[simp] theorem msix_host_linkUp (s : State) (fn v : Nat) : (s.msix fn v).host.linkUp = s.host.linkUp := by obtain ⟨_, _, h⟩ := msix_eq s fn v; rw [h]
@[simp] theorem msix_host_width (s : State) (fn v : Nat) : (s.msix fn v).host.width = s.host.width := by obtain ⟨_, _, h⟩ := msix_eq s fn v; rw [h]
@[simp] theorem msix_host_speed (s : State) (fn v : Nat) : (s.msix fn v).host.speed = s.host.speed := by obtain ⟨_, _, h⟩ := msix_eq s fn v; rw [h]
@[simp] theorem msix_host_vfEnable (s : State) (fn v : Nat) : (s.msix fn v).host.vfEnable = s.host.vfEnable := by obtain ⟨_, _, h⟩ := msix_eq s fn v; rw [h]
@[simp] theorem msix_host_numVfs (s : State) (fn v : Nat) : (s.msix fn v).host.numVfs = s.host.numVfs := by obtain ⟨_, _, h⟩ := msix_eq s fn v; rw [h]
@[simp] theorem msix_host_released (s : State) (fn v : Nat) : (s.msix fn v).host.released = s.host.released := by obtain ⟨_, _, h⟩ := msix_eq s fn v; rw [h]
@[simp] theorem msix_host_relaxed (s : State) (fn v : Nat) : (s.msix fn v).host.relaxed = s.host.relaxed := by obtain ⟨_, _, h⟩ := msix_eq s fn v; rw [h]
@[simp] theorem msix_host_cplTimeout (s : State) (fn v : Nat) : (s.msix fn v).host.cplTimeout = s.host.cplTimeout := by obtain ⟨_, _, h⟩ := msix_eq s fn v; rw [h]
@[simp] theorem msix_host_qp (s : State) (fn v : Nat) : (s.msix fn v).host.qp = s.host.qp := by obtain ⟨_, _, h⟩ := msix_eq s fn v; rw [h]
@[simp] theorem msix_host_win (s : State) (fn v : Nat) : (s.msix fn v).host.win = s.host.win := by obtain ⟨_, _, h⟩ := msix_eq s fn v; rw [h]
@[simp] theorem msix_host_writeRefused (s : State) (fn v : Nat) : (s.msix fn v).host.writeRefused = s.host.writeRefused := by obtain ⟨_, _, h⟩ := msix_eq s fn v; rw [h]
@[simp] theorem msix_host_lastFn (s : State) (fn v : Nat) : (s.msix fn v).host.lastFn = s.host.lastFn := by obtain ⟨_, _, h⟩ := msix_eq s fn v; rw [h]
@[simp] theorem msix_host_ttuRefusals (s : State) (fn v : Nat) : (s.msix fn v).host.ttuRefusals = s.host.ttuRefusals := by obtain ⟨_, _, h⟩ := msix_eq s fn v; rw [h]
@[simp] theorem msix_host_barRefusals (s : State) (fn v : Nat) : (s.msix fn v).host.barRefusals = s.host.barRefusals := by obtain ⟨_, _, h⟩ := msix_eq s fn v; rw [h]
@[simp] theorem msix_host_flrs (s : State) (fn v : Nat) : (s.msix fn v).host.flrs = s.host.flrs := by obtain ⟨_, _, h⟩ := msix_eq s fn v; rw [h]
@[simp] theorem msix_host_resets (s : State) (fn v : Nat) : (s.msix fn v).host.resets = s.host.resets := by obtain ⟨_, _, h⟩ := msix_eq s fn v; rw [h]
@[simp] theorem msix_host_flr (s : State) (fn v : Nat) : (s.msix fn v).host.flr = s.host.flr := by obtain ⟨_, _, h⟩ := msix_eq s fn v; rw [h]
@[simp] theorem msix_host_oldReads (s : State) (fn v : Nat) : (s.msix fn v).host.oldReads = s.host.oldReads := by obtain ⟨_, _, h⟩ := msix_eq s fn v; rw [h]
@[simp] theorem msix_host_discards (s : State) (fn v : Nat) : (s.msix fn v).host.discards = s.host.discards := by obtain ⟨_, _, h⟩ := msix_eq s fn v; rw [h]
@[simp] theorem msix_host_order (s : State) (fn v : Nat) : (s.msix fn v).host.order = s.host.order := by obtain ⟨_, _, h⟩ := msix_eq s fn v; rw [h]

@[simp] theorem raise_tick (s : State) (l : Leaf) (b : Nat) : (s.raise l b).tick = s.tick := by obtain ⟨_, _, _, h⟩ := raise_eq s l b; rw [h]
@[simp] theorem raise_mode (s : State) (l : Leaf) (b : Nat) : (s.raise l b).mode = s.mode := by obtain ⟨_, _, _, h⟩ := raise_eq s l b; rw [h]
@[simp] theorem raise_bootStage (s : State) (l : Leaf) (b : Nat) : (s.raise l b).bootStage = s.bootStage := by obtain ⟨_, _, _, h⟩ := raise_eq s l b; rw [h]
@[simp] theorem raise_barrier (s : State) (l : Leaf) (b : Nat) : (s.raise l b).barrier = s.barrier := by obtain ⟨_, _, _, h⟩ := raise_eq s l b; rw [h]
@[simp] theorem raise_barrierQ (s : State) (l : Leaf) (b : Nat) : (s.raise l b).barrierQ = s.barrierQ := by obtain ⟨_, _, _, h⟩ := raise_eq s l b; rw [h]
@[simp] theorem raise_recoveryReq (s : State) (l : Leaf) (b : Nat) : (s.raise l b).recoveryReq = s.recoveryReq := by obtain ⟨_, _, _, h⟩ := raise_eq s l b; rw [h]
@[simp] theorem raise_resetCause (s : State) (l : Leaf) (b : Nat) : (s.raise l b).resetCause = s.resetCause := by obtain ⟨_, _, _, h⟩ := raise_eq s l b; rw [h]
@[simp] theorem raise_mainPower (s : State) (l : Leaf) (b : Nat) : (s.raise l b).mainPower = s.mainPower := by obtain ⟨_, _, _, h⟩ := raise_eq s l b; rw [h]
@[simp] theorem raise_vbat (s : State) (l : Leaf) (b : Nat) : (s.raise l b).vbat = s.vbat := by obtain ⟨_, _, _, h⟩ := raise_eq s l b; rw [h]
@[simp] theorem raise_sysReset (s : State) (l : Leaf) (b : Nat) : (s.raise l b).sysReset = s.sysReset := by obtain ⟨_, _, _, h⟩ := raise_eq s l b; rw [h]
@[simp] theorem raise_resetDue (s : State) (l : Leaf) (b : Nat) : (s.raise l b).resetDue = s.resetDue := by obtain ⟨_, _, _, h⟩ := raise_eq s l b; rw [h]
@[simp] theorem raise_otp (s : State) (l : Leaf) (b : Nat) : (s.raise l b).otp = s.otp := by obtain ⟨_, _, _, h⟩ := raise_eq s l b; rw [h]
@[simp] theorem raise_lcs (s : State) (l : Leaf) (b : Nat) : (s.raise l b).lcs = s.lcs := by obtain ⟨_, _, _, h⟩ := raise_eq s l b; rw [h]
@[simp] theorem raise_vault (s : State) (l : Leaf) (b : Nat) : (s.raise l b).vault = s.vault := by obtain ⟨_, _, _, h⟩ := raise_eq s l b; rw [h]
@[simp] theorem raise_man (s : State) (l : Leaf) (b : Nat) : (s.raise l b).man = s.man := by obtain ⟨_, _, _, h⟩ := raise_eq s l b; rw [h]
@[simp] theorem raise_log (s : State) (l : Leaf) (b : Nat) : (s.raise l b).log = s.log := by obtain ⟨_, _, _, h⟩ := raise_eq s l b; rw [h]
@[simp] theorem raise_pwr (s : State) (l : Leaf) (b : Nat) : (s.raise l b).pwr = s.pwr := by obtain ⟨_, _, _, h⟩ := raise_eq s l b; rw [h]
@[simp] theorem raise_tmp (s : State) (l : Leaf) (b : Nat) : (s.raise l b).tmp = s.tmp := by obtain ⟨_, _, _, h⟩ := raise_eq s l b; rw [h]
@[simp] theorem raise_tal (s : State) (l : Leaf) (b : Nat) : (s.raise l b).tal = s.tal := by obtain ⟨_, _, _, h⟩ := raise_eq s l b; rw [h]
@[simp] theorem raise_waiting (s : State) (l : Leaf) (b : Nat) : (s.raise l b).waiting = s.waiting := by obtain ⟨_, _, _, h⟩ := raise_eq s l b; rw [h]
@[simp] theorem raise_running (s : State) (l : Leaf) (b : Nat) : (s.raise l b).running = s.running := by obtain ⟨_, _, _, h⟩ := raise_eq s l b; rw [h]
@[simp] theorem raise_sessions (s : State) (l : Leaf) (b : Nat) : (s.raise l b).sessions = s.sessions := by obtain ⟨_, _, _, h⟩ := raise_eq s l b; rw [h]
@[simp] theorem raise_outcomes (s : State) (l : Leaf) (b : Nat) : (s.raise l b).outcomes = s.outcomes := by obtain ⟨_, _, _, h⟩ := raise_eq s l b; rw [h]
@[simp] theorem raise_floors (s : State) (l : Leaf) (b : Nat) : (s.raise l b).floors = s.floors := by obtain ⟨_, _, _, h⟩ := raise_eq s l b; rw [h]
@[simp] theorem raise_kh1 (s : State) (l : Leaf) (b : Nat) : (s.raise l b).kh1 = s.kh1 := by obtain ⟨_, _, _, h⟩ := raise_eq s l b; rw [h]
@[simp] theorem raise_rpl (s : State) (l : Leaf) (b : Nat) : (s.raise l b).rpl = s.rpl := by obtain ⟨_, _, _, h⟩ := raise_eq s l b; rw [h]
@[simp] theorem raise_rosters (s : State) (l : Leaf) (b : Nat) : (s.raise l b).rosters = s.rosters := by obtain ⟨_, _, _, h⟩ := raise_eq s l b; rw [h]
@[simp] theorem raise_quorums (s : State) (l : Leaf) (b : Nat) : (s.raise l b).quorums = s.quorums := by obtain ⟨_, _, _, h⟩ := raise_eq s l b; rw [h]
@[simp] theorem raise_twin (s : State) (l : Leaf) (b : Nat) : (s.raise l b).twin = s.twin := by obtain ⟨_, _, _, h⟩ := raise_eq s l b; rw [h]
@[simp] theorem raise_car (s : State) (l : Leaf) (b : Nat) : (s.raise l b).car = s.car := by obtain ⟨_, _, _, h⟩ := raise_eq s l b; rw [h]
@[simp] theorem raise_receipts (s : State) (l : Leaf) (b : Nat) : (s.raise l b).receipts = s.receipts := by obtain ⟨_, _, _, h⟩ := raise_eq s l b; rw [h]
@[simp] theorem raise_ndl (s : State) (l : Leaf) (b : Nat) : (s.raise l b).ndl = s.ndl := by obtain ⟨_, _, _, h⟩ := raise_eq s l b; rw [h]
@[simp] theorem raise_lanes (s : State) (l : Leaf) (b : Nat) : (s.raise l b).lanes = s.lanes := by obtain ⟨_, _, _, h⟩ := raise_eq s l b; rw [h]
@[simp] theorem raise_late (s : State) (l : Leaf) (b : Nat) : (s.raise l b).late = s.late := by obtain ⟨_, _, _, h⟩ := raise_eq s l b; rw [h]
@[simp] theorem raise_digests (s : State) (l : Leaf) (b : Nat) : (s.raise l b).digests = s.digests := by obtain ⟨_, _, _, h⟩ := raise_eq s l b; rw [h]
@[simp] theorem raise_rng (s : State) (l : Leaf) (b : Nat) : (s.raise l b).rng = s.rng := by obtain ⟨_, _, _, h⟩ := raise_eq s l b; rw [h]
@[simp] theorem raise_cel (s : State) (l : Leaf) (b : Nat) : (s.raise l b).cel = s.cel := by obtain ⟨_, _, _, h⟩ := raise_eq s l b; rw [h]
@[simp] theorem raise_curves (s : State) (l : Leaf) (b : Nat) : (s.raise l b).curves = s.curves := by obtain ⟨_, _, _, h⟩ := raise_eq s l b; rw [h]
@[simp] theorem raise_rounds (s : State) (l : Leaf) (b : Nat) : (s.raise l b).rounds = s.rounds := by obtain ⟨_, _, _, h⟩ := raise_eq s l b; rw [h]
@[simp] theorem raise_corrected (s : State) (l : Leaf) (b : Nat) : (s.raise l b).corrected = s.corrected := by obtain ⟨_, _, _, h⟩ := raise_eq s l b; rw [h]
@[simp] theorem raise_poison (s : State) (l : Leaf) (b : Nat) : (s.raise l b).poison = s.poison := by obtain ⟨_, _, _, h⟩ := raise_eq s l b; rw [h]
@[simp] theorem raise_smc (s : State) (l : Leaf) (b : Nat) : (s.raise l b).smc = s.smc := by obtain ⟨_, _, _, h⟩ := raise_eq s l b; rw [h]
@[simp] theorem raise_rsw (s : State) (l : Leaf) (b : Nat) : (s.raise l b).rsw = s.rsw := by obtain ⟨_, _, _, h⟩ := raise_eq s l b; rw [h]
@[simp] theorem raise_iso (s : State) (l : Leaf) (b : Nat) : (s.raise l b).iso = s.iso := by obtain ⟨_, _, _, h⟩ := raise_eq s l b; rw [h]
@[simp] theorem raise_mem (s : State) (l : Leaf) (b : Nat) : (s.raise l b).mem = s.mem := by obtain ⟨_, _, _, h⟩ := raise_eq s l b; rw [h]
@[simp] theorem raise_cards (s : State) (l : Leaf) (b : Nat) : (s.raise l b).cards = s.cards := by obtain ⟨_, _, _, h⟩ := raise_eq s l b; rw [h]
@[simp] theorem raise_board (s : State) (l : Leaf) (b : Nat) : (s.raise l b).board = s.board := by obtain ⟨_, _, _, h⟩ := raise_eq s l b; rw [h]
@[simp] theorem raise_ports (s : State) (l : Leaf) (b : Nat) : (s.raise l b).ports = s.ports := by obtain ⟨_, _, _, h⟩ := raise_eq s l b; rw [h]
@[simp] theorem raise_base (s : State) (l : Leaf) (b : Nat) : (s.raise l b).base = s.base := by obtain ⟨_, _, _, h⟩ := raise_eq s l b; rw [h]
@[simp] theorem raise_captures (s : State) (l : Leaf) (b : Nat) : (s.raise l b).captures = s.captures := by obtain ⟨_, _, _, h⟩ := raise_eq s l b; rw [h]
@[simp] theorem raise_draws (s : State) (l : Leaf) (b : Nat) : (s.raise l b).draws = s.draws := by obtain ⟨_, _, _, h⟩ := raise_eq s l b; rw [h]
@[simp] theorem raise_pending (s : State) (l : Leaf) (b : Nat) : (s.raise l b).pending = s.pending := by obtain ⟨_, _, _, h⟩ := raise_eq s l b; rw [h]
@[simp] theorem raise_host_linkUp (s : State) (l : Leaf) (b : Nat) : (s.raise l b).host.linkUp = s.host.linkUp := by obtain ⟨_, _, _, h⟩ := raise_eq s l b; rw [h]
@[simp] theorem raise_host_width (s : State) (l : Leaf) (b : Nat) : (s.raise l b).host.width = s.host.width := by obtain ⟨_, _, _, h⟩ := raise_eq s l b; rw [h]
@[simp] theorem raise_host_speed (s : State) (l : Leaf) (b : Nat) : (s.raise l b).host.speed = s.host.speed := by obtain ⟨_, _, _, h⟩ := raise_eq s l b; rw [h]
@[simp] theorem raise_host_vfEnable (s : State) (l : Leaf) (b : Nat) : (s.raise l b).host.vfEnable = s.host.vfEnable := by obtain ⟨_, _, _, h⟩ := raise_eq s l b; rw [h]
@[simp] theorem raise_host_numVfs (s : State) (l : Leaf) (b : Nat) : (s.raise l b).host.numVfs = s.host.numVfs := by obtain ⟨_, _, _, h⟩ := raise_eq s l b; rw [h]
@[simp] theorem raise_host_released (s : State) (l : Leaf) (b : Nat) : (s.raise l b).host.released = s.host.released := by obtain ⟨_, _, _, h⟩ := raise_eq s l b; rw [h]
@[simp] theorem raise_host_relaxed (s : State) (l : Leaf) (b : Nat) : (s.raise l b).host.relaxed = s.host.relaxed := by obtain ⟨_, _, _, h⟩ := raise_eq s l b; rw [h]
@[simp] theorem raise_host_cplTimeout (s : State) (l : Leaf) (b : Nat) : (s.raise l b).host.cplTimeout = s.host.cplTimeout := by obtain ⟨_, _, _, h⟩ := raise_eq s l b; rw [h]
@[simp] theorem raise_host_qp (s : State) (l : Leaf) (b : Nat) : (s.raise l b).host.qp = s.host.qp := by obtain ⟨_, _, _, h⟩ := raise_eq s l b; rw [h]
@[simp] theorem raise_host_win (s : State) (l : Leaf) (b : Nat) : (s.raise l b).host.win = s.host.win := by obtain ⟨_, _, _, h⟩ := raise_eq s l b; rw [h]
@[simp] theorem raise_host_writeRefused (s : State) (l : Leaf) (b : Nat) : (s.raise l b).host.writeRefused = s.host.writeRefused := by obtain ⟨_, _, _, h⟩ := raise_eq s l b; rw [h]
@[simp] theorem raise_host_lastFn (s : State) (l : Leaf) (b : Nat) : (s.raise l b).host.lastFn = s.host.lastFn := by obtain ⟨_, _, _, h⟩ := raise_eq s l b; rw [h]
@[simp] theorem raise_host_ttuRefusals (s : State) (l : Leaf) (b : Nat) : (s.raise l b).host.ttuRefusals = s.host.ttuRefusals := by obtain ⟨_, _, _, h⟩ := raise_eq s l b; rw [h]
@[simp] theorem raise_host_barRefusals (s : State) (l : Leaf) (b : Nat) : (s.raise l b).host.barRefusals = s.host.barRefusals := by obtain ⟨_, _, _, h⟩ := raise_eq s l b; rw [h]
@[simp] theorem raise_host_flrs (s : State) (l : Leaf) (b : Nat) : (s.raise l b).host.flrs = s.host.flrs := by obtain ⟨_, _, _, h⟩ := raise_eq s l b; rw [h]
@[simp] theorem raise_host_resets (s : State) (l : Leaf) (b : Nat) : (s.raise l b).host.resets = s.host.resets := by obtain ⟨_, _, _, h⟩ := raise_eq s l b; rw [h]
@[simp] theorem raise_host_flr (s : State) (l : Leaf) (b : Nat) : (s.raise l b).host.flr = s.host.flr := by obtain ⟨_, _, _, h⟩ := raise_eq s l b; rw [h]
@[simp] theorem raise_host_oldReads (s : State) (l : Leaf) (b : Nat) : (s.raise l b).host.oldReads = s.host.oldReads := by obtain ⟨_, _, _, h⟩ := raise_eq s l b; rw [h]
@[simp] theorem raise_host_discards (s : State) (l : Leaf) (b : Nat) : (s.raise l b).host.discards = s.host.discards := by obtain ⟨_, _, _, h⟩ := raise_eq s l b; rw [h]
@[simp] theorem raise_host_order (s : State) (l : Leaf) (b : Nat) : (s.raise l b).host.order = s.host.order := by obtain ⟨_, _, _, h⟩ := raise_eq s l b; rw [h]

@[simp] theorem record_tick (s : State) (e : LogEntry) : (s.record e).tick = s.tick := by obtain ⟨_, _, _, _, h⟩ := record_eq s e; rw [h]
@[simp] theorem record_mode (s : State) (e : LogEntry) : (s.record e).mode = s.mode := by obtain ⟨_, _, _, _, h⟩ := record_eq s e; rw [h]
@[simp] theorem record_bootStage (s : State) (e : LogEntry) : (s.record e).bootStage = s.bootStage := by obtain ⟨_, _, _, _, h⟩ := record_eq s e; rw [h]
@[simp] theorem record_barrier (s : State) (e : LogEntry) : (s.record e).barrier = s.barrier := by obtain ⟨_, _, _, _, h⟩ := record_eq s e; rw [h]
@[simp] theorem record_barrierQ (s : State) (e : LogEntry) : (s.record e).barrierQ = s.barrierQ := by obtain ⟨_, _, _, _, h⟩ := record_eq s e; rw [h]
@[simp] theorem record_recoveryReq (s : State) (e : LogEntry) : (s.record e).recoveryReq = s.recoveryReq := by obtain ⟨_, _, _, _, h⟩ := record_eq s e; rw [h]
@[simp] theorem record_resetCause (s : State) (e : LogEntry) : (s.record e).resetCause = s.resetCause := by obtain ⟨_, _, _, _, h⟩ := record_eq s e; rw [h]
@[simp] theorem record_mainPower (s : State) (e : LogEntry) : (s.record e).mainPower = s.mainPower := by obtain ⟨_, _, _, _, h⟩ := record_eq s e; rw [h]
@[simp] theorem record_vbat (s : State) (e : LogEntry) : (s.record e).vbat = s.vbat := by obtain ⟨_, _, _, _, h⟩ := record_eq s e; rw [h]
@[simp] theorem record_sysReset (s : State) (e : LogEntry) : (s.record e).sysReset = s.sysReset := by obtain ⟨_, _, _, _, h⟩ := record_eq s e; rw [h]
@[simp] theorem record_resetDue (s : State) (e : LogEntry) : (s.record e).resetDue = s.resetDue := by obtain ⟨_, _, _, _, h⟩ := record_eq s e; rw [h]
@[simp] theorem record_otp (s : State) (e : LogEntry) : (s.record e).otp = s.otp := by obtain ⟨_, _, _, _, h⟩ := record_eq s e; rw [h]
@[simp] theorem record_lcs (s : State) (e : LogEntry) : (s.record e).lcs = s.lcs := by obtain ⟨_, _, _, _, h⟩ := record_eq s e; rw [h]
@[simp] theorem record_vault (s : State) (e : LogEntry) : (s.record e).vault = s.vault := by obtain ⟨_, _, _, _, h⟩ := record_eq s e; rw [h]
@[simp] theorem record_man (s : State) (e : LogEntry) : (s.record e).man = s.man := by obtain ⟨_, _, _, _, h⟩ := record_eq s e; rw [h]
@[simp] theorem record_pwr (s : State) (e : LogEntry) : (s.record e).pwr = s.pwr := by obtain ⟨_, _, _, _, h⟩ := record_eq s e; rw [h]
@[simp] theorem record_tmp (s : State) (e : LogEntry) : (s.record e).tmp = s.tmp := by obtain ⟨_, _, _, _, h⟩ := record_eq s e; rw [h]
@[simp] theorem record_tal (s : State) (e : LogEntry) : (s.record e).tal = s.tal := by obtain ⟨_, _, _, _, h⟩ := record_eq s e; rw [h]
@[simp] theorem record_waiting (s : State) (e : LogEntry) : (s.record e).waiting = s.waiting := by obtain ⟨_, _, _, _, h⟩ := record_eq s e; rw [h]
@[simp] theorem record_running (s : State) (e : LogEntry) : (s.record e).running = s.running := by obtain ⟨_, _, _, _, h⟩ := record_eq s e; rw [h]
@[simp] theorem record_sessions (s : State) (e : LogEntry) : (s.record e).sessions = s.sessions := by obtain ⟨_, _, _, _, h⟩ := record_eq s e; rw [h]
@[simp] theorem record_outcomes (s : State) (e : LogEntry) : (s.record e).outcomes = s.outcomes := by obtain ⟨_, _, _, _, h⟩ := record_eq s e; rw [h]
@[simp] theorem record_floors (s : State) (e : LogEntry) : (s.record e).floors = s.floors := by obtain ⟨_, _, _, _, h⟩ := record_eq s e; rw [h]
@[simp] theorem record_kh1 (s : State) (e : LogEntry) : (s.record e).kh1 = s.kh1 := by obtain ⟨_, _, _, _, h⟩ := record_eq s e; rw [h]
@[simp] theorem record_rpl (s : State) (e : LogEntry) : (s.record e).rpl = s.rpl := by obtain ⟨_, _, _, _, h⟩ := record_eq s e; rw [h]
@[simp] theorem record_rosters (s : State) (e : LogEntry) : (s.record e).rosters = s.rosters := by obtain ⟨_, _, _, _, h⟩ := record_eq s e; rw [h]
@[simp] theorem record_quorums (s : State) (e : LogEntry) : (s.record e).quorums = s.quorums := by obtain ⟨_, _, _, _, h⟩ := record_eq s e; rw [h]
@[simp] theorem record_twin (s : State) (e : LogEntry) : (s.record e).twin = s.twin := by obtain ⟨_, _, _, _, h⟩ := record_eq s e; rw [h]
@[simp] theorem record_car (s : State) (e : LogEntry) : (s.record e).car = s.car := by obtain ⟨_, _, _, _, h⟩ := record_eq s e; rw [h]
@[simp] theorem record_receipts (s : State) (e : LogEntry) : (s.record e).receipts = s.receipts := by obtain ⟨_, _, _, _, h⟩ := record_eq s e; rw [h]
@[simp] theorem record_ndl (s : State) (e : LogEntry) : (s.record e).ndl = s.ndl := by obtain ⟨_, _, _, _, h⟩ := record_eq s e; rw [h]
@[simp] theorem record_lanes (s : State) (e : LogEntry) : (s.record e).lanes = s.lanes := by obtain ⟨_, _, _, _, h⟩ := record_eq s e; rw [h]
@[simp] theorem record_late (s : State) (e : LogEntry) : (s.record e).late = s.late := by obtain ⟨_, _, _, _, h⟩ := record_eq s e; rw [h]
@[simp] theorem record_digests (s : State) (e : LogEntry) : (s.record e).digests = s.digests := by obtain ⟨_, _, _, _, h⟩ := record_eq s e; rw [h]
@[simp] theorem record_rng (s : State) (e : LogEntry) : (s.record e).rng = s.rng := by obtain ⟨_, _, _, _, h⟩ := record_eq s e; rw [h]
@[simp] theorem record_cel (s : State) (e : LogEntry) : (s.record e).cel = s.cel := by obtain ⟨_, _, _, _, h⟩ := record_eq s e; rw [h]
@[simp] theorem record_curves (s : State) (e : LogEntry) : (s.record e).curves = s.curves := by obtain ⟨_, _, _, _, h⟩ := record_eq s e; rw [h]
@[simp] theorem record_rounds (s : State) (e : LogEntry) : (s.record e).rounds = s.rounds := by obtain ⟨_, _, _, _, h⟩ := record_eq s e; rw [h]
@[simp] theorem record_corrected (s : State) (e : LogEntry) : (s.record e).corrected = s.corrected := by obtain ⟨_, _, _, _, h⟩ := record_eq s e; rw [h]
@[simp] theorem record_poison (s : State) (e : LogEntry) : (s.record e).poison = s.poison := by obtain ⟨_, _, _, _, h⟩ := record_eq s e; rw [h]
@[simp] theorem record_smc (s : State) (e : LogEntry) : (s.record e).smc = s.smc := by obtain ⟨_, _, _, _, h⟩ := record_eq s e; rw [h]
@[simp] theorem record_rsw (s : State) (e : LogEntry) : (s.record e).rsw = s.rsw := by obtain ⟨_, _, _, _, h⟩ := record_eq s e; rw [h]
@[simp] theorem record_iso (s : State) (e : LogEntry) : (s.record e).iso = s.iso := by obtain ⟨_, _, _, _, h⟩ := record_eq s e; rw [h]
@[simp] theorem record_mem (s : State) (e : LogEntry) : (s.record e).mem = s.mem := by obtain ⟨_, _, _, _, h⟩ := record_eq s e; rw [h]
@[simp] theorem record_cards (s : State) (e : LogEntry) : (s.record e).cards = s.cards := by obtain ⟨_, _, _, _, h⟩ := record_eq s e; rw [h]
@[simp] theorem record_board (s : State) (e : LogEntry) : (s.record e).board = s.board := by obtain ⟨_, _, _, _, h⟩ := record_eq s e; rw [h]
@[simp] theorem record_ports (s : State) (e : LogEntry) : (s.record e).ports = s.ports := by obtain ⟨_, _, _, _, h⟩ := record_eq s e; rw [h]
@[simp] theorem record_base (s : State) (e : LogEntry) : (s.record e).base = s.base := by obtain ⟨_, _, _, _, h⟩ := record_eq s e; rw [h]
@[simp] theorem record_captures (s : State) (e : LogEntry) : (s.record e).captures = s.captures := by obtain ⟨_, _, _, _, h⟩ := record_eq s e; rw [h]
@[simp] theorem record_draws (s : State) (e : LogEntry) : (s.record e).draws = s.draws := by obtain ⟨_, _, _, _, h⟩ := record_eq s e; rw [h]
@[simp] theorem record_pending (s : State) (e : LogEntry) : (s.record e).pending = s.pending := by obtain ⟨_, _, _, _, h⟩ := record_eq s e; rw [h]
@[simp] theorem record_host_linkUp (s : State) (e : LogEntry) : (s.record e).host.linkUp = s.host.linkUp := by obtain ⟨_, _, _, _, h⟩ := record_eq s e; rw [h]
@[simp] theorem record_host_width (s : State) (e : LogEntry) : (s.record e).host.width = s.host.width := by obtain ⟨_, _, _, _, h⟩ := record_eq s e; rw [h]
@[simp] theorem record_host_speed (s : State) (e : LogEntry) : (s.record e).host.speed = s.host.speed := by obtain ⟨_, _, _, _, h⟩ := record_eq s e; rw [h]
@[simp] theorem record_host_vfEnable (s : State) (e : LogEntry) : (s.record e).host.vfEnable = s.host.vfEnable := by obtain ⟨_, _, _, _, h⟩ := record_eq s e; rw [h]
@[simp] theorem record_host_numVfs (s : State) (e : LogEntry) : (s.record e).host.numVfs = s.host.numVfs := by obtain ⟨_, _, _, _, h⟩ := record_eq s e; rw [h]
@[simp] theorem record_host_released (s : State) (e : LogEntry) : (s.record e).host.released = s.host.released := by obtain ⟨_, _, _, _, h⟩ := record_eq s e; rw [h]
@[simp] theorem record_host_relaxed (s : State) (e : LogEntry) : (s.record e).host.relaxed = s.host.relaxed := by obtain ⟨_, _, _, _, h⟩ := record_eq s e; rw [h]
@[simp] theorem record_host_cplTimeout (s : State) (e : LogEntry) : (s.record e).host.cplTimeout = s.host.cplTimeout := by obtain ⟨_, _, _, _, h⟩ := record_eq s e; rw [h]
@[simp] theorem record_host_qp (s : State) (e : LogEntry) : (s.record e).host.qp = s.host.qp := by obtain ⟨_, _, _, _, h⟩ := record_eq s e; rw [h]
@[simp] theorem record_host_win (s : State) (e : LogEntry) : (s.record e).host.win = s.host.win := by obtain ⟨_, _, _, _, h⟩ := record_eq s e; rw [h]
@[simp] theorem record_host_writeRefused (s : State) (e : LogEntry) : (s.record e).host.writeRefused = s.host.writeRefused := by obtain ⟨_, _, _, _, h⟩ := record_eq s e; rw [h]
@[simp] theorem record_host_lastFn (s : State) (e : LogEntry) : (s.record e).host.lastFn = s.host.lastFn := by obtain ⟨_, _, _, _, h⟩ := record_eq s e; rw [h]
@[simp] theorem record_host_ttuRefusals (s : State) (e : LogEntry) : (s.record e).host.ttuRefusals = s.host.ttuRefusals := by obtain ⟨_, _, _, _, h⟩ := record_eq s e; rw [h]
@[simp] theorem record_host_barRefusals (s : State) (e : LogEntry) : (s.record e).host.barRefusals = s.host.barRefusals := by obtain ⟨_, _, _, _, h⟩ := record_eq s e; rw [h]
@[simp] theorem record_host_flrs (s : State) (e : LogEntry) : (s.record e).host.flrs = s.host.flrs := by obtain ⟨_, _, _, _, h⟩ := record_eq s e; rw [h]
@[simp] theorem record_host_resets (s : State) (e : LogEntry) : (s.record e).host.resets = s.host.resets := by obtain ⟨_, _, _, _, h⟩ := record_eq s e; rw [h]
@[simp] theorem record_host_flr (s : State) (e : LogEntry) : (s.record e).host.flr = s.host.flr := by obtain ⟨_, _, _, _, h⟩ := record_eq s e; rw [h]
@[simp] theorem record_host_oldReads (s : State) (e : LogEntry) : (s.record e).host.oldReads = s.host.oldReads := by obtain ⟨_, _, _, _, h⟩ := record_eq s e; rw [h]
@[simp] theorem record_host_discards (s : State) (e : LogEntry) : (s.record e).host.discards = s.host.discards := by obtain ⟨_, _, _, _, h⟩ := record_eq s e; rw [h]
@[simp] theorem record_host_order (s : State) (e : LogEntry) : (s.record e).host.order = s.host.order := by obtain ⟨_, _, _, _, h⟩ := record_eq s e; rw [h]

@[simp] theorem thaw_tick (s : State) (f : Bool) : (s.thaw f).tick = s.tick := by obtain ⟨_, _, _, _, h⟩ := thaw_eq s f; rw [h]
@[simp] theorem thaw_mode (s : State) (f : Bool) : (s.thaw f).mode = s.mode := by obtain ⟨_, _, _, _, h⟩ := thaw_eq s f; rw [h]
@[simp] theorem thaw_bootStage (s : State) (f : Bool) : (s.thaw f).bootStage = s.bootStage := by obtain ⟨_, _, _, _, h⟩ := thaw_eq s f; rw [h]
@[simp] theorem thaw_barrier (s : State) (f : Bool) : (s.thaw f).barrier = s.barrier := by obtain ⟨_, _, _, _, h⟩ := thaw_eq s f; rw [h]
@[simp] theorem thaw_barrierQ (s : State) (f : Bool) : (s.thaw f).barrierQ = s.barrierQ := by obtain ⟨_, _, _, _, h⟩ := thaw_eq s f; rw [h]
@[simp] theorem thaw_recoveryReq (s : State) (f : Bool) : (s.thaw f).recoveryReq = s.recoveryReq := by obtain ⟨_, _, _, _, h⟩ := thaw_eq s f; rw [h]
@[simp] theorem thaw_resetCause (s : State) (f : Bool) : (s.thaw f).resetCause = s.resetCause := by obtain ⟨_, _, _, _, h⟩ := thaw_eq s f; rw [h]
@[simp] theorem thaw_mainPower (s : State) (f : Bool) : (s.thaw f).mainPower = s.mainPower := by obtain ⟨_, _, _, _, h⟩ := thaw_eq s f; rw [h]
@[simp] theorem thaw_vbat (s : State) (f : Bool) : (s.thaw f).vbat = s.vbat := by obtain ⟨_, _, _, _, h⟩ := thaw_eq s f; rw [h]
@[simp] theorem thaw_sysReset (s : State) (f : Bool) : (s.thaw f).sysReset = s.sysReset := by obtain ⟨_, _, _, _, h⟩ := thaw_eq s f; rw [h]
@[simp] theorem thaw_resetDue (s : State) (f : Bool) : (s.thaw f).resetDue = s.resetDue := by obtain ⟨_, _, _, _, h⟩ := thaw_eq s f; rw [h]
@[simp] theorem thaw_otp (s : State) (f : Bool) : (s.thaw f).otp = s.otp := by obtain ⟨_, _, _, _, h⟩ := thaw_eq s f; rw [h]
@[simp] theorem thaw_lcs (s : State) (f : Bool) : (s.thaw f).lcs = s.lcs := by obtain ⟨_, _, _, _, h⟩ := thaw_eq s f; rw [h]
@[simp] theorem thaw_vault (s : State) (f : Bool) : (s.thaw f).vault = s.vault := by obtain ⟨_, _, _, _, h⟩ := thaw_eq s f; rw [h]
@[simp] theorem thaw_man (s : State) (f : Bool) : (s.thaw f).man = s.man := by obtain ⟨_, _, _, _, h⟩ := thaw_eq s f; rw [h]
@[simp] theorem thaw_pwr (s : State) (f : Bool) : (s.thaw f).pwr = s.pwr := by obtain ⟨_, _, _, _, h⟩ := thaw_eq s f; rw [h]
@[simp] theorem thaw_tmp (s : State) (f : Bool) : (s.thaw f).tmp = s.tmp := by obtain ⟨_, _, _, _, h⟩ := thaw_eq s f; rw [h]
@[simp] theorem thaw_tal (s : State) (f : Bool) : (s.thaw f).tal = s.tal := by obtain ⟨_, _, _, _, h⟩ := thaw_eq s f; rw [h]
@[simp] theorem thaw_waiting (s : State) (f : Bool) : (s.thaw f).waiting = s.waiting := by obtain ⟨_, _, _, _, h⟩ := thaw_eq s f; rw [h]
@[simp] theorem thaw_running (s : State) (f : Bool) : (s.thaw f).running = s.running := by obtain ⟨_, _, _, _, h⟩ := thaw_eq s f; rw [h]
@[simp] theorem thaw_sessions (s : State) (f : Bool) : (s.thaw f).sessions = s.sessions := by obtain ⟨_, _, _, _, h⟩ := thaw_eq s f; rw [h]
@[simp] theorem thaw_outcomes (s : State) (f : Bool) : (s.thaw f).outcomes = s.outcomes := by obtain ⟨_, _, _, _, h⟩ := thaw_eq s f; rw [h]
@[simp] theorem thaw_floors (s : State) (f : Bool) : (s.thaw f).floors = s.floors := by obtain ⟨_, _, _, _, h⟩ := thaw_eq s f; rw [h]
@[simp] theorem thaw_kh1 (s : State) (f : Bool) : (s.thaw f).kh1 = s.kh1 := by obtain ⟨_, _, _, _, h⟩ := thaw_eq s f; rw [h]
@[simp] theorem thaw_rpl (s : State) (f : Bool) : (s.thaw f).rpl = s.rpl := by obtain ⟨_, _, _, _, h⟩ := thaw_eq s f; rw [h]
@[simp] theorem thaw_rosters (s : State) (f : Bool) : (s.thaw f).rosters = s.rosters := by obtain ⟨_, _, _, _, h⟩ := thaw_eq s f; rw [h]
@[simp] theorem thaw_quorums (s : State) (f : Bool) : (s.thaw f).quorums = s.quorums := by obtain ⟨_, _, _, _, h⟩ := thaw_eq s f; rw [h]
@[simp] theorem thaw_twin (s : State) (f : Bool) : (s.thaw f).twin = s.twin := by obtain ⟨_, _, _, _, h⟩ := thaw_eq s f; rw [h]
@[simp] theorem thaw_car (s : State) (f : Bool) : (s.thaw f).car = s.car := by obtain ⟨_, _, _, _, h⟩ := thaw_eq s f; rw [h]
@[simp] theorem thaw_receipts (s : State) (f : Bool) : (s.thaw f).receipts = s.receipts := by obtain ⟨_, _, _, _, h⟩ := thaw_eq s f; rw [h]
@[simp] theorem thaw_ndl (s : State) (f : Bool) : (s.thaw f).ndl = s.ndl := by obtain ⟨_, _, _, _, h⟩ := thaw_eq s f; rw [h]
@[simp] theorem thaw_lanes (s : State) (f : Bool) : (s.thaw f).lanes = s.lanes := by obtain ⟨_, _, _, _, h⟩ := thaw_eq s f; rw [h]
@[simp] theorem thaw_late (s : State) (f : Bool) : (s.thaw f).late = s.late := by obtain ⟨_, _, _, _, h⟩ := thaw_eq s f; rw [h]
@[simp] theorem thaw_digests (s : State) (f : Bool) : (s.thaw f).digests = s.digests := by obtain ⟨_, _, _, _, h⟩ := thaw_eq s f; rw [h]
@[simp] theorem thaw_rng (s : State) (f : Bool) : (s.thaw f).rng = s.rng := by obtain ⟨_, _, _, _, h⟩ := thaw_eq s f; rw [h]
@[simp] theorem thaw_cel (s : State) (f : Bool) : (s.thaw f).cel = s.cel := by obtain ⟨_, _, _, _, h⟩ := thaw_eq s f; rw [h]
@[simp] theorem thaw_curves (s : State) (f : Bool) : (s.thaw f).curves = s.curves := by obtain ⟨_, _, _, _, h⟩ := thaw_eq s f; rw [h]
@[simp] theorem thaw_rounds (s : State) (f : Bool) : (s.thaw f).rounds = s.rounds := by obtain ⟨_, _, _, _, h⟩ := thaw_eq s f; rw [h]
@[simp] theorem thaw_corrected (s : State) (f : Bool) : (s.thaw f).corrected = s.corrected := by obtain ⟨_, _, _, _, h⟩ := thaw_eq s f; rw [h]
@[simp] theorem thaw_poison (s : State) (f : Bool) : (s.thaw f).poison = s.poison := by obtain ⟨_, _, _, _, h⟩ := thaw_eq s f; rw [h]
@[simp] theorem thaw_smc (s : State) (f : Bool) : (s.thaw f).smc = s.smc := by obtain ⟨_, _, _, _, h⟩ := thaw_eq s f; rw [h]
@[simp] theorem thaw_rsw (s : State) (f : Bool) : (s.thaw f).rsw = s.rsw := by obtain ⟨_, _, _, _, h⟩ := thaw_eq s f; rw [h]
@[simp] theorem thaw_iso (s : State) (f : Bool) : (s.thaw f).iso = s.iso := by obtain ⟨_, _, _, _, h⟩ := thaw_eq s f; rw [h]
@[simp] theorem thaw_mem (s : State) (f : Bool) : (s.thaw f).mem = s.mem := by obtain ⟨_, _, _, _, h⟩ := thaw_eq s f; rw [h]
@[simp] theorem thaw_cards (s : State) (f : Bool) : (s.thaw f).cards = s.cards := by obtain ⟨_, _, _, _, h⟩ := thaw_eq s f; rw [h]
@[simp] theorem thaw_board (s : State) (f : Bool) : (s.thaw f).board = s.board := by obtain ⟨_, _, _, _, h⟩ := thaw_eq s f; rw [h]
@[simp] theorem thaw_ports (s : State) (f : Bool) : (s.thaw f).ports = s.ports := by obtain ⟨_, _, _, _, h⟩ := thaw_eq s f; rw [h]
@[simp] theorem thaw_base (s : State) (f : Bool) : (s.thaw f).base = s.base := by obtain ⟨_, _, _, _, h⟩ := thaw_eq s f; rw [h]
@[simp] theorem thaw_captures (s : State) (f : Bool) : (s.thaw f).captures = s.captures := by obtain ⟨_, _, _, _, h⟩ := thaw_eq s f; rw [h]
@[simp] theorem thaw_draws (s : State) (f : Bool) : (s.thaw f).draws = s.draws := by obtain ⟨_, _, _, _, h⟩ := thaw_eq s f; rw [h]
@[simp] theorem thaw_pending (s : State) (f : Bool) : (s.thaw f).pending = s.pending := by obtain ⟨_, _, _, _, h⟩ := thaw_eq s f; rw [h]
@[simp] theorem thaw_host_linkUp (s : State) (f : Bool) : (s.thaw f).host.linkUp = s.host.linkUp := by obtain ⟨_, _, _, _, h⟩ := thaw_eq s f; rw [h]
@[simp] theorem thaw_host_width (s : State) (f : Bool) : (s.thaw f).host.width = s.host.width := by obtain ⟨_, _, _, _, h⟩ := thaw_eq s f; rw [h]
@[simp] theorem thaw_host_speed (s : State) (f : Bool) : (s.thaw f).host.speed = s.host.speed := by obtain ⟨_, _, _, _, h⟩ := thaw_eq s f; rw [h]
@[simp] theorem thaw_host_vfEnable (s : State) (f : Bool) : (s.thaw f).host.vfEnable = s.host.vfEnable := by obtain ⟨_, _, _, _, h⟩ := thaw_eq s f; rw [h]
@[simp] theorem thaw_host_numVfs (s : State) (f : Bool) : (s.thaw f).host.numVfs = s.host.numVfs := by obtain ⟨_, _, _, _, h⟩ := thaw_eq s f; rw [h]
@[simp] theorem thaw_host_released (s : State) (f : Bool) : (s.thaw f).host.released = s.host.released := by obtain ⟨_, _, _, _, h⟩ := thaw_eq s f; rw [h]
@[simp] theorem thaw_host_relaxed (s : State) (f : Bool) : (s.thaw f).host.relaxed = s.host.relaxed := by obtain ⟨_, _, _, _, h⟩ := thaw_eq s f; rw [h]
@[simp] theorem thaw_host_cplTimeout (s : State) (f : Bool) : (s.thaw f).host.cplTimeout = s.host.cplTimeout := by obtain ⟨_, _, _, _, h⟩ := thaw_eq s f; rw [h]
@[simp] theorem thaw_host_qp (s : State) (f : Bool) : (s.thaw f).host.qp = s.host.qp := by obtain ⟨_, _, _, _, h⟩ := thaw_eq s f; rw [h]
@[simp] theorem thaw_host_win (s : State) (f : Bool) : (s.thaw f).host.win = s.host.win := by obtain ⟨_, _, _, _, h⟩ := thaw_eq s f; rw [h]
@[simp] theorem thaw_host_writeRefused (s : State) (f : Bool) : (s.thaw f).host.writeRefused = s.host.writeRefused := by obtain ⟨_, _, _, _, h⟩ := thaw_eq s f; rw [h]
@[simp] theorem thaw_host_lastFn (s : State) (f : Bool) : (s.thaw f).host.lastFn = s.host.lastFn := by obtain ⟨_, _, _, _, h⟩ := thaw_eq s f; rw [h]
@[simp] theorem thaw_host_ttuRefusals (s : State) (f : Bool) : (s.thaw f).host.ttuRefusals = s.host.ttuRefusals := by obtain ⟨_, _, _, _, h⟩ := thaw_eq s f; rw [h]
@[simp] theorem thaw_host_barRefusals (s : State) (f : Bool) : (s.thaw f).host.barRefusals = s.host.barRefusals := by obtain ⟨_, _, _, _, h⟩ := thaw_eq s f; rw [h]
@[simp] theorem thaw_host_flrs (s : State) (f : Bool) : (s.thaw f).host.flrs = s.host.flrs := by obtain ⟨_, _, _, _, h⟩ := thaw_eq s f; rw [h]
@[simp] theorem thaw_host_resets (s : State) (f : Bool) : (s.thaw f).host.resets = s.host.resets := by obtain ⟨_, _, _, _, h⟩ := thaw_eq s f; rw [h]
@[simp] theorem thaw_host_flr (s : State) (f : Bool) : (s.thaw f).host.flr = s.host.flr := by obtain ⟨_, _, _, _, h⟩ := thaw_eq s f; rw [h]
@[simp] theorem thaw_host_oldReads (s : State) (f : Bool) : (s.thaw f).host.oldReads = s.host.oldReads := by obtain ⟨_, _, _, _, h⟩ := thaw_eq s f; rw [h]
@[simp] theorem thaw_host_discards (s : State) (f : Bool) : (s.thaw f).host.discards = s.host.discards := by obtain ⟨_, _, _, _, h⟩ := thaw_eq s f; rw [h]
@[simp] theorem thaw_host_order (s : State) (f : Bool) : (s.thaw f).host.order = s.host.order := by obtain ⟨_, _, _, _, h⟩ := thaw_eq s f; rw [h]

@[simp] theorem logEvent_tick (s : State) (ev : Nat) (sev : Severity) (is_ at_ : Nat) (st : Status) (d : List Nat) : (s.logEvent ev sev is_ at_ st d).tick = s.tick := by obtain ⟨_, _, _, _, _, h⟩ := logEvent_eq s ev sev is_ at_ st d; rw [h]
@[simp] theorem logEvent_mode (s : State) (ev : Nat) (sev : Severity) (is_ at_ : Nat) (st : Status) (d : List Nat) : (s.logEvent ev sev is_ at_ st d).mode = s.mode := by obtain ⟨_, _, _, _, _, h⟩ := logEvent_eq s ev sev is_ at_ st d; rw [h]
@[simp] theorem logEvent_bootStage (s : State) (ev : Nat) (sev : Severity) (is_ at_ : Nat) (st : Status) (d : List Nat) : (s.logEvent ev sev is_ at_ st d).bootStage = s.bootStage := by obtain ⟨_, _, _, _, _, h⟩ := logEvent_eq s ev sev is_ at_ st d; rw [h]
@[simp] theorem logEvent_barrier (s : State) (ev : Nat) (sev : Severity) (is_ at_ : Nat) (st : Status) (d : List Nat) : (s.logEvent ev sev is_ at_ st d).barrier = s.barrier := by obtain ⟨_, _, _, _, _, h⟩ := logEvent_eq s ev sev is_ at_ st d; rw [h]
@[simp] theorem logEvent_barrierQ (s : State) (ev : Nat) (sev : Severity) (is_ at_ : Nat) (st : Status) (d : List Nat) : (s.logEvent ev sev is_ at_ st d).barrierQ = s.barrierQ := by obtain ⟨_, _, _, _, _, h⟩ := logEvent_eq s ev sev is_ at_ st d; rw [h]
@[simp] theorem logEvent_recoveryReq (s : State) (ev : Nat) (sev : Severity) (is_ at_ : Nat) (st : Status) (d : List Nat) : (s.logEvent ev sev is_ at_ st d).recoveryReq = s.recoveryReq := by obtain ⟨_, _, _, _, _, h⟩ := logEvent_eq s ev sev is_ at_ st d; rw [h]
@[simp] theorem logEvent_resetCause (s : State) (ev : Nat) (sev : Severity) (is_ at_ : Nat) (st : Status) (d : List Nat) : (s.logEvent ev sev is_ at_ st d).resetCause = s.resetCause := by obtain ⟨_, _, _, _, _, h⟩ := logEvent_eq s ev sev is_ at_ st d; rw [h]
@[simp] theorem logEvent_mainPower (s : State) (ev : Nat) (sev : Severity) (is_ at_ : Nat) (st : Status) (d : List Nat) : (s.logEvent ev sev is_ at_ st d).mainPower = s.mainPower := by obtain ⟨_, _, _, _, _, h⟩ := logEvent_eq s ev sev is_ at_ st d; rw [h]
@[simp] theorem logEvent_vbat (s : State) (ev : Nat) (sev : Severity) (is_ at_ : Nat) (st : Status) (d : List Nat) : (s.logEvent ev sev is_ at_ st d).vbat = s.vbat := by obtain ⟨_, _, _, _, _, h⟩ := logEvent_eq s ev sev is_ at_ st d; rw [h]
@[simp] theorem logEvent_sysReset (s : State) (ev : Nat) (sev : Severity) (is_ at_ : Nat) (st : Status) (d : List Nat) : (s.logEvent ev sev is_ at_ st d).sysReset = s.sysReset := by obtain ⟨_, _, _, _, _, h⟩ := logEvent_eq s ev sev is_ at_ st d; rw [h]
@[simp] theorem logEvent_resetDue (s : State) (ev : Nat) (sev : Severity) (is_ at_ : Nat) (st : Status) (d : List Nat) : (s.logEvent ev sev is_ at_ st d).resetDue = s.resetDue := by obtain ⟨_, _, _, _, _, h⟩ := logEvent_eq s ev sev is_ at_ st d; rw [h]
@[simp] theorem logEvent_otp (s : State) (ev : Nat) (sev : Severity) (is_ at_ : Nat) (st : Status) (d : List Nat) : (s.logEvent ev sev is_ at_ st d).otp = s.otp := by obtain ⟨_, _, _, _, _, h⟩ := logEvent_eq s ev sev is_ at_ st d; rw [h]
@[simp] theorem logEvent_lcs (s : State) (ev : Nat) (sev : Severity) (is_ at_ : Nat) (st : Status) (d : List Nat) : (s.logEvent ev sev is_ at_ st d).lcs = s.lcs := by obtain ⟨_, _, _, _, _, h⟩ := logEvent_eq s ev sev is_ at_ st d; rw [h]
@[simp] theorem logEvent_vault (s : State) (ev : Nat) (sev : Severity) (is_ at_ : Nat) (st : Status) (d : List Nat) : (s.logEvent ev sev is_ at_ st d).vault = s.vault := by obtain ⟨_, _, _, _, _, h⟩ := logEvent_eq s ev sev is_ at_ st d; rw [h]
@[simp] theorem logEvent_man (s : State) (ev : Nat) (sev : Severity) (is_ at_ : Nat) (st : Status) (d : List Nat) : (s.logEvent ev sev is_ at_ st d).man = s.man := by obtain ⟨_, _, _, _, _, h⟩ := logEvent_eq s ev sev is_ at_ st d; rw [h]
@[simp] theorem logEvent_pwr (s : State) (ev : Nat) (sev : Severity) (is_ at_ : Nat) (st : Status) (d : List Nat) : (s.logEvent ev sev is_ at_ st d).pwr = s.pwr := by obtain ⟨_, _, _, _, _, h⟩ := logEvent_eq s ev sev is_ at_ st d; rw [h]
@[simp] theorem logEvent_tmp (s : State) (ev : Nat) (sev : Severity) (is_ at_ : Nat) (st : Status) (d : List Nat) : (s.logEvent ev sev is_ at_ st d).tmp = s.tmp := by obtain ⟨_, _, _, _, _, h⟩ := logEvent_eq s ev sev is_ at_ st d; rw [h]
@[simp] theorem logEvent_tal (s : State) (ev : Nat) (sev : Severity) (is_ at_ : Nat) (st : Status) (d : List Nat) : (s.logEvent ev sev is_ at_ st d).tal = s.tal := by obtain ⟨_, _, _, _, _, h⟩ := logEvent_eq s ev sev is_ at_ st d; rw [h]
@[simp] theorem logEvent_waiting (s : State) (ev : Nat) (sev : Severity) (is_ at_ : Nat) (st : Status) (d : List Nat) : (s.logEvent ev sev is_ at_ st d).waiting = s.waiting := by obtain ⟨_, _, _, _, _, h⟩ := logEvent_eq s ev sev is_ at_ st d; rw [h]
@[simp] theorem logEvent_running (s : State) (ev : Nat) (sev : Severity) (is_ at_ : Nat) (st : Status) (d : List Nat) : (s.logEvent ev sev is_ at_ st d).running = s.running := by obtain ⟨_, _, _, _, _, h⟩ := logEvent_eq s ev sev is_ at_ st d; rw [h]
@[simp] theorem logEvent_sessions (s : State) (ev : Nat) (sev : Severity) (is_ at_ : Nat) (st : Status) (d : List Nat) : (s.logEvent ev sev is_ at_ st d).sessions = s.sessions := by obtain ⟨_, _, _, _, _, h⟩ := logEvent_eq s ev sev is_ at_ st d; rw [h]
@[simp] theorem logEvent_outcomes (s : State) (ev : Nat) (sev : Severity) (is_ at_ : Nat) (st : Status) (d : List Nat) : (s.logEvent ev sev is_ at_ st d).outcomes = s.outcomes := by obtain ⟨_, _, _, _, _, h⟩ := logEvent_eq s ev sev is_ at_ st d; rw [h]
@[simp] theorem logEvent_floors (s : State) (ev : Nat) (sev : Severity) (is_ at_ : Nat) (st : Status) (d : List Nat) : (s.logEvent ev sev is_ at_ st d).floors = s.floors := by obtain ⟨_, _, _, _, _, h⟩ := logEvent_eq s ev sev is_ at_ st d; rw [h]
@[simp] theorem logEvent_kh1 (s : State) (ev : Nat) (sev : Severity) (is_ at_ : Nat) (st : Status) (d : List Nat) : (s.logEvent ev sev is_ at_ st d).kh1 = s.kh1 := by obtain ⟨_, _, _, _, _, h⟩ := logEvent_eq s ev sev is_ at_ st d; rw [h]
@[simp] theorem logEvent_rosters (s : State) (ev : Nat) (sev : Severity) (is_ at_ : Nat) (st : Status) (d : List Nat) : (s.logEvent ev sev is_ at_ st d).rosters = s.rosters := by obtain ⟨_, _, _, _, _, h⟩ := logEvent_eq s ev sev is_ at_ st d; rw [h]
@[simp] theorem logEvent_quorums (s : State) (ev : Nat) (sev : Severity) (is_ at_ : Nat) (st : Status) (d : List Nat) : (s.logEvent ev sev is_ at_ st d).quorums = s.quorums := by obtain ⟨_, _, _, _, _, h⟩ := logEvent_eq s ev sev is_ at_ st d; rw [h]
@[simp] theorem logEvent_twin (s : State) (ev : Nat) (sev : Severity) (is_ at_ : Nat) (st : Status) (d : List Nat) : (s.logEvent ev sev is_ at_ st d).twin = s.twin := by obtain ⟨_, _, _, _, _, h⟩ := logEvent_eq s ev sev is_ at_ st d; rw [h]
@[simp] theorem logEvent_car (s : State) (ev : Nat) (sev : Severity) (is_ at_ : Nat) (st : Status) (d : List Nat) : (s.logEvent ev sev is_ at_ st d).car = s.car := by obtain ⟨_, _, _, _, _, h⟩ := logEvent_eq s ev sev is_ at_ st d; rw [h]
@[simp] theorem logEvent_receipts (s : State) (ev : Nat) (sev : Severity) (is_ at_ : Nat) (st : Status) (d : List Nat) : (s.logEvent ev sev is_ at_ st d).receipts = s.receipts := by obtain ⟨_, _, _, _, _, h⟩ := logEvent_eq s ev sev is_ at_ st d; rw [h]
@[simp] theorem logEvent_ndl (s : State) (ev : Nat) (sev : Severity) (is_ at_ : Nat) (st : Status) (d : List Nat) : (s.logEvent ev sev is_ at_ st d).ndl = s.ndl := by obtain ⟨_, _, _, _, _, h⟩ := logEvent_eq s ev sev is_ at_ st d; rw [h]
@[simp] theorem logEvent_lanes (s : State) (ev : Nat) (sev : Severity) (is_ at_ : Nat) (st : Status) (d : List Nat) : (s.logEvent ev sev is_ at_ st d).lanes = s.lanes := by obtain ⟨_, _, _, _, _, h⟩ := logEvent_eq s ev sev is_ at_ st d; rw [h]
@[simp] theorem logEvent_late (s : State) (ev : Nat) (sev : Severity) (is_ at_ : Nat) (st : Status) (d : List Nat) : (s.logEvent ev sev is_ at_ st d).late = s.late := by obtain ⟨_, _, _, _, _, h⟩ := logEvent_eq s ev sev is_ at_ st d; rw [h]
@[simp] theorem logEvent_digests (s : State) (ev : Nat) (sev : Severity) (is_ at_ : Nat) (st : Status) (d : List Nat) : (s.logEvent ev sev is_ at_ st d).digests = s.digests := by obtain ⟨_, _, _, _, _, h⟩ := logEvent_eq s ev sev is_ at_ st d; rw [h]
@[simp] theorem logEvent_rng (s : State) (ev : Nat) (sev : Severity) (is_ at_ : Nat) (st : Status) (d : List Nat) : (s.logEvent ev sev is_ at_ st d).rng = s.rng := by obtain ⟨_, _, _, _, _, h⟩ := logEvent_eq s ev sev is_ at_ st d; rw [h]
@[simp] theorem logEvent_cel (s : State) (ev : Nat) (sev : Severity) (is_ at_ : Nat) (st : Status) (d : List Nat) : (s.logEvent ev sev is_ at_ st d).cel = s.cel := by obtain ⟨_, _, _, _, _, h⟩ := logEvent_eq s ev sev is_ at_ st d; rw [h]
@[simp] theorem logEvent_curves (s : State) (ev : Nat) (sev : Severity) (is_ at_ : Nat) (st : Status) (d : List Nat) : (s.logEvent ev sev is_ at_ st d).curves = s.curves := by obtain ⟨_, _, _, _, _, h⟩ := logEvent_eq s ev sev is_ at_ st d; rw [h]
@[simp] theorem logEvent_rounds (s : State) (ev : Nat) (sev : Severity) (is_ at_ : Nat) (st : Status) (d : List Nat) : (s.logEvent ev sev is_ at_ st d).rounds = s.rounds := by obtain ⟨_, _, _, _, _, h⟩ := logEvent_eq s ev sev is_ at_ st d; rw [h]
@[simp] theorem logEvent_corrected (s : State) (ev : Nat) (sev : Severity) (is_ at_ : Nat) (st : Status) (d : List Nat) : (s.logEvent ev sev is_ at_ st d).corrected = s.corrected := by obtain ⟨_, _, _, _, _, h⟩ := logEvent_eq s ev sev is_ at_ st d; rw [h]
@[simp] theorem logEvent_poison (s : State) (ev : Nat) (sev : Severity) (is_ at_ : Nat) (st : Status) (d : List Nat) : (s.logEvent ev sev is_ at_ st d).poison = s.poison := by obtain ⟨_, _, _, _, _, h⟩ := logEvent_eq s ev sev is_ at_ st d; rw [h]
@[simp] theorem logEvent_smc (s : State) (ev : Nat) (sev : Severity) (is_ at_ : Nat) (st : Status) (d : List Nat) : (s.logEvent ev sev is_ at_ st d).smc = s.smc := by obtain ⟨_, _, _, _, _, h⟩ := logEvent_eq s ev sev is_ at_ st d; rw [h]
@[simp] theorem logEvent_rsw (s : State) (ev : Nat) (sev : Severity) (is_ at_ : Nat) (st : Status) (d : List Nat) : (s.logEvent ev sev is_ at_ st d).rsw = s.rsw := by obtain ⟨_, _, _, _, _, h⟩ := logEvent_eq s ev sev is_ at_ st d; rw [h]
@[simp] theorem logEvent_iso (s : State) (ev : Nat) (sev : Severity) (is_ at_ : Nat) (st : Status) (d : List Nat) : (s.logEvent ev sev is_ at_ st d).iso = s.iso := by obtain ⟨_, _, _, _, _, h⟩ := logEvent_eq s ev sev is_ at_ st d; rw [h]
@[simp] theorem logEvent_mem (s : State) (ev : Nat) (sev : Severity) (is_ at_ : Nat) (st : Status) (d : List Nat) : (s.logEvent ev sev is_ at_ st d).mem = s.mem := by obtain ⟨_, _, _, _, _, h⟩ := logEvent_eq s ev sev is_ at_ st d; rw [h]
@[simp] theorem logEvent_cards (s : State) (ev : Nat) (sev : Severity) (is_ at_ : Nat) (st : Status) (d : List Nat) : (s.logEvent ev sev is_ at_ st d).cards = s.cards := by obtain ⟨_, _, _, _, _, h⟩ := logEvent_eq s ev sev is_ at_ st d; rw [h]
@[simp] theorem logEvent_board (s : State) (ev : Nat) (sev : Severity) (is_ at_ : Nat) (st : Status) (d : List Nat) : (s.logEvent ev sev is_ at_ st d).board = s.board := by obtain ⟨_, _, _, _, _, h⟩ := logEvent_eq s ev sev is_ at_ st d; rw [h]
@[simp] theorem logEvent_ports (s : State) (ev : Nat) (sev : Severity) (is_ at_ : Nat) (st : Status) (d : List Nat) : (s.logEvent ev sev is_ at_ st d).ports = s.ports := by obtain ⟨_, _, _, _, _, h⟩ := logEvent_eq s ev sev is_ at_ st d; rw [h]
@[simp] theorem logEvent_base (s : State) (ev : Nat) (sev : Severity) (is_ at_ : Nat) (st : Status) (d : List Nat) : (s.logEvent ev sev is_ at_ st d).base = s.base := by obtain ⟨_, _, _, _, _, h⟩ := logEvent_eq s ev sev is_ at_ st d; rw [h]
@[simp] theorem logEvent_captures (s : State) (ev : Nat) (sev : Severity) (is_ at_ : Nat) (st : Status) (d : List Nat) : (s.logEvent ev sev is_ at_ st d).captures = s.captures := by obtain ⟨_, _, _, _, _, h⟩ := logEvent_eq s ev sev is_ at_ st d; rw [h]
@[simp] theorem logEvent_draws (s : State) (ev : Nat) (sev : Severity) (is_ at_ : Nat) (st : Status) (d : List Nat) : (s.logEvent ev sev is_ at_ st d).draws = s.draws := by obtain ⟨_, _, _, _, _, h⟩ := logEvent_eq s ev sev is_ at_ st d; rw [h]
@[simp] theorem logEvent_pending (s : State) (ev : Nat) (sev : Severity) (is_ at_ : Nat) (st : Status) (d : List Nat) : (s.logEvent ev sev is_ at_ st d).pending = s.pending := by obtain ⟨_, _, _, _, _, h⟩ := logEvent_eq s ev sev is_ at_ st d; rw [h]
@[simp] theorem logEvent_host_linkUp (s : State) (ev : Nat) (sev : Severity) (is_ at_ : Nat) (st : Status) (d : List Nat) : (s.logEvent ev sev is_ at_ st d).host.linkUp = s.host.linkUp := by obtain ⟨_, _, _, _, _, h⟩ := logEvent_eq s ev sev is_ at_ st d; rw [h]
@[simp] theorem logEvent_host_width (s : State) (ev : Nat) (sev : Severity) (is_ at_ : Nat) (st : Status) (d : List Nat) : (s.logEvent ev sev is_ at_ st d).host.width = s.host.width := by obtain ⟨_, _, _, _, _, h⟩ := logEvent_eq s ev sev is_ at_ st d; rw [h]
@[simp] theorem logEvent_host_speed (s : State) (ev : Nat) (sev : Severity) (is_ at_ : Nat) (st : Status) (d : List Nat) : (s.logEvent ev sev is_ at_ st d).host.speed = s.host.speed := by obtain ⟨_, _, _, _, _, h⟩ := logEvent_eq s ev sev is_ at_ st d; rw [h]
@[simp] theorem logEvent_host_vfEnable (s : State) (ev : Nat) (sev : Severity) (is_ at_ : Nat) (st : Status) (d : List Nat) : (s.logEvent ev sev is_ at_ st d).host.vfEnable = s.host.vfEnable := by obtain ⟨_, _, _, _, _, h⟩ := logEvent_eq s ev sev is_ at_ st d; rw [h]
@[simp] theorem logEvent_host_numVfs (s : State) (ev : Nat) (sev : Severity) (is_ at_ : Nat) (st : Status) (d : List Nat) : (s.logEvent ev sev is_ at_ st d).host.numVfs = s.host.numVfs := by obtain ⟨_, _, _, _, _, h⟩ := logEvent_eq s ev sev is_ at_ st d; rw [h]
@[simp] theorem logEvent_host_released (s : State) (ev : Nat) (sev : Severity) (is_ at_ : Nat) (st : Status) (d : List Nat) : (s.logEvent ev sev is_ at_ st d).host.released = s.host.released := by obtain ⟨_, _, _, _, _, h⟩ := logEvent_eq s ev sev is_ at_ st d; rw [h]
@[simp] theorem logEvent_host_relaxed (s : State) (ev : Nat) (sev : Severity) (is_ at_ : Nat) (st : Status) (d : List Nat) : (s.logEvent ev sev is_ at_ st d).host.relaxed = s.host.relaxed := by obtain ⟨_, _, _, _, _, h⟩ := logEvent_eq s ev sev is_ at_ st d; rw [h]
@[simp] theorem logEvent_host_cplTimeout (s : State) (ev : Nat) (sev : Severity) (is_ at_ : Nat) (st : Status) (d : List Nat) : (s.logEvent ev sev is_ at_ st d).host.cplTimeout = s.host.cplTimeout := by obtain ⟨_, _, _, _, _, h⟩ := logEvent_eq s ev sev is_ at_ st d; rw [h]
@[simp] theorem logEvent_host_qp (s : State) (ev : Nat) (sev : Severity) (is_ at_ : Nat) (st : Status) (d : List Nat) : (s.logEvent ev sev is_ at_ st d).host.qp = s.host.qp := by obtain ⟨_, _, _, _, _, h⟩ := logEvent_eq s ev sev is_ at_ st d; rw [h]
@[simp] theorem logEvent_host_win (s : State) (ev : Nat) (sev : Severity) (is_ at_ : Nat) (st : Status) (d : List Nat) : (s.logEvent ev sev is_ at_ st d).host.win = s.host.win := by obtain ⟨_, _, _, _, _, h⟩ := logEvent_eq s ev sev is_ at_ st d; rw [h]
@[simp] theorem logEvent_host_writeRefused (s : State) (ev : Nat) (sev : Severity) (is_ at_ : Nat) (st : Status) (d : List Nat) : (s.logEvent ev sev is_ at_ st d).host.writeRefused = s.host.writeRefused := by obtain ⟨_, _, _, _, _, h⟩ := logEvent_eq s ev sev is_ at_ st d; rw [h]
@[simp] theorem logEvent_host_lastFn (s : State) (ev : Nat) (sev : Severity) (is_ at_ : Nat) (st : Status) (d : List Nat) : (s.logEvent ev sev is_ at_ st d).host.lastFn = s.host.lastFn := by obtain ⟨_, _, _, _, _, h⟩ := logEvent_eq s ev sev is_ at_ st d; rw [h]
@[simp] theorem logEvent_host_ttuRefusals (s : State) (ev : Nat) (sev : Severity) (is_ at_ : Nat) (st : Status) (d : List Nat) : (s.logEvent ev sev is_ at_ st d).host.ttuRefusals = s.host.ttuRefusals := by obtain ⟨_, _, _, _, _, h⟩ := logEvent_eq s ev sev is_ at_ st d; rw [h]
@[simp] theorem logEvent_host_barRefusals (s : State) (ev : Nat) (sev : Severity) (is_ at_ : Nat) (st : Status) (d : List Nat) : (s.logEvent ev sev is_ at_ st d).host.barRefusals = s.host.barRefusals := by obtain ⟨_, _, _, _, _, h⟩ := logEvent_eq s ev sev is_ at_ st d; rw [h]
@[simp] theorem logEvent_host_flrs (s : State) (ev : Nat) (sev : Severity) (is_ at_ : Nat) (st : Status) (d : List Nat) : (s.logEvent ev sev is_ at_ st d).host.flrs = s.host.flrs := by obtain ⟨_, _, _, _, _, h⟩ := logEvent_eq s ev sev is_ at_ st d; rw [h]
@[simp] theorem logEvent_host_resets (s : State) (ev : Nat) (sev : Severity) (is_ at_ : Nat) (st : Status) (d : List Nat) : (s.logEvent ev sev is_ at_ st d).host.resets = s.host.resets := by obtain ⟨_, _, _, _, _, h⟩ := logEvent_eq s ev sev is_ at_ st d; rw [h]
@[simp] theorem logEvent_host_flr (s : State) (ev : Nat) (sev : Severity) (is_ at_ : Nat) (st : Status) (d : List Nat) : (s.logEvent ev sev is_ at_ st d).host.flr = s.host.flr := by obtain ⟨_, _, _, _, _, h⟩ := logEvent_eq s ev sev is_ at_ st d; rw [h]
@[simp] theorem logEvent_host_oldReads (s : State) (ev : Nat) (sev : Severity) (is_ at_ : Nat) (st : Status) (d : List Nat) : (s.logEvent ev sev is_ at_ st d).host.oldReads = s.host.oldReads := by obtain ⟨_, _, _, _, _, h⟩ := logEvent_eq s ev sev is_ at_ st d; rw [h]
@[simp] theorem logEvent_host_discards (s : State) (ev : Nat) (sev : Severity) (is_ at_ : Nat) (st : Status) (d : List Nat) : (s.logEvent ev sev is_ at_ st d).host.discards = s.host.discards := by obtain ⟨_, _, _, _, _, h⟩ := logEvent_eq s ev sev is_ at_ st d; rw [h]
@[simp] theorem logEvent_host_order (s : State) (ev : Nat) (sev : Severity) (is_ at_ : Nat) (st : Status) (d : List Nat) : (s.logEvent ev sev is_ at_ st d).host.order = s.host.order := by obtain ⟨_, _, _, _, _, h⟩ := logEvent_eq s ev sev is_ at_ st d; rw [h]

@[simp] theorem logEvent_rpl_capturing (s : State) (ev : Nat) (sev : Severity) (is_ at_ : Nat) (st : Status) (d : List Nat) : (s.logEvent ev sev is_ at_ st d).rpl.capturing = s.rpl.capturing := by obtain ⟨_, _, _, _, _, h⟩ := logEvent_eq s ev sev is_ at_ st d; rw [h]
@[simp] theorem logEvent_rpl_captured (s : State) (ev : Nat) (sev : Severity) (is_ at_ : Nat) (st : Status) (d : List Nat) : (s.logEvent ev sev is_ at_ st d).rpl.captured = s.rpl.captured := by obtain ⟨_, _, _, _, _, h⟩ := logEvent_eq s ev sev is_ at_ st d; rw [h]
@[simp] theorem logEvent_rpl_full (s : State) (ev : Nat) (sev : Severity) (is_ at_ : Nat) (st : Status) (d : List Nat) : (s.logEvent ev sev is_ at_ st d).rpl.full = s.rpl.full := by obtain ⟨_, _, _, _, _, h⟩ := logEvent_eq s ev sev is_ at_ st d; rw [h]
@[simp] theorem logEvent_rpl_halted (s : State) (ev : Nat) (sev : Severity) (is_ at_ : Nat) (st : Status) (d : List Nat) : (s.logEvent ev sev is_ at_ st d).rpl.halted = s.rpl.halted := by obtain ⟨_, _, _, _, _, h⟩ := logEvent_eq s ev sev is_ at_ st d; rw [h]
@[simp] theorem logEvent_rpl_records (s : State) (ev : Nat) (sev : Severity) (is_ at_ : Nat) (st : Status) (d : List Nat) : (s.logEvent ev sev is_ at_ st d).rpl.records = s.rpl.records := by obtain ⟨_, _, _, _, _, h⟩ := logEvent_eq s ev sev is_ at_ st d; rw [h]
@[simp] theorem logEvent_rpl_bytes (s : State) (ev : Nat) (sev : Severity) (is_ at_ : Nat) (st : Status) (d : List Nat) : (s.logEvent ev sev is_ at_ st d).rpl.bytes = s.rpl.bytes := by obtain ⟨_, _, _, _, _, h⟩ := logEvent_eq s ev sev is_ at_ st d; rw [h]
@[simp] theorem logEvent_rpl_spilled (s : State) (ev : Nat) (sev : Severity) (is_ at_ : Nat) (st : Status) (d : List Nat) : (s.logEvent ev sev is_ at_ st d).rpl.spilled = s.rpl.spilled := by obtain ⟨_, _, _, _, _, h⟩ := logEvent_eq s ev sev is_ at_ st d; rw [h]
@[simp] theorem logEvent_rpl_spillLimit (s : State) (ev : Nat) (sev : Severity) (is_ at_ : Nat) (st : Status) (d : List Nat) : (s.logEvent ev sev is_ at_ st d).rpl.spillLimit = s.rpl.spillLimit := by obtain ⟨_, _, _, _, _, h⟩ := logEvent_eq s ev sev is_ at_ st d; rw [h]
@[simp] theorem logEvent_rpl_position (s : State) (ev : Nat) (sev : Severity) (is_ at_ : Nat) (st : Status) (d : List Nat) : (s.logEvent ev sev is_ at_ st d).rpl.position = s.rpl.position := by obtain ⟨_, _, _, _, _, h⟩ := logEvent_eq s ev sev is_ at_ st d; rw [h]
@[simp] theorem logEvent_rpl_diverge (s : State) (ev : Nat) (sev : Severity) (is_ at_ : Nat) (st : Status) (d : List Nat) : (s.logEvent ev sev is_ at_ st d).rpl.diverge = s.rpl.diverge := by obtain ⟨_, _, _, _, _, h⟩ := logEvent_eq s ev sev is_ at_ st d; rw [h]
@[simp] theorem logEvent_rpl_divergences (s : State) (ev : Nat) (sev : Severity) (is_ at_ : Nat) (st : Status) (d : List Nat) : (s.logEvent ev sev is_ at_ st d).rpl.divergences = s.rpl.divergences := by obtain ⟨_, _, _, _, _, h⟩ := logEvent_eq s ev sev is_ at_ st d; rw [h]
@[simp] theorem logEvent_rpl_brk (s : State) (ev : Nat) (sev : Severity) (is_ at_ : Nat) (st : Status) (d : List Nat) : (s.logEvent ev sev is_ at_ st d).rpl.brk = s.rpl.brk := by obtain ⟨_, _, _, _, _, h⟩ := logEvent_eq s ev sev is_ at_ st d; rw [h]
@[simp] theorem logEvent_rpl_last (s : State) (ev : Nat) (sev : Severity) (is_ at_ : Nat) (st : Status) (d : List Nat) : (s.logEvent ev sev is_ at_ st d).rpl.last = s.rpl.last := by obtain ⟨_, _, _, _, _, h⟩ := logEvent_eq s ev sev is_ at_ st d; rw [h]
@[simp] theorem logEvent_rpl_items (s : State) (ev : Nat) (sev : Severity) (is_ at_ : Nat) (st : Status) (d : List Nat) : (s.logEvent ev sev is_ at_ st d).rpl.items = s.rpl.items := by obtain ⟨_, _, _, _, _, h⟩ := logEvent_eq s ev sev is_ at_ st d; rw [h]
@[simp] theorem logEvent_rpl_index (s : State) (ev : Nat) (sev : Severity) (is_ at_ : Nat) (st : Status) (d : List Nat) : (s.logEvent ev sev is_ at_ st d).rpl.index = s.rpl.index := by obtain ⟨_, _, _, _, _, h⟩ := logEvent_eq s ev sev is_ at_ st d; rw [h]
@[simp] theorem logEvent_rpl_inRecord (s : State) (ev : Nat) (sev : Severity) (is_ at_ : Nat) (st : Status) (d : List Nat) : (s.logEvent ev sev is_ at_ st d).rpl.inRecord = s.rpl.inRecord := by obtain ⟨_, _, _, _, _, h⟩ := logEvent_eq s ev sev is_ at_ st d; rw [h]
@[simp] theorem logEvent_rpl_vault (s : State) (ev : Nat) (sev : Severity) (is_ at_ : Nat) (st : Status) (d : List Nat) : (s.logEvent ev sev is_ at_ st d).rpl.vault = s.rpl.vault := by obtain ⟨_, _, _, _, _, h⟩ := logEvent_eq s ev sev is_ at_ st d; rw [h]
@[simp] theorem logEvent_rpl_broke (s : State) (ev : Nat) (sev : Severity) (is_ at_ : Nat) (st : Status) (d : List Nat) : (s.logEvent ev sev is_ at_ st d).rpl.broke = s.rpl.broke := by obtain ⟨_, _, _, _, _, h⟩ := logEvent_eq s ev sev is_ at_ st d; rw [h]

/-! Queue pairs and ports -/

@[simp] theorem setQp_tick (s : State) (fn q : Nat) (p : QPair) : (s.setQp fn q p).tick = s.tick := rfl
@[simp] theorem setQp_mode (s : State) (fn q : Nat) (p : QPair) : (s.setQp fn q p).mode = s.mode := rfl
@[simp] theorem setQp_bootStage (s : State) (fn q : Nat) (p : QPair) : (s.setQp fn q p).bootStage = s.bootStage := rfl
@[simp] theorem setQp_barrier (s : State) (fn q : Nat) (p : QPair) : (s.setQp fn q p).barrier = s.barrier := rfl
@[simp] theorem setQp_barrierQ (s : State) (fn q : Nat) (p : QPair) : (s.setQp fn q p).barrierQ = s.barrierQ := rfl
@[simp] theorem setQp_recoveryReq (s : State) (fn q : Nat) (p : QPair) : (s.setQp fn q p).recoveryReq = s.recoveryReq := rfl
@[simp] theorem setQp_resetCause (s : State) (fn q : Nat) (p : QPair) : (s.setQp fn q p).resetCause = s.resetCause := rfl
@[simp] theorem setQp_mainPower (s : State) (fn q : Nat) (p : QPair) : (s.setQp fn q p).mainPower = s.mainPower := rfl
@[simp] theorem setQp_vbat (s : State) (fn q : Nat) (p : QPair) : (s.setQp fn q p).vbat = s.vbat := rfl
@[simp] theorem setQp_sysReset (s : State) (fn q : Nat) (p : QPair) : (s.setQp fn q p).sysReset = s.sysReset := rfl
@[simp] theorem setQp_resetDue (s : State) (fn q : Nat) (p : QPair) : (s.setQp fn q p).resetDue = s.resetDue := rfl
@[simp] theorem setQp_otp (s : State) (fn q : Nat) (p : QPair) : (s.setQp fn q p).otp = s.otp := rfl
@[simp] theorem setQp_lcs (s : State) (fn q : Nat) (p : QPair) : (s.setQp fn q p).lcs = s.lcs := rfl
@[simp] theorem setQp_vault (s : State) (fn q : Nat) (p : QPair) : (s.setQp fn q p).vault = s.vault := rfl
@[simp] theorem setQp_man (s : State) (fn q : Nat) (p : QPair) : (s.setQp fn q p).man = s.man := rfl
@[simp] theorem setQp_log (s : State) (fn q : Nat) (p : QPair) : (s.setQp fn q p).log = s.log := rfl
@[simp] theorem setQp_irq (s : State) (fn q : Nat) (p : QPair) : (s.setQp fn q p).irq = s.irq := rfl
@[simp] theorem setQp_pwr (s : State) (fn q : Nat) (p : QPair) : (s.setQp fn q p).pwr = s.pwr := rfl
@[simp] theorem setQp_tmp (s : State) (fn q : Nat) (p : QPair) : (s.setQp fn q p).tmp = s.tmp := rfl
@[simp] theorem setQp_tal (s : State) (fn q : Nat) (p : QPair) : (s.setQp fn q p).tal = s.tal := rfl
@[simp] theorem setQp_waiting (s : State) (fn q : Nat) (p : QPair) : (s.setQp fn q p).waiting = s.waiting := rfl
@[simp] theorem setQp_running (s : State) (fn q : Nat) (p : QPair) : (s.setQp fn q p).running = s.running := rfl
@[simp] theorem setQp_sessions (s : State) (fn q : Nat) (p : QPair) : (s.setQp fn q p).sessions = s.sessions := rfl
@[simp] theorem setQp_outcomes (s : State) (fn q : Nat) (p : QPair) : (s.setQp fn q p).outcomes = s.outcomes := rfl
@[simp] theorem setQp_floors (s : State) (fn q : Nat) (p : QPair) : (s.setQp fn q p).floors = s.floors := rfl
@[simp] theorem setQp_kh1 (s : State) (fn q : Nat) (p : QPair) : (s.setQp fn q p).kh1 = s.kh1 := rfl
@[simp] theorem setQp_rpl (s : State) (fn q : Nat) (p : QPair) : (s.setQp fn q p).rpl = s.rpl := rfl
@[simp] theorem setQp_rosters (s : State) (fn q : Nat) (p : QPair) : (s.setQp fn q p).rosters = s.rosters := rfl
@[simp] theorem setQp_quorums (s : State) (fn q : Nat) (p : QPair) : (s.setQp fn q p).quorums = s.quorums := rfl
@[simp] theorem setQp_twin (s : State) (fn q : Nat) (p : QPair) : (s.setQp fn q p).twin = s.twin := rfl
@[simp] theorem setQp_car (s : State) (fn q : Nat) (p : QPair) : (s.setQp fn q p).car = s.car := rfl
@[simp] theorem setQp_receipts (s : State) (fn q : Nat) (p : QPair) : (s.setQp fn q p).receipts = s.receipts := rfl
@[simp] theorem setQp_ndl (s : State) (fn q : Nat) (p : QPair) : (s.setQp fn q p).ndl = s.ndl := rfl
@[simp] theorem setQp_lanes (s : State) (fn q : Nat) (p : QPair) : (s.setQp fn q p).lanes = s.lanes := rfl
@[simp] theorem setQp_late (s : State) (fn q : Nat) (p : QPair) : (s.setQp fn q p).late = s.late := rfl
@[simp] theorem setQp_digests (s : State) (fn q : Nat) (p : QPair) : (s.setQp fn q p).digests = s.digests := rfl
@[simp] theorem setQp_rng (s : State) (fn q : Nat) (p : QPair) : (s.setQp fn q p).rng = s.rng := rfl
@[simp] theorem setQp_cel (s : State) (fn q : Nat) (p : QPair) : (s.setQp fn q p).cel = s.cel := rfl
@[simp] theorem setQp_curves (s : State) (fn q : Nat) (p : QPair) : (s.setQp fn q p).curves = s.curves := rfl
@[simp] theorem setQp_rounds (s : State) (fn q : Nat) (p : QPair) : (s.setQp fn q p).rounds = s.rounds := rfl
@[simp] theorem setQp_corrected (s : State) (fn q : Nat) (p : QPair) : (s.setQp fn q p).corrected = s.corrected := rfl
@[simp] theorem setQp_poison (s : State) (fn q : Nat) (p : QPair) : (s.setQp fn q p).poison = s.poison := rfl
@[simp] theorem setQp_smc (s : State) (fn q : Nat) (p : QPair) : (s.setQp fn q p).smc = s.smc := rfl
@[simp] theorem setQp_rsw (s : State) (fn q : Nat) (p : QPair) : (s.setQp fn q p).rsw = s.rsw := rfl
@[simp] theorem setQp_iso (s : State) (fn q : Nat) (p : QPair) : (s.setQp fn q p).iso = s.iso := rfl
@[simp] theorem setQp_mem (s : State) (fn q : Nat) (p : QPair) : (s.setQp fn q p).mem = s.mem := rfl
@[simp] theorem setQp_cards (s : State) (fn q : Nat) (p : QPair) : (s.setQp fn q p).cards = s.cards := rfl
@[simp] theorem setQp_board (s : State) (fn q : Nat) (p : QPair) : (s.setQp fn q p).board = s.board := rfl
@[simp] theorem setQp_ports (s : State) (fn q : Nat) (p : QPair) : (s.setQp fn q p).ports = s.ports := rfl
@[simp] theorem setQp_base (s : State) (fn q : Nat) (p : QPair) : (s.setQp fn q p).base = s.base := rfl
@[simp] theorem setQp_captures (s : State) (fn q : Nat) (p : QPair) : (s.setQp fn q p).captures = s.captures := rfl
@[simp] theorem setQp_sent (s : State) (fn q : Nat) (p : QPair) : (s.setQp fn q p).sent = s.sent := rfl
@[simp] theorem setQp_draws (s : State) (fn q : Nat) (p : QPair) : (s.setQp fn q p).draws = s.draws := rfl
@[simp] theorem setQp_pending (s : State) (fn q : Nat) (p : QPair) : (s.setQp fn q p).pending = s.pending := rfl
@[simp] theorem setQp_host_linkUp (s : State) (fn q : Nat) (p : QPair) : (s.setQp fn q p).host.linkUp = s.host.linkUp := rfl
@[simp] theorem setQp_host_width (s : State) (fn q : Nat) (p : QPair) : (s.setQp fn q p).host.width = s.host.width := rfl
@[simp] theorem setQp_host_speed (s : State) (fn q : Nat) (p : QPair) : (s.setQp fn q p).host.speed = s.host.speed := rfl
@[simp] theorem setQp_host_vfEnable (s : State) (fn q : Nat) (p : QPair) : (s.setQp fn q p).host.vfEnable = s.host.vfEnable := rfl
@[simp] theorem setQp_host_numVfs (s : State) (fn q : Nat) (p : QPair) : (s.setQp fn q p).host.numVfs = s.host.numVfs := rfl
@[simp] theorem setQp_host_released (s : State) (fn q : Nat) (p : QPair) : (s.setQp fn q p).host.released = s.host.released := rfl
@[simp] theorem setQp_host_relaxed (s : State) (fn q : Nat) (p : QPair) : (s.setQp fn q p).host.relaxed = s.host.relaxed := rfl
@[simp] theorem setQp_host_cplTimeout (s : State) (fn q : Nat) (p : QPair) : (s.setQp fn q p).host.cplTimeout = s.host.cplTimeout := rfl
@[simp] theorem setQp_host_win (s : State) (fn q : Nat) (p : QPair) : (s.setQp fn q p).host.win = s.host.win := rfl
@[simp] theorem setQp_host_writeRefused (s : State) (fn q : Nat) (p : QPair) : (s.setQp fn q p).host.writeRefused = s.host.writeRefused := rfl
@[simp] theorem setQp_host_lastFn (s : State) (fn q : Nat) (p : QPair) : (s.setQp fn q p).host.lastFn = s.host.lastFn := rfl
@[simp] theorem setQp_host_ttuRefusals (s : State) (fn q : Nat) (p : QPair) : (s.setQp fn q p).host.ttuRefusals = s.host.ttuRefusals := rfl
@[simp] theorem setQp_host_vectors (s : State) (fn q : Nat) (p : QPair) : (s.setQp fn q p).host.vectors = s.host.vectors := rfl
@[simp] theorem setQp_host_barRefusals (s : State) (fn q : Nat) (p : QPair) : (s.setQp fn q p).host.barRefusals = s.host.barRefusals := rfl
@[simp] theorem setQp_host_flrs (s : State) (fn q : Nat) (p : QPair) : (s.setQp fn q p).host.flrs = s.host.flrs := rfl
@[simp] theorem setQp_host_resets (s : State) (fn q : Nat) (p : QPair) : (s.setQp fn q p).host.resets = s.host.resets := rfl
@[simp] theorem setQp_host_flr (s : State) (fn q : Nat) (p : QPair) : (s.setQp fn q p).host.flr = s.host.flr := rfl
@[simp] theorem setQp_host_oldReads (s : State) (fn q : Nat) (p : QPair) : (s.setQp fn q p).host.oldReads = s.host.oldReads := rfl
@[simp] theorem setQp_host_discards (s : State) (fn q : Nat) (p : QPair) : (s.setQp fn q p).host.discards = s.host.discards := rfl
@[simp] theorem setQp_host_order (s : State) (fn q : Nat) (p : QPair) : (s.setQp fn q p).host.order = s.host.order := rfl
@[simp] theorem setPort_tick (s : State) (n : Nat) (p : Port) : (s.setPort n p).tick = s.tick := rfl
@[simp] theorem setPort_mode (s : State) (n : Nat) (p : Port) : (s.setPort n p).mode = s.mode := rfl
@[simp] theorem setPort_bootStage (s : State) (n : Nat) (p : Port) : (s.setPort n p).bootStage = s.bootStage := rfl
@[simp] theorem setPort_barrier (s : State) (n : Nat) (p : Port) : (s.setPort n p).barrier = s.barrier := rfl
@[simp] theorem setPort_barrierQ (s : State) (n : Nat) (p : Port) : (s.setPort n p).barrierQ = s.barrierQ := rfl
@[simp] theorem setPort_recoveryReq (s : State) (n : Nat) (p : Port) : (s.setPort n p).recoveryReq = s.recoveryReq := rfl
@[simp] theorem setPort_resetCause (s : State) (n : Nat) (p : Port) : (s.setPort n p).resetCause = s.resetCause := rfl
@[simp] theorem setPort_mainPower (s : State) (n : Nat) (p : Port) : (s.setPort n p).mainPower = s.mainPower := rfl
@[simp] theorem setPort_vbat (s : State) (n : Nat) (p : Port) : (s.setPort n p).vbat = s.vbat := rfl
@[simp] theorem setPort_sysReset (s : State) (n : Nat) (p : Port) : (s.setPort n p).sysReset = s.sysReset := rfl
@[simp] theorem setPort_resetDue (s : State) (n : Nat) (p : Port) : (s.setPort n p).resetDue = s.resetDue := rfl
@[simp] theorem setPort_otp (s : State) (n : Nat) (p : Port) : (s.setPort n p).otp = s.otp := rfl
@[simp] theorem setPort_lcs (s : State) (n : Nat) (p : Port) : (s.setPort n p).lcs = s.lcs := rfl
@[simp] theorem setPort_vault (s : State) (n : Nat) (p : Port) : (s.setPort n p).vault = s.vault := rfl
@[simp] theorem setPort_man (s : State) (n : Nat) (p : Port) : (s.setPort n p).man = s.man := rfl
@[simp] theorem setPort_log (s : State) (n : Nat) (p : Port) : (s.setPort n p).log = s.log := rfl
@[simp] theorem setPort_irq (s : State) (n : Nat) (p : Port) : (s.setPort n p).irq = s.irq := rfl
@[simp] theorem setPort_pwr (s : State) (n : Nat) (p : Port) : (s.setPort n p).pwr = s.pwr := rfl
@[simp] theorem setPort_tmp (s : State) (n : Nat) (p : Port) : (s.setPort n p).tmp = s.tmp := rfl
@[simp] theorem setPort_tal (s : State) (n : Nat) (p : Port) : (s.setPort n p).tal = s.tal := rfl
@[simp] theorem setPort_host (s : State) (n : Nat) (p : Port) : (s.setPort n p).host = s.host := rfl
@[simp] theorem setPort_waiting (s : State) (n : Nat) (p : Port) : (s.setPort n p).waiting = s.waiting := rfl
@[simp] theorem setPort_running (s : State) (n : Nat) (p : Port) : (s.setPort n p).running = s.running := rfl
@[simp] theorem setPort_sessions (s : State) (n : Nat) (p : Port) : (s.setPort n p).sessions = s.sessions := rfl
@[simp] theorem setPort_outcomes (s : State) (n : Nat) (p : Port) : (s.setPort n p).outcomes = s.outcomes := rfl
@[simp] theorem setPort_floors (s : State) (n : Nat) (p : Port) : (s.setPort n p).floors = s.floors := rfl
@[simp] theorem setPort_kh1 (s : State) (n : Nat) (p : Port) : (s.setPort n p).kh1 = s.kh1 := rfl
@[simp] theorem setPort_rpl (s : State) (n : Nat) (p : Port) : (s.setPort n p).rpl = s.rpl := rfl
@[simp] theorem setPort_rosters (s : State) (n : Nat) (p : Port) : (s.setPort n p).rosters = s.rosters := rfl
@[simp] theorem setPort_quorums (s : State) (n : Nat) (p : Port) : (s.setPort n p).quorums = s.quorums := rfl
@[simp] theorem setPort_twin (s : State) (n : Nat) (p : Port) : (s.setPort n p).twin = s.twin := rfl
@[simp] theorem setPort_car (s : State) (n : Nat) (p : Port) : (s.setPort n p).car = s.car := rfl
@[simp] theorem setPort_receipts (s : State) (n : Nat) (p : Port) : (s.setPort n p).receipts = s.receipts := rfl
@[simp] theorem setPort_lanes (s : State) (n : Nat) (p : Port) : (s.setPort n p).lanes = s.lanes := rfl
@[simp] theorem setPort_late (s : State) (n : Nat) (p : Port) : (s.setPort n p).late = s.late := rfl
@[simp] theorem setPort_digests (s : State) (n : Nat) (p : Port) : (s.setPort n p).digests = s.digests := rfl
@[simp] theorem setPort_rng (s : State) (n : Nat) (p : Port) : (s.setPort n p).rng = s.rng := rfl
@[simp] theorem setPort_cel (s : State) (n : Nat) (p : Port) : (s.setPort n p).cel = s.cel := rfl
@[simp] theorem setPort_curves (s : State) (n : Nat) (p : Port) : (s.setPort n p).curves = s.curves := rfl
@[simp] theorem setPort_rounds (s : State) (n : Nat) (p : Port) : (s.setPort n p).rounds = s.rounds := rfl
@[simp] theorem setPort_corrected (s : State) (n : Nat) (p : Port) : (s.setPort n p).corrected = s.corrected := rfl
@[simp] theorem setPort_poison (s : State) (n : Nat) (p : Port) : (s.setPort n p).poison = s.poison := rfl
@[simp] theorem setPort_smc (s : State) (n : Nat) (p : Port) : (s.setPort n p).smc = s.smc := rfl
@[simp] theorem setPort_rsw (s : State) (n : Nat) (p : Port) : (s.setPort n p).rsw = s.rsw := rfl
@[simp] theorem setPort_iso (s : State) (n : Nat) (p : Port) : (s.setPort n p).iso = s.iso := rfl
@[simp] theorem setPort_mem (s : State) (n : Nat) (p : Port) : (s.setPort n p).mem = s.mem := rfl
@[simp] theorem setPort_cards (s : State) (n : Nat) (p : Port) : (s.setPort n p).cards = s.cards := rfl
@[simp] theorem setPort_board (s : State) (n : Nat) (p : Port) : (s.setPort n p).board = s.board := rfl
@[simp] theorem setPort_ports (s : State) (n : Nat) (p : Port) : (s.setPort n p).ports = s.ports := rfl
@[simp] theorem setPort_base (s : State) (n : Nat) (p : Port) : (s.setPort n p).base = s.base := rfl
@[simp] theorem setPort_captures (s : State) (n : Nat) (p : Port) : (s.setPort n p).captures = s.captures := rfl
@[simp] theorem setPort_sent (s : State) (n : Nat) (p : Port) : (s.setPort n p).sent = s.sent := rfl
@[simp] theorem setPort_draws (s : State) (n : Nat) (p : Port) : (s.setPort n p).draws = s.draws := rfl
@[simp] theorem setPort_pending (s : State) (n : Nat) (p : Port) : (s.setPort n p).pending = s.pending := rfl

/-- A queue pair reads as written, unless it is written back to its reset value. -/
theorem qp_setQp (s : State) (fn q : Nat) {p : QPair} (h : p ≠ {}) : (s.setQp fn q p).qp fn q = p :=
  mapGet_mapPut_self _ _ h

theorem qp_setQp_ne (s : State) {fn q fn' q' : Nat} (p : QPair) (h : 16 * fn' + q' ≠ 16 * fn + q) :
    (s.setQp fn q p).qp fn' q' = s.qp fn' q' := mapGet_mapPut_ne _ _ h

@[simp] theorem qp_msix (s : State) (a b fn q : Nat) : (s.msix a b).qp fn q = s.qp fn q := by simp [State.qp]
@[simp] theorem qp_raise (s : State) (l : Leaf) (b fn q : Nat) : (s.raise l b).qp fn q = s.qp fn q := by simp [State.qp]
@[simp] theorem qp_logEvent (s : State) (ev : Nat) (sev : Severity) (is_ at_ : Nat) (st : Status) (d : List Nat)
    (fn q : Nat) : (s.logEvent ev sev is_ at_ st d).qp fn q = s.qp fn q := by simp [State.qp]
@[simp] theorem qp_emit (s : State) (o : Out) (fn q : Nat) : (s.emit o).qp fn q = s.qp fn q := rfl
@[simp] theorem qp_at (s : State) (t : Tick) (fn q : Nat) : (s.at t).qp fn q = s.qp fn q := by simp [State.qp]

/-- A port reads as written, unless it is written back to its reset value. -/
theorem port_setPort (s : State) (n : Nat) {p : Port} (h : p ≠ {}) : (s.setPort n p).port n = p :=
  mapGet_mapPut_self _ _ h

theorem port_setPort_ne (s : State) {n m : Nat} (p : Port) (h : m ≠ n) : (s.setPort n p).port m = s.port m :=
  mapGet_mapPut_ne _ _ h

/-- A command's effect leaves the queue of commands. -/
theorem act_next (s : State) (t : Tick) (f : State → State) :
    s.act t f = .next { f (s.at t) with pending := s.pending } := rfl

end Sys2Proof.Machine
end

