-- ==== Sys2Proof/Laws/Record.lean ====
section
/-! SUPPORT. What the shared operations of command records change, said once each. -/

namespace Sys2Proof.Machine

/-- A new outcome entry changes the histories and floors. -/
theorem addOutcome_eq (s : State) (o : Outcome) : ∃ l f, s.addOutcome o = { s with outcomes := l, floors := f } := by
  unfold State.addOutcome
  simp only []
  split
  · exact ⟨_, s.floors, rfl⟩
  · split
    · split
      · exact ⟨_, _, rfl⟩
      · exact ⟨_, s.floors, rfl⟩
    · exact ⟨_, s.floors, rfl⟩

/-- A not-run outcome changes the histories and floors. -/
theorem notRun_eq (s : State) (tenant seq : Nat) (st : Status) :
    ∃ l f, s.notRun tenant seq st = { s with outcomes := l, floors := f } := by
  unfold State.notRun
  split
  · split
    · exact addOutcome_eq ..
    · exact ⟨s.outcomes, s.floors, rfl⟩
  · exact addOutcome_eq ..

/-- Records recorded as not run change the histories and floors. -/
theorem notRun_foldl_eq (st : Status) (l : List Rec) (s : State) :
    ∃ o f, l.foldl (fun s r => s.notRun r.tenant r.seq st) s = { s with outcomes := o, floors := f } := by
  induction l generalizing s with
  | nil => exact ⟨s.outcomes, s.floors, rfl⟩
  | cons r l ih =>
    obtain ⟨o, f, h⟩ := notRun_eq s r.tenant r.seq st
    rw [List.foldl_cons, h]
    obtain ⟨o', f', h'⟩ := ih { s with outcomes := o, floors := f }
    exact ⟨o', f', h'⟩

/-- The end of a capture changes its own registers, and what its cause and event change. -/
theorem stopCapture_eq (s : State) (full : Bool) :
    ∃ p l i w o, s.stopCapture full = { s with rpl := p, log := l, irq := i, host := { s.host with vectors := w }, sent := o } := by
  unfold State.stopCapture
  split
  · simp only []
    generalize hx : (State.raise _ _ _) = x
    have hx' : ∃ p i w o, x = { s with rpl := p, irq := i, host := { s.host with vectors := w }, sent := o } := by
      obtain ⟨i, w, o, h⟩ := raise_eq { s with rpl := { s.rpl with capturing := false, captured := true, full } } .system 6
      exact ⟨_, i, w, o, hx.symm.trans h⟩
    obtain ⟨p, i, w, o, rfl⟩ := hx'
    obtain ⟨l', n', i', w', o', h'⟩ := logEvent_eq { s with rpl := p, irq := i, host := { s.host with vectors := w }, sent := o }
      0x0803 .notice islHost 0x100 .ok [s.rpl.records, s.rpl.bytes]
    exact ⟨_, l', i', w', o', h'⟩
  · exact ⟨s.rpl, s.log, s.irq, s.host.vectors, s.sent, rfl⟩

/-- A captured item changes the capture, and what its end or its spill changes. -/
theorem capture_eq (s : State) (it : CaptureItem) :
    ∃ p l i w o, s.capture it = { s with rpl := p, log := l, irq := i, host := { s.host with vectors := w }, sent := o } := by
  unfold State.capture
  simp only []
  split
  · exact ⟨s.rpl, s.log, s.irq, s.host.vectors, s.sent, rfl⟩
  · split
    · exact stopCapture_eq s true
    · split
      · obtain ⟨l', n', i', w', o', h'⟩ := logEvent_eq
          { s with rpl := { s.rpl with items := s.rpl.items ++ [it], bytes := s.rpl.bytes + itemBytes it
                                       spilled := s.rpl.spilled || decide (8 * 2 ^ 20 < s.rpl.bytes + itemBytes it) } }
          0x0804 .info islHost 0x100 .ok []
        exact ⟨_, l', i', w', o', h'⟩
      · exact ⟨_, s.log, s.irq, s.host.vectors, s.sent, rfl⟩

/-- An interrupt check changes the queue pairs, pending bits and output. -/
theorem irqCheck_eq (s : State) (fn q : Nat) :
    ∃ p w o, s.irqCheck fn q = { s with host := { s.host with qp := p, vectors := w }, sent := o } := by
  unfold State.irqCheck
  simp only []
  split
  · obtain ⟨w, o, h⟩ := msix_eq (s.setQp fn q { s.qp fn q with irqPending := 0 }) fn (s.qp fn q).vector
    exact ⟨_, w, o, h⟩
  · exact ⟨s.host.qp, s.host.vectors, s.sent, rfl⟩

/-- A CQ entry changes the queue pairs, pending bits and output. -/
theorem writeCq_eq (s : State) (fn q : Nat) (b : Bytes) (n : Bool) :
    ∃ p w o, s.writeCq fn q b n = { s with host := { s.host with qp := p, vectors := w }, sent := o } := by
  unfold State.writeCq
  simp only []
  generalize hx : (State.setQp s fn q _) = x
  have hx' : ∃ p, x = { s with host := { s.host with qp := p } } := ⟨_, hx.symm⟩
  obtain ⟨p, rfl⟩ := hx'
  obtain ⟨p', w, o, h⟩ := irqCheck_eq (State.emit { s with host := { s.host with qp := p } } (.cq fn q (s.qp fn q).cqTail b)) fn q
  exact ⟨p', w, o, h⟩

/-- The state without what reporting changes: output, link, queue pairs and vectors, attention tree, ring log, capture,
outcome histories and waiting records. -/
def State.quiet (s : State) : State :=
  { s with host := { s.host with qp := [], vectors := [] }, ndl := {}, sent := [], irq := {}, log := {}, rpl := {},
           outcomes := [], floors := [], waiting := [] }

@[simp] theorem quiet_emit (s : State) (o : Out) : (s.emit o).quiet = s.quiet := rfl
@[simp] theorem quiet_setQp (s : State) (fn q : Nat) (p : QPair) : (s.setQp fn q p).quiet = s.quiet := rfl
@[simp] theorem quiet_setPort (s : State) (n : Nat) (p : Port) : (s.setPort n p).quiet = s.quiet := rfl

@[simp] theorem quiet_msix (s : State) (fn v : Nat) : (s.msix fn v).quiet = s.quiet := by
  obtain ⟨_, _, h⟩ := msix_eq s fn v; rw [h]; rfl

@[simp] theorem quiet_raise (s : State) (l : Leaf) (b : Nat) : (s.raise l b).quiet = s.quiet := by
  obtain ⟨_, _, _, h⟩ := raise_eq s l b; rw [h]; rfl

@[simp] theorem quiet_logEvent (s : State) (ev : Nat) (sev : Severity) (is_ at_ : Nat) (st : Status) (d : List Nat) :
    (s.logEvent ev sev is_ at_ st d).quiet = s.quiet := by
  obtain ⟨_, _, _, _, _, h⟩ := logEvent_eq s ev sev is_ at_ st d; rw [h]; rfl

@[simp] theorem quiet_addOutcome (s : State) (o : Outcome) : (s.addOutcome o).quiet = s.quiet := by
  obtain ⟨_, _, h⟩ := addOutcome_eq s o; rw [h]; rfl

@[simp] theorem quiet_notRun (s : State) (tenant seq : Nat) (st : Status) : (s.notRun tenant seq st).quiet = s.quiet := by
  obtain ⟨_, _, h⟩ := notRun_eq s tenant seq st; rw [h]; rfl

@[simp] theorem quiet_finalOutcome (s : State) (tenant seq : Nat) (st : Status) (d : Nat) (l : Bool) :
    (s.finalOutcome tenant seq st d l).quiet = s.quiet := rfl

@[simp] theorem quiet_capture (s : State) (it : CaptureItem) : (s.capture it).quiet = s.quiet := by
  obtain ⟨_, _, _, _, _, h⟩ := capture_eq s it; rw [h]; rfl

@[simp] theorem quiet_irqCheck (s : State) (fn q : Nat) : (s.irqCheck fn q).quiet = s.quiet := by
  obtain ⟨_, _, _, h⟩ := irqCheck_eq s fn q; rw [h]; rfl

@[simp] theorem quiet_writeCq (s : State) (fn q : Nat) (b : Bytes) (n : Bool) : (s.writeCq fn q b n).quiet = s.quiet := by
  obtain ⟨_, _, _, h⟩ := writeCq_eq s fn q b n; rw [h]; rfl

@[simp] theorem quiet_sendMember (s : State) (m tenant : Nat) (world : Bool) (txn : Nat) (reply resend : Bool)
    (b : Payload) : (s.sendMember m tenant world txn reply resend b).quiet = s.quiet := by
  unfold State.sendMember; repeat' split
  all_goals rfl

@[simp] theorem quiet_sendTwin (s : State) (txn : Nat) (reply resend : Bool) (b : Payload) :
    (s.sendTwin txn reply resend b).quiet = s.quiet := by
  unfold State.sendTwin; split <;> rfl

/-- A fold of quiet operations is quiet. -/
theorem quiet_foldl {α : Type} (f : State → α → State) (h : ∀ s a, (f s a).quiet = s.quiet) (l : List α) (s : State) :
    (l.foldl f s).quiet = s.quiet := by
  induction l generalizing s with
  | nil => rfl
  | cons a l ih => rw [List.foldl_cons, ih, h]

@[simp] theorem quiet_deliver (s : State) (r : Rec) (st : Status) (d : Nat) (body out : Bytes) (rep lone : Bool) :
    (s.deliver r st d body out rep lone).quiet = s.quiet := by
  unfold State.deliver
  split
  · exact quiet_sendMember ..
  · split
    · exact quiet_writeCq ..
    · simp only [quiet_writeCq]
      generalize (if st = .ok ∨ st = .dataPoisoned then out else []) = o1
      split
      · rw [quiet_emit]; apply quiet_foldl; intro _ _; rfl
      · apply quiet_foldl; intro _ _; rfl

@[simp] theorem quiet_conclude (s : State) (r : Rec) (st : Status) (d : Nat) (rep lone : Bool) :
    (s.conclude r st d rep lone).quiet = s.quiet := by
  unfold State.conclude; rw [quiet_deliver]; rfl

end Sys2Proof.Machine
end

