-- ==== Sys2Proof/Laws/Tamper.lean ====
section
/-! SUPPORT. What enabling causes, recording alarms and answering them change. -/

set_option autoImplicit false

namespace Sys2Proof.Machine

/-- A written enable changes the attention tree, and what a rising vector changes. -/
theorem enableLeaf_eq (s : State) (l : Leaf) (v : Word32) :
    ∃ i w o, s.enableLeaf l v = { s with irq := i, host := { s.host with vectors := w }, sent := o } := by
  unfold State.enableLeaf
  simp only []
  split
  · obtain ⟨w, o, h⟩ := msixEdge_eq s { s with irq := { s.irq with
      enable := mapPut 0 s.irq.enable (leafNum l) (v &&& leafMask l) } }
    exact ⟨_, w, o, h⟩
  · obtain ⟨w, o, h⟩ := msixEdge_eq s { s with irq := { s.irq with
      enable := mapPut 0 s.irq.enable (leafNum l) (v &&& leafMask l)
      group := mapPut 0 s.irq.group (leafGroup l) (State.group { s with irq := { s.irq with
        enable := mapPut 0 s.irq.enable (leafNum l) (v &&& leafMask l) } } (leafGroup l) ||| BitVec.ofNat 32 (2 ^ leafBit l)) } }
    exact ⟨_, w, o, h⟩

/-- Enabling every cause changes the same. -/
theorem enableAll_eq (s : State) :
    ∃ i w o, s.enableAll = { s with irq := i, host := { s.host with vectors := w }, sent := o } := by
  unfold State.enableAll
  generalize allLeaves = ls
  induction ls generalizing s with
  | nil => exact ⟨s.irq, s.host.vectors, s.sent, rfl⟩
  | cons l ls ih =>
    obtain ⟨i, w, o, h⟩ := enableLeaf_eq s l (leafMask l)
    rw [List.foldl_cons, h]
    obtain ⟨i', w', o', h'⟩ := ih { s with irq := i, host := { s.host with vectors := w }, sent := o }
    exact ⟨i', w', o', h'⟩

/-- The device enters RECOVERY with a cause, unless it is severed (R78, R80). -/
theorem enterRecovery_fields (s : State) (c : Nat) (h : s.tmp.severed = false) :
    (s.enterRecovery c).mode = .recovery ∧ (s.enterRecovery c).bootStage = 0 ∧ (s.enterRecovery c).man.failCause = c ∧
      (s.enterRecovery c).host.released = true := by
  unfold State.enterRecovery
  rw [if_neg (by rw [h]; decide)]
  by_cases hc : c = 11
  · simp only [hc, if_true]
    obtain ⟨i, w, o, e⟩ := enableAll_eq { s with man := { s.man with failCause := 11 }, host := { s.host with released := true }, bootStage := 0, mode := .recovery }
    refine ⟨?_, ?_, ?_, ?_⟩ <;> rw [e]
  · simp only [hc, if_false]
    obtain ⟨l, n, i0, w0, o0, e0⟩ := logEvent_eq { s with man := { s.man with failCause := c } } 0x0007 .warn islWarden 0x100 .ok [c]
    rw [e0]
    obtain ⟨i, w, o, e⟩ := enableAll_eq { s with man := { s.man with failCause := c }, log := l, rpl := { s.rpl with suppressed := n },
                                                 irq := i0, host := { s.host with vectors := w0, released := true }, sent := o0, bootStage := 0, mode := .recovery }
    refine ⟨?_, ?_, ?_, ?_⟩ <;> rw [e]

/-- The state without what reporting and alarms change. -/
def State.calm (s : State) : State := { s.quiet with tmp := {}, tal := {} }

theorem calm_of_quiet {s t : State} (h : s.quiet = t.quiet) : s.calm = t.calm := by
  unfold State.calm; rw [h]

theorem calm_enterWake (s : State) (c : Nat) (r : Response) (d : Word32) (z : Bool) :
    (s.enterWake c r d z).1.calm = s.calm := by
  unfold State.enterWake; split <;> rfl

theorem calm_tallyLater (s : State) (c : Nat) (w : Option Nat) : (s.tallyLater c w).calm = s.calm := by
  unfold State.tallyLater; split <;> rfl

/-- Recording an alarm changes the tamper and tally records and what reporting changes. -/
theorem calm_recordAlarm (s : State) (z : Bool) (a : Nat × Word32) : (s.recordAlarm z a).calm = s.calm := by
  unfold State.recordAlarm
  simp only []
  generalize hx : State.enterWake _ _ _ _ _ = x
  have h : x.1.calm = s.calm := by rw [← hx, calm_enterWake]; rfl
  split
  · exact h
  · rw [calm_tallyLater]; exact (calm_of_quiet (by simp [State.alarmEntry])).trans h

theorem calm_foldAlarms (z : Bool) (l : List (Nat × Word32)) (s : State) :
    (l.foldl (fun s x => s.recordAlarm z x) s).calm = s.calm := by
  induction l generalizing s with
  | nil => rfl
  | cons a l ih => rw [List.foldl_cons, ih, calm_recordAlarm]

theorem quiet_abortUnstarted (s : State) : s.abortUnstarted.quiet = s.quiet := by
  unfold State.abortUnstarted
  generalize s.waiting = l
  refine quiet_foldl _ ?_ l s
  intro s a
  rw [quiet_conclude, quiet_notRun]

/-- SEVER changes the severed bit, its tick, and what the aborted records report. -/
theorem quiet_sever (s : State) (h : s.tmp.severed = false) :
    s.sever.quiet = ({ s with tmp := { s.tmp with severed := true, tickSever := s.tick } } : State).quiet := by
  unfold State.sever
  rw [if_neg (by rw [h]; decide), quiet_abortUnstarted]

/-- One alarm is recorded and answered by its class's response (R519, R523). -/
theorem decideAlarms_one (s : State) (z : Bool) (c : Nat) (d : Word32) (h : c ≤ 21) :
    s.decideAlarms z [(c, d)] =
      if s.response c = .fell then (s.recordAlarm z (c, d)).fell
      else if s.response c = .sever ∧ s.mode ≠ .felled then (s.recordAlarm z (c, d)).sever
      else s.recordAlarm z (c, d) := by
  have e : ((List.range 22).flatMap fun k => ([(c, d)].filter fun x => x.1 == k).take 1) = [(c, d)] := by
    have : c < 22 := by omega
    interval_cases c <;> rfl
  unfold State.decideAlarms
  rw [e]
  simp only [List.map_cons, List.map_nil, List.foldl_cons, List.foldl_nil, List.contains_cons, List.contains_nil,
    Bool.or_false, beq_iff_eq]
  cases s.response c <;> simp

/-- FELL outside DORMANT (R521, R522). -/
theorem fell_fields (s : State) (h : s.mode ≠ .dormant) :
    s.fell.mode = .felled ∧ s.fell.vault = { marker := true } ∧ s.fell.cel.slots = [] ∧ s.fell.cel.bootKeys = [] ∧
      s.fell.smc.keys = [] ∧ s.fell.running = [] ∧ s.fell.waiting = [] ∧ s.fell.tmp.felled = true ∧ s.fell.otp = s.otp := by
  unfold State.fell
  rw [if_neg h]
  exact ⟨rfl, rfl, rfl, rfl, rfl, rfl, rfl, rfl, rfl⟩

end Sys2Proof.Machine
end

