-- ==== Sys2Proof/Tests/States.lean ====
section
/-! SUPPORT. Small states and records from which the tests and witnesses are built. -/

namespace Sys2Proof.Tests

open Sys2Proof.Machine

/-- A native record's header and body: opcode, number, deadline and body (Table 5-1). -/
def wRaw (op seq deadline : Nat) (body : Bytes) : Bytes :=
  natLE 2 op ++ [1, 0] ++ natLE 4 (64 + body.length + 4 * ceilDiv (64 + body.length) 64) ++ natLE 4 body.length ++
    natLE 4 deadline ++ natLE 6 seq ++ zeros 2 ++ zeros 40 ++ body

/-- Four tenants; queue pairs 0 to 3 of PF0. -/
def wSet : Settings :=
  { tenantCount := 4, pf0Queues := 4, vfQueues := [2, 2, 2, 2], mirrorTimeout := 100, syncTimeout := 100
    caravanTimeout := 100 }

/-- A queue pair of two entries in use. -/
def wPair : QPair := { enabled := true, sizeLog2 := 1, vector := 1, sqBase := 0x1000, cqBase := 0x2000 }

/-- A device in SERVICE and OWNED that serves alone, with one window and queue pair 1 of PF0 in use. -/
def wServing : State :=
  { mode := .service, bootStage := 0
    lcs := { copy0 := 0x000FFFFF, copy1 := 0x000FFFFF, copy2 := 0x000FFFFF, identity := true }
    man := { set := wSet, applied := true }
    smc := { up0 := true, up1 := true, trained := true }
    host := { released := true, linkUp := true, win := [(0, { base := 0, size := 0x100000, ctrl := 3#2 })]
              qp := [(1, wPair), (2, { wPair with enabled := false }),
                     (3, { wPair with kh1 := true, ready := [(1, 5)] })] } }

/-- Queue pair 1 changed. -/
def wPair1 (p : QPair) : State := { wServing with host := { wServing.host with qp := [(1, p)] } }

/-- Queue pair 1 has announced one entry at tick 5. -/
def wRing : State := wPair1 { wPair with ready := [(1, 5)] }

/-- Queue pair 3, a KH-1 one, has announced one entry. -/
def wRingKh1 : State := wServing

/-- Queue pair 1 drains and nothing is in flight. -/
def wDraining : State := wPair1 { wPair with draining := true }

/-- Queue pair 1 has a pending interrupt of tick 5 whose vector is not masked. -/
def wIrq : State :=
  { wPair1 { wPair with irqEnable := true, irqPending := 1, irqFirst := 5, aggTime := 10, aggCount := 3 } with
    host := { (wPair1 { wPair with irqEnable := true, irqPending := 1, irqFirst := 5, aggTime := 10, aggCount := 3 }).host with
      vectors := [(1, { masked := false })] } }

/-- GET_INFO of class 0 as it is read from the ring. -/
def wFetched : Fetched :=
  { entry := natLE 8 0x3000 ++ natLE 8 0x4000 ++ zeros 32 ++ natLE 4 80 ++ natLE 4 0x1000 ++ zeros 8
    record := wRaw 0x0104 1 0 (zeros 8) ++ waybills (wRaw 0x0104 1 0 (zeros 8)) }

/-- A KH-1 RANDOM record (Table 5-10). -/
def wFetchedKh1 : Fetched := { entry := [0x00, 0x50, 0x01, 0x00] ++ zeros 252 }

/-- The first slot of queue pair 1 of PF0. -/
def wRef : RecRef := .host 0 1 0

/-- A waiting GET_INFO with a deadline of 100 ticks. -/
def wRec : Rec :=
  { ref := wRef, q := 1, raw := wRaw 0x0104 1 100 (zeros 8), seq := 1, arrival := 5, fetched := 6
    sq := { respAddr := 0x4000, respCap := 0x1000 } }

/-- A serving device with that record waiting. -/
def wWaiting : State := { wServing with waiting := [wRec] }

/-- VFs 1 to 4 are enabled, VF 3 with a session. -/
def wVfs : State :=
  { wServing with host := { wServing.host with vfEnable := true, numVfs := 4 }
                  sessions := [{ tenant := 3, id := 1, key := [] }] }

/-- VF 3 is in a function-level reset. -/
def wFlr : State := { wVfs with host := { wVfs.host with flr := [(3, 5)] } }

/-- The DRBG is healthy, its FIFO empty or with one word. -/
def wHealthy : State := { wServing with rng := { st := .healthy, healthy := 0x03FFFFFF } }
def wFifo : State := { wHealthy with rng := { wHealthy.rng with fifo := [7] } }

/-- RAW, past BOOT stage 1: every debug right is in force. -/
def wRaw0 : State := { State.reset with bootStage := 2 }
def wReplayRaw : State := { wRaw0 with mode := .replay }

/-- A power request pends: ON of cipher lane 0; one of a domain that does not exist; one decided. -/
def wPower : State := { wServing with pwr := { req := some { domain := 10, units := 1 } } }
def wPowerBad : State := { wServing with pwr := { req := some { domain := 20, units := 1 } } }
def wPowerEnd : State :=
  { wServing with pwr := { req := some { domain := 10, state := 2, units := 1, decided := some .ok } } }

/-- Groups 1 and 2 are latched and enabled for MSI-X. -/
def wAttn : State := { wServing with irq := { group := [(1, 1), (2, 1)], msixEn := 0xFF } }

/-- POT_INDEX selects a page of a drover's local RAM; its write is outstanding. -/
def wPot : State := { wServing with iso := { potIndex := 0x1200 } }
def wPotBusy : State := { wServing with iso := { potIndex := 0x1200, potBusy := some (0x1200, 0x0400) } }

/-- Drover core 15 runs a KH-1 record. -/
def wKh1Run : State :=
  { wServing with running := [{ record := { ref := .host 0 3 0, form := .kh1 }, core := 15, stage := .twin }] }

/-- Bank group 7 is being handed over to drover tenant 0. -/
def wBank : State := { wServing with iso := { group := [(7, { next := some 0 })] }, mem := [(0x04E00000, 1)] }

/-- A life cycle transition writes bit 0 of two copies. -/
def wLcs : State :=
  { wServing with
                  lcs := { wServing.lcs with write := some { target := 1, todo := [(0, 0), (0, 1)] } } }

/-- DORMANT on VBAT. -/
def wDormant : State := { State.reset with mode := .dormant, bootStage := 0, mainPower := false, vbat := true }

/-- BOOT at its stages, in OWNED. -/
def wBoot (n : Nat) : State :=
  { wServing with mode := .boot, bootStage := n, man := {}, host := {}, vault := { marker := true }
                  otp := { lcs0 := 0x000FFFFF, lcs1 := 0x000FFFFF, lcs2 := 0x000FFFFF } }

/-- A tally increment waits in OWNED. -/
def wTally : State := { wServing with tal := { queue := [{ cls := 4 }] } }

/-- Settings whose tamper table fells for class 0 at once and severs for class 16. -/
def wApplied : State :=
  { wServing with man := { applied := true, set := { wSet with
      tamper := { response := .fell } :: List.replicate 31 { response := .sever } } } }

/-- Class 16 has been seen since tick 5. -/
def wHeld : State := { wApplied with tmp := { condition := 0x10000, onset := [(16, (5, 3#32))] } }

/-- A barrier waits its turn; one pends; one asked for by a command. -/
def wBarrierQ : State := { wServing with barrierQ := [{ target := .drowse, cause := .doorbell }] }
def wBarrier : State := { wServing with barrier := some { target := .drowse, cause := .following, request := 5 } }
def wBarrierCmd : State :=
  { wServing with barrier := some { target := .drowse, cause := .command wRef, request := 5 }
                  running := [{ record := wRec, stage := .barrier }] }

/-- A capture's base is copied. -/
def wBase : State := { wServing with running := [{ record := wRec, stage := .base }] }

/-- The memory keys are drawn and the channels are not trained. -/
def wUntrained : State := { wServing with smc := { keys := [[1]] } }

/-- REPLAY at record 3, where it breaks. -/
def wReplay : State := { wServing with mode := .replay, rpl := { items := [.command 3 wRec 5], brk := 3 } }

/-- A record of a settings section (R77). -/
def wRecord (ty : Nat) (b : Bytes) : Bytes := natLE 2 ty ++ natLE 2 b.length ++ b

/-- A settings section that parses: one member, no twin, four tenants. -/
def wSection : Bytes :=
  wRecord 1 ([13, 0, 0, 0] ++ (List.range 13).flatMap fun i => [BitVec.ofNat 8 i, 0] ++ natLE 2
    (([1000, 800, 600, 500, 600, 600, 800, 500, 1200, 1000, 200, 100, 0] : List Nat).getD i 0)) ++
  (wRecord 2 ([4, 4, 0, 0] ++ [2, 2, 2, 2] ++ zeros 252) ++
  (wRecord 3 ([0, 1] ++ zeros 38 ++ natLE 8 1) ++
  (wRecord 4 (zeros 8 ++ natLE 4 100 ++ natLE 4 100 ++ natLE 4 100 ++ zeros 12 ++ List.replicate 64 255) ++
  (wRecord 5 (zeros 4) ++
  (wRecord 6 (zeros 0x104) ++
  (wRecord 7 (zeros 5 ++ [85] ++ zeros 26 ++ (List.range 32).flatMap fun c =>
    [BitVec.ofNat 8 c, if 22 ≤ c then 3 else 0] ++ zeros 6) ++
  (wRecord 8 ([1, 0, 0, 0, 0, 2] ++ natLE 2 30 ++ zeros 76) ++
  wRecord 9 (zeros 4 ++ natLE 2 1000 ++ natLE 2 1000 ++ natLE 2 1000 ++ natLE 2 1000 ++ natLE 2 1 ++ zeros 10))))))))

/-- A header whose only section is that one, with its digest. -/
def wHeader : Bytes :=
  zeros 6 ++ natLE 2 1 ++ zeros 0xF8 ++ natLE 2 4 ++ zeros 2 ++ natLE 4 0x1000 ++ natLE 4 wSection.length ++ zeros 4 ++
    sha384 wSection

/-- BOOT stage 6 with that header. -/
def wStage6 : State := { wBoot 6 with man := { header := wHeader } }

/-- The entropy sources start up; wait for their first block; one is quarantined since tick 0. -/
def wStarting : State := { wServing with rng := { st := .starting, startup := 1, need := 3 } }
def wBlocks : State := { wServing with rng := { st := .starting, healthy := 0x03FFFFFF, need := 2, blocks := 1 } }
def wQuarantine : State := { wHealthy with rng := { wHealthy.rng with quarantined := [(3, 0)], healthy := 0x03FFFFF7 } }

/-- A job runs on a lane, or waits for one. -/
def wRun : Run := { record := wRec, stage := .base, op := 0x0301, cycles := 70000, res := { body := [7] } }
def wLane (k : LaneKind) (l : Nat) : State := { wHealthy with running := [{ wRun with stage := .lane k (some l) }] }
def wLaneWait (k : LaneKind) : State := { wHealthy with running := [{ wRun with stage := .lane k none }] }

/-- The memory is trained under one key; a resaw of it goes on. -/
def wSealed : State := { wServing with smc := { wServing.smc with keys := List.replicate 256 [1] } }
def wResaw : State := { wSealed with rsw := { active := true, key := 0, boundary := 0, spare := [2] } }

/-- The cellar is ready, and the skidder begins. -/
def wCellar : State := { wServing with cel := { ready := true } }

/-- Card port 1, or the transit port, in a given condition. -/
def wCard (p : CardPort) : State := { wServing with cards := { port := [(1, p)] } }
def wTransit (p : Transit) : State := { wServing with cards := { transit := p } }

/-- Card port 1 waits in a step of the exchange, or for its answer to be taken. -/
def wWaits (st : CardStep) : CardPort := { present := true, step := st, fi := 372, di := 1, div := 50, ifsc := 32, bwi := 4, cwi := 13 }
def wAnswer (st : CardStep) (rx : Bytes) : CardPort := { wWaits st with rx, done := some 9 }

/-- Port 1 of the link in a given condition; a partner is configured for it. -/
def wPort (p : Port) : State :=
  { wServing with man := { set := { wSet with peers := [77, 0, 0] }, applied := true }, ndl := { port := [(1, p)] } }

/-- An idle flit and a NAK whose CRCs hold. -/
def wIdle : BitVec 320 := BitVec.ofNat 320 (leNat (zeros 36 ++ natLE 4 (crc32c (zeros 36)).toNat))
def wNak : BitVec 320 := BitVec.ofNat 320 (leNat ([0x20] ++ zeros 35 ++ natLE 4 (crc32c ([0x20] ++ zeros 35)).toNat))

/-- A device of a pair, with the port to its twin up. -/
def wTwin (tw : Twin) : State :=
  { wServing with man := { set := { wSet with keelSerial := 9, peers := [77, 0, 0] }, applied := true }
                  twin := tw, ndl := { port := [(0, { st := .active })] } }

/-- A request of the twin, and a reply. -/
def wMsg (b : Payload) : Msg := { port := 0, txn := 7, stamp := 9, body := b }
def wReply (b : Payload) : Msg := { port := 0, txn := 7, stamp := 9, reply := true, body := b }

/-- A member 0 of a caravan of two, with the port to member 1 up and a body of caravan data. -/
def wMember (c : Car) : State :=
  { wServing with man := { set := { wSet with memberCount := 2, self := 0, peers := [77, 0, 0]
                                              twinOf := List.replicate 64 255
                                              routes := [(0, { port := 0, hops := [], serial := 5 }),
                                                         (1, { port := 1, hops := [1], serial := 77 })] }
                           applied := true }
                  car := c, ndl := { port := [(1, { st := .active })] } }

/-- A request of member 1, and a reply. -/
def wAsk (b : Payload) : Msg := { port := 1, dest := 0, src := 1, txn := 7, stamp := 9, body := b }
def wTell (b : Payload) : Msg := { port := 1, dest := 0, src := 1, txn := 7, stamp := 9, reply := true, body := b }

/-! ## Accepted commands -/

/-- A waiting record in clear of queue pair 1, with its opcode, tenant and body. -/
def wCmdRec (op tenant : Nat) (body : Bytes) : Rec :=
  { ref := wRef, q := 1, tenant, raw := wRaw op 1 100 body, seq := 1, arrival := 5, fetched := 6
    sq := { respAddr := 0x4000, respCap := 0x1000, outAddr := 0x6000, outCap := 0x1000 } }

/-- A state with that record waiting. -/
def wCmd (s : State) (op tenant : Nat) (body : Bytes) : State := { s with waiting := [wCmdRec op tenant body] }

/-- Accepted, as a computation. -/
def accepts (s : State) (t : Tick) (ref : RecRef) (op : Nat) (r : Rec) (b i : Bytes) : Bool :=
  let u := s.begun t r b i
  ref.ok && decide (((s.at t).waiting.find? fun x => x.ref == ref) = some r) && decide (r.op = op) && (s.at t).startable r &&
    decide ((s.at t).preStart r = .go) &&
    (match ((s.at t).start r).1.postStart r with
      | .ok x => decide (x = (b, i))
      | .error _ => false) &&
    decide (u.1.place u.2.record ((nativeOp op).getD 0) b i = none) &&
    decide (u.1.needsFail (needs ((nativeOp op).getD 0) b) = none) &&
    (!(needs ((nativeOp op).getD 0) b).contains 16 || u.1.smc.trained)

theorem wAcc {s : State} {t : Tick} {ref : RecRef} {op : Nat} {r : Rec} {b i : Bytes} (h : accepts s t ref op r b i = true) :
    Accepted s t ref op r b i := by
  unfold accepts at h
  simp only [Bool.and_eq_true, decide_eq_true_eq, Bool.or_eq_true, Bool.not_eq_true'] at h
  obtain ⟨⟨⟨⟨⟨⟨⟨⟨h1, h2⟩, h3⟩, h4⟩, h5⟩, h6⟩, h7⟩, h8⟩, h9⟩ := h
  refine ⟨h1, h2, h3, h4, h5, ?_, h7, h8, h9⟩
  cases e : ((s.at t).start r).1.postStart r with
  | error x => rw [e] at h6; exact Bool.noConfusion h6
  | ok x => rw [e] at h6; simp only [decide_eq_true_eq] at h6; rw [h6]

/-- A draw that is not refused. -/
theorem wSome {α β : Type} (o : Option (α × β)) (h : o.isSome = true) : o = some ((o.get h).1, (o.get h).2) := by
  cases o with
  | none => exact Bool.noConfusion h
  | some p => rfl

/-- A resolution that answers a slot. -/
theorem wRes {α : Type} (p : α × Except Status Nat) (k : Nat) (h : p.2.toOption = some k) : p = (p.1, .ok k) := by
  obtain ⟨a, e⟩ := p
  cases e with
  | error x => exact absurd h (by intro h; cases h)
  | ok x => cases h; rfl

/-- An answer that is not a status. -/
theorem wOk {ε α : Type} (e : Except ε α) (k : α) (h : e.toOption = some k) : e = .ok k := by
  cases e with
  | error x => exact absurd h (by intro h; cases h)
  | ok x => cases h; rfl

/-- Handle of the witness key: directory index 5, tag 1. -/
def wHandle : Nat := mkHandle 5 1

/-- A healthy device with one key of tenant 0 in slot 7, below the trunk in vault record 0. -/
def wKey (x : Slot) : State :=
  { wHealthy with
    vault := { wHealthy.vault with keys := [(0, { present := true })] }
    cel := { ready := true
             dir := [(5, { standing := 7, dtag := 1, valid := true, standingGen := 1 })]
             slots := [(7, { x with state := .seasoned, generation := 1, parent := { inVault := true } })] } }

/-- A KH-1 record of queue pair 3 as it waits, and its 256 bytes from code, key, modifier and data (Table 5-8). -/
def wKh1Ref : RecRef := .host 0 3 0
def wKh1Rec (raw : Bytes) : Rec :=
  { ref := wKh1Ref, form := .kh1, q := 3, raw, seq := 2 ^ 47 + 3 * 2 ^ 43 + 1, arrival := 5, fetched := 6 }
def wKh1Raw (code key key2 m : Nat) (data : Bytes) : Bytes :=
  natBE 2 code ++ [1, 0] ++ zeros 4 ++ natBE 2 key ++ natBE 2 key2 ++ natBE 2 m ++ natBE 2 data.length ++ zeros 48 ++ padTo 192 data

/-- The witness key as KH-1 key 1 of tenant 0. -/
def wKh1Key (x : Slot) : State := { wKey x with kh1 := [(1, wHandle)] }

/-- Handle of vault record 0, as a parent. -/
def wTrunk : Nat := 2 ^ 31

theorem wOkPair {α β ε : Type} (p : α × Except ε β) (k : β) (h : p.2.toOption = some k) : p = (p.1, .ok k) := by
  obtain ⟨a, e⟩ := p
  cases e with
  | error x => exact absurd h (by intro h; cases h)
  | ok x => cases h; rfl

theorem wPairEq {α β : Type} (p : α × β) (k : β) (h : p.2 = k) : p = (p.1, k) := by
  obtain ⟨a, b⟩ := p
  cases h
  rfl

theorem wSome3 {α β : Type} (o : Option (Nat × α × β)) (n : Nat) (h : (o.map (·.1)) = some n) :
    o = some (n, (o.get (by rw [← Option.isSome_map, h]; rfl)).2.1, (o.get (by rw [← Option.isSome_map, h]; rfl)).2.2) := by
  cases o with
  | none => cases h
  | some p => cases h; rfl

theorem wSomeGet {α : Type} (o : Option α) (d : α) (h : o.isSome = true) : o = some (o.getD d) := by
  cases o with
  | none => exact Bool.noConfusion h
  | some p => rfl

/-- Two keys of tenant 0 in slots 7 and 8; the second has handle `mkHandle 6 1`. -/
def wTwoKeys (x y : Slot) : State :=
  { wKey x with cel := { (wKey x).cel with
      dir := [(5, { standing := 7, dtag := 1, valid := true, standingGen := 1 }), (6, { standing := 8, dtag := 1, valid := true })]
      slots := (wKey x).cel.slots ++ [(8, { y with state := .seasoned, parent := { inVault := true } })] } }

end Sys2Proof.Tests
end

