-- ==== Sys2Proof/Tests/Slice0.lean ====
section
/-! SUPPORT. Tests: an ill-formed term for each check of WellFormed, the examples of the spec, and published vectors. -/

set_option maxRecDepth 4000

namespace Sys2Proof.Tests

set_option Elab.async false

open Sys2Proof Sys2Proof.Machine

/-! ## WellFormed: each check refuses a term, and exec stops on it -/

theorem test_illFormed_sessionOpen : (Instr.sessionOpen 0 (.host 256 0 0)).wf = false := by decide
theorem test_illFormed_sqTailDoorbell : (Instr.sqTailDoorbell 0 0 16 0).wf = false := by decide
theorem test_illFormed_ttuWindowWrite : (Instr.ttuWindowWrite 0 0 8 0 0).wf = false := by decide
theorem test_illFormed_ttuWindowWrite2 : (Instr.ttuWindowWrite 0 0 0 2 0).wf = false := by decide
theorem test_illFormed_flrStart : (Instr.flrStart 0 0).wf = false := by decide
theorem test_illFormed_vfDisable : (Instr.vfDisable 0 true 256).wf = false := by decide
theorem test_illFormed_configurationRequest (c : CfgReq) : (Instr.configurationRequest 0 256 c).wf = false := rfl
theorem test_illFormed_registerWrite : (Instr.registerWrite 0 (.vf 0) 0 0 false).wf = false := by decide
theorem test_illFormed_domainOn : (Instr.domainOn 0 32 0 false 0).wf = false := by decide
theorem test_illFormed_pwrClkOverrideWrite : (Instr.pwrClkOverrideWrite 0 13 0).wf = false := by decide
theorem test_illFormed_irqGroupWrite : (Instr.irqGroupWrite 0 8 0).wf = false := by decide
theorem test_illFormed_resawStart : (Instr.resawStart 0 (some 256)).wf = false := by decide
theorem test_illFormed_ndlPortEnable : (Instr.ndlPortEnable 0 4 true).wf = false := by decide
theorem test_illFormed_mpuEntryWrite : (Instr.mpuEntryWrite 0 .pf0 32 0 0 0).wf = false := by decide
theorem test_illFormed_mpuEntryWrite2 : (Instr.mpuEntryWrite 0 .pf0 0 0 12 0).wf = false := by decide
theorem test_illFormed_kh1StraddleWrite : (Instr.kh1StraddleWrite 0 16 true).wf = false := by decide
theorem test_illFormed_isoDmaAssignWrite : (Instr.isoDmaAssignWrite 0 12 0).wf = false := by decide
theorem test_illFormed_isoIrqRouteWrite : (Instr.isoIrqRouteWrite 0 128 0).wf = false := by decide
theorem test_illFormed_tamperConditionOnset : (Instr.tamperConditionOnset 0 22 0).wf = false := by decide
theorem test_illFormed_glitchExcursionEnd : (Instr.glitchExcursionEnd 0 16 0 0).wf = false := by decide
theorem test_illFormed_trainingSequence : (Instr.trainingSequence 0 0 4 0).wf = false := by decide
theorem test_illFormed_laneJobDispatch : (Instr.laneJobDispatch 0 .digest 8).wf = false := by decide
theorem test_illFormed_maskReseedPoint : (Instr.maskReseedPoint 0 16).wf = false := by decide
theorem test_illFormed_digestJobDone : (Instr.digestJobDone 0 8 .none).wf = false := by decide
theorem test_illFormed_bigNumberJobDone : (Instr.bigNumberJobDone 0 32 .none 0).wf = false := by decide
theorem test_illFormed_decimalJobDone : (Instr.decimalJobDone 0 4 .none).wf = false := by decide
theorem test_illFormed_startUpTestDone : (Instr.startUpTestDone 0 26 false false).wf = false := by decide
theorem test_illFormed_bufferRefill : (Instr.bufferRefill 0 .digest 0).wf = false := by decide
theorem test_illFormed_pcieLinkUp : (Instr.pcieLinkUp 0 4 0).wf = false := by decide
theorem test_wellFormed_runs : (Instr.sessionOpen 0 (.host 255 15 4095)).wf = true := by decide
theorem test_illFormed_stops : exec (.pcieLinkUp 0 4 0) State.reset = .fault .noSuchUnit := rfl

/-! ## The queue -/

theorem test_step_takesTheFront : ∃ t, step { State.reset with pending := [.powerOnReset 0, .otpDecode 1 []] } = .next t ∧
    t.pending = [.otpDecode 1 []] := ⟨_, rfl, rfl⟩
theorem test_step_idles : step State.reset = .next State.reset := rfl
theorem test_table_hasNoBits : decodeTableWord 32 0 = none := rfl

/-! ## Examples of the spec -/

/-- The interrupted transition of chapter 2: the majority matches no code, and the part boots LOCKED. -/
theorem test_otp_lockedPart : ∃ t, exec (.otpDecode 1 []) { State.reset with
      otp := { lcs0 := 0x007FFFFF, lcs1 := 0x007FFFFF, lcs2 := 0x003FFFFF } } = .next t ∧ t.life = .locked :=
  ⟨_, rfl, by decide +kernel⟩
/-- −250.00 as LD63 (chapter 12). -/
theorem test_ld63_written : ld63Bytes (-25000) = zeros 29 ++ [0x25, 0x00, 0x0D] := by decide
theorem test_ld63_read : ld63 (zeros 29 ++ [0x25, 0x00, 0x0D]) 0 = some (-25000) := by decide
/-- The remainder 5 × 10^23: its digit stands in nibble 39. -/
theorem test_ld63_remainder : (nibbles (ld63Bytes (5 * 10 ^ 23))).getD 39 0 = 5 := by decide
/-- The accruals of chapter 11, periods 1 to 3. -/
theorem test_accrual_1 :
    accrueValue 100000000 35000000000 31 365 0 = some (297260, 273972602739726027397260) := by decide
theorem test_accrual_2 : accrueValue 100297260 35000000000 28 365 273972602739726027397260 =
    some (269291, 547397260273972602739725) := by decide
theorem test_accrual_3 : accrueValue 100566551 35000000000 32 365 547397260273972602739725 =
    some (308587 + 1, 320328767123287671232875) := by decide
/-- The handle of chapter 6: directory tag and index. -/
theorem test_handle : (hTag 0x40100345, hIndex 0x40100345) = (4, 0x345) := by decide
/-- The PIN example of chapter 8: PAN fields, and the checks of the format 0 PIN field. -/
def wPan : List Nat := [9, 9, 9, 0, 0, 0, 1, 2, 3, 4, 5, 6, 7, 8, 9, 7]
theorem test_pan_field0 : panField12 wPan = [0, 0, 0, 0, 0, 0, 0, 1, 2, 3, 4, 5, 6, 7, 8, 9] := by decide
theorem test_pan_field4 : (panField4 wPan).take 20 = [4, 9, 9, 9, 0, 0, 0, 1, 2, 3, 4, 5, 6, 7, 8, 9, 7, 0, 0, 0] := by
  decide
theorem test_pin_read : (readPin 0 [0, 4, 1, 2, 3, 4, 15, 15, 15, 15, 15, 15, 15, 15, 15, 15]).toOption = some [1, 2, 3, 4] := by
  decide
theorem test_pan_body : panDigits 16 [0x99, 0x90, 0x00, 0x12, 0x34, 0x56, 0x78, 0x97, 0xFF, 0xFF] = some wPan := by decide
/-- The GET_INFO example of chapter 20: the tick registers at tick 5,000,000,000, and the entry refused to tenant 7. -/
theorem test_info_tick : { wServing with tick := 5000000000 }.infoEntry 7 0x10 = natLE 4 0x10 ++ natLE 4 0x2A05F200 := by
  decide +kernel
theorem test_info_tickHigh : { wServing with tick := 5000000000 }.infoEntry 7 0x14 = natLE 4 0x14 ++ natLE 4 1 := by
  decide +kernel
theorem test_info_id : { wServing with tick := 5000000000 }.infoEntry 7 0 = natLE 4 0 ++ natLE 4 0x006400A0 := by
  decide +kernel
theorem test_info_refused : { wServing with tick := 5000000000 }.infoEntry 7 0xD0004 = natLE 4 0x800D0004 ++ zeros 4 := by
  decide +kernel

/-! ## Published vectors of the standards the spec names -/

/-- FIPS 197, appendix C.1. -/
theorem test_aes128 : aesBlock (natBE 16 0x000102030405060708090a0b0c0d0e0f) (natBE 16 0x00112233445566778899aabbccddeeff) =
    natBE 16 0x69c4e0d86a7b0430d8cdb78070b4c55a := by decide +kernel
/-- FIPS 180-4, SHA-256 of "abc". -/
theorem test_sha256 : sha256 (ascii "abc") =
    natBE 32 0xba7816bf8f01cfea414140de5dae2223b00361a396177a9cb410ff61f20015ad := by decide +kernel
/-- RFC 4493, example 1. -/
theorem test_cmac : aesCmac (natBE 16 0x2b7e151628aed2a6abf7158809cf4f3c) [] = natBE 16 0xbb1d6929e95937287fa37d129b756746 := by
  decide +kernel
/-- CRC-32C of "123456789". -/
theorem test_crc32c : crc32c (ascii "123456789") = 0xE3069283 := by decide +kernel

/-! ## One step of each kind -/

/-- A reset restarts the tick. -/
theorem test_reset_tick : ∃ t, exec (.powerOnReset 7) { State.reset with tick := 5 } = .next t ∧ t.tick = 0 := ⟨_, rfl, rfl⟩
/-- A record waits while the device is in BOOT. -/
theorem test_boot_waits : ∃ t, exec (.getRandom 9 wRef) { State.reset with waiting := [wRec] } = .next t ∧ t.waiting = [wRec] :=
  ⟨_, rfl, by decide +kernel⟩

end Sys2Proof.Tests
end

