-- ==== Sys2Proof/Tests/Slice0Boot.lean ====
section
/-! SUPPORT. Witnesses: states and operands that meet the hypotheses of the statements on resets, BOOT, the life cycle, tamper and barriers. -/

set_option autoImplicit false
set_option maxRecDepth 4000
set_option linter.unusedVariables false

namespace Sys2Proof.Tests

set_option Elab.async false

open Sys2Proof Sys2Proof.Machine

theorem witness_ResetsRestartTheTickAndKeepTheBatteryIsland_1 : ∃ (s : State) (t : Tick),
    let u := s.at t
    (u.mode ≠ .dormant ∨ u.sysReset = false) ∧
    (u.mode ≠ .replay) :=
  ⟨wWaiting, 9, by decide +kernel⟩

theorem witness_ResetsRestartTheTickAndKeepTheBatteryIsland_2 : ∃ (s : State) (t : Tick) (ns : Nat),
    let u := s.at t
    (10000 ≤ ns) ∧
    (u.mode ≠ .dormant) ∧
    (u.mode ≠ .replay) ∧
    (u.otpBusy = false) :=
  ⟨wWaiting, 9, 10000, by decide +kernel⟩

theorem witness_ResetsRestartTheTickAndKeepTheBatteryIsland_3 : ∃ (s : State) (t : Tick) (ns : Nat),
    let u := s.at t
    (10000 ≤ ns) ∧
    (u.mode ≠ .dormant) ∧
    (u.otpBusy = true) :=
  ⟨wLcs, 9, 10000, by decide +kernel⟩

theorem witness_ResetsRestartTheTickAndKeepTheBatteryIsland_4 : ∃ (s : State) (t : Tick),
    let u := s.at t
    (u.sysReset = true) ∧
    (u.mode ≠ .dormant) ∧
    (u.resetDue = false) :=
  ⟨{ State.reset with sysReset := true }, 9, by decide +kernel⟩

theorem witness_ResetsRestartTheTickAndKeepTheBatteryIsland_5 : ∃ (s : State) (t : Tick),
    let u := s.at t
    (u.mode ≠ .dormant) ∧
    (u.mode ≠ .replay) ∧
    (u.vbat = true) ∧
    (u.tmp.condition.getLsbD 17 = false) :=
  ⟨wWaiting, 9, by decide +kernel⟩

theorem witness_ResetsRestartTheTickAndKeepTheBatteryIsland_6 : ∃ (s : State) (t : Tick),
    let u := s.at t
    (u.mode = .dormant) :=
  ⟨wDormant, 9, by decide +kernel⟩

theorem witness_ResetsRestartTheTickAndKeepTheBatteryIsland_7 : ∃ (s : State) (t : Tick),
    let u := s.at t
    (u.mode = .dormant) ∧
    (u.vbat = false) :=
  ⟨{ wDormant with vbat := false }, 9, by decide +kernel⟩

theorem witness_BootRunsItsStages_1 : ∃ (s : State) (t : Tick) (bad : List Nat),
    let u := s.at t
    (u.inStage 1 = true) ∧
    (u.otp.lcs0 = u.otp.lcs1) ∧
    (u.otp.lcs1 = u.otp.lcs2) ∧
    (lifeOf u.otp.lcs0 ≠ .raw) ∧
    (u.tmp.severed = false) :=
  ⟨wBoot 1, 9, [], by decide +kernel⟩

theorem witness_BootRunsItsStages_2 : ∃ (s : State) (t : Tick),
    let u := s.at t
    (u.inStage 2 = true) ∧
    (u.untallied = []) ∧
    (u.tmp.overflow = 0) ∧
    (u.vault.marker = true) ∧
    (u.life ≠ .scrapped) ∧
    (u.life ≠ .locked) ∧
    (u.tmp.severed = false) :=
  ⟨wBoot 2, 9, by decide +kernel⟩

theorem witness_BootRunsItsStages_3 : ∃ (s : State) (t : Tick) (failed : List (Nat × Bool)),
    let u := s.at t
    (u.inStage 3 = true) :=
  ⟨wBoot 3, 9, [], by decide +kernel⟩

theorem witness_BootRunsItsStages_4 : ∃ (s : State) (t : Tick) (failed : List (Nat × Bool)) (s1 s2 : State),
    (s.at t).inStage 3 = true ∧ (s.at t).bootEntropy true failed = (s1, true) ∧ s1.bootDraws = some s2 ∧
    s2.tmp.severed = false := by
  have h : (((wBoot 3).at 9).bootEntropy true []).1.bootDraws.isSome = true ∧
      (((wBoot 3).at 9).bootEntropy true []).1.bootDraws.map (fun x => x.tmp.severed) = some false := by decide +kernel
  obtain ⟨y, hy⟩ := Option.isSome_iff_exists.mp h.1
  have h2 := h.2
  rw [hy] at h2
  exact ⟨wBoot 3, 9, [], _, y, by decide +kernel, Prod.ext rfl (by decide +kernel), hy, Option.some.inj h2⟩

theorem witness_BootRunsItsStages_5 : ∃ (s : State) (t : Tick) (h : Bytes) (flash : Nat),
    let u := s.at t
    (u.inStage 5 = true) ∧
    (u.recoveryReq = false) ∧
    (u.tmp.severed = false) :=
  ⟨wBoot 5, 9, [], 0, by decide +kernel⟩

theorem witness_BootRunsItsStages_6 : ∃ (s : State) (t : Tick),
    let u := s.at t
    (u.inStage 5 = true) ∧
    (u.recoveryReq = false) ∧
    (u.tmp.severed = false) :=
  ⟨wBoot 5, 9, by decide +kernel⟩

theorem wHeader_sections :
    sections wHeader = [(4, 0x1000, wSection.length, sha384 wSection)] := by
  have h : sub wHeader 0x110 48 = sha384 wSection := by
    unfold sub
    have e : wHeader.drop 0x110 = sha384 wSection := List.drop_left' (by decide +kernel)
    rw [e]
    exact List.take_of_length_le (by decide +kernel)
  have e1 : fld wHeader 6 2 = 1 := by decide +kernel
  have e2 : fld wHeader 0x100 2 = 4 ∧ fld wHeader 0x104 4 = 0x1000 ∧ fld wHeader 0x108 4 = wSection.length := by decide +kernel
  unfold sections
  rw [e1]
  show [(fld wHeader 0x100 2, fld wHeader 0x104 4, fld wHeader 0x108 4, sub wHeader 0x110 48)] = _
  rw [e2.1, e2.2.1, e2.2.2, h]

theorem witness_BootRunsItsStages_7 : ∃ (s : State) (t : Tick) (data : Bytes) (x : Settings) (en : Nat × Nat × Nat × Bytes),
    (s.at t).inStage 6 = true ∧ ((sections (s.at t).man.header).find? fun y => y.1 == 4) = some en ∧ en.2.2.2 = sha384 data ∧
    en.2.2.1 = data.length ∧ parseSettings (s.at t).otp.serial (s.at t).twinSerial data = some x ∧ (s.at t).host.linkUp = false ∧
    (s.at t).tmp.severed = false := by
  obtain ⟨y, hy⟩ := Option.isSome_iff_exists.mp
    (by decide +kernel : (parseSettings (wStage6.at 9).otp.serial (wStage6.at 9).twinSerial wSection).isSome = true)
  have h1 : (wStage6.at 9).inStage 6 = true := by decide +kernel
  have h2 : (wStage6.at 9).host.linkUp = false ∧ (wStage6.at 9).tmp.severed = false := by decide +kernel
  have key : ∀ d : Bytes, ((4, 0x1000, d.length, sha384 d) : Nat × Nat × Nat × Bytes).2.2.2 = sha384 d ∧
      ((4, 0x1000, d.length, sha384 d) : Nat × Nat × Nat × Bytes).2.2.1 = d.length := fun _ => ⟨rfl, rfl⟩
  refine Exists.intro wStage6 (Exists.intro 9 (Exists.intro wSection (Exists.intro y (Exists.intro
    (4, 0x1000, wSection.length, sha384 wSection) (And.intro h1 (And.intro ?_ (And.intro (key _).1 (And.intro (key _).2
      (And.intro hy h2)))))))))
  show ((sections wHeader).find? fun y => y.1 == 4) = _
  rw [wHeader_sections]
  rfl

theorem witness_BootRunsItsStages_8 : ∃ (s : State) (t : Tick) (data : List Bytes),
    let u := s.at t
    (u.inStage 7 = true) ∧
    (((firmware u.man.header data).all fun p => sha384 p.2 == p.1.2.2.2 && p.2.length == p.1.2.2.1) = true) ∧
    (u.tmp.severed = false) ∧
    (u.life = .issued ∨ u.life = .owned) :=
  ⟨wBoot 7, 9, [], by decide +kernel⟩

theorem witness_TransitionsAndTheTallyProgramOtp_1 : ∃ (s : State) (t : Tick),
    let u := s.at t
    (u.life = .raw) ∧
    (u.lifeBusy = false) ∧
    (u.glitching = false) ∧
    (u.mode ≠ .dormant) ∧
    (u.mode ≠ .felled) :=
  ⟨State.reset, 9, by decide +kernel⟩

theorem witness_TransitionsAndTheTallyProgramOtp_2 : ∃ (s : State) (t : Tick) (w : LcsWrite) (b copy : Nat) (x : Nat × Nat) (rest : List (Nat × Nat)),
    let u := s.at t
    (u.lcs.write = some w) ∧
    (w.todo = (b, copy) :: x :: rest) ∧
    (u.mainPower = true) :=
  ⟨wLcs, 9, { target := 1, todo := [(0, 0), (0, 1)] }, 0, 0, (0, 1), [], by decide +kernel⟩

theorem witness_TransitionsAndTheTallyProgramOtp_3 : ∃ (s : State) (t : Tick) (w : LcsWrite) (x : Nat × Nat) (rest : List (Nat × Nat)),
    let u := s.at t
    (u.lcs.write = some w) ∧
    (w.todo = x :: rest) ∧
    (w.retried = false) ∧
    (u.mainPower = true) :=
  ⟨wLcs, 9, { target := 1, todo := [(0, 0), (0, 1)] }, (0, 0), [(0, 1)], by decide +kernel⟩

theorem witness_TransitionsAndTheTallyProgramOtp_4 : ∃ (s : State) (t : Tick) (j : TallyJob) (rest : List TallyJob) (b : Nat),
    let u := s.at t
    (u.tal.queue = j :: rest) ∧
    (u.life ≠ .raw) ∧
    (u.mainPower = true) ∧
    (u.tallyBit j.cls = some b) ∧
    (u.resetDue = false) :=
  ⟨wTally, 9, { cls := 4 }, [], 0, by decide +kernel⟩

theorem witness_TamperConditionsAreSeenAndAnswered_1 : ∃ (s : State) (t : Tick) (c : Nat) (d : Word32),
    let u := s.at t
    (c ≤ 21) ∧
    (u.mode ≠ .dormant) ∧
    (u.sampled c d = false) ∧
    (u.debounce c ≠ 0) :=
  ⟨wServing, 9, 13, 1#32, by decide +kernel⟩

theorem witness_TamperConditionsAreSeenAndAnswered_2 : ∃ (s : State) (t : Tick) (c : Nat) (d : Word32),
    let u := s.at t
    (c ≤ 21) ∧
    (u.mode ≠ .dormant) ∧
    (u.sampled c d = false) ∧
    (u.debounce c = 0) ∧
    (u.armed c = true) ∧
    (u.response c = .fell) :=
  ⟨wApplied, 9, 0, 1#32, by decide +kernel⟩

theorem witness_TamperConditionsAreSeenAndAnswered_3 : ∃ (s : State) (t : Tick) (c : Nat),
    let u := s.at t
    (c ≤ 21) ∧
    (u.mode ≠ .dormant) ∧
    (u.sampled c (mapGet (0, 0) u.tmp.onset c).2 = false) :=
  ⟨wApplied, 9, 21, by decide +kernel⟩

theorem witness_TamperConditionsAreSeenAndAnswered_4 : ∃ (s : State) (t : Tick) (c : Nat) (first : Tick) (d : Word32),
    let u := s.at t
    (13 ≤ c) ∧
    (c ≤ 15) ∧
    (u.mode ≠ .dormant) ∧
    (d.getLsbD 0 = false) ∧
    (first + 10 ≤ u.tick) :=
  ⟨wServing, 19, 13, 9, 0#32, by decide +kernel⟩

theorem witness_TamperConditionsAreSeenAndAnswered_5 : ∃ (s : State) (t : Tick) (c : Nat) (first : Tick) (d : Word32),
    let u := s.at t
    (13 ≤ c) ∧
    (c ≤ 15) ∧
    (u.mode ≠ .dormant) ∧
    (u.tick < first + 10) ∧
    (u.armed c = false) :=
  ⟨{ wServing with tmp := { raised := 0x2000 } }, 9, 13, 9, 0#32, by decide +kernel⟩

theorem witness_TamperConditionsAreSeenAndAnswered_6 : ∃ (s : State) (t : Tick) (c : Nat) (d : Word32),
    let u := s.at t
    (c ≤ 21) ∧
    (c < 13 ∨ 15 < c) ∧
    (u.mode ≠ .dormant) ∧
    (u.mode ≠ .felled) ∧
    (u.tmp.condition.getLsbD c = true) ∧
    (u.armed c = true) ∧
    (u.sampled c d = false) ∧
    ((mapGet (0, 0) u.tmp.onset c).1 + u.debounce c ≤ u.tick) ∧
    (u.response c = .sever) :=
  ⟨wHeld, 99, 16, 3#32, by decide +kernel⟩

theorem witness_TamperConditionsAreSeenAndAnswered_7 : ∃ (s : State) (t : Tick) (c : Nat) (d : Word32),
    let u := s.at t
    (u.mode = .dormant) ∧
    (c ≤ 12) ∧
    (batteryClass c d = true) ∧
    (u.armed c = true) ∧
    (u.tmp.condition = 0) :=
  ⟨wDormant, 99, 12, 3#32, by decide +kernel⟩

theorem witness_TamperConditionsAreSeenAndAnswered_8 : ∃ (s : State) (t : Tick),
    let u := s.at t
    (u.mode = .felled) ∧
    (u.tmp.cleared = false) :=
  ⟨{ wServing with mode := .felled }, 99, by decide +kernel⟩

theorem witness_TamperConditionsAreSeenAndAnswered_9 : ∃ (s : State) (t : Tick) (a : ArrayKind) (w n : Nat),
    let u := s.at t
    (0 < n) :=
  ⟨wServing, 9, .cellar, 3, 3, by decide +kernel⟩

theorem witness_BarriersGatherAcknowledgementsOrTimeOut_1 : ∃ (s : State) (t : Tick) (b : Barrier) (bs : List Barrier),
    let u := s.at t
    (u.barrier = none) ∧
    (u.barrierQ = b :: bs) ∧
    (barrierLegal u.life u.mode b.target = true) :=
  ⟨wBarrierQ, 9, { target := .drowse, cause := .doorbell }, [], by decide +kernel⟩

theorem witness_BarriersGatherAcknowledgementsOrTimeOut_2 : ∃ (s : State) (t : Tick) (i : Nat) (stamp : Tick) (b : Barrier),
    let u := s.at t
    (i ≤ 12) ∧
    (u.barrier = some b) ∧
    (governs stamp u.tick (b.request + 100000) = true) ∧
    (u.islandBusy i = false) ∧
    (((List.range 13).all (i :: b.acks.filter (· != i)).contains) = false) :=
  ⟨wBarrier, 9, 12, 9, { target := .drowse, cause := .following, request := 5 }, by decide +kernel⟩

theorem witness_BarriersGatherAcknowledgementsOrTimeOut_3 : ∃ (s : State) (t : Tick) (i : Nat) (stamp : Tick),
    let u := s.at t
    (i ≤ 12) ∧
    (u.barrier = none) :=
  ⟨wServing, 9, 12, 9, by decide +kernel⟩

theorem witness_BarriersGatherAcknowledgementsOrTimeOut_4 : ∃ (s : State) (t : Tick) (b : Barrier) (r : RecRef) (run : Run),
    let u := s.at t
    (u.barrier = some b) ∧
    (b.request + 100000 + 2 ≤ u.tick) ∧
    (b.cause = .command r) ∧
    ((u.running.find? fun x => x.record.ref == r) = some run) :=
  ⟨wBarrierCmd, 100020, { target := .drowse, cause := .command wRef, request := 5 }, wRef, { record := wRec, stage := .barrier }, by decide +kernel⟩

theorem witness_BarriersGatherAcknowledgementsOrTimeOut_5 : ∃ (s : State) (t : Tick) (b : Barrier),
    let u := s.at t
    (u.barrier = some b) ∧
    (b.request + 100000 + 2 ≤ u.tick) ∧
    (b.cause = .following) :=
  ⟨wBarrier, 100020, { target := .drowse, cause := .following, request := 5 }, by decide +kernel⟩

theorem witness_BarriersGatherAcknowledgementsOrTimeOut_6 : ∃ (s : State) (t : Tick) (run : Run),
    let u := s.at t
    (u.running = [run]) ∧
    (run.stage = .base) :=
  ⟨wBase, 9, { record := wRec, stage := .base }, by decide +kernel⟩

theorem witness_BarriersGatherAcknowledgementsOrTimeOut_7 : ∃ (s : State) (t : Tick),
    let u := s.at t
    (u.tmp.severed = true) ∧
    (u.tmp.drained = false) ∧
    (u.running = []) ∧
    (u.mode ≠ .felled) ∧
    (u.mode ≠ .dormant) :=
  ⟨{ wServing with tmp := { severed := true } }, 9, by decide +kernel⟩

theorem witness_BarriersGatherAcknowledgementsOrTimeOut_8 : ∃ (s : State) (t : Tick) (ch0 ch1 mis : Bool) (config : Word32),
    let u := s.at t
    (u.smc.trained = false) ∧
    (u.smc.keys ≠ []) ∧
    (u.unitOn 16 0 = true) ∧
    (u.mode ≠ .dormant) ∧
    (u.mode ≠ .felled) ∧
    ((ch0 || (ch1 && !mis)) = true) ∧
    ((u.running.all fun x => x.stage != .sdram) = true) :=
  ⟨wUntrained, 9, true, true, true, 0x1FFF#32, by decide +kernel⟩

theorem witness_BarriersGatherAcknowledgementsOrTimeOut_9 : ∃ (s : State) (t : Tick) (x : List (Option Nat) × Nat × Rec × Tick × List CaptureItem),
    let u := s.at t
    (u.mode = .replay) ∧
    (u.rpl.halted = false) ∧
    (nextCommand u.rpl.items = some x) ∧
    (u.rpl.brk = x.2.1) ∧
    (u.rpl.broke = false) :=
  ⟨wReplay, 9, ([], 3, wRec, 5, []), by decide +kernel⟩

theorem witness_BarriersGatherAcknowledgementsOrTimeOut_10 : ∃ (s : State) (t c : Tick),
    let u := s.at t
    (u.log.freeze = some c) ∧
    (c ≤ u.tick) :=
  ⟨{ wServing with log := { freeze := some 9 } }, 9, 9, by decide +kernel⟩

end Sys2Proof.Tests
end

