-- ==== Sys2Proof/Tests/Slice0Caravan.lean ====
section
/-! SUPPORT. Witnesses: states and operands that meet the hypotheses of the statements on the caravan, the epoch protocol and cross-home postings. -/

set_option autoImplicit false
set_option maxRecDepth 4000
set_option linter.unusedVariables false

namespace Sys2Proof.Tests

set_option Elab.async false

open Sys2Proof Sys2Proof.Machine

theorem witness_TheCaravanForwardsMovesAndProbes_1 : ∃ (s : State) (t : Tick) (m : Msg),
    let u := s.at t
    let v := u.took 0x0003 m
    (u.mode ∉ [Mode.dormant, .boot, .recovery, .felled]) ∧
    ((v.mine m false) = true) ∧
    (v.pairOf m.src ≠ 0) :=
  ⟨{ wMember {} with man := { set := { (wMember {}).man.set with twinOf := List.replicate 64 255 }, applied := true } }, 9, { wAsk .routeProbe with src := 1 }, by decide +kernel⟩

theorem witness_TheCaravanForwardsMovesAndProbes_2 : ∃ (s : State) (t : Tick) (m : Msg) (ser e : Nat),
    let u := s.at t
    let v := u.took 0x0004 m
    (u.mode ∉ [Mode.dormant, .boot, .recovery, .felled]) ∧
    (m.body = .routeEcho ser e) ∧
    ((v.mine m true) = true) ∧
    (((mapFind v.man.set.routes m.src).map (·.serial)) = some ser) ∧
    (v.lead = true) ∧
    (e < v.car.epoch) :=
  ⟨wMember { epoch := 3 }, 9, wTell (.routeEcho 77 2), 77, 2, by decide +kernel⟩

theorem witness_TheCaravanForwardsMovesAndProbes_3 : ∃ (s : State) (t : Tick) (m : Msg) (ser e : Nat),
    let u := s.at t
    let v := u.took 0x0004 m
    (u.mode ∉ [Mode.dormant, .boot, .recovery, .felled]) ∧
    (m.body = .routeEcho ser e) ∧
    ((v.mine m true) = true) ∧
    (((mapFind v.man.set.routes m.src).map (·.serial)) ≠ some ser) :=
  ⟨wMember {}, 9, wTell (.routeEcho 78 2), 78, 2, by decide +kernel⟩

theorem witness_TheCaravanForwardsMovesAndProbes_4 : ∃ (s : State) (t : Tick) (m : Msg) (tn sl : Nat) (r i n : Bytes),
    let u := s.at t
    let v := u.took 0x0220 m
    (u.mode ∉ [Mode.dormant, .boot, .recovery, .felled]) ∧
    (m.body = .forward tn r i sl n) ∧
    ((v.mine m false) = true) ∧
    (v.mode ≠ .muster) ∧
    (m.epoch = v.car.epoch) ∧
    (v.serving = true) ∧
    ((v.waiting.any (fun x => x.ref == .forwarded m.src m.txn) || v.running.any (fun x => x.record.ref == .forwarded m.src m.txn)) = false) :=
  ⟨wMember {}, 9, wAsk (.forward 1 [] [] 0 []), 1, 0, [], [], [], by decide +kernel⟩

theorem witness_TheCaravanForwardsMovesAndProbes_5 : ∃ (s : State) (t : Tick) (m : Msg) (tn sl : Nat) (r i n : Bytes),
    let u := s.at t
    let v := u.took 0x0220 m
    (u.mode ∉ [Mode.dormant, .boot, .recovery, .felled]) ∧
    (m.body = .forward tn r i sl n) ∧
    ((v.mine m false) = true) ∧
    (v.mode ≠ .muster) ∧
    (v.car.epoch < m.epoch) :=
  ⟨wMember {}, 9, { wAsk (.forward 1 [] [] 0 []) with epoch := 1 }, 1, 0, [], [], [], by decide +kernel⟩

theorem witness_TheCaravanForwardsMovesAndProbes_6 : ∃ (s : State) (t : Tick) (m : Msg) (st : Status) (d : Nat) (lone : Bool) (b o : Bytes) (f : Forward) (run : Run),
    let u := s.at t
    let v := u.took 0x0221 m
    (u.mode ∉ [Mode.dormant, .boot, .recovery, .felled]) ∧
    (m.body = .result st d lone b o) ∧
    ((v.mine m true) = true) ∧
    ((v.car.fwd.find? fun f => f.txn == m.txn && f.todo.contains m.src) = some f) ∧
    (governs m.stamp v.tick (f.sent + v.man.set.caravanTimeout) = true) ∧
    (v.car.behind.contains m.src = false) ∧
    (st ≠ .twinFenced) ∧
    (v.fwdRun f = some run) ∧
    (visitOps.contains ((nativeOp run.op).getD 0) = false) :=
  ⟨{ wMember { fwd := [{ txn := 7, ref := wRef, todo := [1] }] } with running := [{ record := wRec, stage := .member 7 }] }, 9, wTell (.result .ok 0 false [1] []), .ok, 0, false, [1], [], { txn := 7, ref := wRef, todo := [1] }, { record := wRec, stage := .member 7 }, by decide +kernel⟩

theorem witness_TheCaravanForwardsMovesAndProbes_7 : ∃ (s : State) (t : Tick) (m : Msg) (n : Nat) (cs : List Change),
    let u := s.at t
    let v := u.took 0x0230 m
    (u.mode ∉ [Mode.dormant, .boot, .recovery, .felled]) ∧
    (m.body = .ladingMove n cs) ∧
    ((v.mine m false) = true) ∧
    (m.epoch = v.car.epoch) ∧
    (n = v.car.move + 1) :=
  ⟨wMember {}, 9, wAsk (.ladingMove 1 []), 1, [], by decide +kernel⟩

theorem witness_TheCaravanForwardsMovesAndProbes_8 : ∃ (s : State) (t : Tick) (m : Msg) (n : Nat) (cs : List Change),
    let u := s.at t
    let v := u.took 0x0230 m
    (u.mode ∉ [Mode.dormant, .boot, .recovery, .felled]) ∧
    (m.body = .ladingMove n cs) ∧
    ((v.mine m false) = true) ∧
    (m.epoch = v.car.epoch) ∧
    (n ≠ v.car.move + 1) ∧
    (n ≠ 1) :=
  ⟨wMember { move := 4 }, 9, wAsk (.ladingMove 3 []), 3, [], by decide +kernel⟩

theorem witness_TheCaravanForwardsMovesAndProbes_9 : ∃ (s : State) (t : Tick) (m : Msg) (k : Nat) (w : Move),
    let u := s.at t
    let v := u.took 0x0231 m
    (u.mode ∉ [Mode.dormant, .boot, .recovery, .felled]) ∧
    (m.body = .ladingAck k) ∧
    ((v.mine m true) = true) ∧
    ((v.car.moves.find? fun v => v.txn == m.txn) = some w) ∧
    (governs m.stamp v.tick (w.sent + v.man.set.caravanTimeout) = true) ∧
    (w.num ≤ k) :=
  ⟨wMember { moves := [{ num := 1, txn := 7, waiting := [1] }] }, 9, wTell (.ladingAck 1), 1, { num := 1, txn := 7, waiting := [1] }, by decide +kernel⟩

theorem witness_TheCaravanForwardsMovesAndProbes_10 : ∃ (s : State) (t : Tick) (n : Nat) (f : Forward),
    let u := s.at t
    ((u.car.fwd.find? fun f => f.txn == n) = some f) ∧
    (f.sent + u.man.set.caravanTimeout + 2 ≤ u.tick) ∧
    (u.reachable (f.todo.headD 0) = true) :=
  ⟨wMember { fwd := [{ txn := 7, ref := wRef, todo := [1] }] }, 102, 7, { txn := 7, ref := wRef, todo := [1] }, by decide +kernel⟩

theorem witness_TheEpochProtocolPreparesCommitsAndRollsBack_1 : ∃ (s : State) (t : Tick) (m : Msg) (tg : Mode),
    let u := s.at t
    let v := u.took 0x0210 m
    (u.mode ∉ [Mode.dormant, .boot, .recovery, .felled]) ∧
    (m.body = .epochPrepare tg) ∧
    ((v.mine m false) = true) ∧
    (m.epoch = v.car.epoch + 1) ∧
    (v.car.prepared = none) ∧
    (v.modeCondition tg = none) :=
  ⟨wMember {}, 9, { wAsk (.epochPrepare .drowse) with epoch := 1 }, .drowse, by decide +kernel⟩

theorem witness_TheEpochProtocolPreparesCommitsAndRollsBack_2 : ∃ (s : State) (t : Tick) (m : Msg) (tg : Mode) (st : Status),
    let u := s.at t
    let v := u.took 0x0210 m
    (u.mode ∉ [Mode.dormant, .boot, .recovery, .felled]) ∧
    (m.body = .epochPrepare tg) ∧
    ((v.mine m false) = true) ∧
    (m.epoch = v.car.epoch + 1) ∧
    (v.car.prepared = none) ∧
    (v.modeCondition tg = some st) :=
  ⟨wMember {}, 9, { wAsk (.epochPrepare .boot) with epoch := 1 }, .boot, .modeForbidden, by decide +kernel⟩

theorem witness_TheEpochProtocolPreparesCommitsAndRollsBack_3 : ∃ (s : State) (t : Tick) (m : Msg) (tg : Mode),
    let u := s.at t
    let v := u.took 0x0210 m
    (u.mode ∉ [Mode.dormant, .boot, .recovery, .felled]) ∧
    (m.body = .epochPrepare tg) ∧
    ((v.mine m false) = true) ∧
    (m.epoch ≤ v.car.epoch) :=
  ⟨wMember {}, 9, wAsk (.epochPrepare .drowse), .drowse, by decide +kernel⟩

theorem witness_TheEpochProtocolPreparesCommitsAndRollsBack_4 : ∃ (s : State) (t : Tick) (m : Msg) (tg : Mode),
    let u := s.at t
    let v := u.took 0x0212 m
    (u.mode ∉ [Mode.dormant, .boot, .recovery, .felled]) ∧
    (m.body = .epochCommit tg) ∧
    ((v.mine m false) = true) ∧
    (m.epoch ≤ v.car.epoch) :=
  ⟨wMember {}, 9, wAsk (.epochCommit .drowse), .drowse, by decide +kernel⟩

theorem witness_TheEpochProtocolPreparesCommitsAndRollsBack_5 : ∃ (s : State) (t : Tick) (m : Msg),
    let u := s.at t
    let v := u.took 0x0212 m
    (u.mode ∉ [Mode.dormant, .boot, .recovery, .felled]) ∧
    (m.body = .epochCommit v.mode) ∧
    ((v.mine m false) = true) ∧
    (v.car.epoch < m.epoch) ∧
    (v.car.committing = none) :=
  ⟨wMember {}, 9, { wAsk (.epochCommit .service) with epoch := 1 }, by decide +kernel⟩

theorem witness_TheEpochProtocolPreparesCommitsAndRollsBack_6 : ∃ (s : State) (t : Tick) (m : Msg) (tg : Mode),
    let u := s.at t
    let v := u.took 0x0212 m
    (u.mode ∉ [Mode.dormant, .boot, .recovery, .felled]) ∧
    (m.body = .epochCommit tg) ∧
    ((v.mine m false) = true) ∧
    (v.car.epoch < m.epoch) ∧
    (v.car.committing = none) ∧
    (v.modeCondition tg = none) ∧
    (v.mode ≠ tg) :=
  ⟨wMember {}, 9, { wAsk (.epochCommit .drowse) with epoch := 1 }, .drowse, by decide +kernel⟩

theorem witness_TheEpochProtocolPreparesCommitsAndRollsBack_7 : ∃ (s : State) (t : Tick) (m : Msg) (p : Mode × Nat),
    let u := s.at t
    let v := u.took 0x0213 m
    (u.mode ∉ [Mode.dormant, .boot, .recovery, .felled]) ∧
    ((v.mine m false) = true) ∧
    (v.car.prepared = some p) ∧
    (m.epoch = v.car.epoch + 1) :=
  ⟨wMember { prepared := some (.drowse, 7) }, 9, { wAsk .epochRollback with epoch := 1 }, (.drowse, 7), by decide +kernel⟩

theorem witness_TheEpochProtocolPreparesCommitsAndRollsBack_8 : ∃ (s : State) (t : Tick) (m : Msg) (e : Nat) (x : EpochChange),
    let u := s.at t
    let v := u.took 0x0211 m
    (u.mode ∉ [Mode.dormant, .boot, .recovery, .felled]) ∧
    (m.body = .epochReady .ok e) ∧
    ((v.mine m true) = true) ∧
    (v.car.change = some x) ∧
    (m.txn = x.txn) ∧
    (x.phase = 0) ∧
    (governs m.stamp v.tick (x.start + 50000) = true) ∧
    (x.participants.contains m.src = true) :=
  ⟨wMember { change := some { target := .drowse, epoch := 1, txn := 7, participants := [1] } }, 9, wTell (.epochReady .ok 0), 0, { target := .drowse, epoch := 1, txn := 7, participants := [1] }, by decide +kernel⟩

theorem witness_TheEpochProtocolPreparesCommitsAndRollsBack_9 : ∃ (s : State) (t : Tick) (m : Msg) (st : Status) (e : Nat) (x : EpochChange),
    let u := s.at t
    let v := u.took 0x0211 m
    (u.mode ∉ [Mode.dormant, .boot, .recovery, .felled]) ∧
    (m.body = .epochReady st e) ∧
    ((v.mine m true) = true) ∧
    (v.car.change = some x) ∧
    (m.txn = x.txn) ∧
    (x.phase = 0) ∧
    (governs m.stamp v.tick (x.start + 50000) = true) ∧
    (st ≠ .ok) :=
  ⟨wMember { change := some { target := .drowse, epoch := 1, txn := 7, participants := [1] } }, 9, wTell (.epochReady .busy 0), .busy, 0, { target := .drowse, epoch := 1, txn := 7, participants := [1] }, by decide +kernel⟩

theorem witness_TheEpochProtocolPreparesCommitsAndRollsBack_10 : ∃ (s : State) (t : Tick) (x : EpochChange),
    let u := s.at t
    (u.car.change = some x) ∧
    (x.phase = 0) ∧
    (x.start + 50000 + 2 ≤ u.tick) :=
  ⟨wMember { change := some { target := .drowse, epoch := 1, txn := 7, participants := [1] } }, 50002, { target := .drowse, epoch := 1, txn := 7, participants := [1] }, by decide +kernel⟩

theorem witness_TheEpochProtocolPreparesCommitsAndRollsBack_11 : ∃ (s : State) (t : Tick) (m : Msg) (st : Status) (e : Nat) (x : EpochChange),
    let u := s.at t
    let v := u.took 0x0215 m
    (u.mode ∉ [Mode.dormant, .boot, .recovery, .felled]) ∧
    (m.body = .epochDone st e) ∧
    ((v.mine m true) = true) ∧
    (v.car.undo = some x) ∧
    (x.txn = m.txn) ∧
    (st ≠ .ok) :=
  ⟨wMember { undo := some { target := .drowse, epoch := 1, txn := 7, participants := [1] } }, 9, wTell (.epochDone .busy 0), .busy, 0, { target := .drowse, epoch := 1, txn := 7, participants := [1] }, by decide +kernel⟩

theorem witness_TheEpochProtocolPreparesCommitsAndRollsBack_12 : ∃ (s : State) (t : Tick) (m : Msg) (e : Nat),
    let u := s.at t
    let v := u.took 0x0214 m
    (u.mode ∉ [Mode.dormant, .boot, .recovery, .felled]) ∧
    (m.body = .epochRefuse .epochBehind e) ∧
    ((v.mine m true) = true) ∧
    (v.lead = true) :=
  ⟨wMember { epoch := 3 }, 9, wTell (.epochRefuse .epochBehind 2), 2, by decide +kernel⟩

theorem witness_CrossHomePostingsPrepareDecideAndSettle_1 : ∃ (s : State) (t : Tick) (m : Msg) (l pt n hz : Nat) (a hm : Bool) (id vd : Bytes) (lg : List PrepLeg) (x : Prepared),
    let u := s.at t
    let v := u.took 0x0201 m
    (u.mode ∉ [Mode.dormant, .boot, .recovery, .felled]) ∧
    (m.body = .legPrepare l a hm pt n id hz vd lg) ∧
    ((v.mine m false) = true) ∧
    (m.epoch = v.car.epoch) ∧
    (v.serving = true) ∧
    (v.preparedHere l id = some x) ∧
    (x.mirror = none) :=
  ⟨{ wMember {} with board := { prepared := [{ ledger := 1, id := [2], lead := 1, txn := 7, anchor := true, home := false, post := { kind := 1 } }] } }, 9, wAsk (.legPrepare 1 true false 0 1 [2] 0 [] []), 1, 0, 1, 0, true, false, [2], [], [], { ledger := 1, id := [2], lead := 1, txn := 7, anchor := true, home := false, post := { kind := 1 } }, by decide +kernel⟩

theorem witness_CrossHomePostingsPrepareDecideAndSettle_2 : ∃ (s : State) (t : Tick) (m : Msg) (l pt n hz : Nat) (a hm : Bool) (id vd : Bytes) (lg : List PrepLeg) (y : Settled),
    let u := s.at t
    let v := u.took 0x0201 m
    (u.mode ∉ [Mode.dormant, .boot, .recovery, .felled]) ∧
    (m.body = .legPrepare l a hm pt n id hz vd lg) ∧
    ((v.mine m false) = true) ∧
    (m.epoch = v.car.epoch) ∧
    (v.serving = true) ∧
    (v.preparedHere l id = none) ∧
    (v.settledHere l id = some y) :=
  ⟨{ wMember {} with board := { settled := [{ ledger := 1, id := [2], outcome := 0 }] } }, 9, wAsk (.legPrepare 1 true false 0 1 [2] 0 [] []), 1, 0, 1, 0, true, false, [2], [], [], { ledger := 1, id := [2], outcome := 0 }, by decide +kernel⟩

theorem witness_CrossHomePostingsPrepareDecideAndSettle_3 : ∃ (s : State) (t : Tick) (m : Msg) (l : Nat) (a hm : Bool) (id vd : Bytes) (lg : List LegRecord) (x : Prepared),
    let u := s.at t
    let v := u.took 0x0204 m
    (u.mode ∉ [Mode.dormant, .boot, .recovery, .felled]) ∧
    (m.body = .legCommit l a hm id vd lg) ∧
    ((v.mine m false) = true) ∧
    (m.epoch = v.car.epoch) ∧
    (v.serving = true) ∧
    (v.preparedHere l id = some x) :=
  ⟨{ wMember {} with board := { prepared := [{ ledger := 1, id := [2], lead := 1, txn := 7, anchor := true, home := false, post := { kind := 1 } }] } }, 9, wAsk (.legCommit 1 true false [2] [] []), 1, true, false, [2], [], [], { ledger := 1, id := [2], lead := 1, txn := 7, anchor := true, home := false, post := { kind := 1 } }, by decide +kernel⟩

theorem witness_CrossHomePostingsPrepareDecideAndSettle_4 : ∃ (s : State) (t : Tick) (m : Msg) (l : Nat) (a hm : Bool) (id vd : Bytes) (lg : List LegRecord),
    let u := s.at t
    let v := u.took 0x0204 m
    (u.mode ∉ [Mode.dormant, .boot, .recovery, .felled]) ∧
    (m.body = .legCommit l a hm id vd lg) ∧
    ((v.mine m false) = true) ∧
    (m.epoch = v.car.epoch) ∧
    (v.serving = true) ∧
    (v.preparedHere l id = none) ∧
    (v.settledHere l id = none) :=
  ⟨wMember {}, 9, wAsk (.legCommit 1 true false [2] [] []), 1, true, false, [2], [], [], by decide +kernel⟩

theorem witness_CrossHomePostingsPrepareDecideAndSettle_5 : ∃ (s : State) (t : Tick) (m : Msg) (l : Nat) (id : Bytes) (x : Prepared),
    let u := s.at t
    let v := u.took 0x0205 m
    (u.mode ∉ [Mode.dormant, .boot, .recovery, .felled]) ∧
    (m.body = .legAbort l id) ∧
    ((v.mine m false) = true) ∧
    (m.epoch = v.car.epoch) ∧
    (v.serving = true) ∧
    (v.preparedHere l id = some x) ∧
    (x.mirror = none) :=
  ⟨{ wMember {} with board := { prepared := [{ ledger := 1, id := [2], lead := 1, txn := 7, anchor := true, home := false, post := { kind := 1 } }] } }, 9, wAsk (.legAbort 1 [2]), 1, [2], { ledger := 1, id := [2], lead := 1, txn := 7, anchor := true, home := false, post := { kind := 1 } }, by decide +kernel⟩

theorem witness_CrossHomePostingsPrepareDecideAndSettle_6 : ∃ (s : State) (t : Tick) (m : Msg) (l pt n : Nat) (a hm : Bool) (id : Bytes) (lg : List PreparedLeg),
    let u := s.at t
    let v := u.took 0x0202 m
    (u.mode ∉ [Mode.dormant, .boot, .recovery, .felled]) ∧
    (m.body = .legPrepared l a hm pt n id lg) ∧
    ((v.mine m true) = true) ∧
    (v.crossOf l id = none) :=
  ⟨wMember {}, 9, wTell (.legPrepared 1 true false 0 1 [2] []), 1, 0, 1, true, false, [2], [], by decide +kernel⟩

theorem witness_CrossHomePostingsPrepareDecideAndSettle_7 : ∃ (s : State) (t : Tick) (m : Msg) (l : Nat) (a hm : Bool) (id : Bytes) (lg : List PreparedLeg) (x : CrossHome),
    let u := s.at t
    let v := u.took 0x0202 m
    (u.mode ∉ [Mode.dormant, .boot, .recovery, .felled]) ∧
    (m.body = .legPrepared l a hm 0 1 id lg) ∧
    ((v.mine m true) = true) ∧
    (v.crossOf l id = some x) ∧
    (x.decided = none) ∧
    (governs m.stamp v.tick (x.first + 5000) = true) ∧
    (v.partsOf m.src m.txn = []) :=
  ⟨{ wMember {} with board := { cross := [{ txn := 7, post := { kind := 1, ledger := 1, id := [2] }, participants := [1] }] } }, 9, wTell (.legPrepared 1 true false 0 1 [2] []), 1, true, false, [2], [], { txn := 7, post := { kind := 1, ledger := 1, id := [2] }, participants := [1] }, by decide +kernel⟩

theorem witness_CrossHomePostingsPrepareDecideAndSettle_8 : ∃ (s : State) (t : Tick) (m : Msg) (l d : Nat) (id : Bytes) (st : Status) (x : CrossHome),
    let u := s.at t
    let v := u.took 0x0203 m
    (u.mode ∉ [Mode.dormant, .boot, .recovery, .felled]) ∧
    (m.body = .legRefused l id st d) ∧
    ((v.mine m true) = true) ∧
    (v.crossOf l id = some x) ∧
    (x.decided = none) ∧
    (governs m.stamp v.tick (x.first + 5000) = true) :=
  ⟨{ wMember {} with board := { cross := [{ txn := 7, post := { kind := 1, ledger := 1, id := [2] }, participants := [1] }] } }, 9, wTell (.legRefused 1 [2] .busy 0), 1, 0, [2], .busy, { txn := 7, post := { kind := 1, ledger := 1, id := [2] }, participants := [1] }, by decide +kernel⟩

theorem witness_CrossHomePostingsPrepareDecideAndSettle_9 : ∃ (s : State) (t : Tick) (m : Msg) (l o q : Nat) (id e : Bytes) (st : Status),
    let u := s.at t
    let v := u.took 0x0206 m
    (u.mode ∉ [Mode.dormant, .boot, .recovery, .felled]) ∧
    (m.body = .legDone l id o st q e) ∧
    ((v.mine m true) = true) :=
  ⟨wMember {}, 9, wTell (.legDone 1 [2] 0 .ok 0 []), 1, 0, 0, [2], [], .ok, by decide +kernel⟩

theorem witness_CrossHomePostingsPrepareDecideAndSettle_10 : ∃ (s : State) (t : Tick) (m : Msg) (l : Nat) (id : Bytes),
    let u := s.at t
    let v := u.took 0x0207 m
    (u.mode ∉ [Mode.dormant, .boot, .recovery, .felled]) ∧
    (m.body = .legReport [(l, id)]) ∧
    ((v.mine m false) = true) ∧
    (m.epoch = v.car.epoch) ∧
    (v.lead = true) ∧
    ((v.board.decisions.find? fun d => d.ledger == l && d.id == id) = none) ∧
    (v.crossOf l id = none) :=
  ⟨wMember {}, 9, wAsk (.legReport [(1, [2])]), 1, [2], by decide +kernel⟩

theorem witness_CrossHomePostingsPrepareDecideAndSettle_11 : ∃ (s : State) (t : Tick) (l : Nat) (id : Bytes) (x : CrossHome) (run : Run),
    let u := s.at t
    (u.crossOf l id = some x) ∧
    (x.decided = none) ∧
    (x.first + 5000 + 2 ≤ u.tick) ∧
    (u.crossRun x = some run) :=
  ⟨{ wMember {} with board := { cross := [{ ref := some wRef, txn := 7, post := { kind := 1, ledger := 1, id := [2] }, participants := [1] }] }, running := [{ record := wRec, stage := .crossHome 1 [2] }] }, 5002, 1, [2], { ref := some wRef, txn := 7, post := { kind := 1, ledger := 1, id := [2] }, participants := [1] }, { record := wRec, stage := .crossHome 1 [2] }, by decide +kernel⟩

theorem witness_CrossHomePostingsPrepareDecideAndSettle_12 : ∃ (s : State) (t : Tick) (l d : Nat) (id : Bytes) (x : CrossHome) (run : Run),
    let u := s.at t
    (u.crossOf l id = some x) ∧
    (x.decided = some d) ∧
    (u.crossRun x = some run) ∧
    (d + 50000 + 2 ≤ u.tick) :=
  ⟨{ wMember {} with board := { cross := [{ ref := some wRef, txn := 7, post := { kind := 1, ledger := 1, id := [2] }, participants := [1], decided := some 0 }] }, running := [{ record := wRec, stage := .crossHome 1 [2] }] }, 50002, 1, 0, [2], { ref := some wRef, txn := 7, post := { kind := 1, ledger := 1, id := [2] }, participants := [1], decided := some 0 }, { record := wRec, stage := .crossHome 1 [2] }, by decide +kernel⟩

theorem witness_CrossHomePostingsPrepareDecideAndSettle_13 : ∃ (s : State) (t : Tick) (r : RecRef) (run : Run) (p : Posting),
    let u := s.at t
    (r.ok = true) ∧
    ((u.running.find? fun x => x.record.ref == r && x.stage == .context) = some run) ∧
    (run.res.post = some p) ∧
    (p.row = 5) ∧
    (u.foreign (.command r) (.posting p.ledger p.id) = none) :=
  ⟨{ wServing with running := [{ record := wRec, stage := .context, res := { post := some { kind := 1, row := 5 } } }] }, 9, wRef, { record := wRec, stage := .context, res := { post := some { kind := 1, row := 5 } } }, { kind := 1, row := 5 }, by decide +kernel⟩

theorem witness_CrossHomePostingsPrepareDecideAndSettle_14 : ∃ (s : State) (t : Tick) (l n : Nat) (run : Run) (h : Head),
    let u := s.at t
    ((u.running.find? fun x => x.stage == .checkpoint l) = some run) ∧
    ((u.board.heads.find? fun p => p.2.ledger == l) = some (n, h)) ∧
    (u.assigned l = false) :=
  ⟨{ wServing with running := [{ record := wRec, stage := .checkpoint 1 }], board := { heads := [(0, { ledger := 1 })] } }, 9, 1, 0, { record := wRec, stage := .checkpoint 1 }, { ledger := 1 }, by decide +kernel⟩

theorem witness_CrossHomePostingsPrepareDecideAndSettle_15 : ∃ (s : State) (t : Tick) (l n i : Nat) (h : Head) (k : JournalBlock) (v w : State) (m r : Bytes),
    let u := s.at t
    ((u.board.heads.find? fun p => p.2.ledger == l) = some (n, h)) ∧
    ((u.board.blocks.reverse.find? fun k => k.ledger == l && k.signature.isNone) = some k) ∧
    (u.resolve (some h.tenant) (u.desc n).signHandle signNeed = (v, .ok i)) ∧
    (v.material i = .ok m) ∧
    (v.random 56 = some (w, r)) ∧
    ((w.laneAny .bigNumber && w.laneAny .digest) = true) :=
  ⟨{ wTwoKeys {} { type := 0x11, keyBits := 384, usage := useBit 4 ||| useBit 13, material := zeros 104 } with board := { desc := [(0, { sealHandle := 0, journalHandle := 0, signHandle := mkHandle 6 1, window := 0, channels := [], currencies := [] })], heads := [(0, { ledger := 1 })], blocks := [{ ledger := 1, first := 1, last := 1, epoch := 0, lastHash := [], signature := none }] } }, 9, 1, 0, 8, { ledger := 1 }, { ledger := 1, first := 1, last := 1, epoch := 0, lastHash := [], signature := none }, _, _, zeros 104, _, by exact ⟨by decide +kernel, by decide +kernel, wRes _ _ (by decide +kernel), wOk _ _ (by decide +kernel), wSome _ (by decide +kernel), by decide +kernel⟩⟩

end Sys2Proof.Tests
end

