-- ==== Sys2Proof/Tests/Slice0Cards.lean ====
section
/-! SUPPORT. Witnesses: states and operands that meet the hypotheses of the statements on the card ports and the transit port. -/

set_option autoImplicit false
set_option maxRecDepth 4000
set_option linter.unusedVariables false

namespace Sys2Proof.Tests

set_option Elab.async false

open Sys2Proof Sys2Proof.Machine

theorem witness_CardPortsFollowPresenceAndCurrent_1 : ∃ (s : State) (t : Tick) (n : Nat),
    let u := s.at t
    let p := u.cardPort n
    (n ≤ 3) ∧
    (u.unitOn 11 0 = true) ∧
    (p.present = false) :=
  ⟨wCard {}, 9, 1, by decide +kernel⟩

theorem witness_CardPortsFollowPresenceAndCurrent_2 : ∃ (s : State) (t : Tick) (n : Nat) (e : Tick),
    let u := s.at t
    let p := u.cardPort n
    (n ≤ 3) ∧
    (u.unitOn 11 0 = true) ∧
    (p.edge = some e) ∧
    (e + 100000 ≤ u.tick) :=
  ⟨wCard { edge := some 5 }, 100005, 1, 5, by decide +kernel⟩

theorem witness_CardPortsFollowPresenceAndCurrent_3 : ∃ (s : State) (t : Tick) (n : Nat),
    let u := s.at t
    let p := u.cardPort n
    (n ≤ 3) ∧
    (u.unitOn 11 0 = true) ∧
    (p.present = false) :=
  ⟨wCard { edge := some 5 }, 9, 1, by decide +kernel⟩

theorem witness_CardPortsFollowPresenceAndCurrent_4 : ∃ (s : State) (t : Tick) (n : Nat),
    let u := s.at t
    let p := u.cardPort n
    (n ≤ 3) ∧
    (u.unitOn 11 0 = true) ∧
    (p.present = true) ∧
    (p.settled = false) :=
  ⟨wCard (wWaits .select), 9, 1, by decide +kernel⟩

theorem witness_CardPortsFollowPresenceAndCurrent_5 : ∃ (s : State) (t : Tick) (n : Nat),
    let u := s.at t
    let p := u.cardPort n
    (n ≤ 3) ∧
    (u.unitOn 11 0 = true) :=
  ⟨wCard {}, 9, 1, by decide +kernel⟩

theorem witness_CardPortsFollowPresenceAndCurrent_6 : ∃ (s : State) (t : Tick) (n : Nat) (o : Tick),
    let u := s.at t
    let p := u.cardPort n
    (n ≤ 3) ∧
    (u.unitOn 11 0 = true) ∧
    (p.overAt = some o) ∧
    (o + u.man.set.ocFilter ≤ u.tick) :=
  ⟨wCard { overAt := some 5 }, 1005, 1, 5, by decide +kernel⟩

theorem witness_CardPortsFollowPresenceAndCurrent_7 : ∃ (s : State) (t : Tick) (n : Nat),
    let u := s.at t
    let p := u.cardPort n
    (n ≤ 3) ∧
    (p.step = .activating 2) ∧
    (p.since + 1000 ≤ u.tick) :=
  ⟨wCard { step := .activating 2 }, 1000, 1, by decide +kernel⟩

theorem witness_CardPortsFollowPresenceAndCurrent_8 : ∃ (s : State) (t : Tick) (n : Nat),
    let u := s.at t
    let p := u.cardPort n
    (n ≤ 3) ∧
    (p.step = .activating 3) ∧
    (p.since + 10 ≤ u.tick) :=
  ⟨wCard { step := .activating 3 }, 1000, 1, by decide +kernel⟩

theorem witness_CardPortsFollowPresenceAndCurrent_9 : ∃ (s : State) (t : Tick) (n : Nat),
    let u := s.at t
    let p := u.cardPort n
    (n ≤ 3) ∧
    (p.step = .activating 4) ∧
    (p.since + 250 ≤ u.tick) :=
  ⟨wCard { step := .activating 4 }, 1000, 1, by decide +kernel⟩

theorem witness_CardPortsFollowPresenceAndCurrent_10 : ∃ (s : State) (t : Tick) (n : Nat),
    let u := s.at t
    let p := u.cardPort n
    (n ≤ 3) ∧
    (p.step = .deactivating 2) ∧
    (p.since + 10 ≤ u.tick) :=
  ⟨wCard { step := .deactivating 2 }, 1000, 1, by decide +kernel⟩

theorem witness_CardPortsFollowPresenceAndCurrent_11 : ∃ (s : State) (t : Tick) (n : Nat),
    let u := s.at t
    let p := u.cardPort n
    (n ≤ 3) ∧
    (p.step = .deactivating 3) ∧
    (p.since + 10 ≤ u.tick) :=
  ⟨wCard { step := .deactivating 3 }, 1000, 1, by decide +kernel⟩

theorem witness_CardPortsFollowPresenceAndCurrent_12 : ∃ (s : State) (t : Tick) (n : Nat),
    let u := s.at t
    let p := u.cardPort n
    (n ≤ 3) ∧
    (p.step = .deactivating 4) ∧
    (p.since + 10 ≤ u.tick) ∧
    (p.ref = none) :=
  ⟨wCard { step := .deactivating 4 }, 1000, 1, by decide +kernel⟩

theorem witness_CardPortsFollowPresenceAndCurrent_13 : ∃ (s : State) (t : Tick) (n : Nat),
    let u := s.at t
    let p := u.cardPort n
    (n ≤ 3) ∧
    (p.step = .atr) ∧
    (p.classes = []) :=
  ⟨wCard { step := .atr }, 1000, 1, by decide +kernel⟩

theorem witness_CardPortsFollowPresenceAndCurrent_14 : ∃ (s : State) (t : Tick) (n : Nat),
    let u := s.at t
    let p := u.cardPort n
    (n ≤ 3) ∧
    (p.step = .atr) ∧
    (p.classes ≠ []) :=
  ⟨wCard { step := .atr, classes := [1] }, 1000, 1, by decide +kernel⟩

theorem witness_TheCardExchangeGoesStepByStep_1 : ∃ (s : State) (t : Tick) (n : Nat) (a : Bytes),
    let u := s.at t
    let p := u.cardPort n
    (n ≤ 3) ∧
    (p.step = .atr) ∧
    (atrOk a = false) :=
  ⟨wCard { step := .atr }, 9, 1, [], by decide +kernel⟩

theorem witness_TheCardExchangeGoesStepByStep_2 : ∃ (s : State) (t : Tick) (n : Nat),
    let u := s.at t
    let p := u.cardPort n
    (n ≤ 3) ∧
    (p.step = .atr) :=
  ⟨wCard { step := .atr }, 9, 1, by decide +kernel⟩

theorem witness_TheCardExchangeGoesStepByStep_3 : ∃ (s : State) (t : Tick) (n : Nat),
    let u := s.at t
    let p := u.cardPort n
    (n ≤ 3) ∧
    (p.step = .pps) :=
  ⟨wCard { step := .pps, ta1 := 0x13 }, 9, 1, by decide +kernel⟩

theorem witness_TheCardExchangeGoesStepByStep_4 : ∃ (s : State) (t : Tick) (n : Nat),
    let u := s.at t
    let p := u.cardPort n
    (n ≤ 3) ∧
    (p.step = .pps) :=
  ⟨wCard { step := .pps }, 9, 1, by decide +kernel⟩

theorem witness_TheCardExchangeGoesStepByStep_5 : ∃ (s : State) (t : Tick) (n : Nat),
    let u := s.at t
    let p := u.cardPort n
    (n ≤ 3) ∧
    (p.step = .ifs) ∧
    (p.resynching = false) :=
  ⟨wCard (wWaits .ifs), 9, 1, by decide +kernel⟩

theorem witness_TheCardExchangeGoesStepByStep_6 : ∃ (s : State) (t : Tick) (n : Nat) (b : Bytes) (c : Tick),
    let u := s.at t
    let p := u.cardPort n
    (n ≤ 3) ∧
    (p.waits = true) ∧
    (u.cardInTime n c = true) ∧
    (t1Good p b = true) ∧
    (fld b 1 1 = (if p.nr then 0x40 else 0)) ∧
    (p.resynching = false) ∧
    (p.step ≠ .ifs) ∧
    (2 ≤ (p.rx ++ sub b 3 (fld b 2 1)).length) :=
  ⟨wCard (wWaits .select), 9, 1, t1Block (wWaits .select) 0 [0x90, 0], 9, by decide +kernel⟩

theorem witness_TheCardExchangeGoesStepByStep_7 : ∃ (s : State) (t : Tick) (n : Nat) (b : Bytes) (c : Tick),
    let u := s.at t
    let p := u.cardPort n
    (n ≤ 3) ∧
    (p.waits = true) ∧
    (u.cardInTime n c = true) ∧
    (t1Good p b = true) ∧
    (fld b 1 1 = (if p.ns then 0x80 else 0x90)) ∧
    (p.resynching = false) ∧
    (p.step ≠ .ifs) ∧
    (p.acked + p.ifsc < p.apdu.length) :=
  ⟨wCard { wWaits .select with apdu := zeros 40, ns := true }, 9, 1, t1Block (wWaits .select) 0x80 [], 9, by decide +kernel⟩

theorem witness_TheCardExchangeGoesStepByStep_8 : ∃ (s : State) (t : Tick) (n : Nat),
    let u := s.at t
    let p := u.cardPort n
    (n ≤ 3) ∧
    (p.waits = true) ∧
    (p.resynching = false) ∧
    (p.tries < 3) :=
  ⟨wCard (wWaits .select), 9, 1, by decide +kernel⟩

theorem witness_TheCardExchangeGoesStepByStep_9 : ∃ (s : State) (t : Tick) (n : Nat),
    let u := s.at t
    let p := u.cardPort n
    (n ≤ 3) ∧
    (p.waits = true) ∧
    (3 ≤ p.tries) ∧
    (3 ≤ p.resynchs) :=
  ⟨wCard { wWaits .select with tries := 3, resynchs := 3 }, 9, 1, by decide +kernel⟩

theorem witness_TheCardExchangeGoesStepByStep_10 : ∃ (s : State) (t : Tick) (n : Nat),
    let u := s.at t
    let p := u.cardPort n
    (n ≤ 3) ∧
    (p.waits = true) ∧
    (p.since + p.bwt + 2 ≤ u.tick) :=
  ⟨wCard (wWaits .select), 1000000000, 1, by decide +kernel⟩

theorem witness_TheCardExchangeGoesStepByStep_11 : ∃ (s : State) (t : Tick) (n : Nat) (m : Nat),
    let u := s.at t
    let p := u.cardPort n
    (n ≤ 3) ∧
    (p.waits = true) ∧
    (1 ≤ m) ∧
    (m ≤ 255) ∧
    (p.resynching = false) ∧
    (p.granted + ({ p with mult := m } : CardPort).bwt ≤ 30000000) :=
  ⟨wCard (wWaits .select), 9, 1, 1, by decide +kernel⟩

theorem witness_TheCardExchangeGoesStepByStep_12 : ∃ (s : State) (t : Tick) (n : Nat),
    let u := s.at t
    let p := u.cardPort n
    (n ≤ 3) ∧
    (p.waits = true) :=
  ⟨wCard (wWaits .select), 9, 1, by decide +kernel⟩

theorem witness_TheCardExchangeGoesStepByStep_13 : ∃ (s : State) (t : Tick) (n : Nat),
    let u := s.at t
    let p := u.cardPort n
    (n ≤ 3) ∧
    (p.waits = true) ∧
    (p.resynching = true) :=
  ⟨wCard { wWaits .select with resynching := true }, 9, 1, by decide +kernel⟩

theorem witness_TheCardExchangeGoesStepByStep_14 : ∃ (s : State) (t : Tick) (n : Nat),
    let u := s.at t
    let p := u.cardPort n
    (n ≤ 3) ∧
    (p.answeredSw .select 0x9000 = true) :=
  ⟨wCard (wAnswer .select [0x90, 0]), 9, 1, by decide +kernel⟩

theorem witness_TheCardExchangeGoesStepByStep_15 : ∃ (s : State) (t : Tick) (n : Nat) (w : BitVec 16),
    let u := s.at t
    let p := u.cardPort n
    (n ≤ 3) ∧
    (p.answeredSw .select w = true) ∧
    (w ≠ 0x9000) :=
  ⟨wCard (wAnswer .select [0x6A, 0x82]), 9, 1, 0x6A82, by decide +kernel⟩

theorem witness_TheCardExchangeGoesStepByStep_16 : ∃ (s : State) (t : Tick) (n : Nat) (d : Bytes),
    let u := s.at t
    let p := u.cardPort n
    (n ≤ 3) ∧
    (p.answered .readCert d 0x9000 = true) :=
  ⟨wCard (wAnswer .readCert [0x90, 0]), 9, 1, [], by decide +kernel⟩

theorem witness_TheCardExchangeGoesStepByStep_17 : ∃ (s : State) (t : Tick) (n : Nat) (d : Bytes) (w : BitVec 16),
    let u := s.at t
    let p := u.cardPort n
    (n ≤ 3) ∧
    (p.answered .readCert d w = true) ∧
    (w ≠ 0x9000) :=
  ⟨wCard (wAnswer .readCert [0x6A, 0x82]), 9, 1, [], 0x6A82, by decide +kernel⟩

theorem witness_TheCardExchangeGoesStepByStep_18 : ∃ (s : State) (t : Tick) (n : Nat) (d : Bytes),
    let u := s.at t
    let p := u.cardPort n
    (n ≤ 3) ∧
    (p.answered .authenticate d 0x9000 = true) :=
  ⟨wCard (wAnswer .authenticate [0x90, 0]), 9, 1, [], by decide +kernel⟩

theorem witness_TheCardExchangeGoesStepByStep_19 : ∃ (s : State) (t : Tick) (n : Nat) (w : BitVec 16) (c : Tick),
    let u := s.at t
    let p := u.cardPort n
    (n ≤ 3) ∧
    (p.answeredSw .confirm w = true) ∧
    (p.done = some c) ∧
    (w ≠ 0x9000) :=
  ⟨wCard (wAnswer .confirm [0x6A, 0x82]), 9, 1, 0x6A82, 9, by decide +kernel⟩

theorem witness_TheCardExchangeGoesStepByStep_20 : ∃ (s : State) (t : Tick) (n : Nat) (c : Tick),
    let u := s.at t
    let p := u.cardPort n
    (n ≤ 3) ∧
    (p.answeredSw .confirm 0x9000 = true) ∧
    (p.done = some c) ∧
    (p.enrol = none) :=
  ⟨wCard (wAnswer .confirm [0x90, 0]), 9, 1, 9, by decide +kernel⟩

theorem witness_TheCardExchangeGoesStepByStep_21 : ∃ (s : State) (t : Tick) (n : Nat) (c : Tick) (i : Nat),
    let u := s.at t
    let p := u.cardPort n
    (n ≤ 3) ∧
    (p.answeredSw .confirm 0x9000 = true) ∧
    (p.done = some c) ∧
    (p.enrol = some i) :=
  ⟨wCard { wAnswer .confirm [0x90, 0] with enrol := some 2 }, 9, 1, 9, 2, by decide +kernel⟩

theorem witness_TheCardExchangeGoesStepByStep_22 : ∃ (s : State) (t : Tick) (n : Nat),
    let u := s.at t
    let p := u.cardPort n
    (n ≤ 3) ∧
    (p.answeredSw .bind 0x9000 = true) :=
  ⟨wCard { wAnswer .bind [0x90, 0] with enrol := some 2 }, 9, 1, by decide +kernel⟩

theorem witness_TheTransitCardIsInitialisedAndRead_1 : ∃ (s : State) (t : Tick),
    let u := s.at t
    let p := u.cards.transit
    (u.unitOn 11 0 = true) ∧
    (p.present = false) :=
  ⟨wTransit {}, 9, by decide +kernel⟩

theorem witness_TheTransitCardIsInitialisedAndRead_2 : ∃ (s : State) (t : Tick),
    let u := s.at t
    let p := u.cards.transit
    (u.unitOn 11 0 = true) ∧
    (p.present = true) ∧
    (p.step.afterCount = false) :=
  ⟨wTransit { present := true, step := .token 0 }, 9, by decide +kernel⟩

theorem witness_TheTransitCardIsInitialisedAndRead_3 : ∃ (s : State) (t : Tick),
    let u := s.at t
    let p := u.cards.transit
    (p.step = .powerUp) ∧
    (p.since + 1000 ≤ u.tick) :=
  ⟨wTransit { step := .powerUp }, 1000, by decide +kernel⟩

theorem witness_TheTransitCardIsInitialisedAndRead_4 : ∃ (s : State) (t : Tick) (d : Bytes),
    let u := s.at t
    let p := u.cards.transit
    (p.step = .cmd8) ∧
    (beNat d % 4096 = 0x1AA) :=
  ⟨wTransit { step := .cmd8 }, 9, [0x01, 0xAA], by decide +kernel⟩

theorem witness_TheTransitCardIsInitialisedAndRead_5 : ∃ (s : State) (t : Tick) (d : Bytes),
    let u := s.at t
    let p := u.cards.transit
    (p.step = .cmd8) ∧
    (p.again = true) :=
  ⟨wTransit { step := .cmd8, again := true }, 9, [], by decide +kernel⟩

theorem witness_TheTransitCardIsInitialisedAndRead_6 : ∃ (s : State) (t : Tick),
    let u := s.at t
    let p := u.cards.transit
    (p.step = .cmd8) :=
  ⟨wTransit { step := .cmd8 }, 9, by decide +kernel⟩

theorem witness_TheTransitCardIsInitialisedAndRead_7 : ∃ (s : State) (t : Tick),
    let u := s.at t
    let p := u.cards.transit
    (p.step ≠ .cmd8) ∧
    (p.step.response = true) :=
  ⟨wTransit { step := .cmd2 }, 9, by decide +kernel⟩

theorem witness_TheTransitCardIsInitialisedAndRead_8 : ∃ (s : State) (t : Tick) (d : Bytes),
    let u := s.at t
    let p := u.cards.transit
    (p.step = .readData 0) :=
  ⟨wTransit { step := .readData 0 }, 9, [1], by decide +kernel⟩

theorem witness_TheTransitCardIsInitialisedAndRead_9 : ∃ (s : State) (t : Tick) (d : Bytes),
    let u := s.at t
    let p := u.cards.transit
    (p.step = .readData 1) ∧
    (p.again = false) :=
  ⟨wTransit { step := .readData 1 }, 9, [1], by decide +kernel⟩

theorem witness_TheTransitCardIsInitialisedAndRead_10 : ∃ (s : State) (t : Tick),
    let u := s.at t
    let p := u.cards.transit
    (p.step.reads = true) ∧
    (p.since + 100000 ≤ u.tick) :=
  ⟨wTransit { step := .tuning }, 100000, by decide +kernel⟩

theorem witness_TheTransitCardIsInitialisedAndRead_11 : ∃ (s : State) (t : Tick) (b : Nat),
    let u := s.at t
    let p := u.cards.transit
    (p.step = .token b) :=
  ⟨wTransit { step := .token 1 }, 9, 1, by decide +kernel⟩

theorem witness_TheTransitCardIsInitialisedAndRead_12 : ∃ (s : State) (t : Tick),
    let u := s.at t
    let p := u.cards.transit
    (p.step = .busy 0) :=
  ⟨wTransit { step := .busy 0 }, 9, by decide +kernel⟩

theorem witness_TheTransitCardIsInitialisedAndRead_13 : ∃ (s : State) (t : Tick),
    let u := s.at t
    let p := u.cards.transit
    (p.step = .busy 1) :=
  ⟨wTransit { step := .busy 1 }, 9, by decide +kernel⟩

theorem witness_TheTransitCardIsInitialisedAndRead_14 : ∃ (s : State) (t : Tick),
    let u := s.at t
    let p := u.cards.transit
    (p.step.busyWait = true) ∧
    (p.since + 500000 ≤ u.tick) :=
  ⟨wTransit { step := .cmd7Busy }, 500000, by decide +kernel⟩

theorem witness_TheTransitCardIsInitialisedAndRead_15 : ∃ (s : State) (t : Tick),
    let u := s.at t
    let p := u.cards.transit
    (p.step = .acmdWait) ∧
    (p.since + 10000 ≤ u.tick) :=
  ⟨wTransit { step := .acmdWait }, 10000, by decide +kernel⟩

theorem witness_TheTransitCardIsInitialisedAndRead_16 : ∃ (s : State) (t : Tick),
    let u := s.at t
    let p := u.cards.transit
    (p.step = .app41 ∨ p.step = .acmd41 ∨ p.step = .acmdWait) ∧
    (p.acmdAt + 1000000 ≤ u.tick) :=
  ⟨wTransit { step := .acmdWait }, 1000000, by decide +kernel⟩

theorem witness_TheTransitCardIsInitialisedAndRead_17 : ∃ (s : State) (t : Tick),
    let u := s.at t
    let p := u.cards.transit
    (p.step = .switch) ∧
    (p.since + 5000 ≤ u.tick) :=
  ⟨wTransit { step := .switch }, 5000, by decide +kernel⟩

theorem witness_TheTransitCardIsInitialisedAndRead_18 : ∃ (s : State) (t : Tick),
    let u := s.at t
    let p := u.cards.transit
    (p.step = .switch) ∧
    (p.since + 5000 ≤ u.tick) :=
  ⟨wTransit { step := .switch }, 5000, by decide +kernel⟩

theorem witness_TheTransitCardIsInitialisedAndRead_19 : ∃ (s : State) (t : Tick),
    let u := s.at t
    let p := u.cards.transit
    (p.step = .datHigh) ∧
    (p.since + 1000 ≤ u.tick) :=
  ⟨wTransit { step := .datHigh }, 5000, by decide +kernel⟩

theorem witness_TheTransitCardIsInitialisedAndRead_20 : ∃ (s : State) (t : Tick),
    let u := s.at t
    let p := u.cards.transit
    (p.step = .cycle) ∧
    (p.since + 10000 ≤ u.tick) :=
  ⟨wTransit { step := .cycle }, 50000, by decide +kernel⟩

theorem witness_TheTransitCardIsInitialisedAndRead_21 : ∃ (s : State) (t : Tick),
    let u := s.at t
    let p := u.cards.transit
    (p.step = .tuning) :=
  ⟨wTransit { step := .tuning }, 50000, by decide +kernel⟩

theorem witness_TheTransitCardIsInitialisedAndRead_22 : ∃ (s : State) (t : Tick),
    let u := s.at t
    let p := u.cards.transit
    (p.step = .tuning) ∧
    (p.attempts < 40) :=
  ⟨wTransit { step := .tuning, attempts := 39 }, 50000, by decide +kernel⟩

end Sys2Proof.Tests
end

