-- ==== Sys2Proof/Tests/Slice0Modes.lean ====
section
/-! SUPPORT. Witnesses: states and operands that meet the hypotheses of the statements on mode, life-cycle, recovery, capture and log commands. -/

set_option autoImplicit false
set_option maxRecDepth 4000
set_option linter.unusedVariables false

namespace Sys2Proof.Tests

set_option Elab.async false

open Sys2Proof Sys2Proof.Machine

/-- A device whose tenant 0 has a complete quorum for every purpose. -/
def wQuorum : State :=
  { wHealthy with
    man := { wHealthy.man with set := { wHealthy.man.set with custody := [{ tenant := 0 }] } }
    quorums := [(0, { phase := 2, purposes := 255, uses := 2, closeTick := 1000 })] }

/-- A device in RECOVERY with a session of one section of 1,024 bytes. -/
def wRecover (x : RecoverySession) : State :=
  { wQuorum with mode := .recovery, man := { wQuorum.man with session := some x } }
def wOneSection : Bytes := zeros 6 ++ natLE 2 1 ++ zeros 0xF8 ++ natLE 2 4 ++ zeros 2 ++ natLE 4 0x1000 ++ natLE 4 1024

/-- The base point of P-384 as an authority's key, and a device whose manifest names it. -/
def wPub : Bytes := natLE 48 p384Curve.gx ++ natLE 48 p384Curve.gy
def wSigner : State :=
  { wQuorum with
    man := { wQuorum.man with header := zeros 0x80 ++ wPub }
    vault := { wQuorum.vault with nonce := zeros 16 } }

/-- A debug warrant of rights 1 under that key (Table 2-7), signed with scalar 1. -/
def wWarrant : Bytes :=
  ascii "KHDW" ++ [1, 0, 2, 1] ++ zeros 28 ++ [1, 3, 0, 0] ++ natLE 4 1 ++ zeros 4 ++
    natBE 16 186502884451284406718774368127178444261 ++
    natLE 48 26247035095799689268623156744566981891852923491109213387815615900925518854738050089022388053975719786650872476732087 ++
    natLE 48 34867008117109512182069400205297221457858056304677649229319662631654674540718139690924489631334590795720237744824323

/-- A manifest header of three one-byte sections under that key, signed with scalar 1 (Table 3-4). -/
def wManifest : Bytes :=
  let e (ty o : Nat) : Bytes := natLE 2 ty ++ zeros 2 ++ natLE 4 o ++ natLE 4 1 ++ zeros 52
  ascii "KHMF" ++ natLE 2 1 ++ natLE 2 3 ++ zeros 4 ++ [8, 0, 0, 0] ++ zeros 16 ++ wPub ++ wPub ++ zeros 32 ++ e 1 0x1000 ++ e 2 0x2000 ++
    e 4 0x3000 ++ zeros 1344 ++
    natLE 48 26247035095799689268623156744566981891852923491109213387815615900925518854738050089022388053975719786650872476732087 ++
    natLE 48 28848097293214259655618611277747846939843444531039577446198377157718618532652851363096103277924341053332068172383146 ++
    zeros 160

/-- A record with input data. -/
def wInputRec (op tenant : Nat) (body input : Bytes) : Machine.Rec := { wCmdRec op tenant body with input }

theorem witness_ModeAndLifeCycleCommandsAskForTheirChange_1 : ∃ (s : State) (t : Tick) (ref : RecRef) (r : Rec) (b i : Bytes) (v : State),
    let u := (s.begun t r b i).1
    (Accepted s t ref 0x0106 r b i) ∧
    (b = []) ∧
    (u.changing? = false) ∧
    (u.quorumUse 0 purposeMuster = (v, none)) ∧
    (v.musterRows = none) ∧
    (¬(1 < v.man.set.memberCount ∧ v.lead = true)) :=
  ⟨wCmd ({ wQuorum with mode := .muster }) 0x0106 0 ([]), 9, wRef, wCmdRec 0x0106 0 ([]), [], [], _, by exact ⟨wAcc (by decide +kernel), by decide +kernel, by decide +kernel, wPairEq _ _ (by decide +kernel), by decide +kernel, by decide +kernel⟩⟩

theorem witness_ModeAndLifeCycleCommandsAskForTheirChange_2 : ∃ (s : State) (t : Tick) (ref : RecRef) (r : Rec) (b i : Bytes),
    let u := (s.begun t r b i).1
    (Accepted s t ref 0x0107 r b i) ∧
    (b = []) ∧
    (u.changing? = false) ∧
    (¬(1 < u.man.set.memberCount ∧ u.lead = true)) :=
  ⟨wCmd (wHealthy) 0x0107 0 ([]), 9, wRef, wCmdRec 0x0107 0 ([]), [], [], by exact ⟨wAcc (by decide +kernel), by decide +kernel⟩⟩

theorem witness_ModeAndLifeCycleCommandsAskForTheirChange_3 : ∃ (s : State) (t : Tick) (ref : RecRef) (r : Rec) (b i : Bytes),
    let u := (s.begun t r b i).1
    (Accepted s t ref 0x0107 r b i) ∧
    (b = []) ∧
    (u.changing? = false) ∧
    (1 < u.man.set.memberCount) ∧
    (u.lead = true) :=
  ⟨wCmd (wMember {}) 0x0107 0 ([]), 9, wRef, wCmdRec 0x0107 0 ([]), [], [], by exact ⟨wAcc (by decide +kernel), by decide +kernel⟩⟩

theorem witness_ModeAndLifeCycleCommandsAskForTheirChange_4 : ∃ (s : State) (t : Tick) (ref : RecRef) (r : Rec) (b i : Bytes),
    let u := (s.begun t r b i).1
    (Accepted s t ref 0x0108 r b i) ∧
    (b = []) :=
  ⟨wCmd (wHealthy) 0x0108 0 ([]), 9, wRef, wCmdRec 0x0108 0 ([]), [], [], by exact ⟨wAcc (by decide +kernel), by decide +kernel⟩⟩

theorem witness_ModeAndLifeCycleCommandsAskForTheirChange_5 : ∃ (s : State) (t : Tick) (ref : RecRef) (r : Rec) (b i : Bytes) (v : State),
    let u := (s.begun t r b i).1
    let x := ((if v.life = .factory ∨ v.life = .owned then v.zeroArrays else v).eraseWarrant.logTransition (lifeCode u.life) (fld b 0 1) : State)
    (Accepted s t ref 0x0109 r b i) ∧
    (b.length = (if u.life = .factory then 168 else 8)) ∧
    (fld b 0 1 = lifeCode u.life + 1) ∧
    (zeroAt b 1 7 = true) ∧
    (u.lifeBusy = false) ∧
    ((if u.life = .factory then v = u ∧ u.warrantCheck (b.drop 8) 2 = none else u.quorumUse 0 purposeLife = (v, none))) ∧
    (x.glitching = false) :=
  ⟨wCmd ({ wQuorum with mode := .muster }) 0x0109 0 ([BitVec.ofNat 8 (lifeCode wQuorum.life + 1)] ++ zeros 7), 9, wRef, wCmdRec 0x0109 0 ([BitVec.ofNat 8 (lifeCode wQuorum.life + 1)] ++ zeros 7), [BitVec.ofNat 8 (lifeCode wQuorum.life + 1)] ++ zeros 7, [], ((({ wCmd { wQuorum with mode := .muster } 0x0109 0 ([BitVec.ofNat 8 (lifeCode wQuorum.life + 1)] ++ zeros 7) with pending := [] } : State).begun 9 (wCmdRec 0x0109 0 ([BitVec.ofNat 8 (lifeCode wQuorum.life + 1)] ++ zeros 7)) ([BitVec.ofNat 8 (lifeCode wQuorum.life + 1)] ++ zeros 7) []).1.quorumUse 0 purposeLife).1, by exact ⟨wAcc (by decide +kernel), by decide +kernel, by decide +kernel, by decide +kernel, by decide +kernel, by rw [if_neg (by decide +kernel)]; exact wPairEq _ _ (by decide +kernel), by decide +kernel⟩⟩

theorem witness_ModeAndLifeCycleCommandsAskForTheirChange_6 : ∃ (s : State) (t : Tick) (ref : RecRef) (r : Rec) (b i : Bytes) (v : State),
    let u := (s.begun t r b i).1
    (Accepted s t ref 0x010A r b i) ∧
    (b.length = 160) ∧
    (u.lifeBusy = false) ∧
    (u.warrantCheck b 1 = none) ∧
    (fld b 0x28 4 &&& (grantable u.life).toNat = fld b 0x28 4) ∧
    ((if u.life = .factory then (u, none) else u.quorumUse 0 purposeWarrant) = (v, none)) :=
  ⟨wCmd (wSigner) 0x010A 0 (wWarrant), 9, wRef, wCmdRec 0x010A 0 (wWarrant), wWarrant, [], _, by exact ⟨wAcc (by decide +kernel), by decide +kernel, by decide +kernel, by decide +kernel, by decide +kernel, wPairEq _ _ (by decide +kernel)⟩⟩

theorem witness_ModeAndLifeCycleCommandsAskForTheirChange_7 : ∃ (s : State) (t : Tick) (ref : RecRef) (r : Rec) (b i : Bytes),
    let u := (s.begun t r b i).1
    (Accepted s t ref 0x010B r b i) ∧
    (b = []) :=
  ⟨wCmd (wHealthy) 0x010B 0 ([]), 9, wRef, wCmdRec 0x010B 0 ([]), [], [], by exact ⟨wAcc (by decide +kernel), by decide +kernel⟩⟩

theorem witness_RecoveryWritesAndCommitsANewManifest_1 : ∃ (s : State) (t : Tick) (ref : RecRef) (r : Rec) (b i : Bytes) (n : List Bool),
    let u := (s.begun t r b i).1
    (Accepted s t ref 0x0110 r b i) ∧
    (b.length = 2048) ∧
    (headerFormat b u.life (2 ^ 26) = true) ∧
    (u.headerSigned b = true) ∧
    (u.vault.floor ≤ fld b 8 4) ∧
    (fld b 0x10 8 = 0 ∨ fld b 0x10 8 = u.otp.serial) ∧
    ((BitVec.ofNat 8 (fld b 0xC 1)).getLsbD (lifeCode u.life) = true) ∧
    (u.slotClasses b = .ok n) :=
  ⟨wCmd ({ wQuorum with mode := .recovery }) 0x0110 0 (wManifest), 9, wRef, wCmdRec 0x0110 0 (wManifest), wManifest, [], [true, true, true], by exact ⟨wAcc (by decide +kernel), by decide +kernel, by decide +kernel, by decide +kernel, by decide +kernel, by decide +kernel, by decide +kernel, wOk _ _ (by decide +kernel)⟩⟩

theorem witness_RecoveryWritesAndCommitsANewManifest_2 : ∃ (s : State) (t : Tick) (ref : RecRef) (r : Rec) (b i : Bytes) (x : RecoverySession) (k : Nat),
    let u := (s.begun t r b i).1
    (Accepted s t ref 0x0111 r b i) ∧
    (b.length = 8) ∧
    (zeroAt b 4 4 = true) ∧
    (1024 ≤ i.length) ∧
    (i.length ≤ 65536) ∧
    (u.man.session = some x) ∧
    (((List.range (fld x.header 6 2)).find? fun n =>
        decide (((sections x.header).getD n (0, 0, 0, [])).2.1 ≤ fld b 0 4) &&
        decide (fld b 0 4 + i.length ≤ ((sections x.header).getD n (0, 0, 0, [])).2.1 + ((sections x.header).getD n (0, 0, 0, [])).2.2.1) &&
        fld b 0 4 == ((sections x.header).getD n (0, 0, 0, [])).2.1 + (mapGet [] x.written n).length) = some k) :=
  ⟨{ wRecover { header := wOneSection } with waiting := [wInputRec 0x0111 0 (natLE 8 0x1000) (zeros 1024)] }, 9, wRef, wInputRec 0x0111 0 (natLE 8 0x1000) (zeros 1024), natLE 8 0x1000, zeros 1024, { header := wOneSection }, 0, by exact ⟨wAcc (by decide +kernel), by decide +kernel⟩⟩

theorem witness_RecoveryWritesAndCommitsANewManifest_3 : ∃ (s : State) (t : Tick) (ref : RecRef) (r : Rec) (b i : Bytes) (x : RecoverySession) (v : State),
    let u := (s.begun t r b i).1
    let w := v.programSlots x
    let z := ((({ w with man := { w.man with session := some { x with next := [false, false, false] } } } : State).emit (.flashErase 0)).emit (.flash 0 x.header) : State)
    (Accepted s t ref 0x0112 r b i) ∧
    (b = []) ∧
    (u.man.session = some x) ∧
    (x.complete = true) ∧
    ((if u.commitQuorum then u.quorumUse 0 purposeRecovery else (u, none)) = (v, none)) :=
  ⟨wCmd (wRecover {}) 0x0112 0 ([]), 9, wRef, wCmdRec 0x0112 0 ([]), [], [], {}, _, by exact ⟨wAcc (by decide +kernel), by decide +kernel, by decide +kernel, by decide +kernel, wPairEq _ _ (by decide +kernel)⟩⟩

theorem witness_RecoveryWritesAndCommitsANewManifest_4 : ∃ (s : State) (t : Tick) (ref : RecRef) (r : Rec) (b i : Bytes) (x : RecoverySession) (v : State),
    let u := (s.begun t r b i).1
    let w := v.programSlots x
    (Accepted s t ref 0x0112 r b i) ∧
    (b = []) ∧
    (u.man.session = some x) ∧
    (x.complete = true) ∧
    ((if u.commitQuorum then u.quorumUse 0 purposeRecovery else (u, none)) = (v, none)) :=
  ⟨wCmd (wRecover {}) 0x0112 0 ([]), 9, wRef, wCmdRec 0x0112 0 ([]), [], [], {}, _, by exact ⟨wAcc (by decide +kernel), by decide +kernel, by decide +kernel, by decide +kernel, wPairEq _ _ (by decide +kernel)⟩⟩

theorem witness_RecoveryWritesAndCommitsANewManifest_5 : ∃ (s : State) (t : Tick) (ref : RecRef) (r : Rec) (b i : Bytes),
    let u := (s.begun t r b i).1
    (Accepted s t ref 0x0113 r b i) ∧
    (b = []) :=
  ⟨wCmd (wRecover {}) 0x0113 0 ([]), 9, wRef, wCmdRec 0x0113 0 ([]), [], [], by exact ⟨wAcc (by decide +kernel), by decide +kernel⟩⟩

theorem witness_CaptureAndReplayStartAndStop_1 : ∃ (s : State) (t : Tick) (ref : RecRef) (r : Rec) (b i : Bytes),
    let u := (s.begun t r b i).1
    (Accepted s t ref 0x0A04 r b i) ∧
    (b.length = 8) ∧
    (fld b 0 4 ≤ 4096) ∧
    (fld b 4 4 ≤ 1) ∧
    (u.rpl.capturing = false) ∧
    ((u.running.all fun x => x.stage != .base) = true) ∧
    (u.rpl.captured = false ∨ fld b 4 4 = 1) ∧
    (u.captureAlone = true) :=
  ⟨wCmd (wHealthy) 0x0A04 0 (zeros 8), 9, wRef, wCmdRec 0x0A04 0 (zeros 8), zeros 8, [], by exact ⟨wAcc (by decide +kernel), by decide +kernel⟩⟩

theorem witness_CaptureAndReplayStartAndStop_2 : ∃ (s : State) (t : Tick) (ref : RecRef) (r : Rec) (b i : Bytes),
    let u := (s.begun t r b i).1
    (Accepted s t ref 0x0A05 r b i) ∧
    (b = []) :=
  ⟨wCmd (wHealthy) 0x0A05 0 ([]), 9, wRef, wCmdRec 0x0A05 0 ([]), [], [], by exact ⟨wAcc (by decide +kernel), by decide +kernel⟩⟩

theorem witness_CaptureAndReplayStartAndStop_3 : ∃ (s : State) (t : Tick) (ref : RecRef) (r : Rec) (b i : Bytes),
    let u := (s.begun t r b i).1
    (Accepted s t ref 0x0A06 r b i) ∧
    (b.length = 8) ∧
    (zeroAt b 4 4 = true) ∧
    (u.rpl.capturing = true ∨ u.rpl.captured = true) ∧
    (u.captureAlone = true) :=
  ⟨wCmd ({ wHealthy with rpl := { captured := true } }) 0x0A06 0 (zeros 8), 9, wRef, wCmdRec 0x0A06 0 (zeros 8), zeros 8, [], by exact ⟨wAcc (by decide +kernel), by decide +kernel⟩⟩

theorem witness_CaptureAndReplayStartAndStop_4 : ∃ (s : State) (t : Tick) (ref : RecRef) (r : Rec) (b i : Bytes),
    let u := (s.begun t r b i).1
    (Accepted s t ref 0x0A07 r b i) ∧
    (b = []) :=
  ⟨wCmd ({ wHealthy with mode := .replay }) 0x0A07 0 ([]), 9, wRef, wCmdRec 0x0A07 0 ([]), [], [], by exact ⟨wAcc (by decide +kernel), by decide +kernel⟩⟩

theorem witness_TheLogFreezesThawsAndExports_1 : ∃ (s : State) (t : Tick) (ref : RecRef) (r : Rec) (b i : Bytes),
    let u := (s.begun t r b i).1
    (Accepted s t ref 0x0A01 r b i) ∧
    (b.length = 8) ∧
    (0 < fld b 0 4) ∧
    (fld b 0 4 ≤ 10000000) ∧
    (zeroAt b 4 4 = true) ∧
    (u.log.frozen = false) :=
  ⟨wCmd (wHealthy) 0x0A01 0 (natLE 8 5), 9, wRef, wCmdRec 0x0A01 0 (natLE 8 5), natLE 8 5, [], by exact ⟨wAcc (by decide +kernel), by decide +kernel⟩⟩

theorem witness_TheLogFreezesThawsAndExports_2 : ∃ (s : State) (t : Tick) (ref : RecRef) (r : Rec) (b i : Bytes) (x : Tick),
    let u := (s.begun t r b i).1
    (Accepted s t ref 0x0A02 r b i) ∧
    (b = []) ∧
    (u.log.freeze = some x) :=
  ⟨wCmd ({ wHealthy with log := { freeze := some 99 } }) 0x0A02 0 ([]), 9, wRef, wCmdRec 0x0A02 0 ([]), [], [], 99, by exact ⟨wAcc (by decide +kernel), by decide +kernel⟩⟩

theorem witness_TheLogFreezesThawsAndExports_3 : ∃ (s : State) (t : Tick) (ref : RecRef) (r : Rec) (b i : Bytes),
    let u := (s.begun t r b i).1
    (Accepted s t ref 0x0A02 r b i) ∧
    (b = []) ∧
    (u.log.freeze = none) :=
  ⟨wCmd (wHealthy) 0x0A02 0 ([]), 9, wRef, wCmdRec 0x0A02 0 ([]), [], [], by exact ⟨wAcc (by decide +kernel), by decide +kernel⟩⟩

theorem witness_TheLogFreezesThawsAndExports_4 : ∃ (s : State) (t : Tick) (ref : RecRef) (r : Rec) (b i : Bytes) (w : State) (d : Bytes),
    let u := (s.begun t r b i).1
    let es := w.log.from (fld b 0 8) (fld b 8 2)
    (Accepted s t ref 0x0A03 r b i) ∧
    (b.length = 48) ∧
    (0 < fld b 8 2) ∧
    (fld b 8 2 ≤ 256) ∧
    (zeroAt b 0xA 6 = true) ∧
    (u.laneAny .bigNumber = true) ∧
    (u.random 56 = some (w, d)) :=
  ⟨wCmd (wHealthy) 0x0A03 0 (zeros 8 ++ natLE 8 1 ++ zeros 32), 9, wRef, wCmdRec 0x0A03 0 (zeros 8 ++ natLE 8 1 ++ zeros 32), zeros 8 ++ natLE 8 1 ++ zeros 32, [], _, _, by exact ⟨wAcc (by decide +kernel), by decide +kernel, by decide +kernel, by decide +kernel, by decide +kernel, by decide +kernel, wSome _ (by decide +kernel)⟩⟩

end Sys2Proof.Tests
end

