-- ==== Sys2Proof/Tests/Slice0Ciphers.lean ====
section
/-! SUPPORT. Witnesses: states and operands that meet the hypotheses of the statements on ciphers, MACs and random bytes. -/

set_option autoImplicit false
set_option maxRecDepth 4000
set_option linter.unusedVariables false

namespace Sys2Proof.Tests

set_option Elab.async false

open Sys2Proof Sys2Proof.Machine

/-- An ENCRYPT or DECRYPT body (Table 8-10). -/
def wCipherBody (h g mode width unit : Nat) : Bytes :=
  natLE 4 h ++ natLE 4 g ++ natLE 1 mode ++ natLE 1 width ++ zeros 14 ++ natLE 4 unit ++ zeros 20

theorem witness_CiphersAndMacsRunOnALane_1 : ∃ (s : State) (t : Tick) (ref : RecRef) (r : Rec) (b i : Bytes) (v w : State) (k : Nat) (p : CipherReq),
    let u := (s.begun t r b i).1
    let q := parseCipher b true i
    let x := v.slot k
    (Accepted s t ref 0x0301 r b i) ∧
    (cipherBodyOk b q = true) ∧
    (q.mode ≠ 5) ∧
    (u.resolve (some r.tenant) q.handle { fits := modeFits q.mode, use := fun _ => modeUse q.mode q.enc, units := some (units (ceilDiv q.data.length 8)) } = (v, .ok k)) ∧
    ((if q.mode = 4 ∧ q.enc = true ∧ q.ivSource = 1 then (v.random 12).map fun d => (d.1, { q with iv := d.2 }) else some (v, q)) = some (w, p)) ∧
    (cipherCheck p x x.material [] = none) :=
  ⟨{ wKey { type := 1, keyBits := 128, usage := useBit 0 } with waiting := [wInputRec 0x0301 0 (wCipherBody wHandle 0 3 32 0) [1, 2]] }, 9, wRef, wInputRec 0x0301 0 (wCipherBody wHandle 0 3 32 0) [1, 2], wCipherBody wHandle 0 3 32 0, [1, 2], _, _, 7, parseCipher (wCipherBody wHandle 0 3 32 0) true [1, 2], by exact ⟨wAcc (by decide +kernel), by decide +kernel, by decide +kernel, wRes _ _ (by decide +kernel), if_neg (by decide +kernel), by decide +kernel⟩⟩

theorem witness_CiphersAndMacsRunOnALane_2 : ∃ (s : State) (t : Tick) (ref : RecRef) (r : Rec) (b i : Bytes) (v w : State) (k j : Nat),
    let u := (s.begun t r b i).1
    let q := parseCipher b true i
    let x := w.slot k
    (Accepted s t ref 0x0301 r b i) ∧
    (cipherBodyOk b q = true) ∧
    (q.mode = 5) ∧
    (u.resolve (some r.tenant) q.handle { fits := modeFits q.mode, use := fun _ => modeUse q.mode q.enc, units := some (units (ceilDiv q.data.length 8)) } = (v, .ok k)) ∧
    (v.resolve (some r.tenant) q.handleB { fits := fun y => modeFits 5 y && y.type == (v.slot k).type, use := fun _ => modeUse q.mode q.enc, units := some (units (ceilDiv q.data.length 8)) } = (w, .ok j)) ∧
    (cipherCheck q x x.material (w.slot j).material = none) :=
  ⟨{ wTwoKeys { type := 1, keyBits := 128, usage := useBit 0, material := [1] } { type := 1, keyBits := 128, usage := useBit 0, material := [2] } with waiting := [wInputRec 0x0301 0 (wCipherBody wHandle (mkHandle 6 1) 5 0 16) (zeros 16)] }, 9, wRef, wInputRec 0x0301 0 (wCipherBody wHandle (mkHandle 6 1) 5 0 16) (zeros 16), wCipherBody wHandle (mkHandle 6 1) 5 0 16, zeros 16, _, _, 7, 8, by exact ⟨wAcc (by decide +kernel), by decide +kernel, by decide +kernel, wRes _ _ (by decide +kernel), wRes _ _ (by decide +kernel), by decide +kernel⟩⟩

theorem witness_CiphersAndMacsRunOnALane_3 : ∃ (s : State) (t : Tick) (ref : RecRef) (r : Rec) (b i : Bytes) (v w : State) (k : Nat) (p : CipherReq),
    let u := (s.begun t r b i).1
    let q := parseCipher b false i
    let x := v.slot k
    (Accepted s t ref 0x0302 r b i) ∧
    (cipherBodyOk b q = true) ∧
    (q.mode ≠ 5) ∧
    (u.resolve (some r.tenant) q.handle { fits := modeFits q.mode, use := fun _ => modeUse q.mode q.enc, units := some (units (ceilDiv q.data.length 8)) } = (v, .ok k)) ∧
    ((if q.mode = 4 ∧ q.enc = true ∧ q.ivSource = 1 then (v.random 12).map fun d => (d.1, { q with iv := d.2 }) else some (v, q)) = some (w, p)) ∧
    (cipherCheck p x x.material [] = none) :=
  ⟨{ wKey { type := 1, keyBits := 128, usage := useBit 1 } with waiting := [wInputRec 0x0302 0 (wCipherBody wHandle 0 3 32 0) [1, 2]] }, 9, wRef, wInputRec 0x0302 0 (wCipherBody wHandle 0 3 32 0) [1, 2], wCipherBody wHandle 0 3 32 0, [1, 2], _, _, 7, parseCipher (wCipherBody wHandle 0 3 32 0) false [1, 2], by exact ⟨wAcc (by decide +kernel), by decide +kernel, by decide +kernel, wRes _ _ (by decide +kernel), if_neg (by decide +kernel), by decide +kernel⟩⟩

theorem witness_CiphersAndMacsRunOnALane_4 : ∃ (s : State) (t : Tick) (ref : RecRef) (r : Rec) (b i : Bytes) (v w : State) (k j : Nat),
    let u := (s.begun t r b i).1
    let q := parseCipher b false i
    let x := w.slot k
    (Accepted s t ref 0x0302 r b i) ∧
    (cipherBodyOk b q = true) ∧
    (q.mode = 5) ∧
    (u.resolve (some r.tenant) q.handle { fits := modeFits q.mode, use := fun _ => modeUse q.mode q.enc, units := some (units (ceilDiv q.data.length 8)) } = (v, .ok k)) ∧
    (v.resolve (some r.tenant) q.handleB { fits := fun y => modeFits 5 y && y.type == (v.slot k).type, use := fun _ => modeUse q.mode q.enc, units := some (units (ceilDiv q.data.length 8)) } = (w, .ok j)) ∧
    (cipherCheck q x x.material (w.slot j).material = none) :=
  ⟨{ wTwoKeys { type := 1, keyBits := 128, usage := useBit 1, material := [1] } { type := 1, keyBits := 128, usage := useBit 1, material := [2] } with waiting := [wInputRec 0x0302 0 (wCipherBody wHandle (mkHandle 6 1) 5 0 16) (zeros 16)] }, 9, wRef, wInputRec 0x0302 0 (wCipherBody wHandle (mkHandle 6 1) 5 0 16) (zeros 16), wCipherBody wHandle (mkHandle 6 1) 5 0 16, zeros 16, _, _, 7, 8, by exact ⟨wAcc (by decide +kernel), by decide +kernel, by decide +kernel, wRes _ _ (by decide +kernel), wRes _ _ (by decide +kernel), by decide +kernel⟩⟩

theorem witness_CiphersAndMacsRunOnALane_5 : ∃ (s : State) (t : Tick) (ref : RecRef) (r : Rec) (b i : Bytes) (v : State) (k : Nat),
    let u := (s.begun t r b i).1
    let x := v.slot k
    let m := (macOf (fld b 4 1) x.material i).take (fld b 5 1)
    (Accepted s t ref 0x0303 r b i) ∧
    (macBody b false = true) ∧
    (u.resolve (some r.tenant) (fld b 0 4) { fits := fun x => if fld b 4 1 = 0x10 then isAes x else isTdea x, use := fun _ => useBit 2, units := some (units (ceilDiv i.length 8)) } = (v, .ok k)) ∧
    ((if fld b 4 1 = 0x10 then lenCheck i.length 0 (2 ^ 36) 1 else lenCheck i.length 8 (2 ^ 23) 8) = none) ∧
    (isTdea x = true → tdeaDistinct x.material = true) :=
  ⟨{ wKey { type := 1, keyBits := 128, usage := useBit 2 } with waiting := [wInputRec 0x0303 0 (natLE 4 wHandle ++ [0x10, 16] ++ zeros 18) [7]] }, 9, wRef, wInputRec 0x0303 0 (natLE 4 wHandle ++ [0x10, 16] ++ zeros 18) [7], natLE 4 wHandle ++ [0x10, 16] ++ zeros 18, [7], _, 7, by exact ⟨wAcc (by decide +kernel), by decide +kernel, wRes _ _ (by decide +kernel), by decide +kernel, by decide +kernel⟩⟩

theorem witness_CiphersAndMacsRunOnALane_6 : ∃ (s : State) (t : Tick) (ref : RecRef) (r : Rec) (b i : Bytes) (v : State) (k : Nat),
    let u := (s.begun t r b i).1
    let x := v.slot k
    let m := (macOf (fld b 4 1) x.material i).take (fld b 5 1)
    (Accepted s t ref 0x0304 r b i) ∧
    (macBody b true = true) ∧
    (u.resolve (some r.tenant) (fld b 0 4) { fits := fun x => if fld b 4 1 = 0x10 then isAes x else isTdea x, use := fun _ => useBit 3, units := some (units (ceilDiv i.length 8)) } = (v, .ok k)) ∧
    ((if fld b 4 1 = 0x10 then lenCheck i.length 0 (2 ^ 36) 1 else lenCheck i.length 8 (2 ^ 23) 8) = none) ∧
    (isTdea x = true → tdeaDistinct x.material = true) :=
  ⟨{ wKey { type := 1, keyBits := 128, usage := useBit 3 } with waiting := [wInputRec 0x0304 0 (natLE 4 wHandle ++ [0x10, 16] ++ zeros 18) [7]] }, 9, wRef, wInputRec 0x0304 0 (natLE 4 wHandle ++ [0x10, 16] ++ zeros 18) [7], natLE 4 wHandle ++ [0x10, 16] ++ zeros 18, [7], _, 7, by exact ⟨wAcc (by decide +kernel), by decide +kernel, wRes _ _ (by decide +kernel), by decide +kernel, by decide +kernel⟩⟩

theorem witness_CiphersAndMacsRunOnALane_7 : ∃ (s : State) (t : Tick) (ref : RecRef) (r : Rec) (b i : Bytes) (v w : State) (k j : Nat),
    let u := (s.begun t r b i).1
    let x := w.slot k
    let y := w.slot j
    let p := (cipherRun { handle := 0, mode := fld b 8 1, enc := false, iv := sub b 0x10 16, data := i } x x.material []).out
    let o := (cipherRun { handle := 0, mode := fld b 9 1, enc := true, iv := sub b 0x20 16, data := p } y y.material []).out
    (Accepted s t ref 0x0305 r b i) ∧
    (b.length = 0x30) ∧
    (1 ≤ fld b 8 1) ∧
    (fld b 8 1 ≤ 2) ∧
    (1 ≤ fld b 9 1) ∧
    (fld b 9 1 ≤ 2) ∧
    (zeroAt b 0xA 6 = true) ∧
    (fld b 8 1 = 1 → zeroAt b 0x10 16 = true) ∧
    (fld b 9 1 = 1 → zeroAt b 0x20 16 = true) ∧
    (u.resolve (some r.tenant) (fld b 0 4) { fits := modeFits (fld b 8 1), use := fun _ => useBit 1, units := some (units (ceilDiv i.length 8)) } = (v, .ok k)) ∧
    (v.resolve (some r.tenant) (fld b 4 4) { fits := modeFits (fld b 9 1), use := fun _ => useBit 0, units := some (units (ceilDiv i.length 8)) } = (w, .ok j)) ∧
    (lenCheck i.length (max (lenRule (fld b 8 1) false (isTdea x) 16).1 (lenRule (fld b 9 1) true (isTdea y) 16).1) (min (lenRule (fld b 8 1) false (isTdea x) 16).2.1 (lenRule (fld b 9 1) true (isTdea y) 16).2.1) (max (lenRule (fld b 8 1) false (isTdea x) 16).2.2 (lenRule (fld b 9 1) true (isTdea y) 16).2.2) = none) ∧
    (isTdea x = true → tdeaDistinct x.material = true ∧ zeroAt b 0x18 8 = true) ∧
    (isTdea y = true → tdeaDistinct y.material = true ∧ zeroAt b 0x28 8 = true) :=
  ⟨{ wTwoKeys { type := 1, keyBits := 128, usage := useBit 1 } { type := 1, keyBits := 128, usage := useBit 0 } with waiting := [wInputRec 0x0305 0 (natLE 4 wHandle ++ natLE 4 (mkHandle 6 1) ++ [1, 1] ++ zeros 38) (zeros 16)] }, 9, wRef, wInputRec 0x0305 0 (natLE 4 wHandle ++ natLE 4 (mkHandle 6 1) ++ [1, 1] ++ zeros 38) (zeros 16), natLE 4 wHandle ++ natLE 4 (mkHandle 6 1) ++ [1, 1] ++ zeros 38, zeros 16, _, _, 7, 8, by exact ⟨wAcc (by decide +kernel), by decide +kernel, by decide +kernel, by decide +kernel, by decide +kernel, by decide +kernel, by decide +kernel, by decide +kernel, by decide +kernel, wRes _ _ (by decide +kernel), wRes _ _ (by decide +kernel), by decide +kernel, by decide +kernel, by decide +kernel⟩⟩

theorem witness_CiphersAndMacsRunOnALane_8 : ∃ (s : State) (t : Tick) (ref : RecRef) (r : Rec) (b i : Bytes) (v : State) (h k : Nat),
    let c := s.cmd t r b i
    let u := (s.begun t r b i).1
    let d := sub b 0x40 (beNat (sub b 0x0E 2))
    let n := (if kh1Mod c = 1 then u.ivLen r.tenant h else 0 : Nat)
    let q : CipherReq := { handle := h, mode := kh1Mod c + 1, enc := true, iv := padTo 16 (d.take n), data := d.drop n }
    let x := v.slot k
    let o := cipherRun q x x.material []
    (Accepted s t ref 0x10010 r b i) ∧
    (beNat (sub b 0x0E 2) ≤ 176) ∧
    (u.kh1Handle r.tenant (beNat (sub b 8 2)) = some h) ∧
    (kh1Mod c ≤ 1) ∧
    (u.resolve (some r.tenant) h { fits := modeFits q.mode, use := fun _ => modeUse q.mode q.enc, units := some (units (ceilDiv q.data.length 8)) } = (v, .ok k)) ∧
    (cipherCheck q x x.material [] = none) :=
  ⟨{ wKh1Key { type := 1, keyBits := 128, usage := useBit 0 } with waiting := [wKh1Rec (wKh1Raw 0x0010 1 0 0 (zeros 16))] }, 9, wKh1Ref, wKh1Rec (wKh1Raw 0x0010 1 0 0 (zeros 16)), wKh1Raw 0x0010 1 0 0 (zeros 16), [], _, wHandle, 7, by exact ⟨wAcc (by decide +kernel), by decide +kernel, by decide +kernel, by decide +kernel, wRes _ _ (by decide +kernel), by decide +kernel⟩⟩

theorem witness_CiphersAndMacsRunOnALane_9 : ∃ (s : State) (t : Tick) (ref : RecRef) (r : Rec) (b i : Bytes) (v : State) (h k : Nat),
    let c := s.cmd t r b i
    let u := (s.begun t r b i).1
    let d := sub b 0x40 (beNat (sub b 0x0E 2))
    let n := (if kh1Mod c = 1 then u.ivLen r.tenant h else 0 : Nat)
    let q : CipherReq := { handle := h, mode := kh1Mod c + 1, enc := false, iv := padTo 16 (d.take n), data := d.drop n }
    let x := v.slot k
    let o := cipherRun q x x.material []
    (Accepted s t ref 0x10011 r b i) ∧
    (beNat (sub b 0x0E 2) ≤ 176) ∧
    (u.kh1Handle r.tenant (beNat (sub b 8 2)) = some h) ∧
    (kh1Mod c ≤ 1) ∧
    (u.resolve (some r.tenant) h { fits := modeFits q.mode, use := fun _ => modeUse q.mode q.enc, units := some (units (ceilDiv q.data.length 8)) } = (v, .ok k)) ∧
    (cipherCheck q x x.material [] = none) :=
  ⟨{ wKh1Key { type := 1, keyBits := 128, usage := useBit 1 } with waiting := [wKh1Rec (wKh1Raw 0x0011 1 0 0 (zeros 16))] }, 9, wKh1Ref, wKh1Rec (wKh1Raw 0x0011 1 0 0 (zeros 16)), wKh1Raw 0x0011 1 0 0 (zeros 16), [], _, wHandle, 7, by exact ⟨wAcc (by decide +kernel), by decide +kernel, by decide +kernel, by decide +kernel, wRes _ _ (by decide +kernel), by decide +kernel⟩⟩

theorem witness_CiphersAndMacsRunOnALane_10 : ∃ (s : State) (t : Tick) (ref : RecRef) (r : Rec) (b i : Bytes) (v : State) (h k : Nat),
    let c := s.cmd t r b i
    let u := (s.begun t r b i).1
    let d := sub b 0x40 (beNat (sub b 0x0E 2))
    let e := d
    let x := v.slot k
    let m := (macOf (kh1MacMode c) x.material e).take 8
    (Accepted s t ref 0x10020 r b i) ∧
    (beNat (sub b 0x0E 2) ≤ 176) ∧
    (u.kh1Handle r.tenant (beNat (sub b 8 2)) = some h) ∧
    (kh1Mod c ≤ 1) ∧
    (u.resolve (some r.tenant) h { fits := fun x => if kh1MacMode c = 0x10 then isAes x else isTdea x, use := fun _ => useBit 2, units := some (units (ceilDiv e.length 8)) } = (v, .ok k)) ∧
    ((if kh1MacMode c = 0x10 then lenCheck e.length 0 (2 ^ 36) 1 else lenCheck e.length 8 (2 ^ 23) 8) = none) ∧
    (isTdea x = true → tdeaDistinct x.material = true) :=
  ⟨{ wKh1Key { type := 1, keyBits := 128, usage := useBit 2 } with waiting := [wKh1Rec (wKh1Raw 0x0020 1 0 1 (zeros 16))] }, 9, wKh1Ref, wKh1Rec (wKh1Raw 0x0020 1 0 1 (zeros 16)), wKh1Raw 0x0020 1 0 1 (zeros 16), [], _, wHandle, 7, by exact ⟨wAcc (by decide +kernel), by decide +kernel, by decide +kernel, by decide +kernel, wRes _ _ (by decide +kernel), by decide +kernel, by decide +kernel⟩⟩

theorem witness_CiphersAndMacsRunOnALane_11 : ∃ (s : State) (t : Tick) (ref : RecRef) (r : Rec) (b i : Bytes) (v : State) (h k : Nat),
    let c := s.cmd t r b i
    let u := (s.begun t r b i).1
    let d := sub b 0x40 (beNat (sub b 0x0E 2))
    let e := d.take (d.length - 8)
    let x := v.slot k
    let m := (macOf (kh1MacMode c) x.material e).take 8
    (Accepted s t ref 0x10021 r b i) ∧
    (beNat (sub b 0x0E 2) ≤ 176) ∧
    (u.kh1Handle r.tenant (beNat (sub b 8 2)) = some h) ∧
    (kh1Mod c ≤ 1) ∧
    (8 ≤ d.length) ∧
    (u.resolve (some r.tenant) h { fits := fun x => if kh1MacMode c = 0x10 then isAes x else isTdea x, use := fun _ => useBit 3, units := some (units (ceilDiv e.length 8)) } = (v, .ok k)) ∧
    ((if kh1MacMode c = 0x10 then lenCheck e.length 0 (2 ^ 36) 1 else lenCheck e.length 8 (2 ^ 23) 8) = none) ∧
    (isTdea x = true → tdeaDistinct x.material = true) :=
  ⟨{ wKh1Key { type := 1, keyBits := 128, usage := useBit 3 } with waiting := [wKh1Rec (wKh1Raw 0x0021 1 0 1 (zeros 16))] }, 9, wKh1Ref, wKh1Rec (wKh1Raw 0x0021 1 0 1 (zeros 16)), wKh1Raw 0x0021 1 0 1 (zeros 16), [], _, wHandle, 7, by exact ⟨wAcc (by decide +kernel), by decide +kernel, by decide +kernel, by decide +kernel, by decide +kernel, wRes _ _ (by decide +kernel), by decide +kernel, by decide +kernel⟩⟩

theorem witness_RandomBytesAreDrawnWhileTheDrbgIsHealthy_1 : ∃ (s : State) (t : Tick) (ref : RecRef) (r : Rec) (b i : Bytes) (w : State) (d : Bytes),
    let u := (s.begun t r b i).1
    (Accepted s t ref 0x0601 r b i) ∧
    (b.length = 8) ∧
    (0 < fld b 0 4) ∧
    (fld b 0 4 ≤ 4096) ∧
    (fld b 4 4 ≤ 1) ∧
    (u.random (fld b 0 4) (fld b 4 4 == 1) = some (w, d)) :=
  ⟨wCmd (wHealthy) 0x0601 0 (natLE 4 9 ++ zeros 4), 9, wRef, wCmdRec 0x0601 0 (natLE 4 9 ++ zeros 4), natLE 4 9 ++ zeros 4, [], _, _, by exact ⟨wAcc (by decide +kernel), by decide +kernel, by decide +kernel, by decide +kernel, by decide +kernel, wSome _ (by decide +kernel)⟩⟩

theorem witness_RandomBytesAreDrawnWhileTheDrbgIsHealthy_2 : ∃ (s : State) (t : Tick) (ref : RecRef) (r : Rec) (b i : Bytes) (w : State) (d : Bytes),
    let u := (s.begun t r b i).1
    (Accepted s t ref 0x10050 r b i) ∧
    (0 < beNat (sub b 0x0E 2)) ∧
    (beNat (sub b 0x0E 2) ≤ 176) ∧
    (u.random (beNat (sub b 0x0E 2)) = some (w, d)) :=
  ⟨{ wHealthy with waiting := [wKh1Rec (wKh1Raw 0x0050 0 0 0 (zeros 8))] }, 9, wKh1Ref, wKh1Rec (wKh1Raw 0x0050 0 0 0 (zeros 8)), wKh1Raw 0x0050 0 0 0 (zeros 8), [], _, _, by exact ⟨wAcc (by decide +kernel), by decide +kernel, by decide +kernel, wSome _ (by decide +kernel)⟩⟩

end Sys2Proof.Tests
end

