-- ==== Sys2Proof/Tests/Slice0Custody.lean ====
section
/-! SUPPORT. Witnesses: states and operands that meet the hypotheses of the statements on custodian, quorum and share commands. -/

set_option autoImplicit false
set_option maxRecDepth 4000
set_option linter.unusedVariables false

namespace Sys2Proof.Tests

set_option Elab.async false

open Sys2Proof Sys2Proof.Machine

/-- A quorum open for tenant 0, a card in port 1 and in the transit slot. -/
def wCustody (m : Nat) : State :=
  { wQuorum with
    man := { wQuorum.man with set := { wQuorum.man.set with custody := [{ tenant := 0, m }], cardClasses := [7, 7, 7, 7] } }
    vault := { wQuorum.vault with keys := [(0, { present := true })], custodyNonce := List.replicate 32 1
                                  custody := [(0, { rosterGen := 1, setOpen := true, shareSet := 1 })] }
    rosters := [(0, { gen := 1, entries := [(1, zeros 16, 1), (2, zeros 16, 2)] })]
    cards := { port := [(1, { present := true })], transit := { present := true } } }

theorem witness_CustodyCommandsRunQuorumsCardsAndShares_1 : ∃ (s : State) (t : Tick) (ref : RecRef) (r : Rec) (b i : Bytes) (v : State) (cu : Custody) (e : CustodyEntry),
    let u := (s.begun t r b i).1
    let w := v.setQuorum r.tenant { phase := 1, purposes := BitVec.ofNat 8 (fld b 0 1), uses := fld b 1 1 }
    (Accepted s t ref 0x0803 r b i) ∧
    (b.length = 8) ∧
    (fld b 0 1 ≠ 0) ∧
    (fld b 1 1 ≠ 0) ∧
    (fld b 1 1 ≤ 16) ∧
    (zeroAt b 2 6 = true) ∧
    (u.custodyOf r.tenant = some cu) ∧
    (u.loadRoster r.tenant i = (v, .ok e)) :=
  ⟨wCmd (wCustody 3) 0x0803 0 ([1, 1] ++ zeros 6), 9, wRef, wCmdRec 0x0803 0 ([1, 1] ++ zeros 6), [1, 1] ++ zeros 6, [], _, _, { rosterGen := 1, setOpen := true, shareSet := 1 }, by exact ⟨wAcc (by decide +kernel), by decide +kernel, by decide +kernel, by decide +kernel, by decide +kernel, by decide +kernel, (Option.some_get (by decide +kernel)).symm, wOkPair _ _ (by decide +kernel)⟩⟩

theorem witness_CustodyCommandsRunQuorumsCardsAndShares_2 : ∃ (s : State) (t : Tick) (ref : RecRef) (r : Rec) (b i : Bytes),
    let u := (s.begun t r b i).1
    let q := u.quorum r.tenant
    (Accepted s t ref 0x0805 r b i) ∧
    (b = []) :=
  ⟨wCmd (wCustody 3) 0x0805 0 ([]), 9, wRef, wCmdRec 0x0805 0 ([]), [], [], by exact ⟨wAcc (by decide +kernel), by decide +kernel⟩⟩

theorem witness_CustodyCommandsRunQuorumsCardsAndShares_3 : ∃ (s : State) (t : Tick) (ref : RecRef) (r : Rec) (b i : Bytes),
    let u := (s.begun t r b i).1
    (Accepted s t ref 0x0806 r b i) ∧
    (b = []) :=
  ⟨wCmd (wCustody 3) 0x0806 0 ([]), 9, wRef, wCmdRec 0x0806 0 ([]), [], [], by exact ⟨wAcc (by decide +kernel), by decide +kernel⟩⟩

theorem witness_CustodyCommandsRunQuorumsCardsAndShares_4 : ∃ (s : State) (t : Tick) (ref : RecRef) (r : Rec) (b i : Bytes) (v : State) (x : Roster),
    let u := (s.begun t r b i).1
    let y := { x with gen := nextGen (v.custodyEntry r.tenant).rosterGen, entries := x.entries.filter fun a => a.1 != fld b 0 8 }
    let w := { v with rosters := mapSet v.rosters r.tenant y }
    (Accepted s t ref 0x0802 r b i) ∧
    (b.length = 8) ∧
    (u.quorumUse r.tenant purposeRoster = (v, none)) ∧
    (mapFind v.rosters r.tenant = some x) ∧
    ((x.entries.all fun a => a.1 != fld b 0 8) = false) ∧
    (v.quorumM r.tenant ≤ (x.entries.filter fun a => a.1 != fld b 0 8).length) :=
  ⟨wCmd (wCustody 1) 0x0802 0 (natLE 8 1), 9, wRef, wCmdRec 0x0802 0 (natLE 8 1), natLE 8 1, [], _, { gen := 1, entries := [(1, zeros 16, 1), (2, zeros 16, 2)] }, by exact ⟨wAcc (by decide +kernel), by decide +kernel, wPairEq _ _ (by decide +kernel), by decide +kernel, by decide +kernel, by decide +kernel⟩⟩

theorem witness_CustodyCommandsRunQuorumsCardsAndShares_5 : ∃ (s : State) (t : Tick) (ref : RecRef) (r : Rec) (b i : Bytes) (w : State) (d : Bytes),
    let u := (s.begun t r b i).1
    let p := u.cardPort (fld b 0 1)
    let q : CardPort := { p with ref := some r.ref, tenant := r.tenant, enrol := none, plain := false, eph := p256Curve.scalar (d.take 40), nonceD := d.drop 40, classes := u.portClasses (fld b 0 1) }
    (Accepted s t ref 0x0804 r b i) ∧
    (b.length = 8) ∧
    (fld b 0 1 ≤ 3) ∧
    (zeroAt b 1 7 = true) ∧
    (u.portClasses (fld b 0 1) ≠ []) ∧
    ((u.quorum r.tenant).phase ≠ 0) ∧
    (u.domainFail 11 = none) ∧
    (p.ref = none) ∧
    (p.present = true) ∧
    (u.random 56 = some (w, d)) :=
  ⟨wCmd (wCustody 3) 0x0804 0 ([1] ++ zeros 7), 9, wRef, wCmdRec 0x0804 0 ([1] ++ zeros 7), [1] ++ zeros 7, [], _, _, by exact ⟨wAcc (by decide +kernel), by decide +kernel, by decide +kernel, by decide +kernel, by decide +kernel, by decide +kernel, by decide +kernel, by decide +kernel, by decide +kernel, wSome _ (by decide +kernel)⟩⟩

theorem witness_CustodyCommandsRunQuorumsCardsAndShares_6 : ∃ (s : State) (t : Tick) (ref : RecRef) (r : Rec) (b i : Bytes) (v0 v1 v w : State) (d : Bytes) (e : CustodyEntry),
    let u := (s.begun t r b i).1
    let v2 := v1.applyAll (v0.custodyChange r.tenant e)
    let p := v.cardPort (fld b 0 1)
    let q : CardPort := { p with ref := some r.ref, tenant := r.tenant, enrol := some (fld b 1 1), plain := false, eph := p256Curve.scalar (d.take 40), nonceD := d.drop 40, classes := v.portClasses (fld b 0 1) }
    (Accepted s t ref 0x0801 r b i) ∧
    (b.length = 8) ∧
    (fld b 0 1 ≤ 3) ∧
    (zeroAt b 2 6 = true) ∧
    (u.portClasses (fld b 0 1) ≠ []) ∧
    (fld b 1 1 ≤ 31) ∧
    ((u.custodyOf r.tenant).isNone = false) ∧
    ((if u.quorumM r.tenant ≤ u.rosterCount r.tenant then u.quorumUse r.tenant purposeRoster = (v0, none) else v0 = u)) ∧
    (v0.loadRoster r.tenant i = (v1, .ok e)) ∧
    (((mapFind v2.rosters r.tenant).map fun x => x.entries.any fun a => a.2.2 == fld b 1 1) ≠ some true) ∧
    ((if v2.vault.custodyNonce ≠ zeros 32 then some v2 else (v2.random 32).map fun d => { d.1 with vault := { d.1.vault with custodyNonce := d.2 } }) = some v) ∧
    (v.domainFail 11 = none) ∧
    (p.ref = none) ∧
    (p.present = true) ∧
    (v.random 56 = some (w, d)) :=
  ⟨wCmd (wCustody 3) 0x0801 0 ([1, 5] ++ zeros 6), 9, wRef, wCmdRec 0x0801 0 ([1, 5] ++ zeros 6), [1, 5] ++ zeros 6, [], _, _, _, _, _, { rosterGen := 1, setOpen := true, shareSet := 1 }, by exact ⟨wAcc (by decide +kernel), by decide +kernel, by decide +kernel, by decide +kernel, by decide +kernel, by decide +kernel, by decide +kernel, by rw [if_neg (by decide +kernel)], wOkPair _ _ (by decide +kernel), by decide +kernel, by rw [if_pos (by decide +kernel)], by decide +kernel, by decide +kernel, by decide +kernel, wSome _ (by decide +kernel)⟩⟩

theorem witness_CustodyCommandsRunQuorumsCardsAndShares_7 : ∃ (s : State) (t : Tick) (ref : RecRef) (r : Rec) (b i : Bytes) (v : State),
    let u := (s.begun t r b i).1
    let e := { v.custodyEntry r.tenant with shareSet := nextGen (v.custodyEntry r.tenant).shareSet, shareN := fld b 1 1, shareK := fld b 2 1, sharesIssued := 0, setOpen := true }
    let w := v.apply (.custody r.tenant e)
    (Accepted s t ref 0x0807 r b i) ∧
    (b.length = 8) ∧
    (fld b 0 1 = 1) ∧
    (zeroAt b 3 1 = true) ∧
    (zeroAt b 6 2 = true) ∧
    (u.quorumUse r.tenant purposeShares = (v, none)) ∧
    ((v.keyRec r.tenant).present = true) ∧
    (2 ≤ fld b 2 1) ∧
    (fld b 2 1 ≤ fld b 1 1) ∧
    (fld b 1 1 ≤ 16) ∧
    (w.domainFail 11 = none) ∧
    (w.cards.transit.ref = none) ∧
    (w.cards.transit.present = true) :=
  ⟨wCmd (wCustody 3) 0x0807 0 ([1, 3, 2] ++ zeros 5), 9, wRef, wCmdRec 0x0807 0 ([1, 3, 2] ++ zeros 5), [1, 3, 2] ++ zeros 5, [], _, by exact ⟨wAcc (by decide +kernel), by decide +kernel, by decide +kernel, by decide +kernel, by decide +kernel, wPairEq _ _ (by decide +kernel), by decide +kernel, by decide +kernel, by decide +kernel, by decide +kernel, by decide +kernel, by decide +kernel, by decide +kernel⟩⟩

theorem witness_CustodyCommandsRunQuorumsCardsAndShares_8 : ∃ (s : State) (t : Tick) (ref : RecRef) (r : Rec) (b i : Bytes) (v : State),
    let u := (s.begun t r b i).1
    (Accepted s t ref 0x0807 r b i) ∧
    (b.length = 8) ∧
    (fld b 0 1 = 0) ∧
    (zeroAt b 3 1 = true) ∧
    (zeroAt b 6 2 = true) ∧
    (u.quorumUse r.tenant purposeShares = (v, none)) ∧
    ((v.keyRec r.tenant).present = true) ∧
    ((v.custodyEntry r.tenant).setOpen = true) ∧
    (fld b 4 2 = (v.custodyEntry r.tenant).shareSet) ∧
    (v.domainFail 11 = none) ∧
    (v.cards.transit.ref = none) ∧
    (v.cards.transit.present = true) :=
  ⟨wCmd (wCustody 3) 0x0807 0 (zeros 4 ++ [1] ++ zeros 3), 9, wRef, wCmdRec 0x0807 0 (zeros 4 ++ [1] ++ zeros 3), zeros 4 ++ [1] ++ zeros 3, [], _, by exact ⟨wAcc (by decide +kernel), by decide +kernel, by decide +kernel, by decide +kernel, by decide +kernel, wPairEq _ _ (by decide +kernel), by decide +kernel, by decide +kernel, by decide +kernel, by decide +kernel, by decide +kernel, by decide +kernel⟩⟩

theorem witness_CustodyCommandsRunQuorumsCardsAndShares_9 : ∃ (s : State) (t : Tick) (ref : RecRef) (r : Rec) (b i : Bytes) (v : State),
    let u := (s.begun t r b i).1
    (Accepted s t ref 0x0808 r b i) ∧
    (b.length = 8) ∧
    (fld b 0 1 = 0) ∧
    (zeroAt b 1 7 = true) ∧
    (u.quorumUse r.tenant purposeShares = (v, none)) ∧
    (v.domainFail 11 = none) ∧
    (v.cards.transit.ref = none) ∧
    (v.cards.transit.present = true) :=
  ⟨wCmd (wCustody 3) 0x0808 0 (zeros 8), 9, wRef, wCmdRec 0x0808 0 (zeros 8), zeros 8, [], _, by exact ⟨wAcc (by decide +kernel), by decide +kernel, by decide +kernel, by decide +kernel, wPairEq _ _ (by decide +kernel), by decide +kernel, by decide +kernel, by decide +kernel⟩⟩

theorem witness_CustodyCommandsRunQuorumsCardsAndShares_10 : ∃ (s : State) (t : Tick) (ref : RecRef) (r : Rec) (b i : Bytes) (v : State),
    let u := (s.begun t r b i).1
    (Accepted s t ref 0x0808 r b i) ∧
    (b.length = 8) ∧
    (fld b 0 1 = 1) ∧
    (zeroAt b 1 7 = true) ∧
    (u.quorumUse r.tenant purposeShares = (v, none)) :=
  ⟨wCmd (wCustody 3) 0x0808 0 ([1] ++ zeros 7), 9, wRef, wCmdRec 0x0808 0 ([1] ++ zeros 7), [1] ++ zeros 7, [], _, by exact ⟨wAcc (by decide +kernel), by decide +kernel, by decide +kernel, by decide +kernel, wPairEq _ _ (by decide +kernel)⟩⟩

end Sys2Proof.Tests
end

