-- ==== Sys2Proof/Tests/Slice0Host.lean ====
section
/-! SUPPORT. Witnesses: states and operands that meet the hypotheses of the statements on the host attachment. -/

set_option autoImplicit false
set_option maxRecDepth 4000
set_option linter.unusedVariables false

namespace Sys2Proof.Tests

set_option Elab.async false

open Sys2Proof Sys2Proof.Machine

theorem witness_DoorbellsMoveTheRingIndexes_1 : ∃ (s : State) (t : Tick) (fn q v : Nat),
    let u := s.at t
    let p := u.qp fn q
    (fn ≤ 255) ∧
    (q ≤ 15) ∧
    (u.queDecoded = true) ∧
    (u.mode ≠ .drowse) ∧
    (u.fnOpen fn = true) ∧
    (q < u.qpCount fn) ∧
    (u.tmp.severed = false) ∧
    (p.enabled = true) ∧
    (v < 2 ^ p.sizeLog2) :=
  ⟨wServing, 9, 0, 1, 1, by decide +kernel⟩

theorem witness_DoorbellsMoveTheRingIndexes_2 : ∃ (s : State) (t : Tick) (fn q v : Nat),
    let u := s.at t
    let p := u.qp fn q
    (fn ≤ 255) ∧
    (q ≤ 15) ∧
    (u.queDecoded = true) ∧
    (u.mode ≠ .drowse) ∧
    (u.fnOpen fn = true) ∧
    (q < u.qpCount fn) ∧
    (u.tmp.severed = false) ∧
    (p.enabled = true) ∧
    (v < 2 ^ p.sizeLog2) :=
  ⟨wServing, 9, 0, 1, 1, by decide +kernel⟩

theorem witness_DoorbellsMoveTheRingIndexes_3 : ∃ (s : State) (t : Tick) (fn q v : Nat),
    let u := s.at t
    (fn ≤ 255) ∧
    (q ≤ 15) ∧
    (u.queDecoded = true) ∧
    (u.mode ≠ .drowse) ∧
    (u.fnOpen fn = true) ∧
    (q < u.qpCount fn) ∧
    (u.tmp.severed = false) ∧
    ((u.qp fn q).enabled = true) ∧
    (2 ^ (u.qp fn q).sizeLog2 ≤ v) :=
  ⟨wServing, 9, 0, 1, 2, by decide +kernel⟩

theorem witness_AFetchedRecordThatPassesTheChecksWaits_1 : ∃ (s : State) (t : Tick) (fn q : Nat) (f : Fetched),
    let u := s.at t
    let p := u.qp fn q
    let e := parseSq f.entry
    let n := 64 + fld f.record 8 4
    let r : Rec := { ref := .host fn q p.sqHead, order := u.host.order, tenant := fn, fn, q, sq := e,
                     outList := if e.flags.getLsbD 1 then f.outList else [], raw := f.record.take n, input := f.input,
                     seq := fld f.record 0x10 6, arrival := (takeReady p u.tick).1, fetched := u.tick }
    (fn ≤ 255) ∧
    (q ≤ 15) ∧
    (u.fetchable fn q = true) ∧
    (p.kh1 = false) ∧
    (64 ≤ e.recordLen) ∧
    (e.recordLen ≤ 65536) ∧
    (u.ttuOk fn e.recordAddr e.recordLen false = true) ∧
    (fld f.record 4 4 = e.recordLen) ∧
    (n + 4 * ceilDiv n 64 = e.recordLen) ∧
    (f.record.length = e.recordLen) ∧
    (badGranule (f.record.take n) (f.record.drop n) = none) ∧
    (((checkedRanges e f).all fun x => u.ttuOk fn x.1 x.2.1 x.2.2) = true) ∧
    (u.spaceOk r = true) ∧
    (((u.waiting ++ [r]).all fun x => ((nativeOp x.op).bind opRow).isSome) = true) :=
  ⟨wRing, 9, 0, 1, wFetched, by decide +kernel⟩

theorem witness_AFetchedRecordThatPassesTheChecksWaits_2 : ∃ (s : State) (t : Tick) (fn q : Nat) (f : Fetched),
    let u := s.at t
    let p := u.qp fn q
    let r : Rec := { ref := .host fn q p.sqHead, form := .kh1, order := u.host.order, tenant := fn, fn, q,
                     raw := padTo 256 f.entry, seq := 2 ^ 47 + q * 2 ^ 43 + p.seqCount, arrival := (takeReady p u.tick).1,
                     fetched := u.tick }
    (fn ≤ 255) ∧
    (q ≤ 15) ∧
    (u.fetchable fn q = true) ∧
    (p.kh1 = true) ∧
    (beNat (sub (padTo 256 f.entry) 2 2) = 0x0100) ∧
    (((u.waiting ++ [r]).all fun x => ((nativeOp x.op).bind opRow).isSome) = true) :=
  ⟨wRingKh1, 9, 0, 3, wFetchedKh1, by decide +kernel⟩

theorem witness_QueuePairsEnableDrainAndDisable_1 : ∃ (s : State) (t : Tick) (fn q : Nat) (v : Word32),
    let u := s.at t
    let p := u.qp fn q
    let p1 := ctrlAll p v
    (fn ≤ 255) ∧
    (q ≤ 15) ∧
    (u.qpOpen fn q = true) ∧
    (p.enabled = false) ∧
    (p.draining = false) ∧
    (1 ≤ p1.sizeLog2) ∧
    (p1.sizeLog2 ≤ 12) ∧
    (vectorOk fn p1.vector = true) ∧
    (u.ttuOk fn p1.sqBase (2 ^ p1.sizeLog2 * if p1.kh1 then 256 else 64) false = true) ∧
    (u.ttuOk fn p1.cqBase (2 ^ p1.sizeLog2 * if p1.kh1 then 256 else 32) true = true) :=
  ⟨wServing, 9, 0, 2, 0x1045#32, by decide +kernel⟩

theorem witness_QueuePairsEnableDrainAndDisable_2 : ∃ (s : State) (t : Tick) (fn q : Nat) (v : Word32) (code : Nat),
    let u := s.at t
    let p := u.qp fn q
    let p1 := ctrlAll p v
    (fn ≤ 255) ∧
    (q ≤ 15) ∧
    (u.qpOpen fn q = true) ∧
    (p.enabled = false) ∧
    (p.draining = false) ∧
    ((p1.sizeLog2 = 0 ∨ 12 < p1.sizeLog2) ∧ code = 4 ∨ (1 ≤ p1.sizeLog2 ∧ p1.sizeLog2 ≤ 12) ∧ vectorOk fn p1.vector = false ∧ code = 5 ∨
      (1 ≤ p1.sizeLog2 ∧ p1.sizeLog2 ≤ 12) ∧ vectorOk fn p1.vector = true ∧ code = 3 ∧
        (u.ttuOk fn p1.sqBase (2 ^ p1.sizeLog2 * if p1.kh1 then 256 else 64) false = false ∨
         u.ttuOk fn p1.cqBase (2 ^ p1.sizeLog2 * if p1.kh1 then 256 else 32) true = false)) :=
  ⟨wServing, 9, 0, 2, 0x1001#32, 4, by decide +kernel⟩

theorem witness_QueuePairsEnableDrainAndDisable_3 : ∃ (s : State) (t : Tick) (fn q : Nat) (v : Word32),
    let u := s.at t
    let p := u.qp fn q
    (fn ≤ 255) ∧
    (q ≤ 15) ∧
    (u.qpOpen fn q = true) ∧
    (p.enabled = true) ∧
    (p.draining = false) ∧
    ((u.waiting.all fun r => !(r.fn == fn && r.q == q)) = true) :=
  ⟨wServing, 9, 0, 1, 0x0044#32, by decide +kernel⟩

theorem witness_QueuePairsEnableDrainAndDisable_4 : ∃ (s : State) (t : Tick) (fn q : Nat),
    let u := s.at t
    let p := u.qp fn q
    (fn ≤ 255) ∧
    (q ≤ 15) ∧
    (p.draining = true) ∧
    (p.inFlight = 0) :=
  ⟨wDraining, 9, 0, 1, by decide +kernel⟩

theorem witness_QueuePairsEnableDrainAndDisable_5 : ∃ (s : State) (t : Tick) (fn q : Nat),
    let u := s.at t
    let p := u.qp fn q
    (fn ≤ 255) ∧
    (q ≤ 15) ∧
    (p.irqEnable = true) ∧
    (0 < p.irqPending) ∧
    (p.irqFirst + p.aggTime ≤ u.tick) ∧
    ((mapGet {} u.host.vectors (64 * fn + p.vector)).masked = false) :=
  ⟨wIrq, 99, 0, 1, by decide +kernel⟩

theorem witness_WindowRegistersAreWrittenWhileNoQueuePairRuns_1 : ∃ (s : State) (t : Tick) (fn w reg : Nat) (v : Word32) (x1 : Window),
    let u := s.at t
    let x := mapGet {} u.host.win (8 * fn + w)
    (fn ≤ 255) ∧
    (w ≤ 7) ∧
    (u.queDecoded = true) ∧
    (((List.range 16).all fun q => !(u.qp fn q).enabled && !(u.qp fn q).draining) = true) ∧
    ((reg = 0x00 ∧ x1 = { x with base := x.base / 2 ^ 32 * 2 ^ 32 + v.toNat / 4096 * 4096 }) ∨
      (reg = 0x04 ∧ x1 = { x with base := x.base % 2 ^ 32 + v.toNat * 2 ^ 32 }) ∨
      (reg = 0x08 ∧ x1 = { x with size := x.size / 2 ^ 32 * 2 ^ 32 + v.toNat / 4096 * 4096 }) ∨
      (reg = 0x0C ∧ x1 = { x with size := x.size % 2 ^ 32 + v.toNat * 2 ^ 32 }) ∨
      (reg = 0x10 ∧ x1 = { x with ctrl := v.setWidth 2 })) :=
  ⟨wServing, 9, 1, 7, 0x10, 3#32, { ctrl := 3#2 }, by decide +kernel⟩

theorem witness_WindowRegistersAreWrittenWhileNoQueuePairRuns_2 : ∃ (s : State) (t : Tick) (fn w reg : Nat) (v : Word32),
    let u := s.at t
    (fn ≤ 255) ∧
    (w ≤ 7) ∧
    (reg ≤ 16) ∧
    (reg % 4 = 0) ∧
    (u.queDecoded = true) ∧
    (((List.range 16).any fun q => (u.qp fn q).enabled || (u.qp fn q).draining) = true) :=
  ⟨wServing, 9, 0, 0, 16, 3#32, by decide +kernel⟩

theorem witness_FunctionsAndTheInterfaceReset_1 : ∃ (s : State) (t : Tick) (vf : Nat),
    let u := s.at t
    (1 ≤ vf) ∧
    (vf ≤ 255) ∧
    (u.fnOpen vf = true) ∧
    (u.host.released = true) ∧
    (u.rpl.capturing = false) :=
  ⟨wVfs, 9, 3, by decide +kernel⟩

theorem witness_FunctionsAndTheInterfaceReset_2 : ∃ (s : State) (t : Tick) (vf : Nat),
    let u := s.at t
    (1 ≤ vf) ∧
    (vf ≤ 255) ∧
    ((mapFind u.host.flr vf).isSome = true) :=
  ⟨wFlr, 9, 3, by decide +kernel⟩

theorem witness_FunctionsAndTheInterfaceReset_3 : ∃ (s : State) (t : Tick) (n : Nat),
    let u := s.at t
    (n ≤ 255) ∧
    (u.host.released = true) ∧
    (u.host.vfEnable = false) :=
  ⟨wServing, 9, 4, by decide +kernel⟩

theorem witness_FunctionsAndTheInterfaceReset_4 : ∃ (s : State) (t : Tick) (n : Nat),
    let u := s.at t
    (n ≤ 255) ∧
    (u.host.released = true) ∧
    (u.host.vfEnable = true) :=
  ⟨wVfs, 9, 0, by decide +kernel⟩

theorem witness_FunctionsAndTheInterfaceReset_5 : ∃ (s : State) (t : Tick) (k : HifReset),
    let u := s.at t
    (k ≠ .perst ∨ u.lead = true) :=
  ⟨wVfs, 9, .perst, by decide +kernel⟩

theorem witness_FunctionsAndTheInterfaceReset_6 : ∃ (s : State) (t : Tick) (width speed : Nat),
    let u := s.at t
    (width ≤ 3) ∧
    (speed ≤ 7) ∧
    (u.lead = true) :=
  ⟨wServing, 9, 3, 5, by decide +kernel⟩

theorem witness_ConfigurationRequestsAndRejectedTransactions_1 : ∃ (s : State) (t : Tick) (fn : Nat) (c : CfgReq),
    let u := s.at t
    (fn ≤ 255) ∧
    (u.host.released = false) :=
  ⟨State.reset, 9, 255, .read, by decide +kernel⟩

theorem witness_ConfigurationRequestsAndRejectedTransactions_2 : ∃ (s : State) (t : Tick) (fn : Nat),
    let u := s.at t
    (fn ≤ 255) ∧
    (u.host.released = true) :=
  ⟨wServing, 9, 0, by decide +kernel⟩

theorem witness_ConfigurationRequestsAndRejectedTransactions_3 : ∃ (s : State) (t : Tick) (fn us : Nat),
    let u := s.at t
    (fn ≤ 255) ∧
    (u.host.released = true) :=
  ⟨wServing, 9, 0, 100, by decide +kernel⟩

theorem witness_ConfigurationRequestsAndRejectedTransactions_4 : ∃ (s : State) (t : Tick) (fn : Nat) (on : Bool),
    let u := s.at t
    (fn ≤ 255) ∧
    (u.host.released = true) :=
  ⟨wServing, 9, 0, true, by decide +kernel⟩

theorem witness_ConfigurationRequestsAndRejectedTransactions_5 : ∃ (s : State) (t : Tick) (fn : Nat),
    let u := s.at t
    (fn ≤ 255) :=
  ⟨wServing, 9, 255, by decide +kernel⟩

theorem witness_OutboundReadsCompleteTimeOutOrExpire_1 : ∃ (s : State) (t : Tick) (fn q : Nat) (r : Rec) (stamp : Tick),
    let u := s.at t
    (fn ≤ 255) ∧
    (q ≤ 15) ∧
    (u.readRec fn q = some r) ∧
    (governs stamp u.tick (r.fetched + u.cplTimeout fn) = true) :=
  ⟨wWaiting, 9, 0, 1, wRec, 9, by decide +kernel⟩

theorem witness_OutboundReadsCompleteTimeOutOrExpire_2 : ∃ (s : State) (t : Tick) (fn q : Nat) (k : ReadKind) (stamp : Tick) (good : Bool),
    let u := s.at t
    (fn ≤ 255) ∧
    (q ≤ 15) ∧
    (u.readIssue fn q k = none) :=
  ⟨wServing, 9, 0, 1, .record, 9, true, by decide +kernel⟩

theorem witness_OutboundReadsCompleteTimeOutOrExpire_3 : ∃ (s : State) (t : Tick) (fn q : Nat) (r : Rec),
    let u := s.at t
    (fn ≤ 255) ∧
    (q ≤ 15) ∧
    (u.readRec fn q = some r) ∧
    (r.fetched + u.cplTimeout fn + 2 ≤ u.tick) :=
  ⟨wWaiting, 60000, 0, 1, wRec, by decide +kernel⟩

theorem witness_OutboundReadsCompleteTimeOutOrExpire_4 : ∃ (s : State) (t : Tick) (ref : RecRef) (r : Rec),
    let u := s.at t
    (ref.ok = true) ∧
    ((u.waiting.find? fun x => x.ref == ref) = some r) ∧
    (r.deadline ≠ 0) ∧
    (r.arrival + r.deadline + 2 ≤ u.tick) :=
  ⟨wWaiting, 60000, wRef, wRec, by decide +kernel⟩

end Sys2Proof.Tests
end

