-- ==== Sys2Proof/Tests/Slice0Keyed.lean ====
section
/-! SUPPORT. Witnesses: states and operands that meet the hypotheses of the statements on digests and the public-key commands. -/

set_option autoImplicit false
set_option maxRecDepth 4000
set_option linter.unusedVariables false

namespace Sys2Proof.Tests

set_option Elab.async false

open Sys2Proof Sys2Proof.Machine

/-- A digest state blob of tenant 0 under an empty trunk and a zero IV, with its AES-256-GCM tag (Table 8-9). -/
def wStateBlob : Bytes :=
  ascii "KHDS" ++ [1, 0, 0, 1] ++ zeros 40 ++
    natBE 232 0xA566A4E8F27C5272A209EC0B1FAF65F897C19D2DDC9E8947C77CD629BCC17CCF90984851E57475BF7DA387B32261D3934812ED8DF6DE3C9EBD088BC64F420558EF74CB53A12628445CE0D092C5B725E2D3A4D578787EFB217DEF9C53D52CE5FDCE1DCD7C058AC6179F13C655F789B78F76EE5F9CB33330E8C7D069778C256E301D6613C64534B87B930A7FB66D0A5BA4E5BCABD405F66F215C3D09BE193021E372337B1476877E12322241E847E5295DA066E226E7FA1F9343E87D4C650B55DC602D2F4228A0D4E8E83D84B7D9DCBBF40F3B92B26E495491991194367317E26E13ACACBA27DBC7A7

/-- Head of an RSA public or private key of 2,048 bits with exponent 65,537. -/
def wRsa : Bytes := zeros 2 ++ natLE 2 2048 ++ natLE 4 65537 ++ List.replicate 256 255

/-- What that blob opens to. -/
def wRestored : Bytes :=
  (gcmOpen ((wKey {}).digestKey 0) (sub wStateBlob 0x20 12) (wStateBlob.take 0x30) (sub wStateBlob 0x30 216)
    (sub wStateBlob 0x108 16)).getD []

theorem wRestored_eq : gcmOpen ((wKey {}).digestKey 0) (sub wStateBlob 0x20 12) (wStateBlob.take 0x30) (sub wStateBlob 0x30 216)
    (sub wStateBlob 0x108 16) = some wRestored := wSomeGet _ _ (by decide +kernel)

theorem witness_DigestsAndHmacsRunOnADigestLane_1 : ∃ (s : State) (t : Tick) (ref : RecRef) (r : Rec) (b i : Bytes),
    let u := (s.begun t r b i).1
    let q : DigestReq := { ctx := fld b 0 1, alg := fld b 1 1, final := fld b 2 1 == 1 }
    let j := ctxKey r.tenant q.ctx
    let old := (if q.ctx = oneShot then {} else u.ctx j : DigestCtx)
    let x := startCtx q old (shaInitial q.alg)
    (Accepted s t ref 0x0401 r b i) ∧
    (b.length = 8) ∧
    (q.ctx ≤ 15 ∨ q.ctx = oneShot) ∧
    (digestCodes.contains q.alg = true) ∧
    (fld b 2 1 ≤ 1) ∧
    (zeroAt b 3 5 = true) ∧
    (u.ctxRefused q j = none) ∧
    (x.count + i.length ≤ digestMax q.alg) :=
  ⟨wCmd (wHealthy) 0x0401 0 ([255, 1, 1] ++ zeros 5), 9, wRef, wCmdRec 0x0401 0 ([255, 1, 1] ++ zeros 5), [255, 1, 1] ++ zeros 5, [], by exact ⟨wAcc (by decide +kernel), by decide +kernel⟩⟩

theorem witness_DigestsAndHmacsRunOnADigestLane_2 : ∃ (s : State) (t : Tick) (ref : RecRef) (r : Rec) (b i : Bytes) (v w : State) (k : Nat) (m : Bytes) (hit : Bool),
    let u := (s.begun t r b i).1
    let q := parseHmac b false
    let j := ctxKey r.tenant q.ctx
    let p := hmacBlock q.alg m
    let old := (if q.ctx = oneShot then {} else w.ctx j : DigestCtx)
    let x := startCtx q old (absorbBlocks q.alg (shaInitial q.alg) (p.map (· ^^^ 0x36)))
    let f := fun d : Bytes => digestEnd q.alg (absorbBlocks q.alg (shaInitial q.alg) (p.map (· ^^^ 0x5C))) d (digestBlock q.alg + d.length)
    (Accepted s t ref 0x0402 r b i) ∧
    (hmacBodyOk b q false = true) ∧
    (u.ctxRefused q j = none) ∧
    (u.resolve (some r.tenant) q.handle { fits := fun x => x.type == 5, use := fun _ => useBit 2, units := some fun _ => 1 } = (v, .ok k)) ∧
    (v.material k = .ok m) ∧
    ((if ((q.ctx != oneShot && (v.ctx j).phase == 1) && !q.ends) || !v.laneAny .digest then (v, true) else v.cacheUse k q.alg) = (w, hit)) ∧
    (digestBlock q.alg + x.count + i.length ≤ digestMax q.alg) :=
  ⟨wCmd (wKey { type := 5, keyBits := 128, usage := useBit 2, material := [1] }) 0x0402 0 (natLE 4 wHandle ++ [255, 1, 1, 16]), 9, wRef, wCmdRec 0x0402 0 (natLE 4 wHandle ++ [255, 1, 1, 16]), natLE 4 wHandle ++ [255, 1, 1, 16], [], _, _, 7, [1], _, by exact ⟨wAcc (by decide +kernel), by decide +kernel, by decide +kernel, wRes _ _ (by decide +kernel), wOk _ _ (by decide +kernel), wPairEq _ _ rfl, by decide +kernel⟩⟩

theorem witness_DigestsAndHmacsRunOnADigestLane_3 : ∃ (s : State) (t : Tick) (ref : RecRef) (r : Rec) (b i : Bytes) (v w : State) (k : Nat) (m : Bytes) (hit : Bool),
    let u := (s.begun t r b i).1
    let q := parseHmac b true
    let j := ctxKey r.tenant q.ctx
    let p := hmacBlock q.alg m
    let old := (if q.ctx = oneShot then {} else w.ctx j : DigestCtx)
    let x := startCtx q old (absorbBlocks q.alg (shaInitial q.alg) (p.map (· ^^^ 0x36)))
    let f := fun d : Bytes => digestEnd q.alg (absorbBlocks q.alg (shaInitial q.alg) (p.map (· ^^^ 0x5C))) d (digestBlock q.alg + d.length)
    (Accepted s t ref 0x0403 r b i) ∧
    (hmacBodyOk b q true = true) ∧
    (u.ctxRefused q j = none) ∧
    (u.resolve (some r.tenant) q.handle { fits := fun x => x.type == 5, use := fun _ => useBit 3, units := some fun _ => 1 } = (v, .ok k)) ∧
    (v.material k = .ok m) ∧
    ((if ((q.ctx != oneShot && (v.ctx j).phase == 1) && !q.ends) || !v.laneAny .digest then (v, true) else v.cacheUse k q.alg) = (w, hit)) ∧
    (digestBlock q.alg + x.count + i.length ≤ digestMax q.alg) :=
  ⟨wCmd (wKey { type := 5, keyBits := 128, usage := useBit 3, material := [1] }) 0x0403 0 (natLE 4 wHandle ++ [255, 1, 1, 16] ++ zeros 64), 9, wRef, wCmdRec 0x0403 0 (natLE 4 wHandle ++ [255, 1, 1, 16] ++ zeros 64), natLE 4 wHandle ++ [255, 1, 1, 16] ++ zeros 64, [], _, _, 7, [1], _, by exact ⟨wAcc (by decide +kernel), by decide +kernel, by decide +kernel, wRes _ _ (by decide +kernel), wOk _ _ (by decide +kernel), wPairEq _ _ rfl, by decide +kernel⟩⟩

theorem witness_DigestsAndHmacsRunOnADigestLane_4 : ∃ (s : State) (t : Tick) (ref : RecRef) (r : Rec) (b i : Bytes) (v w : State) (g : Nat) (d : Bytes),
    let u := (s.begun t r b i).1
    let j := ctxKey r.tenant (fld b 0 1)
    let x := u.ctx j
    (Accepted s t ref 0x0404 r b i) ∧
    (ctxBody b = true) ∧
    (u.ctxBusy j = false) ∧
    (x.phase ≠ 2) ∧
    (x.tail = []) ∧
    ((u.keyRec r.tenant).present = true) ∧
    ((if x.handle = 0 then v = u ∧ g = 0 else ∃ k, u.resolve (some r.tenant) x.handle {} = (v, .ok k) ∧ g = (v.slot k).generation)) ∧
    (v.random 12 = some (w, d)) :=
  ⟨wCmd (wKey {}) 0x0404 0 (zeros 8), 9, wRef, wCmdRec 0x0404 0 (zeros 8), zeros 8, [], _, _, 0, _, by exact ⟨wAcc (by decide +kernel), by decide +kernel, by decide +kernel, by decide +kernel, by decide +kernel, by decide +kernel, ⟨rfl, rfl⟩, wSome _ (by decide +kernel)⟩⟩

theorem witness_DigestsAndHmacsRunOnADigestLane_5 : ∃ (s : State) (t : Tick) (ref : RecRef) (r : Rec) (b i : Bytes) (v : State) (m : Bytes),
    let u := (s.begun t r b i).1
    let j := ctxKey r.tenant (fld b 0 1)
    (Accepted s t ref 0x0405 r b i) ∧
    (ctxBody b = true) ∧
    (u.ctxBusy j = false) ∧
    ((u.ctx j).phase ≠ 1) ∧
    (i.length = 280) ∧
    (sub i 0 4 = ascii "KHDS") ∧
    (fld i 4 2 = 1) ∧
    (zeroAt i 0xE 18 = true) ∧
    (zeroAt i 0x2C 4 = true) ∧
    (fld i 6 1 = r.tenant) ∧
    ((u.keyRec r.tenant).present = true) ∧
    (gcmOpen (u.digestKey r.tenant) (sub i 0x20 12) (i.take 0x30) (sub i 0x30 216) (sub i 0x108 16) = some m) ∧
    ((if fld i 8 4 = 0 then v = u else ∃ k, u.resolve (some r.tenant) (fld i 8 4) {} = (v, .ok k) ∧ (v.slot k).generation = fld i 0xC 2)) :=
  ⟨{ wKey {} with waiting := [wInputRec 0x0405 0 (zeros 8) wStateBlob] }, 9, wRef, wInputRec 0x0405 0 (zeros 8) wStateBlob, zeros 8, wStateBlob, _, wRestored, by exact ⟨wAcc (by decide +kernel), by decide +kernel, by decide +kernel, by decide +kernel, by decide +kernel, by decide +kernel, by decide +kernel, by decide +kernel, by decide +kernel, by decide +kernel, by decide +kernel, wRestored_eq, (if_pos (by decide +kernel)).mpr rfl⟩⟩

theorem witness_SignaturesAreMadeAndCheckedOnABigNumberLane_1 : ∃ (s : State) (t : Tick) (ref : RecRef) (r : Rec) (b i : Bytes) (v w : State) (k : Nat) (m d : Bytes),
    let c := s.cmd t r b i
    let u := (s.begun t r b i).1
    let q := parseSign b
    let em := if q.scheme = 1 then pkcs1Encode q.hash ((rsaPub m).bits / 8) (q.digest i) else pssEncode q.hash (rsaPub m).bits (q.digest i) d
    (Accepted s t ref 0x0501 r b i) ∧
    (b.length = 8) ∧
    (q.ok (fld b 7 1) = true) ∧
    (q.prehashed = true → i.length = digestOut q.hash) ∧
    (u.resolve (some r.tenant) q.handle { fits := privFits q.scheme, use := fun _ => useBit 4, units := some fun _ => 1 } = (v, .ok k)) ∧
    (v.material k = .ok m) ∧
    (q.scheme ≤ 2) ∧
    ((rsaPub m).ok = true) ∧
    ((if q.scheme = 2 ∧ q.salt ≠ 0 then v.random q.salt else some (v, [])) = some (w, d)) ∧
    (spaceFail c 8 ((rsaPub m).bits / 8) = none) ∧
    (q.hashes = true → w.laneAny .digest = true) :=
  ⟨{ wKey { type := 0x10, keyBits := 2048, usage := useBit 4, material := wRsa } with waiting := [wInputRec 0x0501 0 (natLE 4 wHandle ++ [1, 2, 0, 1]) (zeros 32)] }, 9, wRef, wInputRec 0x0501 0 (natLE 4 wHandle ++ [1, 2, 0, 1]) (zeros 32), natLE 4 wHandle ++ [1, 2, 0, 1], zeros 32, _, _, 7, wRsa, _, by exact ⟨wAcc (by decide +kernel), by decide +kernel, by decide +kernel, by decide +kernel, wRes _ _ (by decide +kernel), wOk _ _ (by decide +kernel), by decide +kernel, by decide +kernel, if_neg (by decide +kernel), by decide +kernel, by decide +kernel⟩⟩

theorem witness_SignaturesAreMadeAndCheckedOnABigNumberLane_2 : ∃ (s : State) (t : Tick) (ref : RecRef) (r : Rec) (b i : Bytes) (v w : State) (k : Nat) (m d : Bytes) (e : Curve),
    let c := s.cmd t r b i
    let u := (s.begun t r b i).1
    let q := parseSign b
    let n := ceilDiv (bitLen e.n) 8
    let y := e.sign (fld m 8 (8 * lenClass (v.slot k).keyBits)) (q.digest i) (e.scalar d)
    (Accepted s t ref 0x0501 r b i) ∧
    (b.length = 8) ∧
    (q.ok (fld b 7 1) = true) ∧
    (q.prehashed = true → i.length = digestOut q.hash) ∧
    (u.resolve (some r.tenant) q.handle { fits := privFits q.scheme, use := fun _ => useBit 4, units := some fun _ => 1 } = (v, .ok k)) ∧
    (v.material k = .ok m) ∧
    (q.scheme = 3) ∧
    (v.keyCurve r.tenant m (8 + 3 * (8 * lenClass (v.slot k).keyBits)) = some e) ∧
    (v.random (8 * lenClass (v.slot k).keyBits + 8) = some (w, d)) ∧
    (spaceFail c 8 (2 * n) = none) ∧
    (q.hashes = true → w.laneAny .digest = true) :=
  ⟨{ wKey { type := 0x11, keyBits := 256, usage := useBit 4, material := ([1] ++ zeros 31) } with waiting := [wInputRec 0x0501 0 (natLE 4 wHandle ++ [3, 2, 0, 1]) (zeros 32)] }, 9, wRef, wInputRec 0x0501 0 (natLE 4 wHandle ++ [3, 2, 0, 1]) (zeros 32), natLE 4 wHandle ++ [3, 2, 0, 1], zeros 32, _, _, 7, ([1] ++ zeros 31), _, p256Curve, by exact ⟨wAcc (by decide +kernel), by decide +kernel, by decide +kernel, by decide +kernel, wRes _ _ (by decide +kernel), wOk _ _ (by decide +kernel), by decide +kernel, rfl, wSome _ (by decide +kernel), by decide +kernel, by decide +kernel⟩⟩

theorem witness_SignaturesAreMadeAndCheckedOnABigNumberLane_3 : ∃ (s : State) (t : Tick) (ref : RecRef) (r : Rec) (b i : Bytes) (v : State) (k : Nat) (m : Bytes),
    let c := s.cmd t r b i
    let u := (s.begun t r b i).1
    let q := parseSign b
    (Accepted s t ref 0x0501 r b i) ∧
    (b.length = 8) ∧
    (q.ok (fld b 7 1) = true) ∧
    (q.prehashed = true → i.length = digestOut q.hash) ∧
    (u.resolve (some r.tenant) q.handle { fits := privFits q.scheme, use := fun _ => useBit 4, units := some fun _ => 1 } = (v, .ok k)) ∧
    (v.material k = .ok m) ∧
    (q.scheme = 4) ∧
    (i.length ≤ 32768) ∧
    (spaceFail c 8 64 = none) ∧
    (v.laneAny .digest = true) :=
  ⟨{ wKey { type := 0x12, keyBits := 256, usage := useBit 4, material := ([4] ++ zeros 71) } with waiting := [wInputRec 0x0501 0 (natLE 4 wHandle ++ [4, 0, 0, 0]) (zeros 5)] }, 9, wRef, wInputRec 0x0501 0 (natLE 4 wHandle ++ [4, 0, 0, 0]) (zeros 5), natLE 4 wHandle ++ [4, 0, 0, 0], zeros 5, _, 7, ([4] ++ zeros 71), by exact ⟨wAcc (by decide +kernel), by decide +kernel, by decide +kernel, by decide +kernel, wRes _ _ (by decide +kernel), wOk _ _ (by decide +kernel), by decide +kernel, by decide +kernel, by decide +kernel, by decide +kernel⟩⟩

theorem witness_SignaturesAreMadeAndCheckedOnABigNumberLane_4 : ∃ (s : State) (t : Tick) (ref : RecRef) (r : Rec) (b i : Bytes) (v : State) (k : Bytes) (inl : Bool),
    let u := (s.begun t r b i).1
    let q := parseSign b
    let rest := if inl then i.drop k.length else i
    let sig := rest.take (fld b 8 4)
    let msg := rest.drop (fld b 8 4)
    (Accepted s t ref 0x0502 r b i) ∧
    (b.length = 16) ∧
    (q.ok (fld b 7 1) = true) ∧
    ((if fld b 0 4 = 0 then fld b 0xC 4 ≤ i.length ∧ inlineOk q.scheme u r.tenant (i.take (fld b 0xC 4)) = true ∧ v = u ∧ k = i.take (fld b 0xC 4) ∧ inl = true else fld b 0xC 4 = 0 ∧ inl = false ∧ ∃ j, u.resolve (some r.tenant) (fld b 0 4) { fits := pubFits q.scheme, use := fun _ => useBit 5, units := some fun _ => 1 } = (v, .ok j) ∧ v.material j = .ok k)) ∧
    (q.scheme ≤ 2) ∧
    ((rsaPub k).ok = true) ∧
    (fld b 8 4 = (rsaPub k).bits / 8) ∧
    (fld b 8 4 ≤ rest.length) ∧
    (q.prehashed = true → msg.length = digestOut q.hash) ∧
    (q.hashes = true → v.laneAny .digest = true) :=
  ⟨{ wKey { type := 0x20, keyBits := 2048, usage := useBit 5, material := wRsa } with waiting := [wInputRec 0x0502 0 (natLE 4 wHandle ++ [1, 1, 0, 0] ++ natLE 4 256 ++ zeros 4) (zeros 256)] }, 9, wRef, wInputRec 0x0502 0 (natLE 4 wHandle ++ [1, 1, 0, 0] ++ natLE 4 256 ++ zeros 4) (zeros 256), natLE 4 wHandle ++ [1, 1, 0, 0] ++ natLE 4 256 ++ zeros 4, zeros 256, _, wRsa, false, by exact ⟨wAcc (by decide +kernel), by decide +kernel, by decide +kernel, by rw [if_neg (by decide +kernel)]; exact ⟨by decide +kernel, rfl, 7, wRes _ _ (by decide +kernel), wOk _ _ (by decide +kernel)⟩, by decide +kernel, by decide +kernel, by decide +kernel, by decide +kernel, by decide +kernel, by decide +kernel⟩⟩

theorem witness_SignaturesAreMadeAndCheckedOnABigNumberLane_5 : ∃ (s : State) (t : Tick) (ref : RecRef) (r : Rec) (b i : Bytes) (v : State) (k : Bytes) (inl : Bool) (e : Curve),
    let u := (s.begun t r b i).1
    let q := parseSign b
    let rest := if inl then i.drop k.length else i
    let sig := rest.take (fld b 8 4)
    let msg := rest.drop (fld b 8 4)
    (Accepted s t ref 0x0502 r b i) ∧
    (b.length = 16) ∧
    (q.ok (fld b 7 1) = true) ∧
    ((if fld b 0 4 = 0 then fld b 0xC 4 ≤ i.length ∧ inlineOk q.scheme u r.tenant (i.take (fld b 0xC 4)) = true ∧ v = u ∧ k = i.take (fld b 0xC 4) ∧ inl = true else fld b 0xC 4 = 0 ∧ inl = false ∧ ∃ j, u.resolve (some r.tenant) (fld b 0 4) { fits := pubFits q.scheme, use := fun _ => useBit 5, units := some fun _ => 1 } = (v, .ok j) ∧ v.material j = .ok k)) ∧
    (q.scheme = 3) ∧
    (v.keyCurve r.tenant k (k.length - 32) = some e) ∧
    (fld b 8 4 = 2 * ceilDiv (bitLen e.n) 8) ∧
    (fld b 8 4 ≤ rest.length) ∧
    (q.prehashed = true → msg.length = digestOut q.hash) ∧
    (q.hashes = true → v.laneAny .digest = true) :=
  ⟨{ wKey { type := 0x21, keyBits := 256, usage := useBit 5, material := ([1] ++ zeros 71) } with waiting := [wInputRec 0x0502 0 (natLE 4 wHandle ++ [3, 1, 0, 0] ++ natLE 4 64 ++ zeros 4) (zeros 64)] }, 9, wRef, wInputRec 0x0502 0 (natLE 4 wHandle ++ [3, 1, 0, 0] ++ natLE 4 64 ++ zeros 4) (zeros 64), natLE 4 wHandle ++ [3, 1, 0, 0] ++ natLE 4 64 ++ zeros 4, zeros 64, _, ([1] ++ zeros 71), false, p256Curve, by exact ⟨wAcc (by decide +kernel), by decide +kernel, by decide +kernel, by rw [if_neg (by decide +kernel)]; exact ⟨by decide +kernel, rfl, 7, wRes _ _ (by decide +kernel), wOk _ _ (by decide +kernel)⟩, by decide +kernel, rfl, by decide +kernel, by decide +kernel, by decide +kernel, by decide +kernel⟩⟩

theorem witness_SignaturesAreMadeAndCheckedOnABigNumberLane_6 : ∃ (s : State) (t : Tick) (ref : RecRef) (r : Rec) (b i : Bytes) (v : State) (k : Bytes) (inl : Bool),
    let u := (s.begun t r b i).1
    let q := parseSign b
    let rest := if inl then i.drop k.length else i
    let sig := rest.take (fld b 8 4)
    let msg := rest.drop (fld b 8 4)
    (Accepted s t ref 0x0502 r b i) ∧
    (b.length = 16) ∧
    (q.ok (fld b 7 1) = true) ∧
    ((if fld b 0 4 = 0 then fld b 0xC 4 ≤ i.length ∧ inlineOk q.scheme u r.tenant (i.take (fld b 0xC 4)) = true ∧ v = u ∧ k = i.take (fld b 0xC 4) ∧ inl = true else fld b 0xC 4 = 0 ∧ inl = false ∧ ∃ j, u.resolve (some r.tenant) (fld b 0 4) { fits := pubFits q.scheme, use := fun _ => useBit 5, units := some fun _ => 1 } = (v, .ok j) ∧ v.material j = .ok k)) ∧
    (q.scheme = 4) ∧
    (fld b 8 4 = 64) ∧
    (fld b 8 4 ≤ rest.length) ∧
    (q.prehashed = true → msg.length = digestOut q.hash) ∧
    (q.hashes = true → v.laneAny .digest = true) :=
  ⟨{ wKey { type := 0x22, keyBits := 256, usage := useBit 5, material := ([4] ++ zeros 39) } with waiting := [wInputRec 0x0502 0 (natLE 4 wHandle ++ [4, 0, 0, 0] ++ natLE 4 64 ++ zeros 4) (zeros 64)] }, 9, wRef, wInputRec 0x0502 0 (natLE 4 wHandle ++ [4, 0, 0, 0] ++ natLE 4 64 ++ zeros 4) (zeros 64), natLE 4 wHandle ++ [4, 0, 0, 0] ++ natLE 4 64 ++ zeros 4, zeros 64, _, ([4] ++ zeros 39), false, by exact ⟨wAcc (by decide +kernel), by decide +kernel, by decide +kernel, by rw [if_neg (by decide +kernel)]; exact ⟨by decide +kernel, rfl, 7, wRes _ _ (by decide +kernel), wOk _ _ (by decide +kernel)⟩, by decide +kernel, by decide +kernel, by decide +kernel, by decide +kernel, by decide +kernel⟩⟩

end Sys2Proof.Tests
end

