-- ==== Sys2Proof/Tests/Slice0Keys.lean ====
section
/-! SUPPORT. Witnesses: states and operands that meet the hypotheses of the statements on key management. -/

set_option autoImplicit false
set_option maxRecDepth 4000
set_option linter.unusedVariables false

namespace Sys2Proof.Tests

set_option Elab.async false

open Sys2Proof Sys2Proof.Machine

/-- The witness key with a green key in slot 8. -/
def wGreen (x g : Slot) : State :=
  { wKey x with cel := { (wKey x).cel with
      dir := [(5, { standing := 7, dtag := 1, valid := true, standingGen := 1, greenLinked := true, greenSlot := 8, greenGen := 0 })]
      slots := (wKey x).cel.slots ++ [(8, { g with state := .green, parent := { inVault := true } })] } }

/-- The witness key on a device with a complete quorum; the vault record as given. -/
def wVaultQ (k : KeyRecord) : State :=
  { wQuorum with vault := { wQuorum.vault with keys := [(0, k)] }, cel := { ready := true } }

/-- The image of an empty cellar of tenant 0, generation 1, under an empty trunk, with its AES-256-GCM tag (Table 6-16). -/
def wImage : Bytes := ascii "KHCI" ++ [1, 0, 0, 0] ++ zeros 8 ++ natLE 4 1 ++ zeros 44 ++ natBE 16 126533926862974569487879914029801938417

theorem witness_KeyCommandsMakeMoveAndFellKeys_1 : ∃ (s : State) (t : Tick) (ref : RecRef) (r : Rec) (b i : Bytes) (v w : State) (p : Parent) (lv l h : Nat) (m : Bytes) (cs : List Change),
    let u := (s.begun t r b i).1
    let k : NewKey := { type := fld b 4 1, bits := fld b 8 2, usage := BitVec.ofNat 16 (fld b 6 2), owner := r.tenant, parent := p, level := l, exportable := fld b 10 2 == 1, limitClass := fld b 5 1, plain := m }
    (Accepted s t ref 0x0201 r b i) ∧
    (b.length = 16) ∧
    (fld b 6 2 < 2 ^ 15) ∧
    (fld b 10 2 ≤ 1) ∧
    (fld b 5 1 ≤ 63) ∧
    (zeroAt b 0x0C 4 = true) ∧
    (u.classDefined (fld b 5 1) = true) ∧
    (fld b 4 1 < 0x10) ∧
    (typeOk (fld b 4 1) (fld b 8 2) = true) ∧
    (u.parentOf r.tenant (fld b 0 4) = (v, .ok (p, lv))) ∧
    (childLevel (fld b 4 1) lv = some l) ∧
    (v.random (fld b 8 2 / 8) = some (w, m)) ∧
    (w.newKey k = some (h, cs)) :=
  ⟨wCmd (wKey {}) 0x0201 0 (natLE 4 wTrunk ++ [1, 0, 0, 0] ++ natLE 2 128 ++ zeros 6), 9, wRef, wCmdRec 0x0201 0 (natLE 4 wTrunk ++ [1, 0, 0, 0] ++ natLE 2 128 ++ zeros 6), natLE 4 wTrunk ++ [1, 0, 0, 0] ++ natLE 2 128 ++ zeros 6, [], _, _, { inVault := true }, 0, 1, _, _, _, by exact ⟨wAcc (by decide +kernel), by decide +kernel, by decide +kernel, by decide +kernel, by decide +kernel, by decide +kernel, by decide +kernel, by decide +kernel, by decide +kernel, wOkPair _ _ (by decide +kernel), by decide +kernel, wSome _ (by decide +kernel), wSome _ (by decide +kernel)⟩⟩

theorem witness_KeyCommandsMakeMoveAndFellKeys_2 : ∃ (s : State) (t : Tick) (ref : RecRef) (r : Rec) (b i : Bytes) (v w x y : State) (p : Parent) (lv l j h : Nat) (m e g : Bytes) (q : Nat × Nat) (cs : List Change),
    let u := (s.begun t r b i).1
    (Accepted s t ref 0x0202 r b i) ∧
    (fld b 10 2 < 2 ^ 15) ∧
    (fld b 14 2 ≤ 1) ∧
    (fld b 9 1 ≤ 63) ∧
    (varItem b 0x20 = (e, true)) ∧
    (zeroAt b 0x11 7 = true) ∧
    (u.classDefined (fld b 9 1) = true) ∧
    (fld b 0x10 1 = 0 ∨ fld b 0x10 1 = checkLen (fld b 8 1)) ∧
    (typeOk (fld b 8 1) (fld b 12 2) = true) ∧
    (u.parentOf r.tenant (fld b 0 4) = (v, .ok (p, lv))) ∧
    (childLevel (fld b 8 1) lv = some l) ∧
    (v.resolve (some r.tenant) (fld b 4 4) { fits := fun x => pairOk x (fld b 8 1), use := fun _ => useBit 7, units := some (units (ceilDiv e.length 8)) } = (w, .ok j)) ∧
    (w.material j = .ok m) ∧
    (unwrapped (fld b 8 1) (fld b 12 2) (w.slot j) m e = .ok g) ∧
    (fld b 0x10 1 = 0 ∨ (checkValue (fld b 8 1) g).take (fld b 0x10 1) = sub b 0x18 (fld b 0x10 1)) ∧
    ((if fld b 8 1 = 0x10 then ((w.random (fld b 12 2 / 8)).map fun d => (d.1, blindPair g d.2)) else some (w, (0, 0))) = some (x, q)) ∧
    (x.newKey { type := fld b 8 1, bits := fld b 12 2, usage := BitVec.ofNat 16 (fld b 10 2), owner := r.tenant, parent := p, level := l, exportable := fld b 14 2 == 1, limitClass := fld b 9 1, plain := g, blinding := q } = some (h, cs)) :=
  ⟨wCmd (wKey { type := 4, keyBits := 192, usage := useBit 7, material := zeros 24 }) 0x0202 0 (natLE 4 wTrunk ++ natLE 4 wHandle ++ [4, 0, 0, 0] ++ natLE 2 192 ++ zeros 18 ++ natLE 4 24 ++ zeros 24), 9, wRef, wCmdRec 0x0202 0 (natLE 4 wTrunk ++ natLE 4 wHandle ++ [4, 0, 0, 0] ++ natLE 2 192 ++ zeros 18 ++ natLE 4 24 ++ zeros 24), natLE 4 wTrunk ++ natLE 4 wHandle ++ [4, 0, 0, 0] ++ natLE 2 192 ++ zeros 18 ++ natLE 4 24 ++ zeros 24, [], _, _, _, wHealthy, { inVault := true }, 0, 1, 7, _, zeros 24, zeros 24, (unwrapped 4 192 { type := 4 } (zeros 24) (zeros 24)).toOption.get (by decide +kernel), (0, 0), _, by exact ⟨wAcc (by decide +kernel), by decide +kernel, by decide +kernel, by decide +kernel, by decide +kernel, by decide +kernel, by decide +kernel, by decide +kernel, by decide +kernel, wOkPair _ _ (by decide +kernel), by decide +kernel, wRes _ _ (by decide +kernel), wOk _ _ (by decide +kernel), wOk _ _ (by decide +kernel), by decide +kernel, if_neg (by decide +kernel), wSome _ (by decide +kernel)⟩⟩

theorem witness_KeyCommandsMakeMoveAndFellKeys_3 : ∃ (s : State) (t : Tick) (ref : RecRef) (r : Rec) (b i : Bytes) (v w : State) (k j : Nat) (m e : Bytes),
    let c := s.cmd t r b i
    let u := (s.begun t r b i).1
    let o := wrapKey (w.slot j).type e m
    (Accepted s t ref 0x0203 r b i) ∧
    (b.length = 8) ∧
    (u.resolve (some r.tenant) (fld b 0 4) { use := fun _ => useBit 14 } = (v, .ok k)) ∧
    ((v.slot k).exportable = true) ∧
    (v.material k = .ok m) ∧
    (v.resolve (some r.tenant) (fld b 4 4) { fits := fun x => pairOk x (v.slot k).type, use := fun _ => useBit 6, units := some (units (ceilDiv m.length 8)) } = (w, .ok j)) ∧
    (w.material j = .ok e) :=
  ⟨wCmd (wKey { type := 4, keyBits := 192, usage := useBit 14 ||| useBit 6, exportable := true, material := zeros 24 }) 0x0203 0 (natLE 4 wHandle ++ natLE 4 wHandle), 9, wRef, wCmdRec 0x0203 0 (natLE 4 wHandle ++ natLE 4 wHandle), natLE 4 wHandle ++ natLE 4 wHandle, [], _, _, 7, 7, zeros 24, zeros 24, by exact ⟨wAcc (by decide +kernel), by decide +kernel, wRes _ _ (by decide +kernel), by decide +kernel, wOk _ _ (by decide +kernel), wRes _ _ (by decide +kernel), wOk _ _ (by decide +kernel)⟩⟩

theorem witness_KeyCommandsMakeMoveAndFellKeys_4 : ∃ (s : State) (t : Tick) (ref : RecRef) (r : Rec) (b i : Bytes) (v w : State) (k g : Nat) (m : Bytes) (y : Slot) (cs : List Change),
    let u := (s.begun t r b i).1
    let x := v.slot k
    (Accepted s t ref 0x0204 r b i) ∧
    (varItem b 0x0C = ([], true)) ∧
    (fld b 4 1 = 0) ∧
    (zeroAt b 5 3 = true) ∧
    (fld b 8 4 = 0) ∧
    (u.resolve (some r.tenant) (fld b 0 4) { fits := fun x => !x.bound } = (v, .ok k)) ∧
    ((v.ahead.dirEntry (hIndex (fld b 0 4))).greenLinked = false) ∧
    (v.random (x.keyBits / 8) = some (w, m)) ∧
    (w.newSlot { type := x.type, bits := x.keyBits, usage := x.usage, owner := x.owner, parent := x.parent, level := x.level, exportable := x.exportable, limitClass := x.limitClass, plain := m, state := .green } = some (g, y, cs)) :=
  ⟨wCmd (wKey { type := 1, keyBits := 128, material := zeros 16 }) 0x0204 0 (natLE 4 wHandle ++ zeros 12), 9, wRef, wCmdRec 0x0204 0 (natLE 4 wHandle ++ zeros 12), natLE 4 wHandle ++ zeros 12, [], _, _, 7, 0, _, _, _, by exact ⟨wAcc (by decide +kernel), by decide +kernel, by decide +kernel, by decide +kernel, by decide +kernel, wRes _ _ (by decide +kernel), by decide +kernel, wSome _ (by decide +kernel), wSome3 _ _ (by decide +kernel)⟩⟩

theorem witness_KeyCommandsMakeMoveAndFellKeys_5 : ∃ (s : State) (t : Tick) (ref : RecRef) (r : Rec) (b i : Bytes) (v w : State) (k j g : Nat) (e q m : Bytes) (y : Slot) (cs : List Change),
    let u := (s.begun t r b i).1
    let x := v.slot k
    (Accepted s t ref 0x0204 r b i) ∧
    (varItem b 0x0C = (e, true)) ∧
    (fld b 4 1 = 1) ∧
    (zeroAt b 5 3 = true) ∧
    (u.resolve (some r.tenant) (fld b 0 4) { fits := fun x => !x.bound } = (v, .ok k)) ∧
    ((v.ahead.dirEntry (hIndex (fld b 0 4))).greenLinked = false) ∧
    (v.resolve (some r.tenant) (fld b 8 4) { fits := fun z => pairOk z x.type, use := fun _ => useBit 7, units := some (units (ceilDiv e.length 8)) } = (w, .ok j)) ∧
    (w.material j = .ok q) ∧
    (unwrapped x.type x.keyBits (w.slot j) q e = .ok m) ∧
    (w.newSlot { type := x.type, bits := x.keyBits, usage := x.usage, owner := x.owner, parent := x.parent, level := x.level, exportable := x.exportable, limitClass := x.limitClass, plain := m, state := .green } = some (g, y, cs)) :=
  ⟨wCmd (wKey { type := 4, keyBits := 192, material := zeros 24, usage := useBit 7 }) 0x0204 0 (natLE 4 wHandle ++ [1, 0, 0, 0] ++ natLE 4 wHandle ++ natLE 4 24 ++ zeros 24), 9, wRef, wCmdRec 0x0204 0 (natLE 4 wHandle ++ [1, 0, 0, 0] ++ natLE 4 wHandle ++ natLE 4 24 ++ zeros 24), natLE 4 wHandle ++ [1, 0, 0, 0] ++ natLE 4 wHandle ++ natLE 4 24 ++ zeros 24, [], _, _, 7, 7, 0, zeros 24, zeros 24, (unwrapped 4 192 { type := 4 } (zeros 24) (zeros 24)).toOption.get (by decide +kernel), _, _, by exact ⟨wAcc (by decide +kernel), by decide +kernel, by decide +kernel, by decide +kernel, wRes _ _ (by decide +kernel), by decide +kernel, wRes _ _ (by decide +kernel), wOk _ _ (by decide +kernel), wOk _ _ (by decide +kernel), wSome3 _ _ (by decide +kernel)⟩⟩

theorem witness_KeyCommandsMakeMoveAndFellKeys_6 : ∃ (s : State) (t : Tick) (ref : RecRef) (r : Rec) (b i : Bytes) (v a : State) (k g : Nat),
    let u := (s.begun t r b i).1
    let e := v.ahead.dirEntry (hIndex (fld b 0 4))
    let m := (v.ahead.slot g).material
    let pass := (if fld b 4 1 = 1 then (checkValue (v.slot k).type m).take (fld b 5 1) == sub b 8 (fld b 5 1) else knownAnswer (v.slot k).type m (sub b 0x10 16) (sub b 0x20 16) : Bool)
    (Accepted s t ref 0x0205 r b i) ∧
    (b.length = 0x30) ∧
    (fld b 4 1 = 1 ∨ fld b 4 1 = 2) ∧
    (zeroAt b 6 2 = true) ∧
    (u.resolve (some r.tenant) (fld b 0 4) { fits := fun x => !x.bound } = (v, .ok k)) ∧
    (fld b 5 1 = (if fld b 4 1 = 1 then checkLen (v.slot k).type else 0)) ∧
    (e.greenLinked = true) ∧
    (v.ahead.gated e.greenSlot e.greenGen {} = (a, .ok g)) :=
  ⟨wCmd (wGreen { type := 4, keyBits := 192, material := zeros 24 } { type := 4, keyBits := 192, material := zeros 24 }) 0x0205 0 (natLE 4 wHandle ++ [1, 3] ++ zeros 42), 9, wRef, wCmdRec 0x0205 0 (natLE 4 wHandle ++ [1, 3] ++ zeros 42), natLE 4 wHandle ++ [1, 3] ++ zeros 42, [], _, _, 7, 8, by exact ⟨wAcc (by decide +kernel), by decide +kernel, by decide +kernel, by decide +kernel, wRes _ _ (by decide +kernel), by decide +kernel, by decide +kernel, wRes _ _ (by decide +kernel)⟩⟩

theorem witness_KeyCommandsMakeMoveAndFellKeys_7 : ∃ (s : State) (t : Tick) (ref : RecRef) (r : Rec) (b i : Bytes) (v : State) (k : Nat),
    let u := (s.begun t r b i).1
    (Accepted s t ref 0x0206 r b i) ∧
    (b.length = 8) ∧
    (fld b 4 4 = 1) ∧
    (hKind (fld b 0 4) ≠ 2) ∧
    (u.resolve (some r.tenant) (fld b 0 4) {} = (v, .ok k)) ∧
    ((v.ahead.dirEntry (hIndex (fld b 0 4))).greenLinked = true) :=
  ⟨wCmd (wGreen { type := 1, keyBits := 128 } { type := 1, keyBits := 128 }) 0x0206 0 (natLE 4 wHandle ++ natLE 4 1), 9, wRef, wCmdRec 0x0206 0 (natLE 4 wHandle ++ natLE 4 1), natLE 4 wHandle ++ natLE 4 1, [], _, 7, by exact ⟨wAcc (by decide +kernel), by decide +kernel, by decide +kernel, by decide +kernel, wRes _ _ (by decide +kernel), by decide +kernel⟩⟩

theorem witness_KeyCommandsMakeMoveAndFellKeys_8 : ∃ (s : State) (t : Tick) (ref : RecRef) (r : Rec) (b i : Bytes) (v : State) (k : Nat),
    let u := (s.begun t r b i).1
    let e := v.ahead.dirEntry (hIndex (fld b 0 4))
    (Accepted s t ref 0x0206 r b i) ∧
    (b.length = 8) ∧
    (fld b 4 4 = 0) ∧
    (hKind (fld b 0 4) ≠ 2) ∧
    (u.resolve (some r.tenant) (fld b 0 4) {} = (v, .ok k)) :=
  ⟨wCmd (wKey { type := 1, keyBits := 128 }) 0x0206 0 (natLE 4 wHandle ++ zeros 4), 9, wRef, wCmdRec 0x0206 0 (natLE 4 wHandle ++ zeros 4), natLE 4 wHandle ++ zeros 4, [], _, 7, by exact ⟨wAcc (by decide +kernel), by decide +kernel, by decide +kernel, by decide +kernel, wRes _ _ (by decide +kernel)⟩⟩

theorem witness_KeyCommandsMakeMoveAndFellKeys_9 : ∃ (s : State) (t : Tick) (ref : RecRef) (r : Rec) (b i : Bytes) (v : State) (k : Nat) (m : Bytes),
    let u := (s.begun t r b i).1
    let x := v.slot k
    let e := v.dirEntry (hIndex (fld b 0 4))
    (Accepted s t ref 0x0207 r b i) ∧
    (b.length = 4) ∧
    (u.resolve (some r.tenant) (fld b 0 4) {} = (v, .ok k)) ∧
    (v.material k = .ok m) :=
  ⟨wCmd (wKey { type := 1, keyBits := 128 }) 0x0207 0 (natLE 4 wHandle), 9, wRef, wCmdRec 0x0207 0 (natLE 4 wHandle), natLE 4 wHandle, [], _, 7, [], by exact ⟨wAcc (by decide +kernel), by decide +kernel, wRes _ _ (by decide +kernel), wOk _ _ (by decide +kernel)⟩⟩

theorem witness_KeyCommandsMakeMoveAndFellKeys_10 : ∃ (s : State) (t : Tick) (ref : RecRef) (r : Rec) (b i : Bytes),
    (Accepted s t ref 0x0208 r b i) ∧
    (0 < fld b 2 2) ∧
    (fld b 2 2 ≤ 1024) ∧
    (fld b 0 2 + fld b 2 2 ≤ 4096) ∧
    (b.length = 4 + 4 * fld b 2 2) :=
  ⟨wCmd (wHealthy) 0x0208 0 (natLE 2 0 ++ natLE 2 1 ++ natLE 4 9), 9, wRef, wCmdRec 0x0208 0 (natLE 2 0 ++ natLE 2 1 ++ natLE 4 9), natLE 2 0 ++ natLE 2 1 ++ natLE 4 9, [], by exact ⟨wAcc (by decide +kernel), by decide +kernel⟩⟩

theorem witness_TrunksAndCellarImagesMoveAsTheCellarSays_1 : ∃ (s : State) (t : Tick) (ref : RecRef) (r : Rec) (b i : Bytes),
    let c := s.cmd t r b i
    let u := (s.begun t r b i).1
    let k := u.ahead.keyRec r.tenant
    let g := u.cellarImage r.tenant (k.imageGen + 1) k.material
    (Accepted s t ref 0x0209 r b i) ∧
    (b.length = 8) ∧
    (fld b 0 4 ≤ 1) ∧
    (zeroAt b 4 4 = true) ∧
    (k.present = true) :=
  ⟨wCmd (wKey {}) 0x0209 0 (zeros 8), 9, wRef, wCmdRec 0x0209 0 (zeros 8), zeros 8, [], by exact ⟨wAcc (by decide +kernel), by decide +kernel⟩⟩

theorem witness_TrunksAndCellarImagesMoveAsTheCellarSays_2 : ∃ (s : State) (t : Tick) (ref : RecRef) (r : Rec) (b i : Bytes),
    let u := (s.begun t r b i).1
    let k := u.ahead.keyRec r.tenant
    (Accepted s t ref 0x0209 r b i) ∧
    (b.length = 8) ∧
    (2 ≤ fld b 0 4) ∧
    (fld b 0 4 ≤ 3) ∧
    (zeroAt b 4 4 = true) ∧
    (k.present = true) :=
  ⟨wCmd (wKey {}) 0x0209 0 (natLE 8 2), 9, wRef, wCmdRec 0x0209 0 (natLE 8 2), natLE 8 2, [], by exact ⟨wAcc (by decide +kernel), by decide +kernel⟩⟩

theorem witness_TrunksAndCellarImagesMoveAsTheCellarSays_3 : ∃ (s : State) (t : Tick) (ref : RecRef) (r : Rec) (b i : Bytes) (v : State) (p : Bytes) (l : List (Nat × Bytes)),
    let u := (s.begun t r b i).1
    let k := u.keyRec r.tenant
    let es := parseEntries p (fld i 0x18 4)
    (Accepted s t ref 0x020A r b i) ∧
    (b.length = 8) ∧
    (zeroAt b 0 8 = true) ∧
    (imageHeadOk i r.tenant = true) ∧
    (k.present = true) ∧
    (k.generation = fld i 0x14 2) ∧
    (imageGenOk k (fld i 0x10 4) = none) ∧
    ((if (fld i 8 8 = u.otp.serial ∨ (fld i 8 8 ≠ 0 ∧ fld i 8 8 = u.twinSerial)) ∧ ¬(k.imageGen == 0) = true then v = u else u.quorumUse r.tenant purposeRestore = (v, none))) ∧
    (gcmOpen (imageKey k.material r.tenant (fld i 0x10 4)) (natLE 4 (fld i 0x10 4) ++ zeros 8) (sub i 0 0x40) ((i.drop 0x40).take (i.length - 0x50)) (i.drop (i.length - 16)) = some p) ∧
    (p.length = 160 * fld i 0x18 4 + fld i 0x1C 4 + fld i 0x20 4) ∧
    (parseBlobs (fld i 0x1C 4 / 8) (sub p (160 * fld i 0x18 4) (fld i 0x1C 4)) = some l) ∧
    (imageOk r.tenant k.generation es l = true) ∧
    ((es.any fun e => (v.ahead.dirEntry e.index).valid) = false) ∧
    (((entrySlots es).any fun x => decide ((v.ahead.slot x.1).state ≠ .free)) = false) ∧
    ((v.freeBlob (l.map fun x => x.2.length).sum).isNone = false) :=
  ⟨{ { wVaultQ { present := true, imageGen := 1 } with mode := .muster } with waiting := [wInputRec 0x020A 0 (zeros 8) wImage] }, 9, wRef, wInputRec 0x020A 0 (zeros 8) wImage, zeros 8, wImage, _, [], [], by exact ⟨wAcc (by decide +kernel), by decide +kernel, by decide +kernel, by decide +kernel, by decide +kernel, by decide +kernel, by decide +kernel, rfl, by decide +kernel, by decide +kernel, by decide +kernel, by decide +kernel, by decide +kernel, by decide +kernel, by decide +kernel⟩⟩

theorem witness_TrunksAndCellarImagesMoveAsTheCellarSays_4 : ∃ (s : State) (t : Tick) (ref : RecRef) (r : Rec) (b i : Bytes) (v w : State) (m : Bytes),
    let c := s.cmd t r b i
    let u := (s.begun t r b i).1
    (Accepted s t ref 0x020B r b i) ∧
    (trunkBody b = true) ∧
    (u.quorumUse r.tenant purposeTrunk = (v, none)) ∧
    ((v.keyRec r.tenant).present = false) ∧
    ((if fld b 0 1 = 0 then v.random 32 else (v.heldTrunk c).map fun m => (v.dropRound c, m)) = some (w, m)) :=
  ⟨wCmd (wVaultQ {}) 0x020B 0 (zeros 8), 9, wRef, wCmdRec 0x020B 0 (zeros 8), zeros 8, [], _, _, _, by exact ⟨wAcc (by decide +kernel), by decide +kernel, wPairEq _ _ (by decide +kernel), by decide +kernel, wSome _ (by decide +kernel)⟩⟩

theorem witness_TrunksAndCellarImagesMoveAsTheCellarSays_5 : ∃ (s : State) (t : Tick) (ref : RecRef) (r : Rec) (b i : Bytes) (v w : State) (m : Bytes),
    let c := s.cmd t r b i
    let u := (s.begun t r b i).1
    let k := v.keyRec r.tenant
    let g := (w.ahead.applyAll (w.replaceTrunk r.tenant m)).cellarImage r.tenant (k.imageGen + 1) m
    (Accepted s t ref 0x020C r b i) ∧
    (trunkBody b = true) ∧
    (u.quorumUse r.tenant purposeTrunk = (v, none)) ∧
    (k.present = true) ∧
    ((if fld b 0 1 = 0 then v.random 32 else (v.heldTrunk c).map fun m => (v.dropRound c, m)) = some (w, m)) ∧
    (spaceFail c 16 g.length = none) :=
  ⟨wCmd (wVaultQ { present := true }) 0x020C 0 (zeros 8), 9, wRef, wCmdRec 0x020C 0 (zeros 8), zeros 8, [], _, _, _, by exact ⟨wAcc (by decide +kernel), by decide +kernel, wPairEq _ _ (by decide +kernel), by decide +kernel, wSome _ (by decide +kernel), by decide +kernel⟩⟩

theorem witness_TrunksAndCellarImagesMoveAsTheCellarSays_6 : ∃ (s : State) (t : Tick) (ref : RecRef) (r : Rec) (b i : Bytes) (v w : State) (m : Bytes),
    let c := s.cmd t r b i
    let u := (s.begun t r b i).1
    (Accepted s t ref 0x020D r b i) ∧
    (trunkBody b = true) ∧
    (u.quorumUse 0 purposeTrunk = (v, none)) ∧
    ((v.keyRec 0).present = false) ∧
    ((if fld b 0 1 = 0 then v.random 32 else (v.heldTrunk c).map fun m => (v.dropRound c, m)) = some (w, m)) :=
  ⟨wCmd ({ wVaultQ {} with mode := .muster }) 0x020D 0 (zeros 8), 9, wRef, wCmdRec 0x020D 0 (zeros 8), zeros 8, [], _, _, _, by exact ⟨wAcc (by decide +kernel), by decide +kernel, wPairEq _ _ (by decide +kernel), by decide +kernel, wSome _ (by decide +kernel)⟩⟩

theorem witness_TrunksAndCellarImagesMoveAsTheCellarSays_7 : ∃ (s : State) (t : Tick) (ref : RecRef) (r : Rec) (b i : Bytes) (v w : State) (m : Bytes),
    let c := s.cmd t r b i
    let u := (s.begun t r b i).1
    let x := (w.logEvent 0x0301 .notice islWarden 0x100 .ok [r.tenant, (w.keyRec 0).generation] : State)
    (Accepted s t ref 0x020D r b i) ∧
    (trunkBody b = true) ∧
    (u.quorumUse 0 purposeTrunk = (v, none)) ∧
    ((v.keyRec 0).present = true) ∧
    ((if fld b 0 1 = 0 then v.random 32 else (v.heldTrunk c).map fun m => (v.dropRound c, m)) = some (w, m)) :=
  ⟨wCmd ({ wVaultQ { present := true } with mode := .muster }) 0x020D 0 (zeros 8), 9, wRef, wCmdRec 0x020D 0 (zeros 8), zeros 8, [], _, _, _, by exact ⟨wAcc (by decide +kernel), by decide +kernel, wPairEq _ _ (by decide +kernel), by decide +kernel, wSome _ (by decide +kernel)⟩⟩

end Sys2Proof.Tests
end

