-- ==== Sys2Proof/Tests/Slice0Lading.lean ====
section
/-! SUPPORT. Witnesses: states and operands that meet the hypotheses of the statements on lading commands. -/

set_option autoImplicit false
set_option maxRecDepth 4000
set_option linter.unusedVariables false

namespace Sys2Proof.Tests

set_option Elab.async false

open Sys2Proof Sys2Proof.Machine

/-- A lading record of an AES-128 key of zeros, with its AES-256-GCM tag (Tables 15-6 and 15-7). -/
def wLading : Bytes := natBE 152 331839669364699073945026135019746849574056762085757651706869376830394454697828128525134322625371931061836658712170754687695636021675385168448822309386186308630994501449903063093424036718250747030164984518860222043816227515563010218314382305454152933629882213192114743348447890978232335650872088935875763114927816814920698372990520592108737422887806101302531280488232

/-- A device whose receipt of the record is open. -/
def wReceipt : State := { wKey {} with receipts := [{ tenant := 0, nonce := zeros 16, dest := 0, issued := 0 }] }

theorem witness_LadingRecordsLeaveAndArrive_1 : ∃ (s : State) (t : Tick) (ref : RecRef) (r : Rec) (b i : Bytes) (v : State) (k : Nat) (root m : Bytes),
    let c := s.cmd t r b i
    let u := (s.begun t r b i).1
    let x := v.slot k
    let o := v.ladingRecord c root m x
    let e := v.ahead.dirEntry (hIndex (fld b 0 4))
    (Accepted s t ref 0x020E r b i) ∧
    (b.length = 0x28) ∧
    (fld b 4 4 ≤ 1) ∧
    (fld b 0x10 2 < 2 ^ 14) ∧
    (fld b 0x12 2 < 2 ^ 14) ∧
    (zeroAt b 0x14 4 = true) ∧
    (u.resolve (some r.tenant) (fld b 0 4) {} = (v, .ok k)) ∧
    (x.exportable = true) ∧
    (x.type ≠ 6) ∧
    (v.domainRoot = some root) ∧
    (v.material k = .ok m) ∧
    (spaceFail c 0 o.length = none) :=
  ⟨wCmd (wKey { type := 1, keyBits := 128, exportable := true, material := zeros 16 }) 0x020E 0 (natLE 4 wHandle ++ zeros 36), 9, wRef, wCmdRec 0x020E 0 (natLE 4 wHandle ++ zeros 36), natLE 4 wHandle ++ zeros 36, [], _, 7, [], zeros 16, by exact ⟨wAcc (by decide +kernel), by decide +kernel, by decide +kernel, by decide +kernel, by decide +kernel, by decide +kernel, wRes _ _ (by decide +kernel), by decide +kernel, by decide +kernel, by decide +kernel, wOk _ _ (by decide +kernel), by decide +kernel⟩⟩

theorem witness_LadingRecordsLeaveAndArrive_2 : ∃ (s : State) (t : Tick) (ref : RecRef) (r : Rec) (b i : Bytes) (v : State) (nonce : Bytes),
    let u := (s.begun t r b i).1
    (Accepted s t ref 0x020F r b i) ∧
    (b.length = 8) ∧
    (fld b 0 1 = 0) ∧
    (zeroAt b 1 1 = true) ∧
    (zeroAt b 4 4 = true) ∧
    (fld b 2 2 < 2 ^ 14) ∧
    ((u.receipts.filter fun x => x.tenant == r.tenant).length < 16) ∧
    (u.random 16 = some (v, nonce)) :=
  ⟨wCmd (wKey {}) 0x020F 0 (zeros 8), 9, wRef, wCmdRec 0x020F 0 (zeros 8), zeros 8, [], _, _, by exact ⟨wAcc (by decide +kernel), by decide +kernel, by decide +kernel, by decide +kernel, by decide +kernel, by decide +kernel, by decide +kernel, wSome _ (by decide +kernel)⟩⟩

theorem witness_LadingRecordsLeaveAndArrive_3 : ∃ (s : State) (t : Tick) (ref : RecRef) (r : Rec) (b i : Bytes) (v w : State) (x : Slot) (m : Bytes) (p : Parent) (lv l h : Nat) (q : Nat × Nat) (cs : List Change),
    let u := (s.begun t r b i).1
    (Accepted s t ref 0x020F r b i) ∧
    (b.length = 8) ∧
    (fld b 0 1 = 1) ∧
    (zeroAt b 1 1 = true) ∧
    (zeroAt b 2 2 = true) ∧
    (u.ladingHead r.tenant i = true) ∧
    (u.ladingOpen r.tenant i = some (x, m)) ∧
    (u.parentOf r.tenant (fld b 4 4) = (v, .ok (p, lv))) ∧
    (childLevel x.type lv = some l) ∧
    (typeOk x.type x.keyBits = true) ∧
    (x.type ≠ 6) ∧
    (plainOk x.type x.keyBits m = true) ∧
    (v.classDefined x.limitClass = true) ∧
    ((if x.type = 0x10 then (v.random (x.keyBits / 8)).map fun d => (d.1, blindPair m d.2) else some (v, (0, 0))) = some (w, q)) ∧
    (w.newKey { type := x.type, bits := x.keyBits, usage := x.usage, owner := r.tenant, parent := p, level := l, exportable := x.exportable, limitClass := x.limitClass, plain := m, blinding := q } = some (h, cs)) :=
  ⟨{ wReceipt with waiting := [wInputRec 0x020F 0 ([1, 0, 0, 0] ++ natLE 4 wTrunk) wLading] }, 9, wRef, wInputRec 0x020F 0 ([1, 0, 0, 0] ++ natLE 4 wTrunk) wLading, [1, 0, 0, 0] ++ natLE 4 wTrunk, wLading, _, _, { type := 1, keyBits := 128, exportable := true, material := zeros 16, state := .seasoned }, zeros 16, { inVault := true }, 0, 1, _, (0, 0), _, by exact ⟨wAcc (by decide +kernel), by decide +kernel, by decide +kernel, by decide +kernel, by decide +kernel, by decide +kernel, by decide +kernel, wOkPair _ _ (by decide +kernel), by decide +kernel, by decide +kernel, by decide +kernel, by decide +kernel, by decide +kernel, rfl, wSome _ (by decide +kernel)⟩⟩

end Sys2Proof.Tests
end

