-- ==== Sys2Proof/Tests/Slice0Lanes.lean ====
section
/-! SUPPORT. Witnesses: states and operands that meet the hypotheses of the statements on entropy, lane jobs, the skidder and the resaw. -/

set_option autoImplicit false
set_option maxRecDepth 4000
set_option linter.unusedVariables false

namespace Sys2Proof.Tests

set_option Elab.async false

open Sys2Proof Sys2Proof.Machine

theorem witness_TheEntropySourcesAreTestedAndSeedTheDrbg_1 : ∃ (s : State) (t : Tick) (n : Nat),
    let u := s.at t
    let v : State := { u with rng := { u.rng with healthy := u.rng.healthy ||| srcBit n, startup := u.rng.startup &&& ~~~ srcBit n } }
    (n ≤ 25) ∧
    (u.unitOn 19 0 = true) ∧
    (u.rng.startup.getLsbD n = true) ∧
    (v.rng.st = .failed → v.rng.katFailed = true ∨ v.rng.kindsOk = false) :=
  ⟨wStarting, 9, 0, by decide +kernel⟩

theorem witness_TheEntropySourcesAreTestedAndSeedTheDrbg_2 : ∃ (s : State) (t : Tick) (n : Nat),
    let u := s.at t
    let v : State := { u with rng := { u.rng with healthy := u.rng.healthy ||| srcBit n, startup := u.rng.startup &&& ~~~ srcBit n } }
    (n ≤ 25) ∧
    (u.unitOn 19 0 = true) ∧
    (u.rng.startup.getLsbD n = true) ∧
    (v.rng.st = .failed) ∧
    (v.rng.katFailed = false) ∧
    (v.rng.kindsOk = true) :=
  ⟨{ wServing with rng := { st := .failed, startup := 1, healthy := 0x03FFFFFE } }, 9, 0, by decide +kernel⟩

theorem witness_TheEntropySourcesAreTestedAndSeedTheDrbg_3 : ∃ (s : State) (t : Tick) (n : Nat),
    let u := s.at t
    (n ≤ 25) ∧
    (u.unitOn 19 0 = true) ∧
    (u.rng.healthy.getLsbD n = true) :=
  ⟨wHealthy, 9, 25, by decide +kernel⟩

theorem witness_TheEntropySourcesAreTestedAndSeedTheDrbg_4 : ∃ (s : State) (t : Tick),
    let u := s.at t
    (u.unitOn 19 0 = true) ∧
    (u.rng.st = .starting) ∧
    (u.rng.kindsOk = true) ∧
    (u.rng.blocks + 1 < u.rng.need) :=
  ⟨{ wBlocks with rng := { wBlocks.rng with blocks := 0 } }, 9, by decide +kernel⟩

theorem witness_TheEntropySourcesAreTestedAndSeedTheDrbg_5 : ∃ (s : State) (t : Tick),
    let u := s.at t
    (u.unitOn 19 0 = true) ∧
    (u.rng.st = .starting) ∧
    (u.rng.kindsOk = true) ∧
    (u.rng.need ≤ u.rng.blocks + 1) :=
  ⟨wBlocks, 9, by decide +kernel⟩

theorem witness_TheEntropySourcesAreTestedAndSeedTheDrbg_6 : ∃ (s : State) (t : Tick) (n q : Nat),
    let u := s.at t
    (n ≤ 25) ∧
    (mapFind u.rng.quarantined n = some q) ∧
    (q + 1000000 ≤ u.tick) ∧
    (mapGet 0 u.rng.times n < 3) ∧
    (u.unitOn 19 0 = true) :=
  ⟨wQuarantine, 1000000, 3, 0, by decide +kernel⟩

theorem witness_TheEntropySourcesAreTestedAndSeedTheDrbg_7 : ∃ (s : State) (t : Tick) (l : Nat),
    let u := s.at t
    (l ≤ 15) ∧
    (u.rng.st = .healthy) ∧
    (u.unitOn 19 0 = true) :=
  ⟨wHealthy, 9, 15, by decide +kernel⟩

theorem witness_TheEntropySourcesAreTestedAndSeedTheDrbg_8 : ∃ (s : State) (t : Tick) (l : Nat),
    let u := s.at t
    (l ≤ 31) ∧
    (u.rng.st = .healthy) ∧
    (u.unitOn 19 0 = true) :=
  ⟨wHealthy, 9, 31, by decide +kernel⟩

theorem witness_TheEntropySourcesAreTestedAndSeedTheDrbg_9 : ∃ (s : State) (t : Tick) (v : State) (b : Bytes), (s.at t).rng.fifo.length < 32 ∧
    (s.at t).random (4 * (64 - (s.at t).rng.fifo.length)) = some (v, b) := by
  have h : ((wHealthy.at 9).random (4 * (64 - (wHealthy.at 9).rng.fifo.length))).isSome = true := by decide +kernel
  obtain ⟨⟨v, b⟩, hv⟩ := Option.isSome_iff_exists.mp h
  exact ⟨wHealthy, 9, v, b, by decide +kernel, hv⟩

theorem witness_LaneJobsAreDispatchedAndEnd_1 : ∃ (s : State) (t : Tick) (l : Nat) (run : Run),
    let u := s.at t
    (l ≤ 15) ∧
    ((u.running.find? fun r => r.stage == .lane .cipher none) = some run) ∧
    (u.laneAny .cipher = false) :=
  ⟨{ wLaneWait .cipher with pwr := { unit := (List.range 16).map fun l => (unitKey 10 l, .off) } }, 9, 15, { wRun with stage := .lane .cipher none }, by decide +kernel⟩

theorem witness_LaneJobsAreDispatchedAndEnd_2 : ∃ (s : State) (t : Tick) (k : LaneKind) (l : Nat) (run : Run),
    let u := s.at t
    (k = .cipher ∧ l ≤ 15 ∨ k = .digest ∧ l ≤ 7 ∨ k = .bigNumber ∧ l ≤ 31 ∨ k = .decimal ∧ l ≤ 3) ∧
    ((u.running.find? fun r => r.stage == .lane k none) = some run) ∧
    (u.laneAny k = true) ∧
    (l < Machine.laneCount k) ∧
    (u.laneOn k l = true) ∧
    (u.laneIdle k l = true) :=
  ⟨wLaneWait .decimal, 9, .decimal, 3, { wRun with stage := .lane .decimal none }, by decide +kernel⟩

theorem witness_LaneJobsAreDispatchedAndEnd_3 : ∃ (s : State) (t : Tick) (l : Nat) (run : Run),
    let u := s.at t
    (l ≤ 15) ∧
    ((u.running.find? fun r => r.stage == .lane .cipher (some l)) = some run) ∧
    (run.cycles ≤ 65536) :=
  ⟨{ wLane .cipher 3 with running := [{ wRun with stage := .lane .cipher (some 3), cycles := 9 }] }, 9, 3, { wRun with stage := .lane .cipher (some 3), cycles := 9 }, by decide +kernel⟩

theorem witness_LaneJobsAreDispatchedAndEnd_4 : ∃ (s : State) (t : Tick) (l : Nat) (run : Run),
    let u := s.at t
    (l ≤ 15) ∧
    ((u.running.find? fun r => r.stage == .lane .cipher (some l)) = some run) ∧
    (65536 < run.cycles) ∧
    (u.rng.cipherBuf.getLsbD l = true) :=
  ⟨{ wLane .cipher 3 with rng := { wHealthy.rng with cipherBuf := 8 } }, 9, 3, { wRun with stage := .lane .cipher (some 3) }, by decide +kernel⟩

theorem witness_LaneJobsAreDispatchedAndEnd_5 : ∃ (s : State) (t : Tick) (l : Nat) (run : Run),
    let u := s.at t
    (l ≤ 15) ∧
    ((u.running.find? fun r => r.stage == .lane .cipher (some l)) = some run) ∧
    (65536 < run.cycles) ∧
    (u.rng.cipherBuf.getLsbD l = false) ∧
    (u.rng.st ≠ .healthy) :=
  ⟨{ wLane .cipher 3 with rng := {} }, 9, 3, { wRun with stage := .lane .cipher (some 3) }, by decide +kernel⟩

theorem witness_LaneJobsAreDispatchedAndEnd_6 : ∃ (s : State) (t : Tick) (l : Nat) (run : Run),
    let u := s.at t
    (l ≤ 15) ∧
    ((u.running.find? fun r => r.stage == .lane .cipher (some l)) = some run) :=
  ⟨wLane .cipher 3, 9, 3, { wRun with stage := .lane .cipher (some 3) }, by decide +kernel⟩

theorem witness_LaneJobsAreDispatchedAndEnd_7 : ∃ (s : State) (t : Tick) (l g : Nat) (run : Run),
    let u := s.at t
    (l ≤ 15) ∧
    ((u.running.find? fun r => r.stage == .lane .cipher (some l)) = some run) :=
  ⟨wLane .cipher 3, 9, 3, 2, { wRun with stage := .lane .cipher (some 3) }, by decide +kernel⟩

theorem witness_LaneJobsAreDispatchedAndEnd_8 : ∃ (s : State) (t : Tick) (l : Nat) (run : Run),
    let u := s.at t
    (l ≤ 7) ∧
    ((u.running.find? fun r => r.stage == .lane .digest (some l)) = some run) :=
  ⟨wLane .digest 3, 9, 3, { wRun with stage := .lane .digest (some 3) }, by decide +kernel⟩

theorem witness_LaneJobsAreDispatchedAndEnd_9 : ∃ (s : State) (t : Tick) (l : Nat) (run : Run),
    let u := s.at t
    (l ≤ 7) ∧
    ((u.running.find? fun r => r.stage == .lane .digest (some l)) = some run) :=
  ⟨wLane .digest 3, 9, 3, { wRun with stage := .lane .digest (some 3) }, by decide +kernel⟩

theorem witness_LaneJobsAreDispatchedAndEnd_10 : ∃ (s : State) (t : Tick) (l d : Nat) (run : Run),
    let u := s.at t
    (l ≤ 31) ∧
    ((u.running.find? fun r => r.stage == .lane .bigNumber (some l)) = some run) ∧
    (isRsaGen run = false) :=
  ⟨wLane .bigNumber 3, 9, 3, 4, { wRun with stage := .lane .bigNumber (some 3) }, by decide +kernel⟩

theorem witness_LaneJobsAreDispatchedAndEnd_11 : ∃ (s : State) (t : Tick) (l : Nat) (run : Run) (p : Posting),
    let u := s.at t
    (l ≤ 3) ∧
    ((u.running.find? fun r => r.stage == .lane .decimal (some l)) = some run) ∧
    (run.res.post = some p) :=
  ⟨{ wServing with running := [{ wRun with stage := .lane .decimal (some 3), res := { post := some { kind := 1 } } }] }, 9, 3, { wRun with stage := .lane .decimal (some 3), res := { post := some { kind := 1 } } }, { kind := 1 }, by decide +kernel⟩

theorem witness_TheSkidderWalksAndTheResawRewrites_1 : ∃ (s : State) (t : Tick),
    let u := s.at t
    (u.cel.ready = true) ∧
    (u.unitOn 6 0 = true) ∧
    (u.cel.skidActive = true) ∧
    ((u.slot u.cel.skidPos).state = .free) ∧
    (u.cel.skidPos + 1 < 262144) :=
  ⟨{ wCellar with cel := { ready := true, skidActive := true } }, 9, by decide +kernel⟩

theorem witness_TheSkidderWalksAndTheResawRewrites_2 : ∃ (s : State) (t : Tick),
    let u := s.at t
    (u.cel.ready = true) ∧
    (u.unitOn 6 0 = true) ∧
    (u.cel.skidActive = true) ∧
    ((u.slot u.cel.skidPos).state = .green) ∧
    (u.linkOk (u.slot u.cel.skidPos).parent = true) ∧
    (u.cel.skidPos = 262143) :=
  ⟨{ wCellar with cel := { ready := true, skidActive := true, skidPos := 262143, slots := [(5, { state := .seasoned }), (262143, { state := .green, parent := { inVault := false, index := 5, gen := 0 } })] } }, 9, by decide +kernel⟩

theorem witness_TheSkidderWalksAndTheResawRewrites_3 : ∃ (s : State) (t : Tick),
    let u := s.at t
    (u.cel.ready = true) ∧
    (u.unitOn 6 0 = true) ∧
    (u.cel.skidActive = true) ∧
    ((u.slot u.cel.skidPos).state = .felled) ∧
    (mapGet 0 u.cel.felledAt u.cel.skidPos ≤ u.cel.passStart) ∧
    (u.cel.skidPos + 1 < 262144) :=
  ⟨{ wCellar with cel := { ready := true, skidActive := true, skidPos := 5, slots := [(5, { state := .felled, generation := 2 })] } }, 9, by decide +kernel⟩

theorem witness_TheSkidderWalksAndTheResawRewrites_4 : ∃ (s : State) (t : Tick) (v : State) (b : Bytes), (s.at t).smcReady = true ∧ (s.at t).smc.keys ≠ [] ∧
    (s.at t).rsw.active = false ∧ (s.at t).random 32 = some (v, b) := by
  have h : ((State.at { wSealed with rng := wHealthy.rng } 9).random 32).isSome = true := by decide +kernel
  obtain ⟨⟨v, b⟩, hv⟩ := Option.isSome_iff_exists.mp h
  exact ⟨{ wSealed with rng := wHealthy.rng }, 9, v, b, by decide +kernel, by decide +kernel, rfl, hv⟩

theorem witness_TheSkidderWalksAndTheResawRewrites_5 : ∃ (s : State) (t : Tick),
    let u := s.at t
    (u.smcReady = true) ∧
    (u.smc.keys ≠ []) ∧
    (u.rsw.active = true) :=
  ⟨wResaw, 9, by decide +kernel⟩

theorem witness_TheSkidderWalksAndTheResawRewrites_6 : ∃ (s : State) (t : Tick) (k : Nat),
    let u := s.at t
    (k ≤ 255) ∧
    (u.smcReady = true) ∧
    (u.smc.keys ≠ []) ∧
    (u.rsw.active = true) :=
  ⟨wResaw, 9, 255, by decide +kernel⟩

theorem witness_TheSkidderWalksAndTheResawRewrites_7 : ∃ (s : State) (t : Tick) (n : Nat),
    let u := s.at t
    (u.rsw.active = true) ∧
    (u.rsw.paused = false) ∧
    (u.smcReady = true) ∧
    (u.rsw.last + u.rsw.pace ≤ u.tick) ∧
    ((u.rsw.boundary + 4096) / 2 ^ 21 = u.rsw.boundary / 2 ^ 21) ∧
    (u.smc.lines = []) :=
  ⟨wResaw, 9, 5, by decide +kernel⟩

theorem witness_TheSkidderWalksAndTheResawRewrites_8 : ∃ (s : State) (t : Tick) (n : Nat),
    let u := s.at t
    (u.rsw.paused = true) :=
  ⟨{ wResaw with rsw := { wResaw.rsw with paused := true } }, 9, 5, by decide +kernel⟩

end Sys2Proof.Tests
end

