-- ==== Sys2Proof/Tests/Slice0Ledger.lean ====
section
/-! SUPPORT. Witnesses: states and operands that meet the hypotheses of the statements on ledger commands. -/

set_option autoImplicit false
set_option maxRecDepth 4000
set_option linter.unusedVariables false

namespace Sys2Proof.Tests

set_option Elab.async false

open Sys2Proof Sys2Proof.Machine

/-- The witness ledger's keys: HMAC key byte 1 for seals, journal and channel, and a P-384 signing key. -/
def wLedgerKeys : State :=
  wTwoKeys { type := 5, keyBits := 128, usage := useBit 10 ||| useBit 11 ||| useBit 13, material := [1] }
    { type := 0x11, keyBits := 384, usage := useBit 4 ||| useBit 13, material := zeros 104 }

/-- Ledger 1 of tenant 0 in slot 0 with one currency, and an active account in context 1,024. -/
def wLedger : State :=
  { wLedgerKeys with board := {
      desc := [(0, { sealHandle := wHandle, journalHandle := wHandle, signHandle := mkHandle 6 1, window := 65536
                     channels := [wHandle], currencies := [{ code := 1, exponent := 2, suspense := none }] })]
      heads := [(0, { ledger := 1, nextSeq := 1, chain := zeros 32, nonce := zeros 8 })]
      ctx := [(1024, { fingerprint := zeros 8, ledger := 1, version := 1, limitClass := 255, acctState := 1 }),
              (1025, { fingerprint := List.replicate 8 1, ledger := 1, version := 1, limitClass := 255, acctState := 1 })] } }

/-- ACCOUNT_OPEN, with its MAC or tag. -/
def wOpenAccount : Bytes := natBE 80 0x1000100000000000500044000000000000000000000000009090909090909090100000000000000000000000000000000000000000000000000000000000000a33bfd3ba08854a8abf89e1ea8bdc919
/-- ACCOUNT_SET_STATE, with its MAC or tag. -/
def wSetState : Bytes := natBE 160 0x1000200000000000500044000000000dbf8d70239e0831c7e90da40d50dc31a000000000000000000000000000000000100010002000100010000000000000000040000070000000000000000000000000000000000000000000000000000000000000000000000000000000000000c000000000000000000000000000000000000000000000000000000000000000c63d3d686b279eea28499139d5b92231e
/-- ACCRUE, with its MAC or tag. -/
def wAccrueBody : Bytes := natBE 352 0x10068010100000005000440000000000100000000000000000000000000000000000000000000000000000000000000ef5cdd6e6440a9916429b2c0b4ee1a6c000000000000000000000000000000000000000000000000000000000000000c000000000000000000000000000000000100010002000100010000000000000000040000070000000000000000000000000000000000000000000000000000000000000000000000000000000000000c000000000000000000000000000000000000000000000000000000000000000c63d3d686b279eea28499139d5b92231e000000000000000001010101010101010100010002000100010000000000000001040000070000000000000000000000000000000000000000000000000000000000000000000000000000000000000c000000000000000000000000000000000000000000000000000000000000000c7f426c3d3c84d3b74b7b7906bc661aa4
/-- POST_LEGS of one leg, with its MAC or tag. -/
def wPostBody : Bytes := natBE 256 0x10001000500044001000000000000000000000000000000000000000000000000000000000000000000000000000000218992697e4c9bd028d7b47c9f9b715b0000000000000000000000000000000001000000000000000000000000000000000000000000000000000000000000000000000000000000000000000000000c000000000000000000000000000000000100010002000100010000000000000000040000070000000000000000000000000000000000000000000000000000000000000000000000000000000000000c000000000000000000000000000000000000000000000000000000000000000c63d3d686b279eea28499139d5b92231e
/-- POST_LEGS whose leg is homed at member 1, with its MAC or tag. -/
def wCrossBody : Bytes := natBE 256 0x10001000500044001000000000000000000000000000000000000000000000000000000000000000000000000000000abb239f39f51634c30923a635031bb180100000000000000010101010101010101000000000000000000000000000000000000000000000000000000000000000000000000000000000000000000000c010000000000000001010101010101010100010002000100010000000000000001040000070000000000000000000000000000000000000000000000000000000000000000000000000000000000000c000000000000000000000000000000000000000000000000000000000000000c65f82ca2a391ddbdc9fabb12bb641388
/-- A journal entry of kind 5, with its MAC or tag. -/
def wEntry : Bytes := natBE 96 0x4b484a450100010001000000000000000500000000000000000000000000000000000000000000000000000000000000000000000000000000000000000000000000000000000000000000000000000012008a8e52fb590bef7ecaba0463d82e
/-- An image of the ledger without accounts: sealed part, with its MAC or tag. -/
def wBoardTail : Bytes := natBE 408 0xe961fd7328a9c6d117fb3d42cbe45f2b8f0356769a00041096409ad7efca327bcc6a044bad738a80d0a1079e6c6317e85dc79d42987cdc1442bf6490f5ff76336ee05382fa63c6020615260733bd10f5c35c415d97409b08be23ad85c750bc09470f3d9f79dae2f9601862bdd5cf645a6f53ca1157666657ee5b928675750c05197c491a566db626c7408c4a8dbda6cf553e6b85c995137401fbdf9c958a7af73e0bad61f4c037ab2254319f9b1a9ae6986d67078b64c069bf0180a5cd41b7fe462352ac63b7187bdcf86d7cdf3dc083e7911f4a0de7860c31299bddd97d8dea791f30d76cda9fffcb46c5650d5743f641df74fc6c5bde08df95bc47c57fb52f005e550ab39201dfc772b91f44e8f1f75b20c1c2f314808ebaba7f6f7cabb09af80c758e926abb8f4d5aa549b6813ea70e223bae38c8c188a650ae643b4b6deb259ab33143dea23e7b8e6eb1af22e7103f085900d8b4620d5278eb8ad414ca6d238c0e27c8286467e8bdcc8c78269be8562d5c7f7a5decafc0cdbc4c807f33d9194f95f8a4ad4a4a3c0fbcada0bddf7ee3f19aefda5ae365
/-- An image of the ledger without accounts: header, with its MAC or tag. -/
def wBoardHead : Bytes := natBE 32 0x4b48424901000000000000000000000001000000000000000000000000000000
/-- LEDGER_CREATE of ledger 1 (Table 11-1). -/
def wCreate : Bytes :=
  natLE 2 1 ++ [1, 1] ++ natLE 4 wHandle ++ natLE 4 wHandle ++ natLE 4 (mkHandle 6 1) ++ natLE 4 65536 ++ zeros 12 ++ natLE 4 wHandle ++
    zeros 28 ++ natLE 2 1 ++ [2, 0] ++ zeros 28 ++ zeros 224

/-- A member whose leg's account is homed at the other one. -/
def wCrossLedger : State :=
  { wLedger with
    man := { (wMember {}).man with set := { (wMember {}).man.set with homes := [0, 1] } }
    ndl := (wMember {}).ndl, car := { epochs := [(1, 0)] } }

/-- Row 4 answers these keys and leaves the state. -/
theorem wFour (p : State × Except Status (List LedgerKey × LedgerKey)) (v : State) (a : List LedgerKey) (k : LedgerKey)
    (h : (match p with | (q, .ok x) => decide (q = v) && (decide (x.1 = a) && decide (x.2 = k)) | _ => false) = true) : p = (v, .ok (a, k)) := by
  obtain ⟨q, e⟩ := p
  cases e with
  | error x => exact absurd h (by intro h; cases h)
  | ok x => obtain ⟨y, z⟩ := x; obtain ⟨rfl, rfl, rfl⟩ : q = v ∧ y = a ∧ z = k := by simpa using h
            rfl

theorem wNone {α : Type} (o : Option α) (h : o.isNone = true) : o = none := by
  cases o with
  | none => rfl
  | some x => cases h

theorem wOkSome {ε α : Type} (e : Except ε (List α)) (h : e.toOption.isSome = true) : e = .ok (e.toOption.getD []) := by
  cases e with
  | error x => cases h
  | ok x => rfl

/-- The state after row 4 resolved the ledger's keys. -/
def wFound (s : State) (op tn : Nat) (b : Bytes) : State :=
  let u := ((wCmd s op tn b).begun 9 (wCmdRec op tn b) b []).1
  let v := (u.resolve (some tn) wHandle { hmacNeed 11 with units := some fun _ => 1 }).1
  ((v.ledgerKeys tn wHandle 10).1.ledgerKeys tn wHandle 13).1

/-- The legs of a POST_LEGS body of one leg. -/
def wLegs (s : State) (b : Bytes) : List Leg :=
  (parseLegs (some (s.desc 0)) ((List.range (fld b 2 1)).map fun k => sub b (64 + 192 * k) 192) 0 [] []).toOption.getD []

/-- A kept response, a block, and a ledger whose next epoch is pending. -/
def wStored : StoredResponse := { ledger := 1, seq := 1, id := zeros 16, kind := 1, body := [7] }
def wOpenBlock : JournalBlock := { ledger := 1, first := 1, last := 1, epoch := 0, lastHash := zeros 32, signature := none }
def wPendingLedger : State :=
  { wLedger with board := { wLedger.board with
      heads := [(0, { ledger := 1, nextSeq := 1, chain := zeros 32, nonce := zeros 8, checkpointPending := true, pendingEpoch := 1 })] } }

/-- A device in MUSTER whose vault knows the ledger and whose board is empty, and what the image opens to. -/
def wEmptyBoard : State :=
  { wLedgerKeys with mode := .muster, vault := { wLedgerKeys.vault with epochs := [(0, { ledger := 1 })] } }
def wBoardOpen : Option Bytes :=
  gcmOpen (boardKey [] 0 1 0) (boardIv 1 0) (sub (wBoardHead ++ wBoardTail) 0 0x20)
    (((wBoardHead ++ wBoardTail).drop 0x20).take ((wBoardHead ++ wBoardTail).length - 0x30))
    ((wBoardHead ++ wBoardTail).drop ((wBoardHead ++ wBoardTail).length - 16))
def wBoardPlain : Bytes := wBoardOpen.getD []
theorem wBoardPlain_eq : wBoardOpen = some wBoardPlain := wSomeGet wBoardOpen [] (by decide +kernel)

/-- The entry as roll-forward reads it. -/
def wEntries : List Entry := (parseEntriesJ 1 1 0 wEntry).toOption.getD []

/-- A KH-1 balance MAC record of amount 0. -/
def wKh1Bal (code : Nat) : Bytes :=
  natBE 2 code ++ [1, 0] ++ zeros 4 ++ natBE 2 1 ++ zeros 4 ++ natBE 2 8 ++ zeros 7 ++ [0x0C] ++ zeros 232

/-- A TDEA key of distinct parts. -/
def wTdea : Bytes := List.replicate 8 2 ++ List.replicate 8 4 ++ List.replicate 8 8

theorem wCreateSubjects : ([((parseDesc wCreate).sealHandle, hmacNeed 10), ((parseDesc wCreate).journalHandle, hmacNeed 13),
    ((parseDesc wCreate).signHandle, signNeed)] ++ (parseDesc wCreate).channels.map fun h => (h, hmacNeed 11)) =
    [(wHandle, hmacNeed 10), (wHandle, hmacNeed 13), (mkHandle 6 1, signNeed), (wHandle, hmacNeed 11)] := rfl

theorem wSubject (p : State × Except Status Nat) (s : State) {k : Nat} (e : p.1 = s) (h : p.2.toOption = some k) :
    p = (s, .ok k) := by
  rw [← e]
  exact wRes p k h

theorem witness_LedgersOpenAndPostingsStartTheirDecimalJob_1 : ∃ (s : State) (t : Tick) (ref : RecRef) (r : Rec) (b i : Bytes) (v : State) (n : Nat) (nonce : Bytes),
    let u := (s.begun t r b i).1
    let d := parseDesc b
    let held := u.ahead.vault.epochs.filter fun p => p.2.ledger != 0
    (Accepted s t ref 0x0701 r b i) ∧
    (descOk b = true) ∧
    ((held.any fun p => p.2.ledger == fld b 0 2) = false) ∧
    (held.length < 512) ∧
    ((held.filter fun p => p.2.tenant == r.tenant).length < 16) ∧
    ((∀ x ∈ [(d.sealHandle, hmacNeed 10), (d.journalHandle, hmacNeed 13), (d.signHandle, signNeed)] ++ d.channels.map fun h => (h, hmacNeed 11), ∃ j, u.resolve (some r.tenant) x.1 x.2 = (u, .ok j))) ∧
    (((u.ahead.board.heads.filter fun p => p.2.ledger != 0).map fun p => (u.ahead.desc p.1).window).sum + d.window ≤ 16777216) ∧
    ((if r.nonce.length = 10 then v = u ∧ n = fld r.nonce 0 2 ∧ nonce = sub r.nonce 2 8 else u.ahead.freeLedger = some n ∧ u.random 8 = some (v, nonce))) :=
  ⟨wCmd (wLedgerKeys) 0x0701 0 (wCreate), 9, wRef, wCmdRec 0x0701 0 (wCreate), wCreate, [], _, 0, _, by exact ⟨wAcc (by decide +kernel), by decide +kernel, by decide +kernel, by decide +kernel, by decide +kernel, by intro x hx; simp only [wCreateSubjects, List.mem_cons, List.not_mem_nil, or_false] at hx; rcases hx with rfl | rfl | rfl | rfl; exact ⟨7, wSubject _ _ rfl (by decide +kernel)⟩; exact ⟨7, wSubject _ _ rfl (by decide +kernel)⟩; exact ⟨8, wSubject _ _ rfl (by decide +kernel)⟩; exact ⟨7, wSubject _ _ rfl (by decide +kernel)⟩, by decide +kernel, by rw [if_neg (by decide +kernel)]; exact ⟨by decide +kernel, wSome _ (by decide +kernel)⟩⟩⟩

theorem witness_LedgersOpenAndPostingsStartTheirDecimalJob_2 : ∃ (s : State) (t : Tick) (ref : RecRef) (r : Rec) (b i : Bytes) (v : State) (n : Nat) (sk : List LedgerKey) (jk : LedgerKey),
    let u := (s.begun t r b i).1
    let p : Posting := { kind := 3, slot := n, ledger := fld b 0 2, tenant := r.tenant, id := sub b 0x30 16, horizon := fld b 0x20 8, valueDate := zeros 8, sealKeys := sk, journalKey := jk.2.2.1, cls := fld b 4 1, legs := [{ tag := sub b 0x10 16, currency := fld b 2 2, exponent := (((v.desc n).currency (fld b 2 2)).map (·.exponent)).getD 0 }] }
    let w := v.addMarks (.command r.ref) [.posting (fld b 0 2) p.id]
    (Accepted s t ref 0x0702 r b i) ∧
    (b.length = 80) ∧
    (zeroAt b 5 3 = true) ∧
    (zeroAt b 0xC 4 = true) ∧
    (zeroAt b 0x28 8 = true) ∧
    (u.ledgerSlot (fld b 0 2) r.tenant = some n) ∧
    (u.rowThree = none) ∧
    (u.rowFour r.tenant (u.desc n) (fld b 8 4) 0x40 b = (v, .ok (sk, jk))) ∧
    (v.foreign (.command r.ref) (.posting (fld b 0 2) p.id) = none) ∧
    (v.filterHit n p.horizon p.id = none) ∧
    (w.openChecks p = none) :=
  ⟨wCmd (wLedger) 0x0702 0 (wOpenAccount), 9, wRef, wCmdRec 0x0702 0 (wOpenAccount), wOpenAccount, [], wFound wLedger 0x0702 0 wOpenAccount, 0, [(7, 1, [1], false)], (7, 1, [1], false), by exact ⟨wAcc (by decide +kernel), by decide +kernel, by decide +kernel, by decide +kernel, by decide +kernel, by decide +kernel, by decide +kernel, wFour _ _ _ _ (by decide +kernel), by decide +kernel, by decide +kernel, by decide +kernel⟩⟩

theorem witness_LedgersOpenAndPostingsStartTheirDecimalJob_3 : ∃ (s : State) (t : Tick) (ref : RecRef) (r : Rec) (b i : Bytes) (v : State) (n : Nat) (sk : List LedgerKey) (jk : LedgerKey),
    let u := (s.begun t r b i).1
    let x := sub b 0x20 128
    let p : Posting := { kind := 4, slot := n, ledger := fld b 0 2, tenant := r.tenant, id := zeros 16, valueDate := zeros 8, sealKeys := sk, journalKey := jk.2.2.1, newState := fld b 2 1, legs := [legOf (sub x 0 16) (fld x 0x12 2) false 0 x 0] }
    (Accepted s t ref 0x0703 r b i) ∧
    (b.length = 160) ∧
    (1 ≤ fld b 2 1) ∧
    (fld b 2 1 ≤ 3) ∧
    (zeroAt b 3 5 = true) ∧
    (zeroAt b 0xC 4 = true) ∧
    ((sealAmounts x).isNone = false) ∧
    (u.ledgerSlot (fld b 0 2) r.tenant = some n) ∧
    (u.rowThree = none) ∧
    (u.rowFour r.tenant (u.desc n) (fld b 8 4) 0x10 b = (v, .ok (sk, jk))) ∧
    (v.sealRows p = none) ∧
    (v.legMark (.command r.ref) p = none) ∧
    (v.versionRows p = none) ∧
    (v.transitionOk p = true) :=
  ⟨wCmd (wLedger) 0x0703 0 (wSetState), 9, wRef, wCmdRec 0x0703 0 (wSetState), wSetState, [], wFound wLedger 0x0703 0 wSetState, 0, [(7, 1, [1], false)], (7, 1, [1], false), by exact ⟨wAcc (by decide +kernel), by decide +kernel, by decide +kernel, by decide +kernel, by decide +kernel, by decide +kernel, by decide +kernel, by decide +kernel, by decide +kernel, wFour _ _ _ _ (by decide +kernel), wNone _ (by decide +kernel), by decide +kernel, wNone _ (by decide +kernel), by decide +kernel⟩⟩

theorem witness_LedgersOpenAndPostingsStartTheirDecimalJob_4 : ∃ (s : State) (t : Tick) (ref : RecRef) (r : Rec) (b i : Bytes) (v : State) (n : Nat) (sk : List LedgerKey) (jk : LedgerKey) (l : List Leg),
    let c := s.cmd t r b i
    let u := (s.begun t r b i).1
    let p := postingOf c n sk jk l
    let w := v.addMarks (.command r.ref) [.posting (fld b 0 2) p.id]
    (Accepted s t ref 0x0704 r b i) ∧
    (64 ≤ b.length) ∧
    (1 ≤ fld b 2 1) ∧
    (fld b 2 1 ≤ 16) ∧
    (b.length = 64 + 192 * fld b 2 1) ∧
    (zeroAt b 3 1 = true) ∧
    (zeroAt b 0x28 8 = true) ∧
    (parseLegs (some (u.desc n)) ((List.range (fld b 2 1)).map fun k => sub b (64 + 192 * k) 192) 0 [] [] = .ok l) ∧
    (u.ledgerSlot (fld b 0 2) r.tenant = some n) ∧
    (u.rowThree = none) ∧
    (u.rowFour r.tenant (u.desc n) (fld b 4 4) 0x30 b = (v, .ok (sk, jk))) ∧
    (v.crossHome c = false) ∧
    (v.foreign (.command r.ref) (.posting (fld b 0 2) p.id) = none) ∧
    (v.filterHit n p.horizon p.id = none) ∧
    (w.sealRows p = none) ∧
    (w.legMark (.command r.ref) p = none) ∧
    (w.versionRows p = none) :=
  ⟨wCmd (wLedger) 0x0704 0 (wPostBody), 9, wRef, wCmdRec 0x0704 0 (wPostBody), wPostBody, [], wFound wLedger 0x0704 0 wPostBody, 0, [(7, 1, [1], false)], (7, 1, [1], false), wLegs wLedger wPostBody, by exact ⟨wAcc (by decide +kernel), by decide +kernel, by decide +kernel, by decide +kernel, by decide +kernel, by decide +kernel, by decide +kernel, wOkSome _ (by decide +kernel), by decide +kernel, by decide +kernel, wFour _ _ _ _ (by decide +kernel), by decide +kernel, by decide +kernel, by decide +kernel, by decide +kernel, by decide +kernel, wNone _ (by decide +kernel)⟩⟩

theorem witness_LedgersOpenAndPostingsStartTheirDecimalJob_5 : ∃ (s : State) (t : Tick) (ref : RecRef) (r : Rec) (b i : Bytes) (v : State) (n : Nat) (sk : List LedgerKey) (jk : LedgerKey) (l : List Leg),
    let c := s.cmd t r b i
    let u := (s.begun t r b i).1
    (Accepted s t ref 0x0704 r b i) ∧
    (64 ≤ b.length) ∧
    (1 ≤ fld b 2 1) ∧
    (fld b 2 1 ≤ 16) ∧
    (b.length = 64 + 192 * fld b 2 1) ∧
    (zeroAt b 3 1 = true) ∧
    (zeroAt b 0x28 8 = true) ∧
    (parseLegs (some (u.desc n)) ((List.range (fld b 2 1)).map fun k => sub b (64 + 192 * k) 192) 0 [] [] = .ok l) ∧
    (u.ledgerSlot (fld b 0 2) r.tenant = some n) ∧
    (u.rowThree = none) ∧
    (u.rowFour r.tenant (u.desc n) (fld b 4 4) 0x30 b = (v, .ok (sk, jk))) ∧
    (v.crossHome c = true) ∧
    (v.leadRows (postingOf c n sk jk l) = none) ∧
    (v.laneAny .decimal = true) :=
  ⟨wCmd (wCrossLedger) 0x0704 0 (wCrossBody), 9, wRef, wCmdRec 0x0704 0 (wCrossBody), wCrossBody, [], wFound wCrossLedger 0x0704 0 wCrossBody, 0, [(7, 1, [1], false)], (7, 1, [1], false), wLegs wLedger wCrossBody, by exact ⟨wAcc (by decide +kernel), by decide +kernel, by decide +kernel, by decide +kernel, by decide +kernel, by decide +kernel, by decide +kernel, wOkSome _ (by decide +kernel), by decide +kernel, by decide +kernel, wFour _ _ _ _ (by decide +kernel), by decide +kernel, by decide +kernel, by decide +kernel⟩⟩

theorem witness_LedgersOpenAndPostingsStartTheirDecimalJob_6 : ∃ (s : State) (t : Tick) (ref : RecRef) (r : Rec) (b i : Bytes) (v : State) (n : Nat) (sk : List LedgerKey) (jk : LedgerKey) (q : Int) (x1 y1 : Int × Int),
    let c := s.cmd t r b i
    let u := (s.begun t r b i).1
    let x := sub b 0x60 128
    let y := sub b 0xE0 128
    let p : Posting := { kind := 2, slot := n, ledger := fld b 0 2, tenant := r.tenant, id := sub b 0x20 16, horizon := fld b 0x10 8, valueDate := sub b 0x18 8, sealKeys := sk, journalKey := jk.2.2.1, rate := q, numer := fld b 4 2, basis := fld b 2 2, legs := [legOf (sub x 0 16) (fld x 0x12 2) false 0 x 0, legOf (sub y 0 16) (fld y 0x12 2) false 0 y 1] }
    let w := v.addMarks (.command r.ref) [.posting (fld b 0 2) p.id]
    (Accepted s t ref 0x0705 r b i) ∧
    (b.length = 352) ∧
    (fld b 2 2 = 360 ∨ fld b 2 2 = 365 ∨ fld b 2 2 = 366) ∧
    (fld b 4 2 ≤ 366) ∧
    (zeroAt b 6 2 = true) ∧
    (zeroAt b 0xC 4 = true) ∧
    (ld63 b 0x40 = some q) ∧
    (sealAmounts x = some x1) ∧
    (sealAmounts y = some y1) ∧
    (sub x 0 16 ≠ sub y 0 16) ∧
    (u.ledgerSlot (fld b 0 2) r.tenant = some n) ∧
    (u.rowThree = none) ∧
    (u.rowFour r.tenant (u.desc n) (fld b 8 4) 0x30 b = (v, .ok (sk, jk))) ∧
    (v.crossHome c = false) ∧
    (v.foreign (.command r.ref) (.posting (fld b 0 2) p.id) = none) ∧
    (v.filterHit n p.horizon p.id = none) ∧
    (w.sealRows p = none) ∧
    (w.legMark (.command r.ref) p = none) ∧
    (w.versionRows p = none) :=
  ⟨wCmd (wLedger) 0x0705 0 (wAccrueBody), 9, wRef, wCmdRec 0x0705 0 (wAccrueBody), wAccrueBody, [], wFound wLedger 0x0705 0 wAccrueBody, 0, [(7, 1, [1], false)], (7, 1, [1], false), 0, (0, 0), (0, 0), by exact ⟨wAcc (by decide +kernel), by decide +kernel, by decide +kernel, by decide +kernel, by decide +kernel, by decide +kernel, by decide +kernel, by decide +kernel, by decide +kernel, by decide +kernel, by decide +kernel, by decide +kernel, wFour _ _ _ _ (by decide +kernel), by decide +kernel, by decide +kernel, by decide +kernel, by decide +kernel, by decide +kernel, wNone _ (by decide +kernel)⟩⟩

theorem witness_LedgersAreFetchedBlockedCheckpointedAndRestored_1 : ∃ (s : State) (t : Tick) (ref : RecRef) (r : Rec) (b i : Bytes) (q : Nat) (x : StoredResponse),
    let c := s.cmd t r b i
    let u := (s.begun t r b i).1
    (Accepted s t ref 0x0706 r b i) ∧
    (b.length = 32) ∧
    (fld b 2 1 ≤ 1) ∧
    (zeroAt b 3 5 = true) ∧
    ((u.ledgerSlot (fld b 0 2) r.tenant).isNone = false) ∧
    ((if fld b 2 1 = 0 then q = fld b 8 8 else ∃ e, (u.board.filter.find? fun e => e.ledger == fld b 0 2 && e.id == sub b 0x10 16) = some e ∧ q = e.seq)) ∧
    ((u.board.responses.find? fun x => x.ledger == fld b 0 2 && x.seq == q) = some x) :=
  ⟨wCmd ({ wLedger with board := { wLedger.board with responses := [wStored] } }) 0x0706 0 (natLE 2 1 ++ zeros 6 ++ natLE 8 1 ++ zeros 16), 9, wRef, wCmdRec 0x0706 0 (natLE 2 1 ++ zeros 6 ++ natLE 8 1 ++ zeros 16), natLE 2 1 ++ zeros 6 ++ natLE 8 1 ++ zeros 16, [], 1, wStored, by exact ⟨wAcc (by decide +kernel), by decide +kernel, by decide +kernel, by decide +kernel, by decide +kernel, if_pos (by decide +kernel) |>.mpr rfl, by decide +kernel⟩⟩

theorem witness_LedgersAreFetchedBlockedCheckpointedAndRestored_2 : ∃ (s : State) (t : Tick) (ref : RecRef) (r : Rec) (b i : Bytes) (n : Nat) (k : JournalBlock) (g : Bytes) (x : State) (cs : List Change),
    let c := s.cmd t r b i
    let u := (s.begun t r b i).1
    (Accepted s t ref 0x0707 r b i) ∧
    (b.length = 16) ∧
    (fld b 2 1 ≤ 1) ∧
    (zeroAt b 3 5 = true) ∧
    (u.ledgerSlot (fld b 0 2) r.tenant = some n) ∧
    ((if fld b 2 1 = 0 then x = u ∧ cs = [] ∧ (u.board.blocks.find? fun k => k.ledger == fld b 0 2 && decide (k.first ≤ fld b 8 8) && decide (fld b 8 8 ≤ k.last)) = some k else cs = (if (u.head n).lastBlock + 1 < (u.head n).nextSeq then [Change.head n { u.head n with lastBlock := (u.head n).nextSeq - 1 }] else []) ∧ x = u.applyAll cs ∧ x.lastBlock (fld b 0 2) = some k)) ∧
    (k.signature = some g) :=
  ⟨wCmd ({ wLedger with board := { wLedger.board with blocks := [{ wOpenBlock with signature := some [1] }] } }) 0x0707 0 (natLE 2 1 ++ zeros 6 ++ natLE 8 1), 9, wRef, wCmdRec 0x0707 0 (natLE 2 1 ++ zeros 6 ++ natLE 8 1), natLE 2 1 ++ zeros 6 ++ natLE 8 1, [], 0, { wOpenBlock with signature := some [1] }, [1], _, [], by exact ⟨wAcc (by decide +kernel), by decide +kernel, by decide +kernel, by decide +kernel, by decide +kernel, by rw [if_pos (by decide +kernel)]; exact ⟨rfl, rfl, by decide +kernel⟩, rfl⟩⟩

theorem witness_LedgersAreFetchedBlockedCheckpointedAndRestored_3 : ∃ (s : State) (t : Tick) (ref : RecRef) (r : Rec) (b i : Bytes) (n i2 : Nat) (k : JournalBlock) (x v w : State) (cs : List Change) (m d : Bytes),
    let c := s.cmd t r b i
    let u := (s.begun t r b i).1
    (Accepted s t ref 0x0707 r b i) ∧
    (b.length = 16) ∧
    (fld b 2 1 ≤ 1) ∧
    (zeroAt b 3 5 = true) ∧
    (u.ledgerSlot (fld b 0 2) r.tenant = some n) ∧
    ((if fld b 2 1 = 0 then x = u ∧ cs = [] ∧ (u.board.blocks.find? fun k => k.ledger == fld b 0 2 && decide (k.first ≤ fld b 8 8) && decide (fld b 8 8 ≤ k.last)) = some k else cs = (if (u.head n).lastBlock + 1 < (u.head n).nextSeq then [Change.head n { u.head n with lastBlock := (u.head n).nextSeq - 1 }] else []) ∧ x = u.applyAll cs ∧ x.lastBlock (fld b 0 2) = some k)) ∧
    (k.signature = none) ∧
    (x.resolve (some r.tenant) (x.desc n).signHandle signNeed = (v, .ok i2)) ∧
    (v.material i2 = .ok m) ∧
    (v.laneAny .digest = true) ∧
    (v.random 56 = some (w, d)) ∧
    (spaceFail c 0 176 = none) :=
  ⟨wCmd ({ wLedger with board := { wLedger.board with blocks := [wOpenBlock] } }) 0x0707 0 (natLE 2 1 ++ zeros 6 ++ natLE 8 1), 9, wRef, wCmdRec 0x0707 0 (natLE 2 1 ++ zeros 6 ++ natLE 8 1), natLE 2 1 ++ zeros 6 ++ natLE 8 1, [], 0, 8, wOpenBlock, _, _, _, [], _, _, by exact ⟨wAcc (by decide +kernel), by decide +kernel, by decide +kernel, by decide +kernel, by decide +kernel, by rw [if_pos (by decide +kernel)]; exact ⟨rfl, rfl, by decide +kernel⟩, rfl, wRes _ _ (by decide +kernel), wOk _ (zeros 104) (by decide +kernel), by decide +kernel, wSome _ (by decide +kernel), by decide +kernel⟩⟩

theorem witness_LedgersAreFetchedBlockedCheckpointedAndRestored_4 : ∃ (s : State) (t : Tick) (ref : RecRef) (r : Rec) (b i : Bytes) (n : Nat),
    let u := (s.begun t r b i).1
    (Accepted s t ref 0x0708 r b i) ∧
    (b.length = 8) ∧
    (fld b 2 1 = 0) ∧
    (zeroAt b 3 1 = true) ∧
    (zeroAt b 6 2 = true) ∧
    (u.ledgerSlot (fld b 0 2) r.tenant = some n) ∧
    ((u.epochEntry n).epoch ≠ 0xFFFF) ∧
    ((u.keyRec r.tenant).present = true) ∧
    (u.board.copying.contains (u.head n).ledger = false) :=
  ⟨wCmd (wLedger) 0x0708 0 (natLE 8 1), 9, wRef, wCmdRec 0x0708 0 (natLE 8 1), natLE 8 1, [], 0, by exact ⟨wAcc (by decide +kernel), by decide +kernel⟩⟩

theorem witness_LedgersAreFetchedBlockedCheckpointedAndRestored_5 : ∃ (s : State) (t : Tick) (ref : RecRef) (r : Rec) (b i : Bytes) (n : Nat) (v : State) (jk : List LedgerKey),
    let u := (s.begun t r b i).1
    let h := u.ahead.head n
    let e := (u.ahead.epochEntry n).epoch + 1
    let x := (v.nextEntry n (jk.headD (0, 0, [], false)).2.2.1 5 0 (zeros 16) (natLE 2 e ++ zeros 6) []).2.2
    (Accepted s t ref 0x0708 r b i) ∧
    (b.length = 8) ∧
    (fld b 2 1 = 1) ∧
    (zeroAt b 3 1 = true) ∧
    (zeroAt b 6 2 = true) ∧
    (u.ledgerSlot (fld b 0 2) r.tenant = some n) ∧
    (h.checkpointPending = true) ∧
    (h.pendingEpoch = e) ∧
    (fld b 4 2 = e) ∧
    (u.ledgerKeys r.tenant (u.desc n).journalHandle 13 = (v, .ok jk)) :=
  ⟨wCmd (wPendingLedger) 0x0708 0 (natLE 2 1 ++ [1, 0] ++ natLE 4 1), 9, wRef, wCmdRec 0x0708 0 (natLE 2 1 ++ [1, 0] ++ natLE 4 1), natLE 2 1 ++ [1, 0] ++ natLE 4 1, [], 0, _, [(7, 1, [1], false)], by exact ⟨wAcc (by decide +kernel), by decide +kernel, by decide +kernel, by decide +kernel, by decide +kernel, by decide +kernel, by decide +kernel, by decide +kernel, by decide +kernel, wOkPair _ _ (by decide +kernel)⟩⟩

theorem witness_LedgersAreFetchedBlockedCheckpointedAndRestored_6 : ∃ (s : State) (t : Tick) (ref : RecRef) (r : Rec) (b i : Bytes) (v : State) (p : Bytes),
    let u := (s.begun t r b i).1
    let held := u.vault.epochs.find? fun p => p.2.ledger == fld i 0x10 2
    (Accepted s t ref 0x0709 r b i) ∧
    (b = []) ∧
    (boardHeadOk i r.tenant = true) ∧
    ((u.keyRec r.tenant).present = true) ∧
    ((u.keyRec r.tenant).generation = fld i 0x14 2) ∧
    ((held.any fun p => p.2.epoch != fld i 0x12 2 || p.2.tenant != r.tenant) = false) ∧
    ((if (fld i 8 8 = u.otp.serial ∨ (fld i 8 8 ≠ 0 ∧ fld i 8 8 = u.twinSerial)) ∧ ¬held.isNone = true then v = u else u.quorumUse r.tenant purposeRestore = (v, none))) ∧
    (gcmOpen (boardKey (u.keyRec r.tenant).material r.tenant (fld i 0x10 2) (fld i 0x12 2)) (boardIv (fld i 0x10 2) (fld i 0x12 2)) (sub i 0 0x20) ((i.drop 0x20).take (i.length - 0x30)) (i.drop (i.length - 16)) = some p) ∧
    (v.boardFree (fld i 0x10 2) (fld i 0x16 2) (imageContexts p (fld i 0x18 4)) = true) :=
  ⟨{ wEmptyBoard with waiting := [wInputRec 0x0709 0 [] (wBoardHead ++ wBoardTail)] }, 9, wRef, wInputRec 0x0709 0 [] (wBoardHead ++ wBoardTail), [], wBoardHead ++ wBoardTail, _, wBoardPlain, by exact ⟨wAcc (by decide +kernel), by decide +kernel, by decide +kernel, by decide +kernel, by decide +kernel, by decide +kernel, rfl, wBoardPlain_eq, by decide +kernel⟩⟩

theorem witness_LedgersAreFetchedBlockedCheckpointedAndRestored_7 : ∃ (s : State) (t : Tick) (ref : RecRef) (r : Rec) (b i : Bytes) (n : Nat) (v : State) (jk : List LedgerKey) (es : List Entry),
    let u := (s.begun t r b i).1
    (Accepted s t ref 0x070A r b i) ∧
    (b.length = 24) ∧
    (zeroAt b 2 6 = true) ∧
    (1 ≤ fld b 0x10 4) ∧
    (fld b 0x10 4 ≤ 64) ∧
    (zeroAt b 0x14 4 = true) ∧
    (u.ledgerSlot (fld b 0 2) r.tenant = some n) ∧
    (u.ledgerKeys r.tenant (u.desc n).journalHandle 13 = (v, .ok jk)) ∧
    (parseEntriesJ (fld b 0 2) (fld b 0x10 4) 0 i = .ok es) ∧
    (chainFault (jk.headD (0, 0, [], false)).2.2.1 (if fld b 8 8 = v.otp.serial then some ((v.head n).nextSeq, (v.head n).chain) else none) 0 es = none) :=
  ⟨{ { wLedger with mode := .muster } with waiting := [wInputRec 0x070A 0 (natLE 8 1 ++ natLE 8 0 ++ natLE 8 1) wEntry] }, 9, wRef, wInputRec 0x070A 0 (natLE 8 1 ++ natLE 8 0 ++ natLE 8 1) wEntry, natLE 8 1 ++ natLE 8 0 ++ natLE 8 1, wEntry, 0, _, [(7, 1, [1], false)], wEntries, by exact ⟨wAcc (by decide +kernel), by decide +kernel, by decide +kernel, by decide +kernel, by decide +kernel, by decide +kernel, by decide +kernel, wOkPair _ _ (by decide +kernel), wOkSome _ (by decide +kernel), by decide +kernel⟩⟩

theorem witness_LedgersAreFetchedBlockedCheckpointedAndRestored_8 : ∃ (s : State) (t : Tick) (ref : RecRef) (r : Rec) (b i : Bytes) (v : State) (h k : Nat) (z : Int),
    let u := (s.begun t r b i).1
    let d := sub b 0x40 (beNat (sub b 0x0E 2))
    let e := sub b 0x10 8 ++ sub b 0x20 16
    let x := v.slot k
    let m := (macOf 0x11 x.material e).take 8
    (Accepted s t ref 0x10030 r b i) ∧
    (beNat (sub b 0x0E 2) ≤ 176) ∧
    (u.kh1Handle r.tenant (beNat (sub b 8 2)) = some h) ∧
    (packedVal (sub b 0x10 8) = some z) ∧
    (u.resolve (some r.tenant) h { fits := isTdea, use := fun _ => useBit 2, units := some (units (ceilDiv e.length 8)) } = (v, .ok k)) ∧
    (lenCheck e.length 8 (2 ^ 23) 8 = none) ∧
    (isTdea x = true → tdeaDistinct x.material = true) :=
  ⟨{ wKh1Key { type := 4, keyBits := 192, usage := useBit 2, material := wTdea } with waiting := [wKh1Rec (wKh1Bal 0x0030)] }, 9, wKh1Ref, wKh1Rec (wKh1Bal 0x0030), wKh1Bal 0x0030, [], _, wHandle, 7, 0, by exact ⟨wAcc (by decide +kernel), by decide +kernel, by decide +kernel, by decide +kernel, wRes _ _ (by decide +kernel), by decide +kernel, by decide +kernel⟩⟩

theorem witness_LedgersAreFetchedBlockedCheckpointedAndRestored_9 : ∃ (s : State) (t : Tick) (ref : RecRef) (r : Rec) (b i : Bytes) (v : State) (h k : Nat) (z : Int),
    let u := (s.begun t r b i).1
    let d := sub b 0x40 (beNat (sub b 0x0E 2))
    let e := sub b 0x10 8 ++ sub b 0x20 16
    let x := v.slot k
    let m := (macOf 0x11 x.material e).take 8
    (Accepted s t ref 0x10031 r b i) ∧
    (beNat (sub b 0x0E 2) ≤ 176) ∧
    (u.kh1Handle r.tenant (beNat (sub b 8 2)) = some h) ∧
    (8 ≤ d.length) ∧
    (packedVal (sub b 0x10 8) = some z) ∧
    (u.resolve (some r.tenant) h { fits := isTdea, use := fun _ => useBit 3, units := some (units (ceilDiv e.length 8)) } = (v, .ok k)) ∧
    (lenCheck e.length 8 (2 ^ 23) 8 = none) ∧
    (isTdea x = true → tdeaDistinct x.material = true) :=
  ⟨{ wKh1Key { type := 4, keyBits := 192, usage := useBit 3, material := wTdea } with waiting := [wKh1Rec (wKh1Bal 0x0031)] }, 9, wKh1Ref, wKh1Rec (wKh1Bal 0x0031), wKh1Bal 0x0031, [], _, wHandle, 7, 0, by exact ⟨wAcc (by decide +kernel), by decide +kernel, by decide +kernel, by decide +kernel, by decide +kernel, wRes _ _ (by decide +kernel), by decide +kernel, by decide +kernel⟩⟩

end Sys2Proof.Tests
end

