-- ==== Sys2Proof/Tests/Slice0Link.lean ====
section
/-! SUPPORT. Witnesses: states and operands that meet the hypotheses of the statements on the Ndourbo link. -/

set_option autoImplicit false
set_option maxRecDepth 4000
set_option linter.unusedVariables false

namespace Sys2Proof.Tests

set_option Elab.async false

open Sys2Proof Sys2Proof.Machine

theorem witness_LinkPortsTrainAndRetrain_1 : ∃ (s : State) (t : Tick) (n : Nat),
    let u := s.at t
    let p := u.port n
    (n ≤ 3) ∧
    (u.linkRuns = true) ∧
    (p.enable = false) ∧
    (u.tmp.severed = false) ∧
    (u.portWanted n = true) ∧
    (u.portPowered n = true) :=
  ⟨wPort {}, 9, 1, by decide +kernel⟩

theorem witness_LinkPortsTrainAndRetrain_2 : ∃ (s : State) (t : Tick) (n : Nat),
    let u := s.at t
    let p := u.port n
    (n ≤ 3) ∧
    (u.linkRuns = true) :=
  ⟨wPort {}, 9, 1, by decide +kernel⟩

theorem witness_LinkPortsTrainAndRetrain_3 : ∃ (s : State) (t : Tick) (n : Nat),
    let u := s.at t
    let p := u.port n
    (n ≤ 3) ∧
    (u.linkRuns = true) ∧
    (p.st = .active) :=
  ⟨wPort { st := .active }, 9, 1, by decide +kernel⟩

theorem witness_LinkPortsTrainAndRetrain_4 : ∃ (s : State) (t : Tick) (n : Nat),
    let u := s.at t
    let p := u.port n
    (n ≤ 3) ∧
    (u.linkRuns = true) ∧
    (p.st ≠ .down) :=
  ⟨wPort { st := .active }, 9, 1, by decide +kernel⟩

theorem witness_LinkPortsTrainAndRetrain_5 : ∃ (s : State) (t : Tick) (n : Nat),
    let u := s.at t
    let p := u.port n
    (n ≤ 3) ∧
    (p.st = .down) ∧
    (u.linkRuns = true) ∧
    (u.portPowered n = true) ∧
    (p.detect ≤ u.tick) :=
  ⟨wPort { st := .down }, 9, 1, by decide +kernel⟩

theorem witness_LinkPortsTrainAndRetrain_6 : ∃ (s : State) (t : Tick) (n : Nat),
    let u := s.at t
    let p := u.port n
    (n ≤ 3) ∧
    (p.st = .down) ∧
    (u.linkRuns = true) ∧
    (u.portPowered n = true) ∧
    (p.detect ≤ u.tick) :=
  ⟨wPort { st := .down }, 9, 1, by decide +kernel⟩

theorem witness_LinkPortsTrainAndRetrain_7 : ∃ (s : State) (t : Tick) (n : Nat),
    let u := s.at t
    let p := u.port n
    (n ≤ 3) ∧
    (p.st = .down) ∧
    (p.detect ≤ u.tick) :=
  ⟨wPort { st := .down }, 9, 1, by decide +kernel⟩

theorem witness_LinkPortsTrainAndRetrain_8 : ∃ (s : State) (t : Tick) (n : Nat) (l : Nat) (x : BitVec 80),
    let u := s.at t
    let p := u.port n
    (n ≤ 3) ∧
    (l ≤ 3) ∧
    (p.st = .training) ∧
    ((p.judge l x).2 = true) ∧
    (stepCount p.step > mapGet 0 (p.judge l x).1.seen l + 1) :=
  ⟨wPort { st := .training, step := 2 }, 9, 1, 0, 0xAAAAAAAAAAAA0000C3A5, by decide +kernel⟩

theorem witness_LinkPortsTrainAndRetrain_9 : ∃ (s : State) (t : Tick) (n : Nat),
    let u := s.at t
    let p := u.port n
    (n ≤ 3) ∧
    (p.st = .training) ∧
    (p.stepTick + stepWindow p.step ≤ u.tick) :=
  ⟨wPort { st := .training, step := 2 }, 100, 1, by decide +kernel⟩

theorem witness_LinkPortsTrainAndRetrain_10 : ∃ (s : State) (t : Tick) (n : Nat) (l : Nat),
    let u := s.at t
    let p := u.port n
    (n ≤ 3) ∧
    (l ≤ 3) ∧
    (p.st = .training) :=
  ⟨wPort { st := .training, step := 2 }, 100, 1, 3, by decide +kernel⟩

theorem witness_LinkPortsTrainAndRetrain_11 : ∃ (s : State) (t : Tick) (n : Nat) (l : Nat),
    let u := s.at t
    let p := u.port n
    (n ≤ 3) ∧
    (l ≤ 3) ∧
    (p.st = .active) :=
  ⟨wPort { st := .active }, 100, 1, 3, by decide +kernel⟩

theorem witness_LinkPortsTrainAndRetrain_12 : ∃ (s : State) (t : Tick) (n : Nat),
    let u := s.at t
    let p := u.port n
    (n ≤ 3) ∧
    (p.st = .retrain) ∧
    (p.stepTick + 200 ≤ u.tick) ∧
    (2 ≤ p.retrains) :=
  ⟨wPort { st := .retrain, retrains := 2 }, 200, 1, by decide +kernel⟩

theorem witness_LinkPortsTrainAndRetrain_13 : ∃ (s : State) (t : Tick) (n : Nat),
    let u := s.at t
    let p := u.port n
    (n ≤ 3) ∧
    (p.st = .retrain) ∧
    (p.stepTick + 200 ≤ u.tick) ∧
    (p.retrains < 2) :=
  ⟨wPort { st := .retrain }, 200, 1, by decide +kernel⟩

theorem witness_LinkFlitsConvoysAndMessagesAreTaken_1 : ∃ (s : State) (t : Tick) (n : Nat) (f : BitVec 320),
    let u := s.at t
    let p := u.port n
    (n ≤ 3) ∧
    (p.session = true) ∧
    (p.st ≠ .retrain) ∧
    (flitGood (flitBytes f) = false) :=
  ⟨wPort { st := .active }, 9, 1, 1, by decide +kernel⟩

theorem witness_LinkFlitsConvoysAndMessagesAreTaken_2 : ∃ (s : State) (t : Tick) (n : Nat) (f : BitVec 320),
    let u := s.at t
    let p := u.port n
    (n ≤ 3) ∧
    (p.session = true) ∧
    (p.st ≠ .retrain) ∧
    (flitGood (flitBytes f) = true) ∧
    (fld (flitBytes f) 0 1 / 32 = 0) :=
  ⟨wPort { st := .active }, 9, 1, wIdle, by decide +kernel⟩

theorem witness_LinkFlitsConvoysAndMessagesAreTaken_3 : ∃ (s : State) (t : Tick) (n : Nat) (f : BitVec 320),
    let u := s.at t
    let p := u.port n
    (n ≤ 3) ∧
    (p.session = true) ∧
    (p.st ≠ .retrain) ∧
    (flitGood (flitBytes f) = true) ∧
    (2 ≤ fld (flitBytes f) 0 1 / 32) :=
  ⟨wPort { st := .active }, 9, 1, BitVec.ofNat 320 (leNat ([0x40] ++ zeros 35 ++ natLE 4 (crc32c ([0x40] ++ zeros 35)).toNat)), by decide +kernel⟩

theorem witness_LinkFlitsConvoysAndMessagesAreTaken_4 : ∃ (s : State) (t : Tick) (n : Nat) (f : BitVec 320),
    let u := s.at t
    let p := u.port n
    (n ≤ 3) ∧
    (p.session = true) ∧
    (p.st ≠ .retrain) ∧
    (flitGood (flitBytes f) = true) ∧
    (fld (flitBytes f) 0 1 / 32 = 1) :=
  ⟨wPort { st := .active }, 9, 1, wNak, by decide +kernel⟩

theorem witness_LinkFlitsConvoysAndMessagesAreTaken_5 : ∃ (s : State) (t : Tick) (n : Nat),
    let u := s.at t
    let p := u.port n
    (n ≤ 3) ∧
    (p.session = true) ∧
    (p.st ≠ .retrain) ∧
    (p.replay ≠ []) ∧
    (p.replays < 4) :=
  ⟨wPort { st := .active, replay := [(2, [1])] }, 9, 1, by decide +kernel⟩

theorem witness_LinkFlitsConvoysAndMessagesAreTaken_6 : ∃ (s : State) (t : Tick) (n : Nat),
    let u := s.at t
    let p := u.port n
    (n ≤ 3) ∧
    (p.st = .active) ∧
    (p.replay ≠ []) ∧
    (4 ≤ p.replays) :=
  ⟨wPort { st := .active, replay := [(2, [1])], replays := 4 }, 9, 1, by decide +kernel⟩

theorem witness_LinkFlitsConvoysAndMessagesAreTaken_7 : ∃ (s : State) (t : Tick) (n : Nat) (x : Bytes × Bytes × Bytes × Tick) (l : List (Bytes × Bytes × Bytes × Tick)),
    let u := s.at t
    let p := u.port n
    (n ≤ 3) ∧
    (p.closed = x :: l) ∧
    (u.convoyOpen n x.1 x.2.1 x.2.2.1 = none) :=
  ⟨wPort { st := .active, closed := [([], [], [], 5)] }, 9, 1, ([], [], [], 5), [], by decide +kernel⟩

theorem witness_LinkFlitsConvoysAndMessagesAreTaken_8 : ∃ (s : State) (t : Tick) (n : Nat) (x : Bytes × Bytes × Bytes × Tick) (l : List (Bytes × Bytes × Bytes × Tick)) (ms : List Bytes) (pair : Option (Nat × Nat)),
    let u := s.at t
    let p := u.port n
    (n ≤ 3) ∧
    (p.closed = x :: l) ∧
    (u.convoyOpen n x.1 x.2.1 x.2.2.1 = some (ms, pair)) :=
  ⟨wPort { st := .keying, closed := [(openerBytes 0 0xFFFF 0 2 1, [1, 0] ++ zeros 10 ++ [64, 0] ++ zeros 50, zeros 32, 5)] }, 9, 1, (openerBytes 0 0xFFFF 0 2 1, [1, 0] ++ zeros 10 ++ [64, 0] ++ zeros 50, zeros 32, 5), [], [[1, 0] ++ zeros 10 ++ [64, 0] ++ zeros 50], none, by decide +kernel⟩

theorem witness_LinkFlitsConvoysAndMessagesAreTaken_9 : ∃ (s : State) (t : Tick) (n : Nat) (o : Bytes),
    let u := s.at t
    let p := u.port n
    (n ≤ 3) ∧
    (p.st = .keying) ∧
    (p.peerOffer = []) :=
  ⟨wPort { st := .keying }, 9, 1, [], by decide +kernel⟩

theorem witness_LinkFlitsConvoysAndMessagesAreTaken_10 : ∃ (s : State) (t : Tick) (n : Nat) (b : Bytes),
    let u := s.at t
    let p := u.port n
    (n ≤ 3) ∧
    (p.st = .keying) ∧
    (p.secret ≠ []) ∧
    (b = u.confirmBody n (u.expectedPeer n)) :=
  ⟨wPort { st := .keying, secret := [1] }, 9, 1, ((wPort { st := .keying, secret := [1] }).at 9).confirmBody 1 (((wPort { st := .keying, secret := [1] }).at 9).expectedPeer 1), by refine ⟨?_, ?_, ?_, rfl⟩ <;> decide +kernel⟩

theorem witness_LinkFlitsConvoysAndMessagesAreTaken_11 : ∃ (s : State) (t : Tick) (n : Nat) (b : Bytes),
    let u := s.at t
    let p := u.port n
    (n ≤ 3) ∧
    (p.st = .keying) ∧
    (p.secret ≠ []) ∧
    (b ≠ u.confirmBody n (u.expectedPeer n)) :=
  ⟨wPort { st := .keying, secret := [1] }, 9, 1, [], by refine ⟨?_, ?_, ?_, ?_⟩ <;> decide +kernel⟩

theorem witness_LinkFlitsConvoysAndMessagesAreTaken_12 : ∃ (s : State) (t : Tick) (n : Nat) (b : Bytes),
    let u := s.at t
    let hop := fld b 3 1 + 1
    let e := fld b 6 2 / 4 ^ hop % 4
    let m := sealMessage (b.take 3 ++ natLE 1 hop ++ sub b 4 (28 + fld b 0x0E 2))
    let v : State := { u with ndl := { u.ndl with inbox := u.ndl.inbox.filter fun x => !(x.1 == n && x.2.2 == b) } }
    (n ≤ 3) ∧
    (u.linkRuns = true) ∧
    (n ≠ 0) ∧
    (msgDest b ≠ u.man.set.self) ∧
    (messageGranule b = none) ∧
    (1 ≤ e) ∧
    (hop < fld b 8 1) ∧
    ((u.port e).st = .active) :=
  ⟨{ wPort { st := .active } with ndl := { port := [(1, { st := .active }), (2, { st := .active })] } }, 9, 1, sealMessage ([0, 1, 0, 0, 5, 0, 8, 0, 2, 0] ++ zeros 22), by decide +kernel⟩

end Sys2Proof.Tests
end

