-- ==== Sys2Proof/Tests/Slice0Machine.lean ====
section
/-! SUPPORT. Witnesses: states and operands that meet the hypotheses of the statements on the whole machine. -/

set_option autoImplicit false
set_option maxRecDepth 4000
set_option linter.unusedVariables false

namespace Sys2Proof.Tests

set_option Elab.async false

open Sys2Proof Sys2Proof.Machine

/-- A sealed SESSION_CLOSE in a session that does not exist. -/
def wSealedRec : Machine.Rec :=
  { wCmdRec 0x0102 0 [] with
    raw := natLE 2 0x0102 ++ [1, 1] ++ natLE 4 68 ++ natLE 4 0 ++ natLE 4 100 ++ natLE 6 1 ++ natLE 2 1 ++ zeros 40 }

theorem witness_AStepRunsTheFrontCommand_2 : ∃ (s : State),
    (s.pending = []) :=
  ⟨State.reset, by decide +kernel⟩

theorem witness_NoCommandTouchesTheQueue_1 : ∃ (i : Instr) (s t : State),
    (exec i s = .next t) :=
  ⟨.powerOnReset 0, State.reset, _, by exact rfl⟩

theorem witness_AQueueOfNamedUnitsNeverStops_1 : ∃ (s : State),
    (s.QueueOk) :=
  ⟨{ State.reset with pending := [.powerOnReset 0, .otpDecode 1 []] }, by (intro c h; simp only [List.mem_cons, List.not_mem_nil, or_false] at h; rcases h with rfl | rfl <;> rfl)⟩

theorem witness_RecordsWaitWhileNoneMayStart_1 : ∃ (n : Nat) (row : Tick → RecRef → Instr) (s : State) (t : Tick) (ref : RecRef),
    let u := s.at t
    ((n, row) ∈ commandRows) ∧
    (ref.ok = true) ∧
    (u.mode = .dormant ∨ u.mode = .boot ∨ u.mode = .drowse ∨ u.mode = .felled ∨ u.barrier.isSome = true ∨ u.barrierQ.isEmpty = false ∨ u.tmp.severed = true ∨ (u.waiting.find? fun x => x.ref == ref) = none) :=
  ⟨0x0601, .getRandom, State.reset, 9, wRef, by exact ⟨by simp [commandRows, commandRows3], by decide, .inr (.inl rfl)⟩⟩

theorem witness_AStartingRecordIsCheckedInOrder_1 : ∃ (s : State) (t : Tick) (ref : RecRef) (r : Rec) (n : Nat) (row : Tick → RecRef → Instr) (o : Outcome),
    let u := s.at t
    ((n, row) ∈ commandRows) ∧
    (ref.ok = true) ∧
    ((u.waiting.find? fun x => x.ref == ref) = some r) ∧
    (r.op = n) ∧
    (u.startable r = true) ∧
    (u.outcome r.tenant r.seq = some o) ∧
    (o.notRun = false) ∧
    (o.running = false) :=
  ⟨{ wCmd wHealthy 0x0601 0 (zeros 8) with outcomes := [{ tenant := 0, seq := 1, status := .ok }] }, 9, wRef, wCmdRec 0x0601 0 (zeros 8), 0x0601, .getRandom, { tenant := 0, seq := 1, status := .ok }, by exact ⟨by simp [commandRows, commandRows3], by decide, by decide +kernel, by decide +kernel, by decide +kernel, by decide +kernel, rfl, rfl⟩⟩

theorem witness_AStartingRecordIsCheckedInOrder_2 : ∃ (s : State) (t : Tick) (ref : RecRef) (r : Rec) (n : Nat) (row : Tick → RecRef → Instr),
    let u := s.at t
    ((n, row) ∈ commandRows) ∧
    (ref.ok = true) ∧
    ((u.waiting.find? fun x => x.ref == ref) = some r) ∧
    (r.op = n) ∧
    (u.startable r = true) ∧
    ((∀ o, u.outcome r.tenant r.seq = some o → o.notRun = true ∨ o.running = true)) ∧
    (u.inFlightElse r = true) :=
  ⟨{ wCmd wHealthy 0x0601 0 (zeros 8) with waiting := [wCmdRec 0x0601 0 (zeros 8), { wCmdRec 0x0601 0 (zeros 8) with ref := wKh1Ref }] }, 9, wRef, wCmdRec 0x0601 0 (zeros 8), 0x0601, .getRandom, by exact ⟨by simp [commandRows, commandRows3], by decide, by decide +kernel, by decide +kernel, by decide +kernel, by decide +kernel, by decide +kernel⟩⟩

theorem witness_AStartingRecordIsCheckedInOrder_3 : ∃ (s : State) (t : Tick) (ref : RecRef) (r : Rec) (n : Nat) (row : Tick → RecRef → Instr),
    let u := s.at t
    ((n, row) ∈ commandRows) ∧
    (ref.ok = true) ∧
    ((u.waiting.find? fun x => x.ref == ref) = some r) ∧
    (r.op = n) ∧
    (u.startable r = true) ∧
    (u.outcome r.tenant r.seq = none) ∧
    (u.inFlightElse r = false) ∧
    (r.seq < 2 ^ 47) ∧
    (r.seq ≤ u.floor r.tenant) :=
  ⟨{ wCmd wHealthy 0x0601 0 (zeros 8) with floors := [(0, 5)] }, 9, wRef, wCmdRec 0x0601 0 (zeros 8), 0x0601, .getRandom, by exact ⟨by simp [commandRows, commandRows3], by decide, by decide +kernel, by decide +kernel, by decide +kernel, by decide +kernel, by decide +kernel, by decide +kernel, by decide +kernel⟩⟩

theorem witness_AStartingRecordIsCheckedInOrder_4 : ∃ (s : State) (t : Tick) (ref : RecRef) (r : Rec) (n : Nat) (row : Tick → RecRef → Instr),
    let u := s.at t
    ((n, row) ∈ commandRows) ∧
    (ref.ok = true) ∧
    ((u.waiting.find? fun x => x.ref == ref) = some r) ∧
    (r.op = n) ∧
    (u.startable r = true) ∧
    ((∀ o, u.outcome r.tenant r.seq = some o → o.notRun = true ∨ o.running = true)) ∧
    (u.inFlightElse r = false) ∧
    (u.outcome r.tenant r.seq = none → ¬(r.seq < 2 ^ 47 ∧ r.seq ≤ u.floor r.tenant)) ∧
    (u.pastDeadline r = true) :=
  ⟨{ wHealthy with waiting := [{ wCmdRec 0x0601 0 (zeros 8) with raw := wRaw 0x0601 1 1 (zeros 8) }] }, 9, wRef, { wCmdRec 0x0601 0 (zeros 8) with raw := wRaw 0x0601 1 1 (zeros 8) }, 0x0601, .getRandom, by exact ⟨by simp [commandRows, commandRows3], by decide, by decide +kernel, by decide +kernel, by decide +kernel, by decide +kernel, by decide +kernel, by decide +kernel, by decide +kernel⟩⟩

theorem witness_AStartingRecordIsCheckedInOrder_5 : ∃ (s : State) (t : Tick) (ref : RecRef) (r : Rec) (n : Nat) (row : Tick → RecRef → Instr),
    let u := s.at t
    let x := u.start r
    let v := x.1.finish x.2 (fail .headerInvalid)
    ((n, row) ∈ commandRows) ∧
    (ref.ok = true) ∧
    ((u.waiting.find? fun x => x.ref == ref) = some r) ∧
    (r.op = n) ∧
    (u.startable r = true) ∧
    (u.preStart r = .go) ∧
    (headerOk r = false) :=
  ⟨{ wHealthy with waiting := [{ wCmdRec 0x0601 0 (zeros 8) with raw := natLE 2 0x0601 ++ zeros 70 }] }, 9, wRef, { wCmdRec 0x0601 0 (zeros 8) with raw := natLE 2 0x0601 ++ zeros 70 }, 0x0601, .getRandom, by exact ⟨by simp [commandRows, commandRows3], by decide, by decide +kernel, by decide +kernel, by decide +kernel, by decide +kernel, by decide +kernel⟩⟩

theorem witness_AStartingRecordIsCheckedInOrder_6 : ∃ (s : State) (t : Tick) (ref : RecRef) (r : Rec) (n : Nat) (row : Tick → RecRef → Instr) (st : Status),
    let u := s.at t
    let x := u.start r
    let v := x.1.finish x.2 (fail st)
    ((n, row) ∈ commandRows) ∧
    (ref.ok = true) ∧
    ((u.waiting.find? fun x => x.ref == ref) = some r) ∧
    (r.op = n) ∧
    (u.startable r = true) ∧
    (u.preStart r = .go) ∧
    (headerOk r = true) ∧
    (x.1.rowsFail r.op r.tenant = some st) :=
  ⟨{ wHealthy with waiting := [wCmdRec 0x0106 1 []] }, 9, wRef, wCmdRec 0x0106 1 [], 0x0106, .musterComplete, .issuerDenied, by exact ⟨by simp [commandRows, commandRows1], by decide, by decide +kernel, by decide +kernel, by decide +kernel, by decide +kernel, by decide +kernel, by decide +kernel⟩⟩

theorem witness_AStartingRecordIsCheckedInOrder_7 : ∃ (s : State) (t : Tick) (ref : RecRef) (r : Rec) (n : Nat) (row : Tick → RecRef → Instr) (st : Status),
    let u := s.at t
    let x := u.start r
    let v := x.1.finish x.2 (fail st)
    ((n, row) ∈ commandRows) ∧
    (ref.ok = true) ∧
    ((u.waiting.find? fun x => x.ref == ref) = some r) ∧
    (r.op = n) ∧
    (u.startable r = true) ∧
    (u.preStart r = .go) ∧
    (headerOk r = true) ∧
    (x.1.rowsFail r.op r.tenant = none) ∧
    (x.1.opened r = .error st) :=
  ⟨{ wHealthy with waiting := [wSealedRec] }, 9, wRef, wSealedRec, 0x0102, .sessionClose, .sessionUnknown, by exact ⟨by simp [commandRows, commandRows1], by decide, by decide +kernel, by decide +kernel, by decide +kernel, by decide +kernel, by decide +kernel, by decide +kernel, by decide +kernel⟩⟩

theorem witness_MemoryReadsBackWhatWasStored_1 : ∃ (m : List Host.Cell) (a x : Nat) (l : Bytes),
    (Memory.wf m = true) :=
  ⟨[(3, 7)], 2, 3, [0, 9], by decide⟩

theorem witness_EveryDomainStartsOnAndBootChangesNone_1 : ∃ (s : State) (t : Tick) (d k : Nat),
    let u := s.at t
    (u.mode ≠ .dormant ∨ u.sysReset = false) :=
  ⟨State.reset, 9, 0, 0, by decide⟩

theorem witness_EveryDomainStartsOnAndBootChangesNone_2 : ∃ (s : State) (t : Tick) (ns d k : Nat),
    let u := s.at t
    (10000 ≤ ns) ∧
    (u.mode ≠ .dormant) ∧
    (u.otpBusy = false) :=
  ⟨State.reset, 9, 10000, 0, 0, by decide⟩

theorem witness_EveryDomainStartsOnAndBootChangesNone_3 : ∃ (s : State) (t : Tick) (bad : List Nat) (kat : Bool) (failed : List (Nat × Bool)) (h data : Bytes) (size : Nat) (fw : List Bytes) (i : Instr),
    let u := s.at t
    (i ∈ [.otpDecode t bad, .tallyCatchUp t, .entropyStartUp t kat failed, .manifestHeaderRead t h size, .flashIdentificationTimeout t, .settingsSectionRead t data, .firmwareSectionsRead t fw]) ∧
    (u.mode = .boot) :=
  ⟨State.reset, 9, [], true, [], [], [], 0, [], .tallyCatchUp 9, by exact ⟨by simp, rfl⟩⟩

theorem witness_TheManifestFloorRises_1 : ∃ (s : State) (t : Tick) (data : List Bytes),
    let u := s.at t
    (u.inStage 7 = true) ∧
    (((firmware u.man.header data).all fun p => sha384 p.2 == p.1.2.2.2 && p.2.length == p.1.2.2.1) = true) ∧
    (u.tmp.severed = false) ∧
    (u.vault.floor < fld u.man.header 8 4) :=
  ⟨{ wBoot 7 with man := { header := zeros 8 ++ [1] } }, 9, [], by decide +kernel⟩

theorem witness_TheManifestFloorRises_2 : ∃ (s : State) (t : Tick) (data : List Bytes),
    let u := s.at t
    (u.inStage 7 = true) ∧
    (((firmware u.man.header data).all fun p => sha384 p.2 == p.1.2.2.2 && p.2.length == p.1.2.2.1) = true) ∧
    (u.tmp.severed = false) ∧
    (fld u.man.header 8 4 ≤ u.vault.floor) :=
  ⟨wBoot 7, 9, [], by decide +kernel⟩

theorem witness_WrittenDecimalFieldsKeepTheirSign_1 : ∃ (v : Int),
    (v.natAbs < 10 ^ 63) :=
  ⟨-25000, by decide +kernel⟩

end Sys2Proof.Tests
end

