-- ==== Sys2Proof/Tests/Slice0Pins.lean ====
section
/-! SUPPORT. Witnesses: states and operands that meet the hypotheses of the statements on PIN and card check commands. -/

set_option autoImplicit false
set_option maxRecDepth 4000
set_option linter.unusedVariables false

namespace Sys2Proof.Tests

set_option Elab.async false

open Sys2Proof Sys2Proof.Machine

theorem witness_PinAndCardCheckCommandsRunOnALane_1 : ∃ (s : State) (t : Tick) (ref : RecRef) (r : Rec) (b i : Bytes) (v w z : State) (i1 j : Nat) (pan : List Nat) (fill : Bytes),
    let u := (s.begun t r b i).1
    let x := w.slot i1
    let y := w.slot j
    let res : Result := (match readPin (fld b 8 1) (openPin (fld b 8 1) x.material pan (sub b 0x20 16)) with | .error d => failD .pinFormat d | .ok pin => if (fld b 9 1) = 1 ∧ (fld b 8 1) ≠ 1 then failD .pinFormat 5 else { body := padTo 16 (makePin (fld b 9 1) y.material pan pin fill) })
    (Accepted s t ref 0x0B01 r b i) ∧
    (b.length = 0x30) ∧
    (pinFormat (fld b 8 1) = true) ∧
    (pinFormat (fld b 9 1) = true) ∧
    (zeroAt b 0xB 5 = true) ∧
    (zeroAt b 0x1A 6 = true) ∧
    (fld b 8 1 ≠ 4 → zeroAt b 0x28 8 = true) ∧
    (bodyPan (usesPan (fld b 8 1) || usesPan (fld b 9 1)) (fld b 0xA 1) (sub b 0x10 10) = some pan) ∧
    (u.resolve (some r.tenant) (fld b 0 4) { fits := pinFits (fld b 8 1), use := fun _ => useBit 9, units := some fun _ => 1 } = (v, .ok i1)) ∧
    (v.resolve (some r.tenant) (fld b 4 4) { fits := pinFits (fld b 9 1), use := fun _ => useBit 9, units := some fun _ => 1 } = (w, .ok j)) ∧
    (keyParts x = true) ∧
    (keyParts y = true) ∧
    ((if fld b 9 1 = 0 then z = w ∧ fill = [] else w.random 14 = some (z, fill))) :=
  ⟨wCmd (wKey { type := 3, keyBits := 256, usage := useBit 9 ||| useBit 2, material := zeros 32 }) 0x0B01 0 (natLE 4 wHandle ++ natLE 4 wHandle ++ [4, 4, 12] ++ zeros 11 ++ [255, 255, 255, 255] ++ zeros 22), 9, wRef, wCmdRec 0x0B01 0 (natLE 4 wHandle ++ natLE 4 wHandle ++ [4, 4, 12] ++ zeros 11 ++ [255, 255, 255, 255] ++ zeros 22), natLE 4 wHandle ++ natLE 4 wHandle ++ [4, 4, 12] ++ zeros 11 ++ [255, 255, 255, 255] ++ zeros 22, [], _, _, _, 7, 7, List.replicate 12 0, _, by exact ⟨wAcc (by decide +kernel), by decide +kernel, by decide +kernel, by decide +kernel, by decide +kernel, by decide +kernel, by decide +kernel, by decide +kernel, wRes _ _ (by decide +kernel), wRes _ _ (by decide +kernel), by decide +kernel, by decide +kernel, by rw [if_neg (by decide +kernel)]; exact wSome _ (by decide +kernel)⟩⟩

theorem witness_PinAndCardCheckCommandsRunOnALane_2 : ∃ (s : State) (t : Tick) (ref : RecRef) (r : Rec) (b i : Bytes) (v w : State) (i1 j : Nat) (pan : List Nat),
    let u := (s.begun t r b i).1
    let x := w.slot i1
    let y := w.slot j
    let res : Result := (match readPin (fld b 8 1) (openPin (fld b 8 1) x.material pan (sub b 0x20 16)) with | .error d => failD .pinFormat d | .ok pin => if fld b 9 1 == 1 then { body := pinReference y.material pan pin ++ zeros 4 } else if pinReference y.material pan pin = sub b 0x1C 4 then { body := zeros 8 } else fail .verifyFailed)
    (Accepted s t ref 0x0B02 r b i) ∧
    (b.length = 0x30) ∧
    (pinFormat (fld b 8 1) = true) ∧
    (fld b 9 1 ≤ 1) ∧
    (zeroAt b 0xB 5 = true) ∧
    (zeroAt b 0x1A 2 = true) ∧
    (fld b 9 1 = 1 → zeroAt b 0x1C 4 = true) ∧
    (fld b 8 1 ≠ 4 → zeroAt b 0x28 8 = true) ∧
    (bodyPan true (fld b 0xA 1) (sub b 0x10 10) = some pan) ∧
    (u.resolve (some r.tenant) (fld b 0 4) { fits := pinFits (fld b 8 1), use := fun _ => useBit 9, units := some fun _ => 1 } = (v, .ok i1)) ∧
    (v.resolve (some r.tenant) (fld b 4 4) { fits := isAes, use := fun _ => if (fld b 9 1 == 1) then useBit 9 ||| useBit 2 else useBit 9, units := some fun _ => 1 } = (w, .ok j)) ∧
    (keyParts x = true) :=
  ⟨wCmd (wKey { type := 3, keyBits := 256, usage := useBit 9 ||| useBit 2, material := zeros 32 }) 0x0B02 0 (natLE 4 wHandle ++ natLE 4 wHandle ++ [4, 1, 12] ++ zeros 11 ++ [255, 255, 255, 255] ++ zeros 22), 9, wRef, wCmdRec 0x0B02 0 (natLE 4 wHandle ++ natLE 4 wHandle ++ [4, 1, 12] ++ zeros 11 ++ [255, 255, 255, 255] ++ zeros 22), natLE 4 wHandle ++ natLE 4 wHandle ++ [4, 1, 12] ++ zeros 11 ++ [255, 255, 255, 255] ++ zeros 22, [], _, _, 7, 7, List.replicate 12 0, by exact ⟨wAcc (by decide +kernel), by decide +kernel, by decide +kernel, by decide +kernel, by decide +kernel, by decide +kernel, by decide +kernel, by decide +kernel, by decide +kernel, wRes _ _ (by decide +kernel), wRes _ _ (by decide +kernel), by decide +kernel⟩⟩

theorem witness_PinAndCardCheckCommandsRunOnALane_3 : ∃ (s : State) (t : Tick) (ref : RecRef) (r : Rec) (b i : Bytes) (v : State) (i1 : Nat),
    let u := (s.begun t r b i).1
    let n := fld b 4 1
    let a := packNibbles ((decimalise (aesCmac (v.slot i1).material (sub b 8 10 ++ sub b 0x12 2 ++ sub b 0x14 2 ++ zeros 2))).take n ++ List.replicate (8 - n) 15)
    (Accepted s t ref 0x0B03 r b i) ∧
    (b.length = 0x1C) ∧
    (3 ≤ n) ∧
    (n ≤ 5) ∧
    (zeroAt b 6 2 = true) ∧
    (zeroAt b 0x16 2 = true) ∧
    ((nibbles (sub b 0x12 2)).all (fun d => decide (d ≤ 9)) = true) ∧
    (((nibbles (sub b 0x14 2)).take 3).all (fun d => decide (d ≤ 9)) = true) ∧
    ((nibbles (sub b 0x14 2)).getD 3 0 = 15) ∧
    (zeroAt b 0x18 4 = true) ∧
    ((bodyPan true (fld b 5 1) (sub b 8 10)).isSome = true) ∧
    (u.resolve (some r.tenant) (fld b 0 4) { fits := isAes, use := fun _ => useBit 9, units := some fun _ => 1 } = (v, .ok i1)) :=
  ⟨wCmd (wKey { type := 3, keyBits := 256, usage := useBit 9 ||| useBit 2, material := zeros 32 }) 0x0B03 0 (natLE 4 wHandle ++ [3, 12, 0, 0] ++ zeros 6 ++ [255, 255, 255, 255] ++ zeros 2 ++ [0, 15, 0, 0] ++ zeros 4), 9, wRef, wCmdRec 0x0B03 0 (natLE 4 wHandle ++ [3, 12, 0, 0] ++ zeros 6 ++ [255, 255, 255, 255] ++ zeros 2 ++ [0, 15, 0, 0] ++ zeros 4), natLE 4 wHandle ++ [3, 12, 0, 0] ++ zeros 6 ++ [255, 255, 255, 255] ++ zeros 2 ++ [0, 15, 0, 0] ++ zeros 4, [], _, 7, by exact ⟨wAcc (by decide +kernel), by decide +kernel, by decide +kernel, by decide +kernel, by decide +kernel, by decide +kernel, by decide +kernel, by decide +kernel, by decide +kernel, by decide +kernel, by decide +kernel, wRes _ _ (by decide +kernel)⟩⟩

theorem witness_PinAndCardCheckCommandsRunOnALane_4 : ∃ (s : State) (t : Tick) (ref : RecRef) (r : Rec) (b i : Bytes) (v : State) (i1 : Nat),
    let u := (s.begun t r b i).1
    let n := fld b 4 1
    let a := packNibbles ((decimalise (aesCmac (v.slot i1).material (sub b 8 10 ++ sub b 0x12 2 ++ sub b 0x14 2 ++ zeros 2))).take n ++ List.replicate (8 - n) 15)
    (Accepted s t ref 0x0B04 r b i) ∧
    (b.length = 0x1C) ∧
    (3 ≤ n) ∧
    (n ≤ 5) ∧
    (zeroAt b 6 2 = true) ∧
    (zeroAt b 0x16 2 = true) ∧
    ((nibbles (sub b 0x12 2)).all (fun d => decide (d ≤ 9)) = true) ∧
    (((nibbles (sub b 0x14 2)).take 3).all (fun d => decide (d ≤ 9)) = true) ∧
    ((nibbles (sub b 0x14 2)).getD 3 0 = 15) ∧
    ((((nibbles (sub b 0x18 4)).take n).all (fun d => decide (d ≤ 9)) = true ∧ ((nibbles (sub b 0x18 4)).drop n).all (· == 15) = true)) ∧
    ((bodyPan true (fld b 5 1) (sub b 8 10)).isSome = true) ∧
    (u.resolve (some r.tenant) (fld b 0 4) { fits := isAes, use := fun _ => useBit 9, units := some fun _ => 1 } = (v, .ok i1)) :=
  ⟨wCmd (wKey { type := 3, keyBits := 256, usage := useBit 9 ||| useBit 2, material := zeros 32 }) 0x0B04 0 (natLE 4 wHandle ++ [3, 12, 0, 0] ++ zeros 6 ++ [255, 255, 255, 255] ++ zeros 2 ++ [0, 15, 0, 0] ++ [0, 15, 255, 255]), 9, wRef, wCmdRec 0x0B04 0 (natLE 4 wHandle ++ [3, 12, 0, 0] ++ zeros 6 ++ [255, 255, 255, 255] ++ zeros 2 ++ [0, 15, 0, 0] ++ [0, 15, 255, 255]), natLE 4 wHandle ++ [3, 12, 0, 0] ++ zeros 6 ++ [255, 255, 255, 255] ++ zeros 2 ++ [0, 15, 0, 0] ++ [0, 15, 255, 255], [], _, 7, by exact ⟨wAcc (by decide +kernel), by decide +kernel, by decide +kernel, by decide +kernel, by decide +kernel, by decide +kernel, by decide +kernel, by decide +kernel, by decide +kernel, by decide +kernel, by decide +kernel, wRes _ _ (by decide +kernel)⟩⟩

theorem witness_PinAndCardCheckCommandsRunOnALane_5 : ∃ (s : State) (t : Tick) (ref : RecRef) (r : Rec) (b i : Bytes) (h g : Nat) (v w z : State) (i1 j : Nat) (pan : List Nat) (fill : Bytes),
    let c := s.cmd t r b i
    let u := (s.begun t r b i).1
    let d := sub b 0x40 (beNat (sub b 0x0E 2))
    let f := kh1Mod c / 16
    let e := kh1Mod c % 16
    let x := w.slot i1
    let y := w.slot j
    let res : Result := (match readPin f (openPin f x.material pan (sub d 22 16)) with | .error d => failD .pinFormat d | .ok pin => if e = 1 ∧ f ≠ 1 then failD .pinFormat 5 else { body := padTo 16 (makePin e y.material pan pin fill) })
    (Accepted s t ref 0x10040 r b i) ∧
    (beNat (sub b 0x0E 2) ≤ 176) ∧
    (u.kh1Handle r.tenant (beNat (sub b 8 2)) = some h) ∧
    (u.kh1Handle r.tenant (beNat (sub b 0x0A 2)) = some g) ∧
    (d.length = 38) ∧
    (pinFormat f = true) ∧
    (pinFormat e = true) ∧
    (bodyPan (usesPan f || usesPan e) (fld d 0 1) (sub d 6 10) = some pan) ∧
    (u.resolve (some r.tenant) h { fits := pinFits f, use := fun _ => useBit 9, units := some fun _ => 1 } = (v, .ok i1)) ∧
    (v.resolve (some r.tenant) g { fits := pinFits e, use := fun _ => useBit 9, units := some fun _ => 1 } = (w, .ok j)) ∧
    (keyParts x = true) ∧
    (keyParts y = true) ∧
    ((if e = 0 then z = w ∧ fill = [] else w.random 14 = some (z, fill))) :=
  ⟨{ wKh1Key { type := 3, keyBits := 256, usage := useBit 9 ||| useBit 2, material := zeros 32 } with waiting := [wKh1Rec (wKh1Raw 0x0040 1 1 0x44 ([12] ++ zeros 11 ++ [255, 255, 255, 255] ++ zeros 22))] }, 9, wKh1Ref, wKh1Rec (wKh1Raw 0x0040 1 1 0x44 ([12] ++ zeros 11 ++ [255, 255, 255, 255] ++ zeros 22)), wKh1Raw 0x0040 1 1 0x44 ([12] ++ zeros 11 ++ [255, 255, 255, 255] ++ zeros 22), [], wHandle, wHandle, _, _, _, 7, 7, List.replicate 12 0, _, by exact ⟨wAcc (by decide +kernel), by decide +kernel, by decide +kernel, by decide +kernel, by decide +kernel, by decide +kernel, by decide +kernel, by decide +kernel, wRes _ _ (by decide +kernel), wRes _ _ (by decide +kernel), by decide +kernel, by decide +kernel, by rw [if_neg (by decide +kernel)]; exact wSome _ (by decide +kernel)⟩⟩

theorem witness_PinAndCardCheckCommandsRunOnALane_6 : ∃ (s : State) (t : Tick) (ref : RecRef) (r : Rec) (b i : Bytes) (h g : Nat) (v w : State) (i1 j : Nat) (pan : List Nat),
    let c := s.cmd t r b i
    let u := (s.begun t r b i).1
    let d := sub b 0x40 (beNat (sub b 0x0E 2))
    let f := kh1Mod c
    let x := w.slot i1
    let y := w.slot j
    let res : Result := (match readPin f (openPin f x.material pan (sub d 22 16)) with | .error d => failD .pinFormat d | .ok pin => if false then { body := pinReference y.material pan pin ++ zeros 4 } else if pinReference y.material pan pin = sub d 18 4 then { body := zeros 8 } else fail .verifyFailed)
    (Accepted s t ref 0x10041 r b i) ∧
    (beNat (sub b 0x0E 2) ≤ 176) ∧
    (u.kh1Handle r.tenant (beNat (sub b 8 2)) = some h) ∧
    (u.kh1Handle r.tenant (beNat (sub b 0x0A 2)) = some g) ∧
    (d.length = 38) ∧
    (pinFormat f = true) ∧
    (bodyPan true (fld d 0 1) (sub d 6 10) = some pan) ∧
    (u.resolve (some r.tenant) h { fits := pinFits f, use := fun _ => useBit 9, units := some fun _ => 1 } = (v, .ok i1)) ∧
    (v.resolve (some r.tenant) g { fits := isAes, use := fun _ => if false then useBit 9 ||| useBit 2 else useBit 9, units := some fun _ => 1 } = (w, .ok j)) ∧
    (keyParts x = true) :=
  ⟨{ wKh1Key { type := 3, keyBits := 256, usage := useBit 9 ||| useBit 2, material := zeros 32 } with waiting := [wKh1Rec (wKh1Raw 0x0041 1 1 4 ([12] ++ zeros 11 ++ [255, 255, 255, 255] ++ zeros 22))] }, 9, wKh1Ref, wKh1Rec (wKh1Raw 0x0041 1 1 4 ([12] ++ zeros 11 ++ [255, 255, 255, 255] ++ zeros 22)), wKh1Raw 0x0041 1 1 4 ([12] ++ zeros 11 ++ [255, 255, 255, 255] ++ zeros 22), [], wHandle, wHandle, _, _, 7, 7, List.replicate 12 0, by exact ⟨wAcc (by decide +kernel), by decide +kernel, by decide +kernel, by decide +kernel, by decide +kernel, by decide +kernel, by decide +kernel, wRes _ _ (by decide +kernel), wRes _ _ (by decide +kernel), by decide +kernel⟩⟩

end Sys2Proof.Tests
end

