-- ==== Sys2Proof/Tests/Slice0PublicKey.lean ====
section
/-! SUPPORT. Witnesses: states and operands that meet the hypotheses of the statements on public-key encryption, key generation, derivation and curves. -/

set_option autoImplicit false
set_option maxRecDepth 4000
set_option linter.unusedVariables false

namespace Sys2Proof.Tests

set_option Elab.async false

open Sys2Proof Sys2Proof.Machine

/-- Parameters of a 256-bit curve as CURVE_LOAD's input data carries them. -/
def wCurve : Bytes := zeros 193

/-- A loaded curve of tenant 0. -/
def wSlot0 : CurveSlot := { owner := 0, cls := 4, digest := zeros 32, curve := p256Curve }

/-- The private scalar 1 of P-256, the base point as peer, and a derivation of an AES-128 key. -/
def wScalar : Bytes := [1] ++ zeros 7 ++ natLE 32 1 ++ zeros 64
def wPeer : Bytes := [1] ++ zeros 7 ++ natLE 32 p256Curve.gx ++ natLE 32 p256Curve.gy
def wDeriveBody : Bytes := natLE 4 wHandle ++ natLE 4 wTrunk ++ [1, 0, 0, 0] ++ natLE 2 128 ++ zeros 74

theorem wEcc (id w : Nat) (q : Point) (g : Bytes) : (eccPublic id w q g).length = 8 + 2 * w + g.length := by
  have nl : ∀ n x : Nat, (natLE n x).length = n := by
    intro n
    induction n with
    | zero => intro x; rfl
    | succ n ih => intro x; simp [natLE, ih]
  have hp : (pointBytes w q).length = 2 * w := by
    cases q with
    | none => simp [pointBytes, zeros]
    | some p => simp only [pointBytes, List.length_append, nl]; omega
  simp only [eccPublic, List.length_append, hp, zeros, List.length_replicate, List.length_cons, List.length_nil]

theorem witness_PublicKeyEncryptionGenerationAndDerivation_1 : ∃ (s : State) (t : Tick) (ref : RecRef) (r : Rec) (b i : Bytes) (v w : State) (k d : Bytes) (inl : Bool),
    let c := s.cmd t r b i
    let u := (s.begun t r b i).1
    let q := rsaPub k
    let n := q.bits / 8
    let rest := if inl then i.drop k.length else i
    (Accepted s t ref 0x0503 r b i) ∧
    (b.length = 16) ∧
    (digestCodes.contains (fld b 4 1) = true) ∧
    (zeroAt b 5 3 = true) ∧
    (fld b 8 4 ≤ 256) ∧
    ((if fld b 0 4 = 0 then fld b 0xC 4 ≤ i.length ∧ inlineOk 5 u r.tenant (i.take (fld b 0xC 4)) = true ∧ v = u ∧ k = i.take (fld b 0xC 4) ∧ inl = true else fld b 0xC 4 = 0 ∧ inl = false ∧ ∃ j, u.resolve (some r.tenant) (fld b 0 4) { fits := pubFits 5, use := fun _ => useBit 0, units := some fun _ => 1 } = (v, .ok j) ∧ v.material j = .ok k)) ∧
    (q.ok = true) ∧
    (fld b 8 4 ≤ rest.length) ∧
    ((rest.drop (fld b 8 4)).length ≤ n - 2 * digestOut (fld b 4 1) - 2) ∧
    (spaceFail c 8 n = none) ∧
    (v.laneAny .digest = true) ∧
    (v.random (digestOut (fld b 4 1)) = some (w, d)) :=
  ⟨{ wKey { type := 0x20, keyBits := 2048, usage := useBit 0, material := wRsa } with waiting := [wInputRec 0x0503 0 (natLE 4 wHandle ++ [2] ++ zeros 11) [1]] }, 9, wRef, wInputRec 0x0503 0 (natLE 4 wHandle ++ [2] ++ zeros 11) [1], natLE 4 wHandle ++ [2] ++ zeros 11, [1], _, _, wRsa, _, false, by exact ⟨wAcc (by decide +kernel), by decide +kernel, by decide +kernel, by decide +kernel, by decide +kernel, by rw [if_neg (by decide +kernel)]; exact ⟨by decide +kernel, rfl, 7, wRes _ _ (by decide +kernel), wOk _ _ (by decide +kernel)⟩, by decide +kernel, by decide +kernel, by decide +kernel, by decide +kernel, by decide +kernel, wSome _ (by decide +kernel)⟩⟩

theorem witness_PublicKeyEncryptionGenerationAndDerivation_2 : ∃ (s : State) (t : Tick) (ref : RecRef) (r : Rec) (b i : Bytes) (v : State) (j : Nat) (k : Bytes),
    let c := s.cmd t r b i
    let u := (s.begun t r b i).1
    let q := rsaPub k
    let n := q.bits / 8
    let x := beNat (i.drop (fld b 8 4))
    (Accepted s t ref 0x0504 r b i) ∧
    (b.length = 16) ∧
    (digestCodes.contains (fld b 4 1) = true) ∧
    (zeroAt b 5 3 = true) ∧
    (zeroAt b 0xC 4 = true) ∧
    (fld b 8 4 ≤ 256) ∧
    (u.resolve (some r.tenant) (fld b 0 4) { fits := privFits 5, use := fun _ => useBit 1, units := some fun _ => 1 } = (v, .ok j)) ∧
    (v.material j = .ok k) ∧
    (q.ok = true) ∧
    (i.length = fld b 8 4 + n) ∧
    (spaceFail c 8 (n - 2 * digestOut (fld b 4 1) - 2) = none) ∧
    (v.laneAny .digest = true) :=
  ⟨{ wKey { type := 0x10, keyBits := 2048, usage := useBit 1, material := wRsa } with waiting := [wInputRec 0x0504 0 (natLE 4 wHandle ++ [2] ++ zeros 11) (zeros 256)] }, 9, wRef, wInputRec 0x0504 0 (natLE 4 wHandle ++ [2] ++ zeros 11) (zeros 256), natLE 4 wHandle ++ [2] ++ zeros 11, zeros 256, _, 7, wRsa, by exact ⟨wAcc (by decide +kernel), by decide +kernel, by decide +kernel, by decide +kernel, by decide +kernel, by decide +kernel, wRes _ _ (by decide +kernel), wOk _ _ (by decide +kernel), by decide +kernel, by decide +kernel, by decide +kernel, by decide +kernel⟩⟩

theorem witness_PublicKeyEncryptionGenerationAndDerivation_3 : ∃ (s : State) (t : Tick) (ref : RecRef) (r : Rec) (b i : Bytes) (v w : State) (p : Parent) (lv l : Nat) (d : Bytes),
    let c := s.cmd t r b i
    let u := (s.begun t r b i).1
    let m := rsaPlain (fld b 8 2) (Config.rsaPrime (fld b 8 2 / 2) w.draws) (Config.rsaPrime (fld b 8 2 / 2) (w.draws + 1))
    (Accepted s t ref 0x0505 r b i) ∧
    (b.length = 16) ∧
    (fld b 5 1 ≤ 63) ∧
    (fld b 6 2 < 2 ^ 15) ∧
    (fld b 0xB 1 ≤ 1) ∧
    (zeroAt b 0xC 4 = true) ∧
    (genIdOk (fld b 4 1) (fld b 0xA 1) = true) ∧
    (u.classDefined (fld b 5 1) = true) ∧
    (u.parentOf r.tenant (fld b 0 4) = (v, .ok (p, lv))) ∧
    (childLevel (fld b 4 1) lv = some l) ∧
    (fld b 4 1 = 0x10) ∧
    (typeOk (fld b 4 1) (fld b 8 2) = true) ∧
    (v.random (fld b 8 2 / 8) = some (w, d)) ∧
    (spaceFail c (8 + (m.take (8 + fld b 8 2 / 8)).length) 0 = none) :=
  ⟨wCmd (wKey {}) 0x0505 0 (natLE 4 wTrunk ++ [0x10, 0, 0, 0] ++ natLE 2 2048 ++ [0, 0] ++ zeros 4), 9, wRef, wCmdRec 0x0505 0 (natLE 4 wTrunk ++ [0x10, 0, 0, 0] ++ natLE 2 2048 ++ [0, 0] ++ zeros 4), natLE 4 wTrunk ++ [0x10, 0, 0, 0] ++ natLE 2 2048 ++ [0, 0] ++ zeros 4, [], _, _, { inVault := true }, 0, 1, _, by exact ⟨wAcc (by decide +kernel), by decide +kernel, by decide +kernel, by decide +kernel, by decide +kernel, by decide +kernel, by decide +kernel, by decide +kernel, wOkPair _ _ (by decide +kernel), by decide +kernel, by decide +kernel, by decide +kernel, wSome _ (by decide +kernel), by decide +kernel⟩⟩

theorem witness_PublicKeyEncryptionGenerationAndDerivation_4 : ∃ (s : State) (t : Tick) (ref : RecRef) (r : Rec) (b i : Bytes) (v w : State) (p : Parent) (lv l : Nat) (d : Bytes),
    let c := s.cmd t r b i
    let u := (s.begun t r b i).1
    (Accepted s t ref 0x0505 r b i) ∧
    (b.length = 16) ∧
    (fld b 5 1 ≤ 63) ∧
    (fld b 6 2 < 2 ^ 15) ∧
    (fld b 0xB 1 ≤ 1) ∧
    (zeroAt b 0xC 4 = true) ∧
    (genIdOk (fld b 4 1) (fld b 0xA 1) = true) ∧
    (u.classDefined (fld b 5 1) = true) ∧
    (u.parentOf r.tenant (fld b 0 4) = (v, .ok (p, lv))) ∧
    (childLevel (fld b 4 1) lv = some l) ∧
    (fld b 4 1 = 0x12) ∧
    (fld b 8 2 = 0) ∧
    (v.random 32 = some (w, d)) ∧
    (spaceFail c (8 + ([4] ++ zeros 7 ++ edPublic d).length) 0 = none) :=
  ⟨wCmd (wKey {}) 0x0505 0 (natLE 4 wTrunk ++ [0x12, 0, 0, 0] ++ natLE 2 0 ++ [4, 0] ++ zeros 4), 9, wRef, wCmdRec 0x0505 0 (natLE 4 wTrunk ++ [0x12, 0, 0, 0] ++ natLE 2 0 ++ [4, 0] ++ zeros 4), natLE 4 wTrunk ++ [0x12, 0, 0, 0] ++ natLE 2 0 ++ [4, 0] ++ zeros 4, [], _, _, { inVault := true }, 0, 1, _, by exact ⟨wAcc (by decide +kernel), by decide +kernel, by decide +kernel, by decide +kernel, by decide +kernel, by decide +kernel, by decide +kernel, by decide +kernel, wOkPair _ _ (by decide +kernel), by decide +kernel, by decide +kernel, by decide +kernel, wSome _ (by decide +kernel), by decide +kernel⟩⟩

theorem witness_PublicKeyEncryptionGenerationAndDerivation_5 : ∃ (s : State) (t : Tick) (ref : RecRef) (r : Rec) (b i : Bytes) (v w : State) (p : Parent) (lv l : Nat) (d : Bytes),
    let c := s.cmd t r b i
    let u := (s.begun t r b i).1
    (Accepted s t ref 0x0505 r b i) ∧
    (b.length = 16) ∧
    (fld b 5 1 ≤ 63) ∧
    (fld b 6 2 < 2 ^ 15) ∧
    (fld b 0xB 1 ≤ 1) ∧
    (zeroAt b 0xC 4 = true) ∧
    (genIdOk (fld b 4 1) (fld b 0xA 1) = true) ∧
    (u.classDefined (fld b 5 1) = true) ∧
    (u.parentOf r.tenant (fld b 0 4) = (v, .ok (p, lv))) ∧
    (childLevel (fld b 4 1) lv = some l) ∧
    (fld b 4 1 = 0x13) ∧
    (fld b 8 2 = 0) ∧
    (v.random 32 = some (w, d)) ∧
    (spaceFail c (8 + ([5] ++ zeros 7 ++ x25519 d (natLE 32 9)).length) 0 = none) :=
  ⟨wCmd (wKey {}) 0x0505 0 (natLE 4 wTrunk ++ [0x13, 0, 0, 0] ++ natLE 2 0 ++ [5, 0] ++ zeros 4), 9, wRef, wCmdRec 0x0505 0 (natLE 4 wTrunk ++ [0x13, 0, 0, 0] ++ natLE 2 0 ++ [5, 0] ++ zeros 4), natLE 4 wTrunk ++ [0x13, 0, 0, 0] ++ natLE 2 0 ++ [5, 0] ++ zeros 4, [], _, _, { inVault := true }, 0, 1, _, by exact ⟨wAcc (by decide +kernel), by decide +kernel, by decide +kernel, by decide +kernel, by decide +kernel, by decide +kernel, by decide +kernel, by decide +kernel, wOkPair _ _ (by decide +kernel), by decide +kernel, by decide +kernel, by decide +kernel, wSome _ (by decide +kernel), by decide +kernel⟩⟩

theorem witness_PublicKeyEncryptionGenerationAndDerivation_6 : ∃ (s : State) (t : Tick) (ref : RecRef) (r : Rec) (b i : Bytes) (v w : State) (p : Parent) (lv l : Nat) (d : Bytes) (e : Curve),
    let c := s.cmd t r b i
    let u := (s.begun t r b i).1
    let y := e.mul (e.scalar d) e.base
    let z := ((v.curveAt r.tenant (fld b 0xA 1)).map (·.digest)).getD []
    (Accepted s t ref 0x0505 r b i) ∧
    (b.length = 16) ∧
    (fld b 5 1 ≤ 63) ∧
    (fld b 6 2 < 2 ^ 15) ∧
    (fld b 0xB 1 ≤ 1) ∧
    (zeroAt b 0xC 4 = true) ∧
    (genIdOk (fld b 4 1) (fld b 0xA 1) = true) ∧
    (u.classDefined (fld b 5 1) = true) ∧
    (u.parentOf r.tenant (fld b 0 4) = (v, .ok (p, lv))) ∧
    (childLevel (fld b 4 1) lv = some l) ∧
    (fld b 4 1 = 0x11 ∨ fld b 4 1 = 0x14) ∧
    (fld b 8 2 = 0) ∧
    ((if fld b 0xA 1 < 0x80 then namedCurve (fld b 0xA 1) else (v.curveAt r.tenant (fld b 0xA 1)).map (·.curve)) = some e) ∧
    (v.random (8 * lenClass (bitLen e.p) + 8) = some (w, d)) ∧
    (spaceFail c (8 + (eccPublic (fld b 0xA 1) (8 * lenClass (bitLen e.p)) y z).length) 0 = none) :=
  ⟨wCmd (wKey {}) 0x0505 0 (natLE 4 wTrunk ++ [0x11, 0, 0, 0] ++ natLE 2 0 ++ [1, 0] ++ zeros 4), 9, wRef, wCmdRec 0x0505 0 (natLE 4 wTrunk ++ [0x11, 0, 0, 0] ++ natLE 2 0 ++ [1, 0] ++ zeros 4), natLE 4 wTrunk ++ [0x11, 0, 0, 0] ++ natLE 2 0 ++ [1, 0] ++ zeros 4, [], _, _, { inVault := true }, 0, 1, _, p256Curve, by exact ⟨wAcc (by decide +kernel), by decide +kernel, by decide +kernel, by decide +kernel, by decide +kernel, by decide +kernel, by decide +kernel, by decide +kernel, wOkPair _ _ (by decide +kernel), by decide +kernel, by decide +kernel, by decide +kernel, rfl, wSome _ (by decide +kernel), by rw [wEcc]; decide +kernel⟩⟩

theorem witness_PublicKeyEncryptionGenerationAndDerivation_7 : ∃ (s : State) (t : Tick) (ref : RecRef) (r : Rec) (b i : Bytes) (v w : State) (p : Parent) (lv l j h : Nat) (k z : Bytes) (e : Option Curve) (cs : List Change),
    let u := (s.begun t r b i).1
    let x := v.slot j
    let n : NewKey := { type := fld b 8 1, bits := fld b 12 2, usage := BitVec.ofNat 16 (fld b 10 2), owner := r.tenant, parent := p, level := l, exportable := fld b 14 2 == 1, limitClass := fld b 9 1, plain := hkdf256 z (zeros 32) (sub b 0x18 (fld b 0x10 4)) (fld b 12 2 / 8) }
    (Accepted s t ref 0x0506 r b i) ∧
    (b.length = 0x58) ∧
    (fld b 10 2 < 2 ^ 15) ∧
    (fld b 14 2 ≤ 1) ∧
    (fld b 9 1 ≤ 63) ∧
    (zeroAt b 0x14 4 = true) ∧
    (fld b 0x10 4 ≤ 64) ∧
    (u.classDefined (fld b 9 1) = true) ∧
    (1 ≤ fld b 8 1) ∧
    (fld b 8 1 ≤ 5) ∧
    (typeOk (fld b 8 1) (fld b 12 2) = true) ∧
    (u.resolve (some r.tenant) (fld b 0 4) { fits := privFits 6, use := fun _ => useBit 8, units := some fun _ => 1 } = (v, .ok j)) ∧
    (v.material j = .ok k) ∧
    (peerOk k i (8 * lenClass x.keyBits) x.type = true) ∧
    ((if x.type = 0x13 then none else v.keyCurve r.tenant k (8 + 3 * (8 * lenClass x.keyBits))) = e) ∧
    (x.type = 0x13 ∨ e.isSome = true) ∧
    (v.parentOf r.tenant (fld b 4 4) = (w, .ok (p, lv))) ∧
    (childLevel (fld b 8 1) lv = some l) ∧
    (sharedSecret e (8 * lenClass x.keyBits) k i = .ok z) ∧
    (w.newKey n = some (h, cs)) :=
  ⟨{ wKey { type := 0x11, keyBits := 256, usage := useBit 8, material := wScalar } with waiting := [wInputRec 0x0506 0 wDeriveBody wPeer] }, 9, wRef, wInputRec 0x0506 0 wDeriveBody wPeer, wDeriveBody, wPeer, _, _, { inVault := true }, 0, 1, 7, _, wScalar, natBE 32 p256Curve.gx, (some p256Curve), _, by exact ⟨wAcc (by decide +kernel), by decide +kernel, by decide +kernel, by decide +kernel, by decide +kernel, by decide +kernel, by decide +kernel, by decide +kernel, by decide +kernel, by decide +kernel, by decide +kernel, wRes _ _ (by decide +kernel), wOk _ _ (by decide +kernel), by decide +kernel, rfl, Or.inr rfl, wOkPair _ _ (by decide +kernel), by decide +kernel, wOk _ _ (by decide +kernel), wSome _ (by decide +kernel)⟩⟩

theorem witness_PublicKeyEncryptionGenerationAndDerivation_8 : ∃ (s : State) (t : Tick) (ref : RecRef) (r : Rec) (b i : Bytes) (v : State) (d : Bytes) (n : Nat),
    let u := (s.begun t r b i).1
    let w := 8 * lenClass (fld b 2 2)
    let e : Curve := { p := fld i 0 w, a := fld i w w, b := fld i (2 * w) w, gx := fld i (3 * w) w, gy := fld i (4 * w) w, n := fld i (5 * w) w, h := fld i (6 * w) 1 }
    (Accepted s t ref 0x0507 r b i) ∧
    (b.length = 8) ∧
    (fld b 0 1 = 0) ∧
    (fld b 1 1 = 0) ∧
    (zeroAt b 4 4 = true) ∧
    (i.length = 6 * w + 1) ∧
    (256 ≤ fld b 2 2) ∧
    (fld b 2 2 ≤ 1024) ∧
    (u.freeCurve = some n) ∧
    (u.random (128 * w) = some (v, d)) :=
  ⟨{ wHealthy with waiting := [wInputRec 0x0507 0 (natLE 2 0 ++ natLE 2 256 ++ zeros 4) wCurve] }, 9, wRef, wInputRec 0x0507 0 (natLE 2 0 ++ natLE 2 256 ++ zeros 4) wCurve, natLE 2 0 ++ natLE 2 256 ++ zeros 4, wCurve, _, _, 0, by exact ⟨wAcc (by decide +kernel), by decide +kernel, by decide +kernel, by decide +kernel, by decide +kernel, by decide +kernel, by decide +kernel, by decide +kernel, by decide +kernel, wSome _ (by decide +kernel)⟩⟩

theorem witness_PublicKeyEncryptionGenerationAndDerivation_9 : ∃ (s : State) (t : Tick) (ref : RecRef) (r : Rec) (b i : Bytes) (x : CurveSlot),
    let u := (s.begun t r b i).1
    (Accepted s t ref 0x0507 r b i) ∧
    (b.length = 8) ∧
    (fld b 0 1 = 1) ∧
    (fld b 2 2 = 0) ∧
    (zeroAt b 4 4 = true) ∧
    (u.curveAt r.tenant (fld b 1 1) = some x) :=
  ⟨wCmd ({ wHealthy with curves := [(0, wSlot0)] }) 0x0507 0 ([1, 0x80] ++ zeros 6), 9, wRef, wCmdRec 0x0507 0 ([1, 0x80] ++ zeros 6), [1, 0x80] ++ zeros 6, [], wSlot0, by exact ⟨wAcc (by decide +kernel), by decide +kernel⟩⟩

end Sys2Proof.Tests
end

