-- ==== Sys2Proof/Tests/Slice0Registers.lean ====
section
/-! SUPPORT. Witnesses: states and operands that meet the hypotheses of the statements on registers, ports, power, attention and the worlds. -/

set_option autoImplicit false
set_option maxRecDepth 4000
set_option linter.unusedVariables false

namespace Sys2Proof.Tests

set_option Elab.async false

open Sys2Proof Sys2Proof.Machine

theorem witness_RegisterAccessesGoThroughTheirPath_1 : ∃ (s : State) (t : Tick) (v : BitVec 64),
    let u := s.at t
    (u.decodes 0x09 = true) ∧
    ((u.regAt .pf0 0x90008).isSome = true) :=
  ⟨wServing, 9, 0x1FF#64, by decide +kernel⟩

theorem witness_RegisterAccessesGoThroughTheirPath_2 : ∃ (s : State) (t : Tick) (w : Word32) (ws : List Word32),
    let u := s.at t
    (u.rng.fifo = w :: ws) :=
  ⟨wFifo, 9, 7#32, [], by decide +kernel⟩

theorem witness_RegisterAccessesGoThroughTheirPath_3 : ∃ (s : State) (t : Tick),
    let u := s.at t
    (u.rng.fifo = []) ∧
    (u.rng.st = .healthy) :=
  ⟨wHealthy, 9, by decide +kernel⟩

theorem witness_RegisterAccessesGoThroughTheirPath_4 : ∃ (s : State) (t : Tick),
    let u := s.at t
    (u.decodes 0x00 = true) ∧
    ((u.regAt .pf0 0x00004).isSome = true) :=
  ⟨wServing, 9, by decide +kernel⟩

theorem witness_RegisterAccessesGoThroughTheirPath_5 : ∃ (s : State) (t : Tick) (off : Nat),
    let u := s.at t
    (off % 4 ≠ 0) :=
  ⟨wServing, 9, 2, by decide +kernel⟩

theorem witness_TheI3cPortAnswersWithMainPower_1 : ∃ (s : State) (t : Tick) (d : Bytes),
    let u := s.at t
    (u.mode ≠ .dormant) ∧
    (2 ≤ d.length) :=
  ⟨wServing, 9, [3, 0], by decide +kernel⟩

theorem witness_TheI3cPortAnswersWithMainPower_2 : ∃ (s : State) (t : Tick),
    let u := s.at t
    (u.mode ≠ .dormant) ∧
    (u.ports.index = 0x000) :=
  ⟨wServing, 9, by decide +kernel⟩

theorem witness_TheI3cPortAnswersWithMainPower_3 : ∃ (s : State) (t : Tick) (a : BitVec 7),
    let u := s.at t
    (u.mode ≠ .dormant) :=
  ⟨wServing, 9, 0x10#7, by decide +kernel⟩

theorem witness_TheJtagAndDebugPortsActUnderTheirRights_1 : ∃ (s : State) (t : Tick) (balls shift : Bytes),
    let u := s.at t
    (u.mode ≠ .dormant) :=
  ⟨wServing, 9, [1], [2], by decide +kernel⟩

theorem witness_TheJtagAndDebugPortsActUnderTheirRights_2 : ∃ (s : State) (t : Tick) (code : Byte),
    let u := s.at t
    (u.mode ≠ .dormant) ∧
    (u.takesBypass code = true) :=
  ⟨wServing, 9, 0x30#8, by decide +kernel⟩

theorem witness_TheJtagAndDebugPortsActUnderTheirRights_3 : ∃ (s : State) (t : Tick) (code : Byte) (core : Nat),
    let u := s.at t
    (u.mode ≠ .dormant) ∧
    (0x40 ≤ code.toNat) ∧
    (code.toNat ≤ 0x4F) ∧
    (4 ≤ core) ∧
    (core < 20) ∧
    (u.unitOn (coreUnit core) 0 = true) ∧
    (u.debugRight 0 = true) :=
  ⟨wRaw0, 9, 0x40#8, 4, by decide +kernel⟩

theorem witness_TheJtagAndDebugPortsActUnderTheirRights_4 : ∃ (s : State) (t : Tick) (code : Byte) (op : DebugOp),
    let u := s.at t
    (u.mode ≠ .dormant) ∧
    (u.debugRight (debugNeeds op) = false) :=
  ⟨wServing, 9, 0x40#8, .phyTest, by decide +kernel⟩

theorem witness_PowerRequestsAreStoredDecidedAndEnded_1 : ∃ (s : State) (t : Tick) (d : Nat) (units : BitVec 16) (discard : Bool) (rsv : Byte),
    let u := s.at t
    (d ≤ 31) ∧
    (u.allDecoded = true) ∧
    (u.pwr.req = none) :=
  ⟨wServing, 9, 31, 1#16, true, 0#8, by decide +kernel⟩

theorem witness_PowerRequestsAreStoredDecidedAndEnded_2 : ∃ (s : State) (t : Tick) (d : Nat) (units : BitVec 16) (discard : Bool) (rsv : Byte),
    let u := s.at t
    (d ≤ 31) ∧
    (u.allDecoded = true) ∧
    (u.pwr.req.isSome = true) :=
  ⟨wPower, 9, 0, 1#16, false, 0#8, by decide +kernel⟩

theorem witness_PowerRequestsAreStoredDecidedAndEnded_3 : ∃ (s : State) (t : Tick) (r : PowerReq) (st : Status),
    let u := s.at t
    (u.pwr.req = some r) ∧
    (u.barrier = none) ∧
    (r.decided = none) ∧
    (u.mode ≠ .felled) ∧
    (u.mode ≠ .dormant) ∧
    (u.powerCheck r = some st) ∧
    (st ≠ .ownerMismatch) :=
  ⟨wPowerBad, 9, { domain := 20, units := 1 }, .bodyInvalid, by decide +kernel⟩

theorem witness_PowerRequestsAreStoredDecidedAndEnded_4 : ∃ (s : State) (t : Tick) (r : PowerReq),
    let u := s.at t
    (u.pwr.req = some r) ∧
    (u.barrier = none) ∧
    (r.decided = none) ∧
    (u.mode ≠ .felled) ∧
    (u.mode ≠ .dormant) ∧
    (u.powerCheck r = none) ∧
    (r.state = 0) :=
  ⟨wPower, 9, { domain := 10, units := 1 }, by decide +kernel⟩

theorem witness_PowerRequestsAreStoredDecidedAndEnded_5 : ∃ (s : State) (t : Tick) (r : PowerReq) (st : Status) (g p : Bool),
    let u := s.at t
    (u.pwr.req = some r) ∧
    (r.decided = some st) ∧
    (st ≠ .ownerMismatch) ∧
    (st ≠ .ok ∨ r.state ≠ 0) :=
  ⟨wPowerEnd, 9, { domain := 10, state := 2, units := 1, decided := some .ok }, .ok, true, true, by decide +kernel⟩

theorem witness_PowerRequestsAreStoredDecidedAndEnded_6 : ∃ (s : State) (t : Tick) (i mhz : Nat),
    let u := s.at t
    (i ≤ 12) ∧
    (u.mode ≠ .dormant) ∧
    (u.debugRight 11 = true) ∧
    (overrideOk i mhz = true) :=
  ⟨wRaw0, 9, 1, 1750, by decide +kernel⟩

theorem witness_AttentionRegistersLatchAndClear_1 : ∃ (s : State) (t : Tick) (g : Nat) (v : Word32),
    let u := s.at t
    let x : State := { u with irq := { u.irq with group := mapPut 0 u.irq.group g (u.group g &&& ~~~ v) } }
    (g ≤ 7) ∧
    (u.mode ≠ .dormant) ∧
    (u.mode ≠ .boot) ∧
    (u.mode ≠ .felled) ∧
    (x.msixActive = false) :=
  ⟨wServing, 9, 7, 1#32, by decide +kernel⟩

theorem witness_AttentionRegistersLatchAndClear_2 : ∃ (s : State) (t : Tick) (g : Nat) (v : Word32),
    let u := s.at t
    let x : State := { u with irq := { u.irq with group := mapPut 0 u.irq.group g (u.group g &&& ~~~ v) } }
    (g ≤ 7) ∧
    (u.mode ≠ .dormant) ∧
    (u.mode ≠ .boot) ∧
    (u.mode ≠ .felled) ∧
    (x.msixActive = true) :=
  ⟨wAttn, 9, 1, 1#32, by decide +kernel⟩

theorem witness_AttentionRegistersLatchAndClear_3 : ∃ (s : State) (t : Tick) (l : Leaf) (v : Word32),
    let u := s.at t
    (u.mode ≠ .dormant) ∧
    (u.mode ≠ .felled) :=
  ⟨wServing, 9, .car, 1#32, by decide +kernel⟩

theorem witness_AttentionRegistersLatchAndClear_4 : ∃ (s : State) (t : Tick) (p : Path) (v : Word32),
    let u := s.at t
    (p.ok = true) ∧
    (u.mode ≠ .dormant) ∧
    (u.peekOpen p = true) :=
  ⟨wServing, 9, .warden 0, 16384#32, by decide +kernel⟩

theorem witness_AttentionRegistersLatchAndClear_5 : ∃ (s : State) (t : Tick) (v : Word32),
    let u := s.at t
    (u.mode ≠ .dormant) ∧
    (u.debugRight 13 = true) :=
  ⟨wReplayRaw, 9, 3#32, by decide +kernel⟩

theorem witness_TheWorldsKeepTheirOwners_1 : ∃ (s : State) (t : Tick) (v : BitVec 16),
    let u := s.at t
    (u.iso.potBusy = none) ∧
    (u.potCause u.iso.potIndex (v &&& 0x3FFF) = 0) :=
  ⟨wPot, 9, 0x0400#16, by decide +kernel⟩

theorem witness_TheWorldsKeepTheirOwners_2 : ∃ (s : State) (t : Tick) (v : BitVec 16),
    let u := s.at t
    (u.iso.potBusy = none) ∧
    (u.potCause u.iso.potIndex (v &&& 0x3FFF) ≠ 0) :=
  ⟨wServing, 9, 0x0600#16, by decide +kernel⟩

theorem witness_TheWorldsKeepTheirOwners_3 : ∃ (s : State) (t : Tick) (i : Nat) (v : BitVec 16),
    let u := s.at t
    (u.iso.potBusy = some (i, v)) ∧
    (i < 0x10000 ∨ potOwner v = potOwner (u.pot i) ∨ potKey v ≠ potKey (u.pot i)) :=
  ⟨wPotBusy, 9, 0x1200, 0x0400#16, by decide +kernel⟩

theorem witness_TheWorldsKeepTheirOwners_4 : ∃ (s : State) (t : Tick) (c m en : Nat) (v : Word32),
    let u := s.at t
    (c ≤ 3) ∧
    (m ≤ 31) ∧
    (en ≤ 31) ∧
    ((u.mpuEntry m en).attr.getLsbD 7 = false) ∧
    (u.mode ≠ .dormant) ∧
    (u.mode ≠ .felled) :=
  ⟨wServing, 9, 3, 31, 31, 5#32, by decide +kernel⟩

theorem witness_TheWorldsKeepTheirOwners_5 : ∃ (s : State) (t : Tick) (core : Nat) (r : RecRef),
    let u := s.at t
    (core ≤ 15) ∧
    (u.kh1Run core = some r) :=
  ⟨wKh1Run, 9, 15, .host 0 3 0, by decide +kernel⟩

theorem witness_TheWorldsKeepTheirOwners_6 : ∃ (s : State) (t : Tick) (g : Nat) (v : Word32),
    let u := s.at t
    (g ≤ 7) ∧
    (u.mode ≠ .dormant) ∧
    (u.mode ≠ .felled) ∧
    (((List.range 512).all fun i => !potLocked (u.pot (512 * g + i))) = true) ∧
    (u.unitOn (groupUnit g).1 (groupUnit g).2 = true) ∧
    ((u.bank g).next = none) ∧
    (v.setWidth 9 ≠ (u.bank g).owner) :=
  ⟨wServing, 9, 7, 0#32, by decide +kernel⟩

theorem witness_TheWorldsKeepTheirOwners_7 : ∃ (s : State) (t : Tick) (g : Nat) (o : BitVec 9),
    let u := s.at t
    (g ≤ 7) ∧
    ((u.bank g).next = some o) :=
  ⟨wBank, 9, 7, 0#9, by decide +kernel⟩

theorem witness_TheWorldsKeepTheirOwners_8 : ∃ (s : State) (t : Tick) (k : Nat) (v : Word32),
    let u := s.at t
    (k ≤ 11) ∧
    (u.mode ≠ .dormant) ∧
    (u.mode ≠ .felled) ∧
    (((List.range 32).all fun en => !(u.mpuEntry (20 + k) en).attr.getLsbD 7) = true) :=
  ⟨wServing, 9, 11, 5#32, by decide +kernel⟩

theorem witness_TheWorldsKeepTheirOwners_9 : ∃ (s : State) (t : Tick) (l core : Nat),
    let u := s.at t
    (l ≤ 127) ∧
    (core ≤ 19) ∧
    (u.mode ≠ .dormant) ∧
    (u.mode ≠ .felled) :=
  ⟨wServing, 9, 127, 19, by decide +kernel⟩

end Sys2Proof.Tests
end

