-- ==== Sys2Proof/Tests/Slice0Sessions.lean ====
section
/-! SUPPORT. Witnesses: states and operands that meet the hypotheses of the statements on sessions, outcome queries, attestation and register queries. -/

set_option autoImplicit false
set_option maxRecDepth 4000
set_option linter.unusedVariables false

namespace Sys2Proof.Tests

set_option Elab.async false

open Sys2Proof Sys2Proof.Machine

/-- A device with session 1 of tenant 0, its key zero, and a sealed SESSION_CLOSE in it, with its AES-256-GCM tag. -/
def wSession : State := { wHealthy with sessions := [{ tenant := 0, id := 1, key := zeros 32 }] }
def wCloseRec : Machine.Rec :=
  { wCmdRec 0x0102 0 [] with
    raw := natLE 2 0x0102 ++ [1, 1] ++ natLE 4 68 ++ natLE 4 0 ++ natLE 4 100 ++ natLE 6 1 ++ natLE 2 1 ++ zeros 8 ++
      natBE 16 311449720836619768884941376069880385386 ++ zeros 16 }

/-- A SESSION_OPEN body: the base point as host key, with its HMAC under the key byte 1. -/
def wOpenBody : Bytes := natLE 4 wHandle ++ natLE 32 48439561293906451759052585252797914202762949526041747995844080717082404635286 ++ natLE 32 36134250956749795798585127919587881956611106672985015071877198253568414405109 ++ natLE 32 83465772143769502961543903308471375132359933451991946032782310591371409080689

theorem witness_SessionsOpenCloseAndReport_1 : ∃ (s : State) (t : Tick) (ref : RecRef) (r : Rec) (b i : Bytes) (k id : Nat) (v w : State) (m d : Bytes),
    let c := s.cmd t r b i
    let u := (s.begun t r b i).1
    let q := pointBytes 32 (p256Curve.mul (p256Curve.scalar d) p256Curve.base)
    (Accepted s t ref 0x0101 r b i) ∧
    (b.length = 0x64) ∧
    (u.resolve (some r.tenant) (fld b 0 4)
        { fits := fun x => x.type == 5, use := fun _ => useBit 12, units := some fun _ => 1 } = (v, .ok k)) ∧
    (v.material k = .ok m) ∧
    (hmac256 m (natLE 6 c.record.seq ++ sub b 4 64) = sub b 0x44 32) ∧
    (p256Curve.validPoint 32 (sub b 4 64) = true) ∧
    (v.freeSession r.tenant = some id) ∧
    (v.random 40 = some (w, d)) :=
  ⟨wCmd (wKey { type := 5, keyBits := 128, usage := useBit 12, material := [1] }) 0x0101 0 (wOpenBody), 9, wRef, wCmdRec 0x0101 0 (wOpenBody), wOpenBody, [], 7, 1, _, _, [1], _, by exact ⟨wAcc (by decide +kernel), by decide +kernel, wRes _ _ (by decide +kernel), wOk _ _ (by decide +kernel), by decide +kernel, by decide +kernel, by decide +kernel, wSome _ (by decide +kernel)⟩⟩

theorem witness_SessionsOpenCloseAndReport_2 : ∃ (s : State) (t : Tick) (ref : RecRef) (r : Rec) (b i : Bytes),
    let u := (s.begun t r b i).1
    (Accepted s t ref 0x0102 r b i) ∧
    (b = []) ∧
    (r.isSealed = true) :=
  ⟨{ wSession with waiting := [wCloseRec] }, 9, wRef, wCloseRec, [], [], by exact ⟨wAcc (by decide +kernel), by decide +kernel⟩⟩

theorem witness_SessionsOpenCloseAndReport_3 : ∃ (s : State) (t : Tick) (ref : RecRef) (r : Rec) (b i : Bytes),
    let u := (s.begun t r b i).1
    (Accepted s t ref 0x0103 r b i) ∧
    (0 < fld b 0 2) ∧
    (fld b 0 2 ≤ 256) ∧
    (b.length = 8 + 8 * fld b 0 2) ∧
    (zeroAt b 2 6 = true) ∧
    (((List.range (fld b 0 2)).all fun k => zeroAt b (8 + 8 * k + 6) 2) = true) :=
  ⟨wCmd (wHealthy) 0x0103 0 (natLE 8 1 ++ natLE 8 1), 9, wRef, wCmdRec 0x0103 0 (natLE 8 1 ++ natLE 8 1), natLE 8 1 ++ natLE 8 1, [], by exact ⟨wAcc (by decide +kernel), by decide +kernel⟩⟩

theorem witness_SessionsOpenCloseAndReport_4 : ∃ (s : State) (t : Tick) (ref : RecRef) (r : Rec) (b i : Bytes) (w : State) (d : Bytes),
    let u := (s.begun t r b i).1
    (Accepted s t ref 0x0105 r b i) ∧
    (b.length = 32) ∧
    (u.laneAny .bigNumber = true) ∧
    (u.random 56 = some (w, d)) :=
  ⟨wCmd (wHealthy) 0x0105 0 (zeros 32), 9, wRef, wCmdRec 0x0105 0 (zeros 32), zeros 32, [], _, _, by exact ⟨wAcc (by decide +kernel), by decide +kernel, by decide +kernel, wSome _ (by decide +kernel)⟩⟩

theorem witness_SessionsOpenCloseAndReport_5 : ∃ (s : State) (t : Tick) (ref : RecRef) (r : Rec) (b i : Bytes),
    let u := (s.begun t r b i).1
    let offs := (List.range (fld b 0 2)).map fun k => fld b (8 + 4 * k) 4
    (Accepted s t ref 0x0104 r b i) ∧
    (0 < fld b 0 2) ∧
    (fld b 0 2 ≤ 64) ∧
    (b.length = 8 + 4 * fld b 0 2) ∧
    (zeroAt b 2 6 = true) ∧
    ((offs.any fun o => o % 4 != 0 || decide (0x400000 ≤ o)) = false) :=
  ⟨wCmd (wHealthy) 0x0104 0 (natLE 8 1 ++ natLE 4 4), 9, wRef, wCmdRec 0x0104 0 (natLE 8 1 ++ natLE 4 4), natLE 8 1 ++ natLE 4 4, [], by exact ⟨wAcc (by decide +kernel), by decide +kernel⟩⟩

end Sys2Proof.Tests
end

