-- ==== Sys2Proof/Tests/Slice0Twin.lean ====
section
/-! SUPPORT. Witnesses: states and operands that meet the hypotheses of the statements on the twin and its resynchronisation. -/

set_option autoImplicit false
set_option maxRecDepth 4000
set_option linter.unusedVariables false

namespace Sys2Proof.Tests

set_option Elab.async false

open Sys2Proof Sys2Proof.Machine

theorem witness_TheTwinTakesMirrorsAndAcknowledges_1 : ∃ (s : State) (t : Tick) (m : Msg) (l q : Nat) (o : Option OutcomeWire) (cs : List Change),
    let u := s.at t
    let v := u.took 0x0101 m
    let x := (cs.foldl State.mirrorApply v).mirrorOutcome o
    (u.mode ∉ [Mode.dormant, .boot, .recovery, .felled]) ∧
    (m.body = .mirrorPosting l q o cs) ∧
    (v.mirrorNext l q = true) ∧
    (v.twin.st = .paired) ∧
    (m.port = 0) ∧
    (m.reply = false) ∧
    (v.twin.applied.contains m.txn = false) :=
  ⟨wTwin { st := .paired }, 9, wMsg (.mirrorPosting 1 1 none []), 1, 1, none, [], by decide +kernel⟩

theorem witness_TheTwinTakesMirrorsAndAcknowledges_2 : ∃ (s : State) (t : Tick) (m : Msg) (l q : Nat) (o : Option OutcomeWire) (cs : List Change),
    let u := s.at t
    let v := u.took 0x0101 m
    (u.mode ∉ [Mode.dormant, .boot, .recovery, .felled]) ∧
    (m.body = .mirrorPosting l q o cs) ∧
    (v.mirrorNext l q = true) ∧
    (v.twin.st = .paired) ∧
    (m.port = 0) ∧
    (m.reply = false) ∧
    (v.twin.applied.contains m.txn = true) :=
  ⟨wTwin { st := .paired, applied := [7] }, 9, wMsg (.mirrorPosting 1 1 none []), 1, 1, none, [], by decide +kernel⟩

theorem witness_TheTwinTakesMirrorsAndAcknowledges_3 : ∃ (s : State) (t : Tick) (m : Msg) (n : Nat) (o : Option OutcomeWire) (cs : List Change),
    let u := s.at t
    let v := u.took 0x0103 m
    let x := ((cs.foldl State.mirrorApply v).mirrorOutcome o).countMove cs
    (u.mode ∉ [Mode.dormant, .boot, .recovery, .felled]) ∧
    (m.body = .cellarSync n o cs) ∧
    (v.twin.st = .paired) ∧
    (m.port = 0) ∧
    (m.reply = false) ∧
    (v.twin.applied.contains m.txn = false) :=
  ⟨wTwin { st := .paired }, 9, wMsg (.cellarSync 1 none []), 1, none, [], by decide +kernel⟩

theorem witness_TheTwinTakesMirrorsAndAcknowledges_4 : ∃ (s : State) (t : Tick) (m : Msg) (d : Decision),
    let u := s.at t
    let v := u.took 0x0109 m
    let x := v.apply (.decision d)
    (u.mode ∉ [Mode.dormant, .boot, .recovery, .felled]) ∧
    (m.body = .crossDecision d) ∧
    (v.twin.st = .paired) ∧
    (m.port = 0) ∧
    (m.reply = false) ∧
    (v.twin.applied.contains m.txn = false) :=
  ⟨wTwin { st := .paired }, 9, wMsg (.crossDecision ⟨1, [], 0, [], [], [], []⟩), ⟨1, [], 0, [], [], [], []⟩, by decide +kernel⟩

theorem witness_TheTwinTakesMirrorsAndAcknowledges_5 : ∃ (s : State) (t : Tick) (m : Msg) (i g k : Nat),
    let u := s.at t
    let v := u.took 0x0105 m
    (u.mode ∉ [Mode.dormant, .boot, .recovery, .felled]) ∧
    (m.body = .counterAdvance [(i, g, k)]) ∧
    (v.twin.st = .paired) ∧
    (m.port = 0) ∧
    (m.reply = false) ∧
    (v.twin.applied.contains m.txn = false) ∧
    ((v.slot i).generation = g) ∧
    ((v.slot i).state = .seasoned) :=
  ⟨{ wTwin { st := .paired } with cel := { slots := [(5, { state := .seasoned, generation := 2 })] } }, 9, wMsg (.counterAdvance [(5, 2, 3)]), 5, 2, 3, by decide +kernel⟩

theorem witness_TheTwinTakesMirrorsAndAcknowledges_6 : ∃ (s : State) (t : Tick) (m : Msg) (f : InFlight),
    let u := s.at t
    let v := u.took 0x0102 m
    (u.mode ∉ [Mode.dormant, .boot, .recovery, .felled]) ∧
    (m.port = 0) ∧
    (m.reply = true) ∧
    ((v.twin.flight.find? fun f => f.txn == m.txn && f.posting == true) = some f) ∧
    (governs m.stamp v.tick (f.last + v.flightWindow f) = true) :=
  ⟨wTwin { st := .paired, flight := [{ txn := 7, msg := .empty, posting := true }] }, 9, wReply .empty, { txn := 7, msg := .empty, posting := true }, by decide +kernel⟩

theorem witness_TheTwinTakesMirrorsAndAcknowledges_7 : ∃ (s : State) (t : Tick) (m : Msg),
    let u := s.at t
    let v := u.took 0x0102 m
    (u.mode ∉ [Mode.dormant, .boot, .recovery, .felled]) ∧
    (m.port = 0) ∧
    (m.reply = true) ∧
    ((v.twin.flight.find? fun f => f.txn == m.txn && f.posting == true) = none) :=
  ⟨wTwin { st := .paired }, 9, wReply .empty, by decide +kernel⟩

theorem witness_TheTwinTakesMirrorsAndAcknowledges_8 : ∃ (s : State) (t : Tick) (m : Msg) (f : InFlight),
    let u := s.at t
    let v := u.took 0x0104 m
    (u.mode ∉ [Mode.dormant, .boot, .recovery, .felled]) ∧
    (m.port = 0) ∧
    (m.reply = true) ∧
    ((v.twin.flight.find? fun f => f.txn == m.txn && f.posting == false) = some f) ∧
    (governs m.stamp v.tick (f.last + v.flightWindow f) = true) :=
  ⟨wTwin { st := .paired, flight := [{ txn := 7, msg := .empty }] }, 9, wReply .empty, { txn := 7, msg := .empty }, by decide +kernel⟩

theorem witness_TheTwinTakesMirrorsAndAcknowledges_9 : ∃ (s : State) (t : Tick) (n : Nat) (f : InFlight) (a b : Nat) (o : Option OutcomeWire) (cs : List Change),
    let u := s.at t
    ((u.twin.flight.find? fun f => f.txn == n && f.posting == true) = some f) ∧
    (f.msg = .mirrorPosting a b o cs) ∧
    (f.last + u.flightWindow f + 2 ≤ u.tick) :=
  ⟨wTwin { st := .paired, flight := [{ txn := 7, msg := .mirrorPosting 1 1 none [], posting := true }] }, 102, 7, { txn := 7, msg := .mirrorPosting 1 1 none [], posting := true }, 1, 1, none, [], by decide +kernel⟩

theorem witness_TheTwinTakesMirrorsAndAcknowledges_10 : ∃ (s : State) (t : Tick) (n : Nat) (f : InFlight) (b : Nat) (o : Option OutcomeWire) (cs : List Change),
    let u := s.at t
    (u.twin.resync = none) ∧
    ((u.twin.flight.find? fun f => f.txn == n && f.posting == false) = some f) ∧
    (f.msg = .cellarSync b o cs) ∧
    (f.last + u.flightWindow f + 2 ≤ u.tick) :=
  ⟨wTwin { st := .paired, flight := [{ txn := 7, msg := .cellarSync 1 none [] }] }, 102, 7, { txn := 7, msg := .cellarSync 1 none [] }, 1, none, [], by decide +kernel⟩

theorem witness_TheTwinTakesMirrorsAndAcknowledges_11 : ∃ (s : State) (t : Tick),
    let u := s.at t
    (u.twin.st = .paired) ∧
    (u.cel.advances ≠ []) :=
  ⟨{ wTwin { st := .paired } with cel := { advances := [(1, 1, 1)] } }, 9, by decide +kernel⟩

theorem witness_TheTwinTakesMirrorsAndAcknowledges_12 : ∃ (s : State) (t : Tick),
    let u := s.at t
    (u.twin.st = .paired) ∧
    (u.twin.batch ≠ []) :=
  ⟨wTwin { st := .paired, batch := [⟨1, 1, .ok, 0, false⟩] }, 9, by decide +kernel⟩

theorem witness_ThePairPartsAndResynchronises_1 : ∃ (s : State) (t : Tick),
    let u := s.at t
    (u.twin.st = .paired) ∧
    ((u.port 0).st ≠ .active) ∧
    ((u.port 0).st ≠ .retrain) ∧
    ((u.port 0).down + 10000 ≤ u.tick) :=
  ⟨{ wTwin { st := .paired } with ndl := {} }, 10000, by decide +kernel⟩

theorem witness_ThePairPartsAndResynchronises_2 : ∃ (s : State) (t : Tick) (f : InFlight) (l : List InFlight),
    let u := s.at t
    (u.twin.flight = f :: l) ∧
    (u.twin.st = .paired) ∧
    (f.first + 10000 + 2 ≤ u.tick) :=
  ⟨wTwin { st := .paired, flight := [{ txn := 7, msg := .empty }] }, 10002, { txn := 7, msg := .empty }, [], by decide +kernel⟩

theorem witness_ThePairPartsAndResynchronises_3 : ∃ (s : State) (t : Tick),
    let u := s.at t
    (u.twin.st = .pairing) ∧
    (u.twin.muster + 10000000 ≤ u.tick) ∧
    ((u.port 0).connect = 0) ∧
    ((u.port 0).connected = false) ∧
    (u.keel = true) :=
  ⟨{ wTwin { st := .pairing } with ndl := {}, otp := { serial := 9 } }, 10000000, by decide +kernel⟩

theorem witness_ThePairPartsAndResynchronises_4 : ∃ (s : State) (t : Tick),
    let u := s.at t
    (u.twin.st = .pairing) ∧
    (u.twin.muster + 10000000 ≤ u.tick) ∧
    ((u.port 0).connect = 0) ∧
    ((u.port 0).connected = false) ∧
    (u.keel = false) :=
  ⟨{ wTwin { st := .pairing } with ndl := {} }, 10000000, by decide +kernel⟩

theorem witness_ThePairPartsAndResynchronises_5 : ∃ (s : State) (t : Tick) (m : Msg) (ser keel e b : Nat) (st : TwinState) (mode : Mode),
    let u := s.at t
    let v := u.took 0x0108 m
    (u.mode ∉ [Mode.dormant, .boot, .recovery, .felled]) ∧
    (m.body = .twinState ser keel st mode false e b) ∧
    (m.port = 0) ∧
    (v.twin.st = .paired) ∧
    (keel = v.man.set.keelSerial) ∧
    (m.reply = true) ∧
    (v.twin.peerDetached = false) ∧
    (st ≠ .pairing) :=
  ⟨wTwin { st := .paired }, 9, wReply (.twinState 9 9 .paired .service false 0 1), 9, 9, 0, 1, .paired, .service, by decide +kernel⟩

theorem witness_ThePairPartsAndResynchronises_6 : ∃ (s : State) (t : Tick),
    let u := s.at t
    (u.resyncDue = true) ∧
    (u.isSource = true) :=
  ⟨wTwin { st := .loneKeel, peer := some .pairing }, 9, by decide +kernel⟩

theorem witness_ThePairPartsAndResynchronises_7 : ∃ (s : State) (t : Tick),
    let u := s.at t
    (u.resyncDue = true) ∧
    (u.isSource = false) :=
  ⟨wTwin { st := .pairing, peer := some .loneKeel }, 9, by decide +kernel⟩

theorem witness_ThePairPartsAndResynchronises_8 : ∃ (s : State) (t : Tick) (m : Msg) (p n : Nat) (cs : List Change) (x : Resync),
    let u := s.at t
    let v := u.took 0x0106 m
    let y := cs.foldl State.loadChange v
    (u.mode ∉ [Mode.dormant, .boot, .recovery, .felled]) ∧
    (m.body = .resyncBulk p false n cs) ∧
    (m.port = 0) ∧
    (m.reply = false) ∧
    (v.twin.applied.contains m.txn = false) ∧
    (v.twin.resync = some x) ∧
    (x.source = false) ∧
    (v.twin.st = .resync) :=
  ⟨wTwin { st := .resync, resync := some {} }, 9, wMsg (.resyncBulk 1 false 0 []), 1, 0, [], {}, by decide +kernel⟩

theorem witness_ThePairPartsAndResynchronises_9 : ∃ (s : State) (t : Tick) (m : Msg) (x : Resync),
    let u := s.at t
    let v := u.took 0x0107 m
    (u.mode ∉ [Mode.dormant, .boot, .recovery, .felled]) ∧
    (m.port = 0) ∧
    (m.reply = true) ∧
    (v.twin.resync = some x) ∧
    (x.source = true) ∧
    (m.txn = x.txn) ∧
    (governs m.stamp v.tick (x.sent + v.man.set.syncTimeout) = true) ∧
    (x.hold = none) :=
  ⟨wTwin { st := .loneKeel, resync := some { source := true, txn := 7 } }, 9, wReply (.resyncAck 0 false), { source := true, txn := 7 }, by decide +kernel⟩

theorem witness_ThePairPartsAndResynchronises_10 : ∃ (s : State) (t : Tick) (x : Resync),
    let u := s.at t
    (u.twin.resync = some x) ∧
    (x.start + 2000000 ≤ u.tick) ∧
    (x.source = false) :=
  ⟨wTwin { st := .resync, resync := some {} }, 2000000, {}, by decide +kernel⟩

theorem witness_ThePairPartsAndResynchronises_11 : ∃ (s : State) (t : Tick) (x : Resync) (h : Tick),
    let u := s.at t
    (u.twin.resync = some x) ∧
    (x.hold = some h) ∧
    (h + 5000 ≤ u.tick) ∧
    (x.source = true) :=
  ⟨wTwin { st := .loneKeel, resync := some { source := true, hold := some 9 } }, 5009, { source := true, hold := some 9 }, 9, by decide +kernel⟩

end Sys2Proof.Tests
end

