-- ==== Sys2Proof/Tests/Slice0TwinCommands.lean ====
section
/-! SUPPORT. Witnesses: states and operands that meet the hypotheses of the statements on twin and caravan commands. -/

set_option autoImplicit false
set_option maxRecDepth 4000
set_option linter.unusedVariables false

namespace Sys2Proof.Tests

set_option Elab.async false

open Sys2Proof Sys2Proof.Machine

theorem witness_TwinAndCaravanCommandsReportPartAndRepair_1 : ∃ (s : State) (t : Tick) (ref : RecRef) (r : Rec) (b i : Bytes),
    let u := (s.begun t r b i).1
    (Accepted s t ref 0x0901 r b i) ∧
    (u.memberBody b = true) :=
  ⟨wCmd (wTwin { st := .paired }) 0x0901 0 (zeros 8), 9, wRef, wCmdRec 0x0901 0 (zeros 8), zeros 8, [], by exact ⟨wAcc (by decide +kernel), by decide +kernel⟩⟩

theorem witness_TwinAndCaravanCommandsReportPartAndRepair_2 : ∃ (s : State) (t : Tick) (ref : RecRef) (r : Rec) (b i : Bytes) (run : Run),
    let u := (s.begun t r b i).1
    let v := u.finish run {}
    let w : State := { v with twin := { v.twin with detached := true, repair := false } }
    (Accepted s t ref 0x0902 r b i) ∧
    (u.memberBody b = true) ∧
    (u.twin.resync.isSome = false) ∧
    (u.twin.st = .paired) ∧
    ((u.running.find? fun x => x.record.ref == r.ref) = some run) :=
  ⟨wCmd (wTwin { st := .paired }) 0x0902 0 (zeros 8), 9, wRef, wCmdRec 0x0902 0 (zeros 8), zeros 8, [], _, by exact ⟨wAcc (by decide +kernel), by decide +kernel, by decide +kernel, by decide +kernel, (Option.some_get (by decide +kernel)).symm⟩⟩

theorem witness_TwinAndCaravanCommandsReportPartAndRepair_3 : ∃ (s : State) (t : Tick) (ref : RecRef) (r : Rec) (b i : Bytes),
    let u := (s.begun t r b i).1
    let v : State := { u with twin := { u.twin with detached := false, peerDetached := false, repair := true } }
    (Accepted s t ref 0x0903 r b i) ∧
    (u.memberBody b = true) ∧
    (u.twin.resync.isSome = false) ∧
    ((u.port 0).st = .active) ∧
    (u.twin.st ≠ .paired) :=
  ⟨wCmd (wTwin { st := .loneKeel }) 0x0903 0 (zeros 8), 9, wRef, wCmdRec 0x0903 0 (zeros 8), zeros 8, [], by exact ⟨wAcc (by decide +kernel), by decide +kernel⟩⟩

theorem witness_TwinAndCaravanCommandsReportPartAndRepair_4 : ∃ (s : State) (t : Tick) (ref : RecRef) (r : Rec) (b i : Bytes),
    let u := (s.begun t r b i).1
    (Accepted s t ref 0x0903 r b i) ∧
    (u.memberBody b = true) ∧
    (u.twin.resync.isSome = false) ∧
    ((u.port 0).st = .active) ∧
    (u.twin.st = .paired) :=
  ⟨wCmd (wTwin { st := .paired }) 0x0903 0 (zeros 8), 9, wRef, wCmdRec 0x0903 0 (zeros 8), zeros 8, [], by exact ⟨wAcc (by decide +kernel), by decide +kernel⟩⟩

theorem witness_TwinAndCaravanCommandsReportPartAndRepair_5 : ∃ (s : State) (t : Tick) (ref : RecRef) (r : Rec) (b i : Bytes),
    let u := (s.begun t r b i).1
    (Accepted s t ref 0x0904 r b i) ∧
    (b = []) :=
  ⟨wCmd (wMember {}) 0x0904 0 ([]), 9, wRef, wCmdRec 0x0904 0 ([]), [], [], by exact ⟨wAcc (by decide +kernel), by decide +kernel⟩⟩

end Sys2Proof.Tests
end

/-! # Scope: what State.reset holds, and what a reset and a loss of supply keep (R4, R59, R60, R514, R515, R528, R599) -/

section

namespace Sys2Proof.Machine

/-! ## Reads of the sparse maps at State.reset answer the default -/

@[simp] theorem reset_unit (d u : Nat) : State.reset.unit d u = .on := rfl
@[simp] theorem reset_floor (tenant : Nat) : State.reset.floor tenant = 0 := rfl
@[simp] theorem reset_port (n : Nat) : State.reset.port n = {} := rfl

/-- No bit of the life-cycle code is programmed. -/
@[simp] theorem reset_lcs0_getLsbD (b : Nat) : State.reset.otp.lcs0.getLsbD b = false := BitVec.getLsbD_zero

/-! ## A device reset, field by field (R60) -/

section DeviceReset

variable (s : State) (cause : BitVec 4)

@[simp] theorem deviceReset_tick : (s.deviceReset cause).tick = 0 := rfl
@[simp] theorem deviceReset_mode : (s.deviceReset cause).mode = .boot := rfl
@[simp] theorem deviceReset_bootStage : (s.deviceReset cause).bootStage = 1 := rfl
@[simp] theorem deviceReset_resetCause :
    (s.deviceReset cause).resetCause = cause ||| (if s.mode = .felled then 8 else 0) := rfl
@[simp] theorem deviceReset_recoveryReq : (s.deviceReset cause).recoveryReq = (cause == 4 && s.recoveryReq) := rfl
@[simp] theorem deviceReset_sysReset : (s.deviceReset cause).sysReset = s.sysReset := rfl
@[simp] theorem deviceReset_otp : (s.deviceReset cause).otp = s.otp := rfl
@[simp] theorem deviceReset_wake : (s.deviceReset cause).tmp.wake = s.tmp.wake := rfl
@[simp] theorem deviceReset_waiting : (s.deviceReset cause).waiting = [] := rfl
@[simp] theorem deviceReset_running : (s.deviceReset cause).running = [] := rfl
@[simp] theorem deviceReset_sessions : (s.deviceReset cause).sessions = [] := rfl
@[simp] theorem deviceReset_outcomes : (s.deviceReset cause).outcomes = [] := rfl

/-- Outside REPLAY, which restores the vault that it set aside, a reset keeps the vault. -/
theorem deviceReset_vault {s : State} (h : s.mode ≠ .replay) : (s.deviceReset cause).vault = s.vault := if_neg h

end DeviceReset

/-! ## The rows of resets and supplies, each on the state its tick finds -/

theorem exec_powerOnReset (t : Tick) (s : State) :
    exec (.powerOnReset t) s = .next { (s.at t).powerOn with pending := s.pending } := rfl
theorem exec_sysResetNAssert (t : Tick) (ns : Nat) (s : State) :
    exec (.sysResetNAssert t ns) s = .next { (s.at t).resetAssert ns with pending := s.pending } := rfl
theorem exec_sysResetNDeassert (t : Tick) (s : State) :
    exec (.sysResetNDeassert t) s = .next { (s.at t).resetDeassert with pending := s.pending } := rfl
theorem exec_mainPowerLoss (t : Tick) (s : State) :
    exec (.mainPowerLoss t) s = .next { (s.at t).mainLoss with pending := s.pending } := rfl
theorem exec_vbatLossInDormant (t : Tick) (s : State) :
    exec (.vbatLossInDormant t) s = .next { (s.at t).vbatLoss with pending := s.pending } := rfl
theorem exec_cellFitted (t : Tick) (s : State) :
    exec (.cellFitted t) s = .next { (s.at t).cellFitted with pending := s.pending } := rfl

/-! ## Which case of each operation runs -/

section Cases

variable {s : State}

/-- Unless SYS_RESET_N holds a DORMANT device back, a power-on reset is a device reset of cause 1. -/
theorem powerOn_eq_deviceReset (h : s.mode ≠ .dormant ∨ s.sysReset = false) :
    s.powerOn = ({ s with mainPower := true } : State).deviceReset 1 := by
  refine if_neg ?_
  rintro ⟨hres, hdor⟩
  rcases h with h | h
  · exact h hdor
  · simp [h] at hres

/-- An assertion of 10 us or more acts whatever the device's filter does with shorter ones. -/
theorem not_assertion_ignored {ns : Nat} (h : 10000 ≤ ns) : ¬ (ns < 1000 ∨ (ns < 10000 ∧ ¬ Config.resetActs ns)) := by
  omega

theorem resetAssert_eq_deviceReset {ns : Nat} (hns : 10000 ≤ ns) (hm : s.mode ≠ .dormant) (hb : s.otpBusy = false) :
    s.resetAssert ns = ({ s with sysReset := true } : State).deviceReset 2 := by
  unfold State.resetAssert
  rw [if_neg (not_assertion_ignored hns), if_neg hm, if_neg (by simp [hb])]

theorem resetAssert_eq_wait {ns : Nat} (hns : 10000 ≤ ns) (hm : s.mode ≠ .dormant) (hb : s.otpBusy = true) :
    s.resetAssert ns = { s with sysReset := true, resetDue := true } := by
  unfold State.resetAssert
  rw [if_neg (not_assertion_ignored hns), if_neg hm, if_pos hb]

/-- The end of an assertion that already reset the device restarts the tick. -/
theorem resetDeassert_eq (hr : s.sysReset = true) (hm : s.mode ≠ .dormant) (hd : s.resetDue = false) :
    s.resetDeassert = { s with sysReset := false, tick := 0 } := by
  unfold State.resetDeassert
  rw [if_neg (not_not_intro hr), if_neg hm, if_neg (by simp [hd])]

/-- With a cell whose voltage holds, a loss of main power is a device reset that ends in DORMANT. -/
theorem mainLoss_eq_dormant (hm : s.mode ≠ .dormant) (hv : s.vbat = true) (hc : s.tmp.condition.getLsbD 17 = false) :
    s.mainLoss = { s.deviceReset s.resetCause with mode := .dormant, bootStage := 0, mainPower := false } := by
  unfold State.mainLoss State.powerLoss
  rw [if_neg hm, if_pos ⟨hv, by rw [hc]; decide⟩, if_neg hm]

theorem vbatLoss_eq_batteryLost (hm : s.mode = .dormant) : s.vbatLoss = s.batteryLost := if_pos hm

theorem cellFitted_eq (hm : s.mode = .dormant) (hv : s.vbat = false) :
    s.cellFitted = { s.batteryLost with vbat := true } := if_pos ⟨hm, by simp [hv]⟩

end Cases

end Sys2Proof.Machine

end

section

open Sys2Proof Sys2Proof.Machine

/-- Settles O2: the fields of State.reset are its defaults, and a read of an empty map answers the default. -/
theorem resetLeavesBootStageOne : Obligations.ResetLeavesBootStageOne := by
  unfold Obligations.ResetLeavesBootStageOne
  exact ⟨rfl, rfl, rfl, rfl, rfl, rfl, reset_unit, rfl, rfl, rfl, rfl, rfl, rfl, rfl, rfl, rfl, reset_floor, rfl, rfl, rfl,
    rfl, rfl, fun p => congrArg Port.st (reset_port p), reset_lcs0_getLsbD, rfl, rfl⟩

/-- Settles O25: each row runs one case of its operation, and the fields are read off the device reset or off the loss of
the battery island in that case. -/
theorem resetsRestartTheTickAndKeepTheBatteryIsland : Obligations.ResetsRestartTheTickAndKeepTheBatteryIsland := by
  unfold Obligations.ResetsRestartTheTickAndKeepTheBatteryIsland
  refine ⟨?powerOn, ?assert, ?assertWaits, ?deassert, ?mainLoss, ?vbatLoss, ?cell⟩
  case powerOn =>
    intro s t u hstart hreplay
    refine ⟨_, exec_powerOnReset t s, ?_⟩
    rw [powerOn_eq_deviceReset hstart]
    have hkept : s.mode ≠ .replay := by simpa [u] using hreplay
    simp [deviceReset_vault, hkept, u]
  case assert =>
    intro s t ns u hns hdormant hreplay hbusy
    refine ⟨_, exec_sysResetNAssert t ns s, ?_⟩
    rw [resetAssert_eq_deviceReset hns hdormant hbusy]
    have hkept : s.mode ≠ .replay := by simpa [u] using hreplay
    simp [deviceReset_vault, hkept, u]
  case assertWaits =>
    intro s t ns u hns hdormant hbusy
    rw [exec_sysResetNAssert, resetAssert_eq_wait hns hdormant hbusy]
  case deassert =>
    intro s t u hreset hdormant hdue
    rw [exec_sysResetNDeassert, resetDeassert_eq hreset hdormant hdue]
  case mainLoss =>
    intro s t u hdormant hreplay hvbat hlow
    refine ⟨_, exec_mainPowerLoss t s, ?_⟩
    rw [mainLoss_eq_dormant hdormant hvbat hlow]
    have hkept : s.mode ≠ .replay := by simpa [u] using hreplay
    simp [deviceReset_vault, hkept, u]
  case vbatLoss =>
    intro s t u hdormant
    refine ⟨_, exec_vbatLossInDormant t s, ?_⟩
    rw [vbatLoss_eq_batteryLost hdormant]
    exact ⟨hdormant, rfl, rfl, rfl, rfl, rfl⟩
  case cell =>
    intro s t u hdormant hvbat
    refine ⟨_, exec_cellFitted t s, ?_⟩
    rw [cellFitted_eq hdormant hvbat]
    exact ⟨hdormant, rfl, rfl, rfl, rfl⟩

end

/-! # Lane jobs: dispatch, the reseed point, and the end of a job on each kind of lane (R253, R267 to R269, R277, R295, R386) -/

section

namespace Sys2Proof.Machine

/-! ## The rows of lane jobs, on a lane that the block has -/

section Rows

variable (t : Tick) (s : State) {l : Nat}

theorem exec_laneJobDispatch {k : LaneKind}
    (h : k = .cipher ∧ l ≤ 15 ∨ k = .digest ∧ l ≤ 7 ∨ k = .bigNumber ∧ l ≤ 31 ∨ k = .decimal ∧ l ≤ 3) :
    exec (.laneJobDispatch t k l) s = .next { (s.at t).dispatch k l with pending := s.pending } := if_pos h
theorem exec_maskReseedPoint (h : l ≤ 15) :
    exec (.maskReseedPoint t l) s = .next { (s.at t).reseedPoint l with pending := s.pending } := if_pos h
theorem exec_cipherJobDone (f : JobFault) (h : l ≤ 15) :
    exec (.cipherJobDone t l f) s = .next { (s.at t).cipherDone l f with pending := s.pending } := if_pos h
theorem exec_digestJobDone (f : JobFault) (h : l ≤ 7) :
    exec (.digestJobDone t l f) s = .next { (s.at t).digestDone l f with pending := s.pending } := if_pos h
theorem exec_bigNumberJobDone (f : JobFault) (d : Nat) (h : l ≤ 31) :
    exec (.bigNumberJobDone t l f d) s = .next { (s.at t).bigDone l f d with pending := s.pending } := if_pos h
theorem exec_decimalJobDone (f : JobFault) (h : l ≤ 3) :
    exec (.decimalJobDone t l f) s = .next { (s.at t).decimalDone l f with pending := s.pending } := if_pos h

end Rows

section Jobs

variable {s : State} {k : LaneKind} {l : Nat} {run : Run}

/-! ## Dispatch (R253) -/

/-- The oldest waiting job ends where no lane of its kind is in service. -/
theorem dispatch_eq_endJob (hrun : (s.running.find? fun r => r.stage == .lane k none) = some run)
    (hany : s.laneAny k = false) : s.dispatch k l = s.endJob run (fail .laneUnavailable) := by
  simp [State.dispatch, hrun, hany]

/-- The oldest waiting job starts on a lane that is on and idle. -/
theorem dispatch_eq_laneStart (hrun : (s.running.find? fun r => r.stage == .lane k none) = some run)
    (hany : s.laneAny k = true) (hl : l < Machine.laneCount k) (hon : s.laneOn k l = true)
    (hidle : s.laneIdle k l = true) : s.dispatch k l = s.laneStart run k l run.res := by
  simp [State.dispatch, hrun, hany, hl, hon, hidle]

/-- A digest or decimal job needs no draw: it only enters its lane. -/
theorem laneStart_eq_park (res : Result) (hk : k = .digest ∨ k = .decimal) :
    s.laneStart run k l res = s.park run (.lane k (some l)) res :=
  if_pos (hk.imp_right .inl)

/-! ## The reseed of a cipher lane (R268, R269, R329) -/

/-- A full reseed buffer gives the draw and is empty afterwards. -/
theorem laneDraw_cipher_of_full (hfull : s.rng.cipherBuf.getLsbD l = true) :
    s.laneDraw .cipher l =
      some { s with rng := { s.rng with cipherBuf := s.rng.cipherBuf &&& ~~~ BitVec.ofNat 16 (2 ^ l) } } :=
  if_pos hfull

/-- An empty buffer and a DRBG that is not healthy give no draw. -/
theorem laneDraw_cipher_eq_none (hempty : s.rng.cipherBuf.getLsbD l = false) (hst : s.rng.st ≠ .healthy) :
    s.laneDraw .cipher l = none := by
  simp [State.laneDraw, hempty, hst]

theorem reseedPoint_eq_self (hrun : s.laneRun .cipher l = some run) (hcycles : run.cycles ≤ 65536) :
    s.reseedPoint l = s := by
  simp [State.reseedPoint, hrun, hcycles]

theorem reseedPoint_of_draw {s' : State} (hrun : s.laneRun .cipher l = some run) (hcycles : 65536 < run.cycles)
    (hdraw : s.laneDraw .cipher l = some s') : s.reseedPoint l = s'.laneCount .cipher 0x008 := by
  simp [State.reseedPoint, hrun, Nat.not_le.mpr hcycles, hdraw]

theorem reseedPoint_of_noDraw (hrun : s.laneRun .cipher l = some run) (hcycles : 65536 < run.cycles)
    (hdraw : s.laneDraw .cipher l = none) :
    s.reseedPoint l = (s.laneCount .cipher 0x00C).endJob run (fail .entropyFailed) := by
  simp [State.reseedPoint, hrun, Nat.not_le.mpr hcycles, hdraw]

/-! ## What a fault inside a job hands on (R27, R30) -/

@[simp] theorem jobFault_none : s.jobFault k l run .none = (s, run.res) := rfl
theorem jobFault_waybill (g : Nat) :
    s.jobFault k l run (.waybill g) = (s.waybillFault k l g run.record.tenant, fail .waybillMismatch) := rfl

/-- Only a decimal lane counts its residue faults in a register of its own (R386). -/
theorem jobFault_residue (hk : k ≠ .decimal) :
    s.jobFault k l run .residue = (s.computeFault k l run.op run.record.tenant, fail .computeFault) := by
  simp [State.jobFault, hk]

/-! ## The end of the job that a lane runs -/

/-- A cipher job's end is counted whatever its fault, and before the fault's own effect (R267). -/
theorem cipherDone_eq {s' : State} {res : Result} {f : JobFault} (hrun : s.laneRun .cipher l = some run)
    (hfault : (s.laneCount .cipher 0x004).jobFault .cipher l run f = (s', res)) :
    s.cipherDone l f = s'.endJob run res := by
  simp [State.cipherDone, hrun, hfault]

/-- A digest job's end is counted where its result starts a finished context over (R277, Table 8-8). -/
theorem digestDone_eq {s' : State} {res : Result} {f : JobFault} (hrun : s.laneRun .digest l = some run)
    (hfault : s.jobFault .digest l run f = (s', res)) :
    s.digestDone l f = (if s'.restarts res then s'.laneCount .digest 0x004 else s').endJob run res := by
  simp [State.digestDone, hrun, hfault]

/-- A result that is not a success starts no context over. -/
theorem restarts_eq_false {res : Result} (h : res.status ≠ .ok) : s.restarts res = false := by
  simp [State.restarts, h]

/-- Without a fault, a big-number job's end counts the job, its wipe and the discarded candidates (R295, Table 9-10). That
they are counted at the end is deduced (entry 55). -/
theorem countBig_none (d : Nat) :
    s.countBig .none d =
      ((s.laneCount .bigNumber 0x010).laneCount .bigNumber 0x014).laneCountBy .bigNumber 0x020 d := by
  simp [State.countBig]

/-- A big-number job that generates no RSA key discards no candidate, whatever number its end carries. -/
theorem bigDone_none_eq (d : Nat) (hrun : s.laneRun .bigNumber l = some run) (hgen : isRsaGen run = false) :
    s.bigDone l .none d = (s.countBig .none 0).endJob run run.res := by
  simp [State.bigDone, hrun, hgen]

/-- A decimal job with a posting goes on to it once its end is counted (R386). -/
theorem decimalDone_none_eq {p : Posting} (hrun : s.laneRun .decimal l = some run) (hpost : run.res.post = some p) :
    s.decimalDone l .none = (s.laneCount .decimal 0x004).postEnd run p := by
  simp [State.decimalDone, hrun, hpost]

end Jobs

end Sys2Proof.Machine

end

section

open Sys2Proof Sys2Proof.Machine

/-- Settles O31: on a lane that the block has, each row runs its operation, and the clause's hypotheses choose one case of
that operation. -/
theorem laneJobsAreDispatchedAndEnd : Obligations.LaneJobsAreDispatchedAndEnd := by
  unfold Obligations.LaneJobsAreDispatchedAndEnd
  refine ⟨?noLane, ?start, ?early, ?reseed, ?noEntropy, ?cipher, ?waybill, ?digest, ?residue, ?bigNumber, ?decimal⟩
  case noLane =>
    intro s t l run u hl hrun hany
    rw [exec_laneJobDispatch t s (.inl ⟨rfl, hl⟩), dispatch_eq_endJob hrun hany]
  case start =>
    intro s t k l run u hlane hrun hany hl hon hidle
    refine ⟨?_, laneStart_eq_park run.res⟩
    rw [exec_laneJobDispatch t s hlane, dispatch_eq_laneStart hrun hany hl hon hidle]
  case early =>
    intro s t l run u hl hrun hcycles
    rw [exec_maskReseedPoint t s hl, reseedPoint_eq_self hrun hcycles]
  case reseed =>
    intro s t l run u hl hrun hcycles hfull
    rw [exec_maskReseedPoint t s hl, reseedPoint_of_draw hrun hcycles (laneDraw_cipher_of_full hfull)]
    rfl
  case noEntropy =>
    intro s t l run u hl hrun hcycles hempty hst
    rw [exec_maskReseedPoint t s hl, reseedPoint_of_noDraw hrun hcycles (laneDraw_cipher_eq_none hempty hst)]
  case cipher =>
    intro s t l run u hl hrun
    rw [exec_cipherJobDone t s .none hl, cipherDone_eq hrun jobFault_none]
  case waybill =>
    intro s t l g run u hl hrun
    rw [exec_cipherJobDone t s (.waybill g) hl, cipherDone_eq hrun (jobFault_waybill g)]
  case digest =>
    intro s t l run u hl hrun
    rw [exec_digestJobDone t s .none hl, digestDone_eq hrun jobFault_none]
  case residue =>
    intro s t l run u hl hrun
    have hstarts : (u.computeFault .digest l run.op run.record.tenant).restarts (fail .computeFault) = false :=
      restarts_eq_false (by decide)
    rw [exec_digestJobDone t s .residue hl, digestDone_eq hrun (jobFault_residue (by decide)), hstarts]
    rfl
  case bigNumber =>
    intro s t l d run u hl hrun hgen
    rw [exec_bigNumberJobDone t s .none d hl, bigDone_none_eq d hrun hgen, countBig_none]
  case decimal =>
    intro s t l run p u hl hrun hpost
    rw [exec_decimalJobDone t s .none hl, decimalDone_none_eq hrun hpost]

end

/-! # Scope: the JTAG port and the debug port outside DORMANT (R48, R50, R51, R605, Table 2-7) -/

section

namespace Sys2Proof.Machine

/-! ## The rows of the two ports, each on the state its tick finds -/

theorem exec_idcode (t : Tick) (s : State) :
    exec (.idcode t) s = .next { (s.at t).idcode with pending := s.pending } := rfl
theorem exec_samplePreload (t : Tick) (balls shift : Bytes) (s : State) :
    exec (.samplePreload t balls shift) s = .next { (s.at t).sample balls shift with pending := s.pending } := rfl
theorem exec_extest (t : Tick) (s : State) :
    exec (.extest t) s = .next { (s.at t).drive 0x03 with pending := s.pending } := rfl
theorem exec_clamp (t : Tick) (s : State) :
    exec (.clamp t) s = .next { (s.at t).drive 0x04 with pending := s.pending } := rfl
theorem exec_highz (t : Tick) (s : State) :
    exec (.highz t) s = .next { (s.at t).jtag 0x05 with pending := s.pending } := rfl
theorem exec_tapReset (t : Tick) (s : State) :
    exec (.tapReset t) s = .next { (s.at t).tapReset with pending := s.pending } := rfl
theorem exec_bypass (t : Tick) (code : Byte) (s : State) :
    exec (.bypass t code) s = .next { (s.at t).bypass code with pending := s.pending } := rfl
theorem exec_debugAccess (t : Tick) (code : Byte) (op : DebugOp) (s : State) :
    exec (.debugAccess t code op) s = .next { (s.at t).debugAccess code op with pending := s.pending } := rfl

/-! ## What the JTAG port does while main power is present -/

section Jtag

variable {s : State} (hm : s.mode ≠ .dormant)
include hm

theorem jtag_eq (code : Byte) : s.jtag code = { s with ports := { s.ports with instr := code } } := if_neg hm

theorem jtagOut_eq (code : Byte) (bits : Nat) :
    s.jtagOut code bits =
      { s with ports := { s.ports with instr := code }, sent := .jtag bits :: s.sent } := by
  rw [State.jtagOut, if_neg hm, jtag_eq hm, State.emit]

theorem idcode_eq :
    s.idcode = { s with ports := { s.ports with instr := 0x01 }, sent := .jtag 0x000646B7 :: s.sent } :=
  jtagOut_eq hm 0x01 _

theorem sample_eq (balls shift : Bytes) :
    s.sample balls shift =
      { s with
        ports := { s.ports with captured := balls, boundary := shift, instr := 0x02 }
        sent := .jtag (leNat balls) :: s.sent } :=
  (if_neg hm).trans
    (jtagOut_eq (s := { s with ports := { s.ports with captured := balls, boundary := shift } }) hm 0x02 _)

theorem drive_eq (code : Byte) :
    s.drive code =
      { s with ports := { s.ports with instr := code }, sent := .jtag (leNat s.ports.boundary) :: s.sent } :=
  jtagOut_eq hm code _

theorem tapReset_eq : s.tapReset = { s with ports := { s.ports with instr := 0x01 } } := jtag_eq hm 0x01

theorem bypass_eq {code : Byte} (hcode : s.takesBypass code = true) :
    s.bypass code = { s with ports := { s.ports with instr := 0xFF }, sent := .jtag 0 :: s.sent } := by
  rw [State.bypass, if_pos hcode, jtagOut_eq hm]

end Jtag

/-! ## Which case of a debug access runs -/

section Debug

variable {s : State} {code : Byte} {op : DebugOp} {core : Nat}

/-- The halt of a drover core needs right 0 (Table 2-7). -/
theorem debugNeeds_haltCore_drover (h : 4 ≤ core) : debugNeeds (.haltCore core) = 0 := if_neg (by omega)

theorem debugOp_haltCore (hcore : core < 20) (hon : s.unitOn (coreUnit core) 0 = true) :
    s.debugOp (.haltCore core) =
      { s with ports := { s.ports with halted := core :: s.ports.halted.filter (· != core) } } :=
  if_pos ⟨hcore, hon⟩

variable (hm : s.mode ≠ .dormant)
include hm

theorem debugAccess_of_right (hlo : 0x40 ≤ code.toNat) (hhi : code.toNat ≤ 0x4F)
    (hright : s.debugRight (debugNeeds op) = true) :
    s.debugAccess code op = ({ s with ports := { s.ports with instr := code } } : State).debugOp op := by
  rw [State.debugAccess, if_neg hm, if_pos ⟨hlo, hhi, hright⟩, jtag_eq hm]

/-- Without its right, an access of any code is BYPASS. -/
theorem debugAccess_of_no_right (hright : s.debugRight (debugNeeds op) = false) :
    s.debugAccess code op = { s with ports := { s.ports with instr := 0xFF }, sent := .jtag 0 :: s.sent } := by
  rw [State.debugAccess, if_neg hm, if_neg (by simp [hright]), jtagOut_eq hm]

end Debug

end Sys2Proof.Machine

end

section

open Sys2Proof Sys2Proof.Machine

/-- Settles O21: with main power present each row runs one case of its operation. The halt reads the unit's power, which
loading the instruction leaves as it was. -/
theorem theJtagAndDebugPortsActUnderTheirRights : Obligations.TheJtagAndDebugPortsActUnderTheirRights := by
  unfold Obligations.TheJtagAndDebugPortsActUnderTheirRights
  refine ⟨?instructions, ?bypass, ?halt, ?noRight⟩
  case instructions =>
    intro s t balls shift u hm
    refine ⟨?_, ?_, ?_, ?_, ?_, ?_⟩
    · rw [exec_idcode, idcode_eq hm]
    · rw [exec_samplePreload, sample_eq hm]
    · rw [exec_extest, drive_eq hm]
    · rw [exec_clamp, drive_eq hm]
    · rw [exec_highz, jtag_eq hm]
    · rw [exec_tapReset, tapReset_eq hm]
  case bypass =>
    intro s t code u hm hcode
    rw [exec_bypass, bypass_eq hm hcode]
  case halt =>
    intro s t code core u hm hlo hhi hdrover hcore hon hright
    have hneeds : u.debugRight (debugNeeds (.haltCore core)) = true := by rwa [debugNeeds_haltCore_drover hdrover]
    have hloaded : ({ u with ports := { u.ports with instr := code } } : State).unitOn (coreUnit core) 0 = true := hon
    rw [exec_debugAccess, debugAccess_of_right hm hlo hhi hneeds, debugOp_haltCore hcore hloaded]
  case noRight =>
    intro s t code op u hm hright
    rw [exec_debugAccess, debugAccess_of_no_right hm hright]

end

/-! # Scope: when no record starts (R44, R87, R113, R520, R547, Table 3-1) -/

section

namespace Sys2Proof.Machine

section Waits

variable {s : State} {ref : RecRef} (op : Nat) (body : Cmd → State → State × Did)

/-- Records start in four of the modes only (Table 3-1). -/
theorem opens_eq_false_of_mode (h : s.mode = .dormant ∨ s.mode = .boot ∨ s.mode = .drowse ∨ s.mode = .felled) :
    s.opens = false := by
  rcases h with h | h | h | h <;> simp [State.opens, h]

theorem opens_eq_false_of_barrier (h : s.barrier.isSome = true) : s.opens = false := by
  simp [State.opens, Option.ne_none_iff_isSome.mpr h]

theorem opens_eq_false_of_barrierQ (h : s.barrierQ.isEmpty = false) : s.opens = false := by
  simp [State.opens, h]

theorem opens_eq_false_of_severed (h : s.tmp.severed = true) : s.opens = false := by
  simp [State.opens, h]

/-- A command row whose record is not waiting does nothing. -/
theorem runCommand_of_not_waiting (h : (s.waiting.find? fun x => x.ref == ref) = none) :
    s.runCommand op body ref = s := by
  simp only [State.runCommand, h]

/-- A command row leaves every record waiting while none may start. -/
theorem runCommand_of_not_opens (h : s.opens = false) : s.runCommand op body ref = s := by
  unfold State.runCommand
  split
  · rfl
  · exact if_pos (.inr (by simp [State.startable, h]))

end Waits

end Sys2Proof.Machine

end

section

open Sys2Proof Sys2Proof.Machine

/-- Settles O6: every command row is `runCommand` of its opcode's meaning, which looks for the record named, and then asks
whether records start, before it changes anything. -/
theorem recordsWaitWhileNoneMayStart : Obligations.RecordsWaitWhileNoneMayStart := by
  unfold Obligations.RecordsWaitWhileNoneMayStart
  intro n row s t ref u hrow hok hwait
  obtain ⟨body, hrun⟩ := commandRows_run n row hrow
  have hidle : u.runCommand n body ref = u := by
    rcases hwait with h | h | h | h | h | h | h | h
    · exact runCommand_of_not_opens n body (opens_eq_false_of_mode (.inl h))
    · exact runCommand_of_not_opens n body (opens_eq_false_of_mode (.inr (.inl h)))
    · exact runCommand_of_not_opens n body (opens_eq_false_of_mode (.inr (.inr (.inl h))))
    · exact runCommand_of_not_opens n body (opens_eq_false_of_mode (.inr (.inr (.inr h))))
    · exact runCommand_of_not_opens n body (opens_eq_false_of_barrier h)
    · exact runCommand_of_not_opens n body (opens_eq_false_of_barrierQ h)
    · exact runCommand_of_not_opens n body (opens_eq_false_of_severed h)
    · exact runCommand_of_not_waiting n body h
  rw [hrun t ref s hok, act_next, hidle]

end

/-! # Scope: what the stages of BOOT leave unchanged, and the manifest floor (R59 to R78, R424, R495, Table 3-3) -/

section

namespace Sys2Proof.Machine

/-- What every step of a fold keeps, the fold keeps. -/
theorem foldl_keeps {α β : Type} (p : State → β) {f : State → α → State} (h : ∀ s a, p (f s a) = p s) (l : List α)
    (s : State) : p (l.foldl f s) = p s :=
  List.foldlRecOn (motive := fun x : State => p x = p s) l f rfl fun x hx a _ => (h x a).trans hx

/-! ## Operations that the stages share -/

section Shared

variable (s : State)

@[simp] theorem bootStop_pwr : s.bootStop.pwr = s.pwr := rfl
@[simp] theorem toStage_pwr (n : Nat) : (s.toStage n).pwr = s.pwr := by unfold State.toStage; split <;> rfl
@[simp] theorem eraseWarrant_pwr : s.eraseWarrant.pwr = s.pwr := rfl

@[simp] theorem enableAll_pwr : s.enableAll.pwr = s.pwr := by obtain ⟨_, _, _, h⟩ := enableAll_eq s; rw [h]
@[simp] theorem enableAll_vault : s.enableAll.vault = s.vault := by obtain ⟨_, _, _, h⟩ := enableAll_eq s; rw [h]
@[simp] theorem enableAll_man : s.enableAll.man = s.man := by obtain ⟨_, _, _, h⟩ := enableAll_eq s; rw [h]
@[simp] theorem capture_pwr (it : CaptureItem) : (s.capture it).pwr = s.pwr := by
  obtain ⟨_, _, _, _, _, h⟩ := capture_eq s it; rw [h]

@[simp] theorem enterRecovery_pwr (cause : Nat) : (s.enterRecovery cause).pwr = s.pwr := by
  simp [State.enterRecovery, apply_ite State.pwr]

@[simp] theorem takeRequest_pwr : s.takeRequest.pwr = s.pwr := enterRecovery_pwr _ 11

end Shared

/-! ## Stage 1: OTP_DECODE -/

@[simp] theorem logBoot_pwr (s : State) (bad : List Nat) : (s.logBoot bad).pwr = s.pwr := by
  unfold State.logBoot
  simp only [logEvent_pwr]
  split <;> rfl

theorem otpDecode_pwr (s : State) (bad : List Nat) : (s.otpDecode bad).pwr = s.pwr := by
  simp [State.otpDecode, apply_ite State.pwr]

/-! ## Stage 2: TALLY_CATCH_UP -/

@[simp] theorem tallyNow_pwr (s : State) (c : Nat) : (s.tallyNow c).pwr = s.pwr := by
  unfold State.tallyNow; split <;> rfl

theorem visitWake_pwr (s : State) (i : Nat) : (s.visitWake i).pwr = s.pwr := by
  unfold State.visitWake
  dsimp only
  split
  · rw [State.alarmEntry, logEvent_pwr, tallyNow_pwr]
  · exact tallyNow_pwr ..

theorem catchUp_pwr (s : State) : s.catchUp.pwr = s.pwr := by
  have hwake (l : List Nat) : (l.foldl State.visitWake s).pwr = s.pwr := foldl_keeps State.pwr visitWake_pwr l s
  have hoverflow (l : List Nat) (x : State) : (l.foldl (fun s _ => s.tallyNow 24) x).pwr = x.pwr :=
    foldl_keeps State.pwr (fun s _ => tallyNow_pwr s 24) l x
  simp [State.catchUp, apply_ite State.pwr, hwake, hoverflow]

/-! ## Stages 3 and 4: ENTROPY_START_UP -/

@[simp] theorem drbgFail_pwr (s : State) : s.drbgFail.pwr = s.pwr := by simp [State.drbgFail]

@[simp] theorem quarantine_pwr (s : State) (n : Nat) (apt count : Bool) : (s.quarantine n apt count).pwr = s.pwr := by
  simp [State.quarantine, apply_ite State.pwr]

@[simp] theorem draw_pwr (s : State) (n : Nat) : (s.draw n).1.pwr = s.pwr := by
  unfold State.draw
  repeat' split
  all_goals simp

@[simp] theorem recordEntropy_pwr (s : State) (n : Nat) : (s.recordEntropy n).pwr = s.pwr := by
  simp [State.recordEntropy]

@[simp] theorem seeded_pwr (s : State) : s.seeded.pwr = s.pwr := by simp [State.seeded]

theorem random_pwr {s : State} {n : Nat} {p : State × Bytes} (h : s.random n = some p) : p.1.pwr = s.pwr := by
  unfold State.random at h
  split at h
  · rw [← Option.some.inj h, draw_pwr]
    simp [apply_ite State.pwr]
  · cases h

theorem bootEntropy_pwr (s : State) (kat : Bool) (failed : List (Nat × Bool)) :
    (s.bootEntropy kat failed).1.pwr = s.pwr := by
  have hfailed (x : State) : (failed.foldl (fun s (n, apt) => s.quarantine n apt true) x).pwr = x.pwr :=
    foldl_keeps State.pwr (fun s ⟨n, apt⟩ => quarantine_pwr s n apt true) failed x
  simp [State.bootEntropy, apply_ite Prod.fst, apply_ite State.pwr, hfailed]

theorem bootDraws_pwr {s x : State} (h : s.bootDraws = some x) : x.pwr = s.pwr := by
  simp only [State.bootDraws, Option.bind_eq_some_iff, Option.map_eq_some_iff] at h
  obtain ⟨p1, h1, p2, h2, p3, h3, p4, h4, p5, h5, rfl⟩ := h
  calc p5.1.pwr = p4.1.pwr := random_pwr h5
    _ = p3.1.pwr := random_pwr h4
    _ = p2.1.pwr := random_pwr h3
    _ = p1.1.pwr := random_pwr h2
    _ = s.pwr := random_pwr h1

@[simp] theorem warrantWindow_pwr (s : State) : s.warrantWindow.pwr = s.pwr := by
  unfold State.warrantWindow
  split
  · rfl
  · simp [apply_ite State.pwr]

theorem entropyBoot_pwr (s : State) (kat : Bool) (failed : List (Nat × Bool)) :
    (s.entropyBoot kat failed).pwr = s.pwr := by
  have hentropy := bootEntropy_pwr s kat failed
  unfold State.entropyBoot
  split
  · rfl
  · dsimp only
    split
    next s1 heq => rw [heq] at hentropy; exact hentropy
    next s1 heq =>
      rw [heq] at hentropy
      split
      · exact hentropy
      next s2 hdraws => simpa [bootDraws_pwr hdraws] using hentropy

/-! ## Stage 5: the manifest header -/

theorem headerRead_pwr (s : State) (h : Bytes) (flash : Nat) : (s.headerRead h flash).pwr = s.pwr := by
  simp [State.headerRead, apply_ite State.pwr]

theorem flashTimeout_pwr (s : State) : s.flashTimeout.pwr = s.pwr := by
  simp [State.flashTimeout, apply_ite State.pwr]

/-! ## Stage 6: the settings -/

theorem clearFn_pwr (s : State) (fn : Nat) : (s.clearFn fn).pwr = s.pwr := by
  unfold State.clearFn
  obtain ⟨_, _, h⟩ := notRun_foldl_eq .abortedReset (s.waiting.filter (fromFn fn)) s
  rw [h]

@[simp] theorem hifReset_pwr (s : State) : s.hifReset.pwr = s.pwr := by
  have hfns (l : List Nat) : (l.foldl (fun s n => (s.squashFn n).clearFn n) s).pwr = s.pwr :=
    foldl_keeps State.pwr (fun s n => clearFn_pwr (s.squashFn n) n) l s
  simp [State.hifReset, hfns]

theorem settingsRead_pwr (s : State) (data : Bytes) : (s.settingsRead data).pwr = s.pwr := by
  unfold State.settingsRead
  dsimp only
  split
  · rfl
  · split
    · exact enterRecovery_pwr s 9
    · split
      · exact enterRecovery_pwr s 10
      · simp [apply_ite State.pwr]

/-! ## Stages 7 and 8: the firmware, and the device as BOOT leaves it -/

/-- Loading firmware writes memory. -/
theorem loadFirmware_foldl_eq (l : List ((Nat × Nat × Nat × Bytes) × Bytes)) (s : State) :
    ∃ m, l.foldl (fun s (x, b) => s.loadFirmware x.1 b) s = { s with mem := m } :=
  List.foldlRecOn (motive := fun x : State => ∃ m, x = { s with mem := m }) l _ ⟨s.mem, rfl⟩
    (by rintro _ ⟨m, rfl⟩ a _; exact ⟨_, rfl⟩)

/-- Writing POT entries changes the world tables and ends the poison of their words. -/
theorem setPot_foldl_eq (l : List Nat) (v : BitVec 16) (s : State) :
    ∃ p i, l.foldl (fun s k => s.setPot k v) s = { s with poison := p, iso := i } :=
  List.foldlRecOn (motive := fun x : State => ∃ p i, x = { s with poison := p, iso := i }) l _ ⟨s.poison, s.iso, rfl⟩
    (by rintro _ ⟨p, i, rfl⟩ a _; exact ⟨_, _, rfl⟩)

theorem potBoot_eq (s : State) : ∃ p i, s.potBoot = { s with poison := p, iso := i } := by
  obtain ⟨p, i, h⟩ := setPot_foldl_eq (((List.range 0x200).map (0x1000 + ·)) ++ ((List.range 0x100).map (0x2800 + ·)))
    0x0D00 s
  obtain ⟨p', i', h'⟩ := setPot_foldl_eq ((List.range 0x800).map (0x1200 + ·)) 0x0400 { s with poison := p, iso := i }
  exact ⟨p', i', by rw [State.potBoot, h, h']⟩

/-- Enabling the ports changes the link. -/
theorem enablePorts_eq (s : State) : ∃ n, s.enablePorts = { s with ndl := n } :=
  List.foldlRecOn (motive := fun x : State => ∃ n, x = { s with ndl := n }) (List.range 4)
    (fun s p => if s.portWanted p then s.setPort p { s.port p with enable := true, st := .down, detect := s.tick } else s)
    ⟨s.ndl, rfl⟩ (by
      rintro _ ⟨n, rfl⟩ p _
      dsimp only
      split
      · exact ⟨_, rfl⟩
      · exact ⟨n, rfl⟩)

/-- The device once its firmware is loaded: the measurement and version are noted, and the floor rises to a version above it
(R73, R74). -/
def State.firmwareLoaded (s : State) (data : List Bytes) : State :=
  let loaded : List ((Nat × Nat × Nat × Bytes) × Bytes) :=
    (firmware s.man.header data).filter fun (x, _) => x.1 == 1 || x.1 == (if s.life = .factory then 3 else 2)
  let s1 := loaded.foldl (fun s (x, b) => s.loadFirmware x.1 b) s
  let v := fld s.man.header 8 4
  let up := decide (s.vault.floor < v)
  { s1 with
    man := { s1.man with
      measure := measurement s.man.header, sectionsLoaded := loaded.length, version := v, floorRaised := up
      droverDigest := droverOf loaded }
    vault := if up then { s1.vault with floor := v } else s1.vault
    recoveryReq := false }

/-- At stage 7, sections that do not match enter RECOVERY; else the firmware is loaded, and stage 8 runs unless the device
is severed (R73, R78, R520). -/
theorem firmwareRead_eq {s : State} {data : List Bytes} (hstage : s.inStage 7 = true) :
    s.firmwareRead data =
      if (firmware s.man.header data).any fun (x, b) => sha384 b != x.2.2.2 || b.length != x.2.2.1 then s.enterRecovery 9
      else if s.tmp.severed then (s.firmwareLoaded data).bootStop
      else (s.firmwareLoaded data).potBoot.enablePorts.enableAll.bootDone :=
  if_neg (not_not_intro hstage)

section FirmwareLoaded

variable (s : State) (data : List Bytes)

theorem firmwareLoaded_pwr : (s.firmwareLoaded data).pwr = s.pwr := by
  unfold State.firmwareLoaded
  dsimp only
  obtain ⟨_, h⟩ := loadFirmware_foldl_eq _ s
  rw [h]

theorem firmwareLoaded_floorRaised :
    (s.firmwareLoaded data).man.floorRaised = decide (s.vault.floor < fld s.man.header 8 4) := rfl

theorem firmwareLoaded_vault : (s.firmwareLoaded data).vault =
    if s.vault.floor < fld s.man.header 8 4 then { s.vault with floor := fld s.man.header 8 4 } else s.vault := by
  unfold State.firmwareLoaded
  dsimp only
  obtain ⟨_, h⟩ := loadFirmware_foldl_eq _ s
  rw [h]
  simp only [decide_eq_true_eq]

end FirmwareLoaded

/-- Stage 8 keeps the power block, the vault and what is known of the manifest. -/
theorem bootEnd_keeps (s : State) : s.potBoot.enablePorts.enableAll.bootDone.pwr = s.pwr ∧
    s.potBoot.enablePorts.enableAll.bootDone.vault = s.vault ∧ s.potBoot.enablePorts.enableAll.bootDone.man = s.man := by
  obtain ⟨p, i, hpot⟩ := potBoot_eq s
  obtain ⟨n, hports⟩ := enablePorts_eq { s with poison := p, iso := i }
  simp [State.bootDone, hpot, hports]

theorem firmwareRead_pwr (s : State) (data : List Bytes) : (s.firmwareRead data).pwr = s.pwr := by
  by_cases hstage : s.inStage 7 = true
  · rw [firmwareRead_eq hstage]
    split
    · exact enterRecovery_pwr s 9
    · split
      · rw [bootStop_pwr, firmwareLoaded_pwr]
      · rw [(bootEnd_keeps _).1, firmwareLoaded_pwr]
  · rw [State.firmwareRead, if_pos hstage]

/-- Sections that match their digests take a device that is not severed to the end of BOOT. -/
theorem firmwareRead_of_match {s : State} {data : List Bytes} (hstage : s.inStage 7 = true)
    (hmatch : ((firmware s.man.header data).all fun p => sha384 p.2 == p.1.2.2.2 && p.2.length == p.1.2.2.1) = true)
    (hsevered : s.tmp.severed = false) :
    s.firmwareRead data = (s.firmwareLoaded data).potBoot.enablePorts.enableAll.bootDone := by
  have hgood : ¬ ((firmware s.man.header data).any fun (x, b) => sha384 b != x.2.2.2 || b.length != x.2.2.1) = true := by
    rw [List.any_eq_true]
    rintro ⟨p, hp, hbad⟩
    have hgood := List.all_eq_true.mp hmatch p hp
    simp only [Bool.and_eq_true, beq_iff_eq] at hgood
    simp [hgood] at hbad
  rw [firmwareRead_eq hstage, if_neg hgood, if_neg (by simp [hsevered])]

/-- A manifest accepted at stage 7 sets the vault's floor where its version lies above it (R74). -/
theorem firmwareRead_floor {s : State} {data : List Bytes} (hstage : s.inStage 7 = true)
    (hmatch : ((firmware s.man.header data).all fun p => sha384 p.2 == p.1.2.2.2 && p.2.length == p.1.2.2.1) = true)
    (hsevered : s.tmp.severed = false) :
    (s.firmwareRead data).vault =
      (if s.vault.floor < fld s.man.header 8 4 then { s.vault with floor := fld s.man.header 8 4 } else s.vault) ∧
    (s.firmwareRead data).man.floorRaised = decide (s.vault.floor < fld s.man.header 8 4) := by
  obtain ⟨-, hvault, hman⟩ := bootEnd_keeps (s.firmwareLoaded data)
  rw [firmwareRead_of_match hstage hmatch hsevered, hvault, hman, firmwareLoaded_vault, firmwareLoaded_floorRaised]
  exact ⟨rfl, rfl⟩

/-! ## A device reset turns every domain on (R60, R62) -/

@[simp] theorem deviceReset_pwr (s : State) (cause : BitVec 4) : (s.deviceReset cause).pwr = State.reset.pwr := rfl

theorem unit_of_reset_pwr {s : State} (h : s.pwr = State.reset.pwr) (d k : Nat) : s.unit d k = .on := by
  rw [State.unit, h]
  rfl

/-! ## The rows of the stages, each on the state its tick finds -/

section Rows

variable (t : Tick) (s : State)

theorem exec_otpDecode (bad : List Nat) :
    exec (.otpDecode t bad) s = .next { (s.at t).otpDecode bad with pending := s.pending } := rfl
theorem exec_tallyCatchUp :
    exec (.tallyCatchUp t) s = .next { (s.at t).catchUp with pending := s.pending } := rfl
theorem exec_entropyStartUp (kat : Bool) (failed : List (Nat × Bool)) :
    exec (.entropyStartUp t kat failed) s = .next { (s.at t).entropyBoot kat failed with pending := s.pending } := rfl
theorem exec_manifestHeaderRead (h : Bytes) (size : Nat) :
    exec (.manifestHeaderRead t h size) s = .next { (s.at t).headerRead h size with pending := s.pending } := rfl
theorem exec_flashIdentificationTimeout :
    exec (.flashIdentificationTimeout t) s = .next { (s.at t).flashTimeout with pending := s.pending } := rfl
theorem exec_settingsSectionRead (data : Bytes) :
    exec (.settingsSectionRead t data) s = .next { (s.at t).settingsRead data with pending := s.pending } := rfl
theorem exec_firmwareSectionsRead (data : List Bytes) :
    exec (.firmwareSectionsRead t data) s = .next { (s.at t).firmwareRead data with pending := s.pending } := rfl

end Rows

end Sys2Proof.Machine

end

section

open Sys2Proof Sys2Proof.Machine

/-- Settles O9: each cause is a device reset, which starts from the reset state's power block; each row of a stage runs one
operation, and each operation keeps the block. -/
theorem everyDomainStartsOnAndBootChangesNone : Obligations.EveryDomainStartsOnAndBootChangesNone := by
  unfold Obligations.EveryDomainStartsOnAndBootChangesNone
  refine ⟨?powerOn, ?assert, ?stages⟩
  case powerOn =>
    intro s t d k u hstart
    refine ⟨_, exec_powerOnReset t s, ?_⟩
    rw [powerOn_eq_deviceReset hstart]
    exact unit_of_reset_pwr (deviceReset_pwr { u with mainPower := true } 1) d k
  case assert =>
    intro s t ns d k u hns hdormant hbusy
    refine ⟨_, exec_sysResetNAssert t ns s, ?_⟩
    rw [resetAssert_eq_deviceReset hns hdormant hbusy]
    exact unit_of_reset_pwr (deviceReset_pwr { u with sysReset := true } 2) d k
  case stages =>
    intro s t bad kat failed h data size fw i u hi _
    simp only [List.mem_cons, List.not_mem_nil, or_false] at hi
    rcases hi with rfl | rfl | rfl | rfl | rfl | rfl | rfl
    · exact ⟨_, exec_otpDecode t s bad, otpDecode_pwr u bad⟩
    · exact ⟨_, exec_tallyCatchUp t s, catchUp_pwr u⟩
    · exact ⟨_, exec_entropyStartUp t s kat failed, entropyBoot_pwr u kat failed⟩
    · exact ⟨_, exec_manifestHeaderRead t s h size, headerRead_pwr u h size⟩
    · exact ⟨_, exec_flashIdentificationTimeout t s, flashTimeout_pwr u⟩
    · exact ⟨_, exec_settingsSectionRead t s data, settingsRead_pwr u data⟩
    · exact ⟨_, exec_firmwareSectionsRead t s fw, firmwareRead_pwr u fw⟩

/-- Settles O10: the floor and floor_raised are set with the firmware's loading, and stage 8 keeps both. -/
theorem theManifestFloorRises : Obligations.TheManifestFloorRises := by
  unfold Obligations.TheManifestFloorRises
  refine ⟨?above, ?atMost⟩
  case above =>
    intro s t data u hstage hmatch hsevered habove
    obtain ⟨hvault, hraised⟩ := firmwareRead_floor hstage hmatch hsevered
    rw [if_pos habove] at hvault
    exact ⟨_, exec_firmwareSectionsRead t s data, congrArg Vault.floor hvault, hraised.trans (decide_eq_true habove)⟩
  case atMost =>
    intro s t data u hstage hmatch hsevered hbelow
    obtain ⟨hvault, hraised⟩ := firmwareRead_floor hstage hmatch hsevered
    rw [if_neg (Nat.not_lt.mpr hbelow)] at hvault
    exact ⟨_, exec_firmwareSectionsRead t s data, congrArg Vault.floor hvault,
      hraised.trans (decide_eq_false (Nat.not_lt.mpr hbelow))⟩

end

/-! # Scope: the recovery session's commands (R80 to R85, R608, Table 3-10) -/

section

namespace Sys2Proof.Machine

/-! ## The rows, on a record that names a queue pair that exists -/

section Rows

variable (t : Tick) {ref : RecRef} (s : State) (h : ref.ok = true)
include h

theorem exec_recoveryBegin :
    exec (.recoveryBegin t ref) s = s.act t fun u => u.runCommand 0x0110 recoveryBegin ref := if_pos h
theorem exec_recoveryWrite :
    exec (.recoveryWrite t ref) s = s.act t fun u => u.runCommand 0x0111 recoveryWrite ref := if_pos h
theorem exec_recoveryCommit (readBack : Bool) :
    exec (.recoveryCommit t ref readBack) s = s.act t fun u => u.runCommand 0x0112 (recoveryCommit readBack) ref := if_pos h
theorem exec_recoveryExit :
    exec (.recoveryExit t ref) s = s.act t fun u => u.runCommand 0x0113 recoveryExit ref := if_pos h

end Rows

section Meanings

variable {s v : State} {c : Cmd} {x : RecoverySession}

/-! ## RECOVERY_BEGIN (R82) -/

/-- A header that passes every check opens a session, with its slots classed as current or next. -/
theorem recoveryBegin_eq {n : List Bool} (hlen : c.body.length = 2048) (hformat : headerFormat c.body s.life (2 ^ 26) = true)
    (hsigned : s.headerSigned c.body = true) (hfloor : s.vault.floor ≤ fld c.body 8 4)
    (hdevice : fld c.body 0x10 8 = 0 ∨ fld c.body 0x10 8 = s.otp.serial)
    (hstate : (BitVec.ofNat 8 (fld c.body 0xC 1)).getLsbD (lifeCode s.life) = true) (hslots : s.slotClasses c.body = .ok n) :
    recoveryBegin c s = ({ s with man := { s.man with session := some { header := c.body, next := n } } }, .done {}) := by
  have hfits : ¬ ((fld c.body 0x10 8 ≠ 0 ∧ fld c.body 0x10 8 ≠ s.otp.serial) ∨
      ¬ (BitVec.ofNat 8 (fld c.body 0xC 1)).getLsbD (lifeCode s.life) = true) := by
    rintro (⟨hany, hself⟩ | hno)
    · exact hdevice.elim hany hself
    · exact hno hstate
  unfold recoveryBegin
  simp only [ne_eq]
  rw [if_neg (not_not_intro hlen), if_neg (not_not_intro hformat), if_neg (not_not_intro hsigned),
    if_neg (Nat.not_lt.mpr hfloor), if_neg hfits, hslots]

/-! ## RECOVERY_WRITE (R83) -/

/-- Data of a right length that continues section `k` is appended to it and written to flash. -/
theorem recoveryWrite_eq {k : Nat} (hlen : c.body.length = 8) (hzero : zeroAt c.body 4 4 = true)
    (hmin : 1024 ≤ c.input.length) (hmax : c.input.length ≤ 65536) (hsession : s.man.session = some x)
    (hsection : ((List.range (fld x.header 6 2)).find? fun n =>
        decide (((sections x.header).getD n (0, 0, 0, [])).2.1 ≤ fld c.body 0 4) &&
        decide (fld c.body 0 4 + c.input.length ≤
          ((sections x.header).getD n (0, 0, 0, [])).2.1 + ((sections x.header).getD n (0, 0, 0, [])).2.2.1) &&
        fld c.body 0 4 == ((sections x.header).getD n (0, 0, 0, [])).2.1 + (mapGet [] x.written n).length) = some k) :
    recoveryWrite c s = (({ s with man := { s.man with session := some { x with
        written := mapSet x.written k (mapGet [] x.written k ++ c.input) } } } : State).emit
          (.flash (fld c.body 0 4) c.input), .done {}) := by
  have hform : ¬ (c.body.length ≠ 8 ∨ ¬ zeroAt c.body 4 4 = true ∨ c.input.length < 1024 ∨ 65536 < c.input.length) := by
    simp [hlen, hzero, hmin, hmax]
  unfold recoveryWrite
  simp only [if_neg hform, hsession, hsection]

/-! ## RECOVERY_COMMIT (R84, R85) -/

/-- The state once the slots of session `x` are programmed and its header is written to flash: the slots programmed are
current from then on (R85). -/
def State.recoveryWritten (s : State) (x : RecoverySession) : State :=
  let w := s.programSlots x
  (({ w with man := { w.man with session := some { x with next := [false, false, false] } } } : State).emit
    (.flashErase 0)).emit (.flash 0 x.header)

section Commit

variable (hbody : c.body = []) (hsession : s.man.session = some x) (hcomplete : x.complete = true)
  (hquorum : (if s.commitQuorum then s.quorumUse 0 purposeRecovery else (s, none)) = (v, none))
include hbody hsession hcomplete hquorum

/-- A complete session, with its quorum where one is asked for, is written out; then the header's read-back decides. -/
theorem recoveryCommit_true_eq :
    recoveryCommit true c s = ((v.recoveryWritten x).logEvent 0x0008 .notice islWarden 0x100 .ok
      [fld x.header 8 4, (x.next.zipIdx.map fun (b, i) => if b then 2 ^ i else 0).sum], .reset {}) := by
  simp [recoveryCommit, hbody, hsession, hcomplete, hquorum, State.recoveryWritten]

theorem recoveryCommit_false_eq :
    recoveryCommit false c s = (v.recoveryWritten x, .done (fail .manifestDigest)) := by
  simp [recoveryCommit, hbody, hsession, hcomplete, hquorum, State.recoveryWritten]

end Commit

/-! ## RECOVERY_EXIT (Table 3-10) -/

theorem recoveryExit_eq (hbody : c.body = []) :
    recoveryExit c s = ({ s with man := { s.man with session := none } }, .reset {}) :=
  if_neg (not_not_intro hbody)

end Meanings

end Sys2Proof.Machine

end

section

open Sys2Proof Sys2Proof.Machine

/-- Settles O45: each row is an accepted command, so its opcode's meaning runs on the begun state; the clause's hypotheses
pass every check of that meaning. -/
theorem recoveryWritesAndCommitsANewManifest : Obligations.RecoveryWritesAndCommitsANewManifest := by
  unfold Obligations.RecoveryWritesAndCommitsANewManifest
  refine ⟨?begin, ?write, ?commit, ?mismatch, ?exit⟩
  case begin =>
    intro s t ref r b i n u hacc hlen hformat hsigned hfloor hdevice hstate hslots
    rw [exec_recoveryBegin t s hacc.named]
    exact runCommand_accepted hacc _ _ _ (recoveryBegin_eq hlen hformat hsigned hfloor hdevice hstate hslots)
  case write =>
    intro s t ref r b i x k u hacc hlen hzero hmin hmax hsession hsection
    rw [exec_recoveryWrite t s hacc.named]
    exact runCommand_accepted hacc _ _ _ (recoveryWrite_eq hlen hzero hmin hmax hsession hsection)
  case commit =>
    intro s t ref r b i x v u w z hacc hbody hsession hcomplete hquorum
    rw [exec_recoveryCommit t s hacc.named]
    exact runCommand_accepted hacc _ _ _ (recoveryCommit_true_eq hbody hsession hcomplete hquorum)
  case mismatch =>
    intro s t ref r b i x v u w hacc hbody hsession hcomplete hquorum
    rw [exec_recoveryCommit t s hacc.named]
    exact runCommand_accepted hacc _ _ _ (recoveryCommit_false_eq hbody hsession hcomplete hquorum)
  case exit =>
    intro s t ref r b i u hacc hbody
    rw [exec_recoveryExit t s hacc.named]
    exact runCommand_accepted hacc _ _ _ (recoveryExit_eq hbody)

end

/-! # Scope: configuration requests and rejected transactions (R71, R95, R114, R129, R130, Table 4-10, Table 20-9) -/

section

namespace Sys2Proof.Machine

/-! ## The rows, on a function that exists -/

section Rows

variable (t : Tick) {fn : Nat} (s : State) (h : fn ≤ 255)
include h

theorem exec_configurationRequest (c : CfgReq) :
    exec (.configurationRequest t fn c) s = .next { (s.at t).configure fn c with pending := s.pending } := if_pos h
theorem exec_bar0MisalignedAccess (write : Bool) :
    exec (.bar0MisalignedAccess t fn write) s = .next { (s.at t).misaligned fn write with pending := s.pending } := if_pos h
theorem exec_poisonedWrite :
    exec (.poisonedWrite t fn) s = .next { (s.at t).badTlp fn with pending := s.pending } := if_pos h
theorem exec_ecrcFailure :
    exec (.ecrcFailure t fn) s = .next { (s.at t).badTlp fn with pending := s.pending } := if_pos h

end Rows

/-! ## Configuration requests -/

section Configure

variable {s : State} {fn : Nat}

/-- Before the release every request gets Configuration Request Retry Status (R71). -/
theorem configure_of_not_released (c : CfgReq) (h : s.host.released = false) :
    s.configure fn c = s.emit (.config fn true) := if_pos (by simp [h])

variable (h : s.host.released = true)
include h

theorem configure_read : s.configure fn .read = s.emit (.config fn false) := if_neg (not_not_intro h)

theorem configure_completionTimeout (us : Nat) :
    s.configure fn (.completionTimeout us) = { s.emit (.config fn false) with
      host := { s.host with cplTimeout := mapPut 50000 s.host.cplTimeout fn us } } := if_neg (not_not_intro h)

theorem configure_relaxedOrdering (on : Bool) :
    s.configure fn (.relaxedOrdering on) = { s.emit (.config fn false) with
      host := { s.host with relaxed := mapPut false s.host.relaxed fn on } } := if_neg (not_not_intro h)

end Configure

/-! ## A misaligned access of BAR0 (R95, Table 20-9) -/

section Misaligned

variable (s : State) (fn : Nat)

theorem misaligned_read :
    s.misaligned fn false = { s.emit (.abort fn) with
      host := { s.host with barRefusals := sat32 s.host.barRefusals } } := rfl

theorem misaligned_write :
    s.misaligned fn true =
      ({ s with host := { s.host with barRefusals := sat32 s.host.barRefusals } } : State).logEvent
        0x0104 .warn islHost fn .ok [fn] := rfl

end Misaligned

end Sys2Proof.Machine

end

section

open Sys2Proof Sys2Proof.Machine

/-- Settles O17: on a function that exists each row runs its operation, and the release and the kind of the request choose
one case of it. -/
theorem configurationRequestsAndRejectedTransactions : Obligations.ConfigurationRequestsAndRejectedTransactions := by
  unfold Obligations.ConfigurationRequestsAndRejectedTransactions
  refine ⟨?retry, ?read, ?timeout, ?relaxed, ?rejected⟩
  case retry =>
    intro s t fn c u hfn hheld
    rw [exec_configurationRequest t s hfn, configure_of_not_released c hheld]
  case read =>
    intro s t fn u hfn hreleased
    rw [exec_configurationRequest t s hfn, configure_read hreleased]
  case timeout =>
    intro s t fn us u hfn hreleased
    rw [exec_configurationRequest t s hfn, configure_completionTimeout hreleased]
  case relaxed =>
    intro s t fn on u hfn hreleased
    rw [exec_configurationRequest t s hfn, configure_relaxedOrdering hreleased]
  case rejected =>
    intro s t fn u hfn
    refine ⟨?_, ?_, ?_, ?_⟩
    · rw [exec_bar0MisalignedAccess t s hfn, misaligned_read]
    · rw [exec_bar0MisalignedAccess t s hfn, misaligned_write]
    · rw [exec_poisonedWrite t s hfn, State.badTlp]
    · rw [exec_ecrcFailure t s hfn, State.badTlp]

end

/-! # Scope: barriers from start to end or timeout, and what else waits for an end: the base copy, the severed drain,
training, replay and the log's freeze (R87, R88, R148, R401, R520, R539, R547, R554) -/

section

namespace Sys2Proof.Machine

/-! ## The rows, each on the state its tick finds -/

theorem exec_barrierStart (t : Tick) (s : State) :
    exec (.barrierStart t) s = .next { (s.at t).barrierStart with pending := s.pending } := rfl
theorem exec_barrierAck (t : Tick) {island : Nat} (stamp : Tick) (s : State) (h : island ≤ 12) :
    exec (.barrierAck t island stamp) s = .next { (s.at t).barrierAck island stamp with pending := s.pending } := if_pos h
theorem exec_barrierTimeout (t : Tick) (s : State) :
    exec (.barrierTimeout t) s = .next { (s.at t).barrierTimeout with pending := s.pending } := rfl
theorem exec_captureBaseCopyDone (t : Tick) (s : State) :
    exec (.captureBaseCopyDone t) s = .next { (s.at t).baseDone with pending := s.pending } := rfl
theorem exec_severDrainDone (t : Tick) (s : State) :
    exec (.severDrainDone t) s = .next { (s.at t).severDrain with pending := s.pending } := rfl
theorem exec_sdramTrainingDone (t : Tick) (ch0 ch1 mismatch : Bool) (config : Word32) (s : State) :
    exec (.sdramTrainingDone t ch0 ch1 mismatch config) s =
      .next { (s.at t).sdramDone ch0 ch1 mismatch config with pending := s.pending } := rfl
theorem exec_replayRecord (t : Tick) (s : State) :
    exec (.replayRecord t) s = .next { (s.at t).replayNext with pending := s.pending } := rfl
theorem exec_logFreezeWindowClose (t : Tick) (s : State) :
    exec (.logFreezeWindowClose t) s = .next { (s.at t).freezeClose with pending := s.pending } := rfl

section Barriers

variable {s : State} {b : Barrier}

/-! ## The start of a barrier (R87 steps 1 and 2) -/

theorem nextBarrier_of_legal (bs : List Barrier) (h : barrierLegal s.life s.mode b.target = true) :
    State.nextBarrier (b :: bs) s = ({ s with barrierQ := bs } : State).startBarrier b := if_pos h

/-- While none pends, the legal barrier at the front of the queue starts; the others keep waiting. -/
theorem barrierStart_eq {bs : List Barrier} (hnone : s.barrier = none) (hqueue : s.barrierQ = b :: bs)
    (hlegal : barrierLegal s.life s.mode b.target = true) :
    s.barrierStart = { s with
      barrierQ := bs
      barrier := some { b with request := s.tick, acks := (List.range 13).filter fun i => !s.islandOn i } } := by
  have hidle : ¬ s.barrier.isSome = true := by simp [hnone]
  rw [State.barrierStart, if_neg hidle, hqueue, nextBarrier_of_legal bs hlegal]
  rfl

/-! ## Acknowledgements (R87 step 2, R148) -/

theorem barrierAck_of_no_barrier (i : Nat) (stamp : Tick) (hnone : s.barrier = none) :
    s.barrierAck i stamp = { s with late := mapInc s.late islAlways 0xFFFFFFFF } := by
  simp only [State.barrierAck, hnone, State.lateDiscard]

/-- The acknowledgement of an idle island governs within the window; while others are to come it is only noted. -/
theorem barrierAck_of_not_last {i : Nat} {stamp : Tick} (hbarrier : s.barrier = some b)
    (hgoverns : governs stamp s.tick (b.request + 100000) = true) (hidle : s.islandBusy i = false)
    (hmore : ((List.range 13).all (i :: b.acks.filter (· != i)).contains) = false) :
    s.barrierAck i stamp = { s with
      barrier := some { b with acks := i :: b.acks.filter (· != i) }
      rsw := { s.rsw with paused := s.rsw.paused || (s.rsw.active && i == islMemory) } } := by
  have hwaits : ¬ ((List.range 13).all (i :: b.acks.filter (· != i)).contains) = true := by simp only [hmore]; decide
  simp only [State.barrierAck, hbarrier, if_neg (not_not_intro hgoverns), hidle, if_neg hwaits]
  rfl

/-! ## The end of the window (R88) -/

/-- A barrier whose window has closed is gone, with SYSTEM cause 1 raised, and the resaw engine goes on. -/
def State.barrierAbandoned (s : State) : State :=
  (({ s with barrier := none } : State).raise .system 1).resumeResaw

theorem barrierAbandoned_running (s : State) : s.barrierAbandoned.running = s.running :=
  raise_running { s with barrier := none } .system 1

section Timeout

variable (hbarrier : s.barrier = some b) (hclosed : b.request + 100000 + 2 ≤ s.tick)
include hbarrier hclosed

theorem barrierTimeout_of_command {r : RecRef} {run : Run} (hcause : b.cause = .command r)
    (hrun : (s.running.find? fun x => x.record.ref == r) = some run) :
    s.barrierTimeout = s.barrierAbandoned.finish run (fail .busy) := by
  have hfound : (s.barrierAbandoned.running.find? fun x => x.record.ref == r) = some run := by
    rwa [barrierAbandoned_running]
  unfold State.barrierAbandoned at hfound
  simp only [State.barrierTimeout, hbarrier, if_neg (Nat.not_lt.mpr hclosed), hcause, hfound, State.barrierAbandoned]

theorem barrierTimeout_of_following (hcause : b.cause = .following) : s.barrierTimeout = s.barrierAbandoned := by
  simp only [State.barrierTimeout, hbarrier, if_neg (Nat.not_lt.mpr hclosed), hcause, State.barrierAbandoned]

end Timeout

end Barriers

section Ends

variable {s : State}

/-! ## The base copy of a capture (R547) -/

/-- The base is recorded and the capture runs, empty. -/
def State.captureBegun (s : State) : State :=
  { s with
    base := some s.copyBase
    rpl := { s.rpl with capturing := true, captured := false, full := false, records := 0, bytes := 0, spilled := false,
                        items := [], index := none } }

theorem baseDone_eq {run : Run} (hrun : s.running = [run]) (hstage : run.stage = .base) :
    s.baseDone = ((s.captureBegun.logEvent 0x0802 .notice islHost 0x100 .ok []).captureTwin).finish run {} := by
  simp only [State.baseDone, hrun, if_neg (not_not_intro hstage), State.captureBegun]

/-! ## The drain of a severed device (R520 step 4) -/

theorem severDrain_fields (hsevered : s.tmp.severed = true) (hdrained : s.tmp.drained = false) (hrun : s.running = [])
    (hfelled : s.mode ≠ .felled) (hdormant : s.mode ≠ .dormant) :
    s.severDrain.tmp.drained = true ∧ s.severDrain.rsw.paused = s.severDrain.rsw.active := by
  have hdrains : ¬ (¬ s.tmp.severed = true ∨ s.tmp.drained = true ∨ s.running ≠ [] ∨ s.mode = .felled ∨ s.mode = .dormant) := by
    simp [hsevered, hdrained, hrun, hfelled, hdormant]
  rw [State.severDrain, if_neg hdrains]
  exact ⟨rfl, rfl⟩

/-! ## The end of SDRAM training (R401) -/

section Training

variable {ch0 ch1 mismatch : Bool} (config : Word32)

theorem trainingDone_of_up (htrained : s.smc.trained = false) (hkeys : s.smc.keys ≠ []) (hon : s.unitOn 16 0 = true)
    (hdormant : s.mode ≠ .dormant) (hfelled : s.mode ≠ .felled) (hup : (ch0 || (ch1 && !mismatch)) = true) :
    s.trainingDone ch0 ch1 mismatch config = { s with smc := { s.smc with
      up0 := ch0, up1 := ch1 && !mismatch, trained := true, mismatch, config := config &&& 0x1F7F } } := by
  have hruns : ¬ (s.smc.trained = true ∨ s.smc.keys = [] ∨ ¬ s.unitOn 16 0 = true ∨ s.mode = .dormant ∨ s.mode = .felled) := by
    simp [htrained, hkeys, hon, hdormant, hfelled]
  rw [State.trainingDone, if_neg hruns]
  simp only [if_pos hup]

/-- Where no command waits for the training's end, only the controller's part is done. -/
theorem sdramDone_of_none_waits
    (hwaits : ((s.trainingDone ch0 ch1 mismatch config).running.all fun x => x.stage != .sdram) = true) :
    s.sdramDone ch0 ch1 mismatch config = s.trainingDone ch0 ch1 mismatch config := by
  have hnone : ((s.trainingDone ch0 ch1 mismatch config).running.filter fun x => x.stage == .sdram) = [] := by
    simpa [List.filter_eq_nil_iff, List.all_eq_true] using hwaits
  simp only [State.sdramDone, hnone, List.foldl_nil, ite_self]

end Training

/-! ## RPL_BREAK (R554) -/

theorem replayNext_of_break {x : List (Option Nat) × Nat × Rec × Tick × List CaptureItem} (hmode : s.mode = .replay)
    (hhalted : s.rpl.halted = false) (hnext : nextCommand s.rpl.items = some x) (hbrk : s.rpl.brk = x.2.1)
    (hbroke : s.rpl.broke = false) :
    s.replayNext = { s with rpl := { s.rpl with halted := true, broke := true } } := by
  have hgoes : ¬ (s.mode ≠ .replay ∨ s.rpl.halted = true) := by simp [hmode, hhalted]
  have hbreaks : s.rpl.brk = x.2.1 ∧ ¬ s.rpl.broke = true := ⟨hbrk, by simp [hbroke]⟩
  rw [State.replayNext, if_neg hgoes, hnext]
  exact if_pos hbreaks

/-! ## The window of LOG_FREEZE (R539) -/

section Freeze

variable {c : Tick} (hfreeze : s.log.freeze = some c) (hclosed : c ≤ s.tick)
include hfreeze hclosed

theorem freezeClose_eq_endFreeze : s.freezeClose = s.endFreeze := by
  simp only [State.freezeClose, hfreeze, if_pos hclosed]

theorem freezeClose_of_export (hexports : 0 < s.log.exports) :
    s.freezeClose = { s with log := { s.log with freeze := none, exportFreeze := true } } := by
  rw [freezeClose_eq_endFreeze hfreeze hclosed, State.endFreeze, if_pos hexports]

theorem freezeClose_of_no_export (hexports : s.log.exports = 0) : s.freezeClose = s.thaw false := by
  rw [freezeClose_eq_endFreeze hfreeze hclosed, State.endFreeze, if_neg (by simp [hexports])]

end Freeze

end Ends

end Sys2Proof.Machine

end

section

open Sys2Proof Sys2Proof.Machine

/-- Settles O29: the clause's hypotheses choose one case of the row's operation. Abandoning a barrier leaves the running
commands, so the one that asked for it is still found. -/
theorem barriersGatherAcknowledgementsOrTimeOut : Obligations.BarriersGatherAcknowledgementsOrTimeOut := by
  unfold Obligations.BarriersGatherAcknowledgementsOrTimeOut
  refine ⟨?start, ?ack, ?late, ?command, ?following, ?base, ?drain, ?training, ?replayBreak, ?freeze⟩
  case start =>
    intro s t b bs u hnone hqueue hlegal
    rw [exec_barrierStart, barrierStart_eq hnone hqueue hlegal]
  case ack =>
    intro s t i stamp b u hi hbarrier hgoverns hidle hmore
    rw [exec_barrierAck t stamp s hi, barrierAck_of_not_last hbarrier hgoverns hidle hmore]
  case late =>
    intro s t i stamp u hi hnone
    rw [exec_barrierAck t stamp s hi, barrierAck_of_no_barrier i stamp hnone]
  case command =>
    intro s t b r run u hbarrier hclosed hcause hrun
    rw [exec_barrierTimeout, barrierTimeout_of_command hbarrier hclosed hcause hrun, State.barrierAbandoned]
  case following =>
    intro s t b u hbarrier hclosed hcause
    rw [exec_barrierTimeout, barrierTimeout_of_following hbarrier hclosed hcause, State.barrierAbandoned]
  case base =>
    intro s t run u hrun hstage
    rw [exec_captureBaseCopyDone, baseDone_eq hrun hstage, State.captureBegun]
  case drain =>
    intro s t u hsevered hdrained hrun hfelled hdormant
    exact ⟨_, exec_severDrainDone t s, severDrain_fields hsevered hdrained hrun hfelled hdormant⟩
  case training =>
    intro s t ch0 ch1 mis config u htrained hkeys hon hdormant hfelled hup hwaits
    have hdone := trainingDone_of_up config htrained hkeys hon hdormant hfelled hup
    rw [exec_sdramTrainingDone, sdramDone_of_none_waits config (by rw [hdone]; exact hwaits), hdone]
  case replayBreak =>
    intro s t x u hmode hhalted hnext hbrk hbroke
    rw [exec_replayRecord, replayNext_of_break hmode hhalted hnext hbrk hbroke]
  case freeze =>
    intro s t c u hfreeze hclosed
    refine ⟨fun hexports => ?_, fun hexports => ⟨_, ?_, rfl⟩⟩
    · rw [exec_logFreezeWindowClose, freezeClose_of_export hfreeze hclosed hexports]
    · rw [exec_logFreezeWindowClose, freezeClose_of_no_export hfreeze hclosed hexports]

end

/-! # Scope: the host's queues: doorbells, fetches, queue control, TTU windows (R101, R102, R106 to R112, R116, R118,
R121, R153) -/

section

namespace Sys2Proof.Machine

/-! ## The rows, on a queue pair or a window that exists -/

section Rows

variable (t : Tick) {fn q : Nat} (s : State) (h : fn ≤ 255 ∧ q ≤ 15)
include h

theorem exec_sqTailDoorbell (v : Nat) :
    exec (.sqTailDoorbell t fn q v) s = .next { (s.at t).sqTail fn q v with pending := s.pending } := if_pos h
theorem exec_cqHeadDoorbell (v : Nat) :
    exec (.cqHeadDoorbell t fn q v) s = .next { (s.at t).cqHead fn q v with pending := s.pending } := if_pos h
theorem exec_sqEntryFetched (f : Fetched) :
    exec (.sqEntryFetched t fn q f) s = .next { (s.at t).fetch fn q f with pending := s.pending } := if_pos h
theorem exec_queueEnable (v : Word32) :
    exec (.queueEnable t fn q v) s = .next { (s.at t).enableQueue fn q v with pending := s.pending } := if_pos h
theorem exec_queueDisable (v : Word32) :
    exec (.queueDisable t fn q v) s = .next { (s.at t).disableQueue fn q v with pending := s.pending } := if_pos h
theorem exec_queueDrainEnd :
    exec (.queueDrainEnd t fn q) s = .next { (s.at t).drainEnd fn q with pending := s.pending } := if_pos h
theorem exec_msixAggregationTimeout :
    exec (.msixAggregationTimeout t fn q) s = .next { (s.at t).irqCheck fn q with pending := s.pending } := if_pos h
theorem exec_dmaCompletion (k : ReadKind) (stamp : Tick) (good : Bool) :
    exec (.dmaCompletion t fn q k stamp good) s =
      .next { (s.at t).dmaDone fn q k stamp good with pending := s.pending } := if_pos h
theorem exec_completionTimeout (k : ReadKind) :
    exec (.completionTimeout t fn q k) s = .next { (s.at t).dmaTimeout fn q k with pending := s.pending } := if_pos h

end Rows

theorem exec_ttuWindowWrite (t : Tick) {fn w reg : Nat} (v : Word32) (s : State)
    (h : fn ≤ 255 ∧ w ≤ 7 ∧ reg ≤ 16 ∧ reg % 4 = 0) :
    exec (.ttuWindowWrite t fn w reg v) s = .next { (s.at t).writeWindow fn w reg v with pending := s.pending } := if_pos h

theorem exec_commandDeadlineExpiry (t : Tick) {ref : RecRef} (s : State) (h : ref.ok = true) :
    exec (.commandDeadlineExpiry t ref) s = .next { (s.at t).deadline ref with pending := s.pending } := if_pos h

/-! ## Doorbells (R107 to R110) -/

/-- Entries from index `old` on to index `new` in the rings of a queue pair. -/
def QPair.entriesTo (p : QPair) (old new : Nat) : Nat := (new + 2 ^ p.sizeLog2 - old) % 2 ^ p.sizeLog2

section Doorbells

variable {s : State} {fn q : Nat}

/-- A doorbell of an open function's enabled queue pair reaches the check of its value. -/
theorem doorbellDrop_eq_none (hdecoded : s.queDecoded = true) (hdrowse : s.mode ≠ .drowse) (hopen : s.fnOpen fn = true)
    (hcount : q < s.qpCount fn) (hsevered : s.tmp.severed = false) (henabled : (s.qp fn q).enabled = true) :
    s.doorbellDrop fn q = none := by
  have hreached : ¬ (¬ s.queDecoded = true ∨ ¬ s.fnOpen fn = true ∨ s.qpCount fn ≤ q) := by
    simp [hdecoded, hopen, hcount]
  rw [State.doorbellDrop, if_neg hreached, if_neg (by simp [hsevered]), if_neg (fun h => hdrowse h.1),
    if_neg (not_not_intro henabled)]

theorem wake_eq_self (hdrowse : s.mode ≠ .drowse) : s.wake = s := if_pos (.inl hdrowse)

variable {v : Nat}

/-- Of the queue pair, a value out of range sets the error alone. -/
theorem doorbellRange_qp : (s.doorbellRange fn q v).qp fn q = { s.qp fn q with error := 1 } := by
  have hstopped : (s.stopQueue fn q 1).qp fn q = { s.qp fn q with error := 1 } := by
    rw [State.stopQueue, qp_raise, qp_setQp]
    exact fun h => Nat.one_ne_zero (congrArg QPair.error h)
  simp only [State.doorbellRange]
  split
  · rw [qp_msix, qp_logEvent, hstopped]
  · rw [qp_logEvent, hstopped]

theorem doorbellRange_fields :
    ((s.doorbellRange fn q v).qp fn q).error = 1 ∧
      ((s.doorbellRange fn q v).qp fn q).sqTail = (s.qp fn q).sqTail ∧
      ((s.doorbellRange fn q v).qp fn q).ready = (s.qp fn q).ready := by
  rw [doorbellRange_qp]
  exact ⟨rfl, rfl, rfl⟩

variable (hdrop : s.doorbellDrop fn q = none)
include hdrop

theorem sqTail_of_lt (hdrowse : s.mode ≠ .drowse) (hv : v < 2 ^ (s.qp fn q).sizeLog2) :
    s.sqTail fn q v = s.setQp fn q { s.qp fn q with
      sqTail := v
      ready := if (s.qp fn q).entriesTo (s.qp fn q).sqTail v = 0 then (s.qp fn q).ready
        else (s.qp fn q).ready ++ [((s.qp fn q).entriesTo (s.qp fn q).sqTail v, s.tick)]
      readAt := if (s.qp fn q).ready.isEmpty then s.tick else (s.qp fn q).readAt } := by
  simp only [State.sqTail, hdrop, if_neg (Nat.not_le.mpr hv)]
  exact wake_eq_self hdrowse

theorem cqHead_of_lt (hdrowse : s.mode ≠ .drowse) (hv : v < 2 ^ (s.qp fn q).sizeLog2) :
    s.cqHead fn q v = s.setQp fn q { s.qp fn q with
      cqHead := v
      cqUsed := (s.qp fn q).cqUsed - (s.qp fn q).entriesTo (s.qp fn q).cqHead v } := by
  simp only [State.cqHead, hdrop, if_neg (Nat.not_le.mpr hv)]
  exact wake_eq_self hdrowse

theorem sqTail_of_le (hv : 2 ^ (s.qp fn q).sizeLog2 ≤ v) : s.sqTail fn q v = s.doorbellRange fn q v := by
  simp only [State.sqTail, hdrop, if_pos hv]

end Doorbells

/-! ## Fetched entries (R110 to R112, R121, R153) -/

/-- The state that has taken an entry from a queue pair, which it leaves as `p`. -/
def State.entryTaken (s : State) (fn q : Nat) (p : QPair) : State :=
  ({ s with host := { s.host with order := s.host.order + 1 } } : State).setQp fn q p

/-- The record of a native entry as it is fetched now. -/
def State.nativeRec (s : State) (fn q : Nat) (f : Fetched) : Rec :=
  { ref := .host fn q (s.qp fn q).sqHead, order := s.host.order, tenant := fn, fn, q, sq := parseSq f.entry
    outList := if (parseSq f.entry).flags.getLsbD 1 then f.outList else []
    raw := f.record.take (64 + fld f.record 8 4), input := f.input, seq := fld f.record 0x10 6
    arrival := (takeReady (s.qp fn q) s.tick).1, fetched := s.tick }

/-- The record of a KH-1 entry as it is fetched now. -/
def State.kh1Rec (s : State) (fn q : Nat) (f : Fetched) : Rec :=
  { ref := .host fn q (s.qp fn q).sqHead, form := .kh1, order := s.host.order, tenant := fn, fn, q
    raw := padTo 256 f.entry, seq := 2 ^ 47 + q * 2 ^ 43 + (s.qp fn q).seqCount
    arrival := (takeReady (s.qp fn q) s.tick).1, fetched := s.tick }

/-- Checks 1 to 4 of R112 pass: length, waybills, windows, response space. -/
structure State.PreStartOk (s : State) (r : Rec) (e : SqEntry) (f : Fetched) : Prop where
  min_length : 64 ≤ e.recordLen
  max_length : e.recordLen ≤ 65536
  record_window : s.ttuOk r.fn e.recordAddr e.recordLen false = true
  header_length : fld f.record 4 4 = e.recordLen
  total_length : 64 + fld f.record 8 4 + 4 * ceilDiv (64 + fld f.record 8 4) 64 = e.recordLen
  read_length : f.record.length = e.recordLen
  waybills : badGranule (f.record.take (64 + fld f.record 8 4)) (f.record.drop (64 + fld f.record 8 4)) = none
  windows : ((checkedRanges e f).all fun x => s.ttuOk r.fn x.1 x.2.1 x.2.2) = true
  response_space : s.spaceOk r = true

section Fetch

variable {s : State} {fn q : Nat} {f : Fetched}

theorem admitNative_of_preStartOk {r : Rec} {e : SqEntry} (h : s.PreStartOk r e f) :
    s.admitNative r e f = { s with waiting := s.waiting ++ [r] } := by
  have hlen : ¬ (e.recordLen < 64 ∨ 65536 < e.recordLen) := by have := h.min_length; have := h.max_length; omega
  have hparts : ¬ (fld f.record 4 4 ≠ e.recordLen ∨
      64 + fld f.record 8 4 + 4 * ceilDiv (64 + fld f.record 8 4) 64 ≠ e.recordLen ∨ f.record.length ≠ e.recordLen) := by
    simp [h.header_length, h.total_length, h.read_length]
  have hranges : ((checkedRanges e f).find? fun x => !s.ttuOk r.fn x.1 x.2.1 x.2.2) = none := by
    simpa [List.find?_eq_none] using h.windows
  simp only [State.admitNative, if_neg hlen, if_neg (not_not_intro h.record_window), if_neg hparts, h.waybills, hranges,
    if_neg (not_not_intro h.response_space)]

/-- Taking the entry changes nothing that the checks read. -/
theorem preStartOk_entryTaken {r : Rec} {e : SqEntry} {p : QPair} (h : s.PreStartOk r e f) :
    (s.entryTaken fn q p).PreStartOk r e f := { h with }

/-- While every waiting record names a catalogued opcode, none completes for want of a row. -/
theorem settle_eq_self (n : Nat) (h : (s.waiting.all fun x => ((nativeOp x.op).bind opRow).isSome) = true) :
    s.settle n = s := by
  have hnone : (s.waiting.find? fun r => s.startable r && ((nativeOp r.op).bind opRow).isNone) = none := by
    rw [List.find?_eq_none]
    intro x hx
    have hrow := List.all_eq_true.mp h x hx
    simp [Option.isNone_eq_false_iff.mpr hrow]
  cases n with
  | zero => rfl
  | succ n => simp only [State.settle, hnone]

theorem fetch_native (hfetch : s.fetchable fn q = true) (hform : (s.qp fn q).kh1 = false)
    (hok : s.PreStartOk (s.nativeRec fn q f) (parseSq f.entry) f)
    (hnamed : ((s.waiting ++ [s.nativeRec fn q f]).all fun x => ((nativeOp x.op).bind opRow).isSome) = true) :
    s.fetch fn q f = { s.entryTaken fn q (takeReady (s.qp fn q) s.tick).2 with
      waiting := s.waiting ++ [s.nativeRec fn q f] } := by
  have hadmit := admitNative_of_preStartOk
    (preStartOk_entryTaken (fn := fn) (q := q) (p := (takeReady (s.qp fn q) s.tick).2) hok)
  have hfetched : s.fetch fn q f =
      ((s.entryTaken fn q (takeReady (s.qp fn q) s.tick).2).admitNative (s.nativeRec fn q f) (parseSq f.entry) f).settle
        ((s.entryTaken fn q (takeReady (s.qp fn q) s.tick).2).admitNative (s.nativeRec fn q f)
          (parseSq f.entry) f).waiting.length := by
    rw [State.fetch, if_neg (not_not_intro hfetch)]
    simp only [hform, Bool.false_eq_true, if_false]
    rfl
  rw [hfetched, hadmit]
  exact settle_eq_self _ hnamed

theorem fetch_kh1 (hfetch : s.fetchable fn q = true) (hform : (s.qp fn q).kh1 = true)
    (hlen : beNat (sub (padTo 256 f.entry) 2 2) = 0x0100)
    (hnamed : ((s.waiting ++ [s.kh1Rec fn q f]).all fun x => ((nativeOp x.op).bind opRow).isSome) = true) :
    s.fetch fn q f =
      { s.entryTaken fn q { (takeReady (s.qp fn q) s.tick).2 with seqCount := (s.qp fn q).seqCount + 1 } with
        waiting := s.waiting ++ [s.kh1Rec fn q f] } := by
  rw [State.fetch, if_neg (not_not_intro hfetch)]
  simp only [hform, if_true, if_neg (not_not_intro hlen)]
  exact settle_eq_self _ hnamed

end Fetch

/-! ## Enabling, disabling and draining (R106, R118, R122) -/

section Control

variable {s : State} {fn q : Nat} {v : Word32}

/-- The first check of R106 that a queue pair with these fields fails, as QUE_STATUS.error names it; 0 where none does. -/
def State.enableError (s : State) (fn : Nat) (p : QPair) : Nat :=
  if p.sizeLog2 = 0 ∨ 12 < p.sizeLog2 then 4
  else if ¬ vectorOk fn p.vector then 5
  else if ¬ (s.ttuOk fn p.sqBase (2 ^ p.sizeLog2 * if p.kh1 then 256 else 64) false ∧
             s.ttuOk fn p.cqBase (2 ^ p.sizeLog2 * if p.kh1 then 256 else 32) true) then 3
  else 0

section EnableError

variable {p : QPair}

theorem enableError_size (h : p.sizeLog2 = 0 ∨ 12 < p.sizeLog2) : s.enableError fn p = 4 := if_pos h

variable (hmin : 1 ≤ p.sizeLog2) (hmax : p.sizeLog2 ≤ 12)
include hmin hmax

theorem enableError_vector (h : vectorOk fn p.vector = false) : s.enableError fn p = 5 := by
  rw [State.enableError, if_neg (by omega), if_pos (by simp [h])]

theorem enableError_rings (hvector : vectorOk fn p.vector = true)
    (h : s.ttuOk fn p.sqBase (2 ^ p.sizeLog2 * if p.kh1 then 256 else 64) false = false ∨
      s.ttuOk fn p.cqBase (2 ^ p.sizeLog2 * if p.kh1 then 256 else 32) true = false) : s.enableError fn p = 3 := by
  have hrefused : ¬ (s.ttuOk fn p.sqBase (2 ^ p.sizeLog2 * if p.kh1 then 256 else 64) false = true ∧
      s.ttuOk fn p.cqBase (2 ^ p.sizeLog2 * if p.kh1 then 256 else 32) true = true) := by
    rintro ⟨hsq, hcq⟩
    rcases h with h | h
    · exact absurd (hsq.symm.trans h) (by decide)
    · exact absurd (hcq.symm.trans h) (by decide)
  rw [State.enableError, if_neg (by omega), if_neg (not_not_intro hvector), if_pos hrefused]

theorem enableError_eq_zero (hvector : vectorOk fn p.vector = true)
    (hsq : s.ttuOk fn p.sqBase (2 ^ p.sizeLog2 * if p.kh1 then 256 else 64) false = true)
    (hcq : s.ttuOk fn p.cqBase (2 ^ p.sizeLog2 * if p.kh1 then 256 else 32) true = true) : s.enableError fn p = 0 := by
  rw [State.enableError, if_neg (by omega), if_neg (not_not_intro hvector), if_neg (not_not_intro ⟨hsq, hcq⟩)]

end EnableError

section Enable

variable (hopen : s.qpOpen fn q = true) (henabled : (s.qp fn q).enabled = false)
  (hdraining : (s.qp fn q).draining = false)
include hopen henabled hdraining

/-- On an idle queue pair all fields are taken and the checks decide. -/
theorem enableQueue_of_idle :
    s.enableQueue fn q v =
      if s.enableError fn (ctrlAll (s.qp fn q) v) ≠ 0 then
        s.setQp fn q { ctrlAll (s.qp fn q) v with error := s.enableError fn (ctrlAll (s.qp fn q) v) }
      else s.setQp fn q { ctrlAll (s.qp fn q) v with
        enabled := true, error := 0, sqHead := 0, sqTail := 0, cqTail := 0, cqHead := 0, phase := true, cqUsed := 0
        ready := [], keyIndex := fn } := by
  have hidle : ¬ ((s.qp fn q).enabled = true ∨ (s.qp fn q).draining = true) := by simp [henabled, hdraining]
  rw [State.enableQueue, if_neg (not_not_intro hopen)]
  exact if_neg hidle

theorem enableQueue_of_error {code : Nat} (herror : s.enableError fn (ctrlAll (s.qp fn q) v) = code) (hcode : code ≠ 0) :
    s.enableQueue fn q v = s.setQp fn q { ctrlAll (s.qp fn q) v with error := code } := by
  rw [enableQueue_of_idle hopen henabled hdraining, herror, if_pos hcode]

theorem enableQueue_of_no_error (herror : s.enableError fn (ctrlAll (s.qp fn q) v) = 0) :
    s.enableQueue fn q v = s.setQp fn q { ctrlAll (s.qp fn q) v with
      enabled := true, error := 0, sqHead := 0, sqTail := 0, cqTail := 0, cqHead := 0, phase := true, cqUsed := 0
      ready := [], keyIndex := fn } := by
  rw [enableQueue_of_idle hopen henabled hdraining, herror, if_neg (not_not_intro rfl)]

end Enable

theorem abortWaiting_eq_self {keep : Rec → Bool} (h : s.waiting.all keep = true) : s.abortWaiting keep = s := by
  have hnone : (s.waiting.filter fun r => !keep r) = [] := by simpa [List.filter_eq_nil_iff] using h
  rw [State.abortWaiting, hnone, List.foldl_nil]

/-- Where no record of the queue pair waits, none is aborted and the queue pair only drains. -/
theorem disableQueue_of_none_waits (hopen : s.qpOpen fn q = true) (henabled : (s.qp fn q).enabled = true)
    (hdraining : (s.qp fn q).draining = false) (hnone : (s.waiting.all fun r => !(r.fn == fn && r.q == q)) = true) :
    s.disableQueue fn q v = s.setQp fn q { ctrlOpen (s.qp fn q) v with draining := true } := by
  have hruns : (s.qp fn q).enabled = true ∧ ¬ (s.qp fn q).draining = true := ⟨henabled, by simp [hdraining]⟩
  rw [State.disableQueue, if_neg (not_not_intro hopen)]
  simp only [if_pos hruns]
  refine abortWaiting_eq_self (List.all_eq_true.mpr fun r hr => ?_)
  have hother : (r.fn == fn && r.q == q) = false :=
    (Bool.not_eq_true' _).mp (List.all_eq_true.mp hnone r hr)
  rw [hother]
  rfl

theorem drainEnd_of_empty (hdraining : (s.qp fn q).draining = true) (hflight : (s.qp fn q).inFlight = 0) :
    s.drainEnd fn q = s.setQp fn q { s.qp fn q with enabled := false, draining := false, error := 0 } :=
  if_pos ⟨hdraining, hflight⟩

/-! ## The aggregated interrupt (R116) -/

theorem msix_of_unmasked {n : Nat} (h : (mapGet {} s.host.vectors (64 * fn + n)).masked = false) :
    s.msix fn n = s.emit (.msix fn n) := if_neg (by simp [h])

theorem irqCheck_of_window_closed (henable : (s.qp fn q).irqEnable = true) (hpending : 0 < (s.qp fn q).irqPending)
    (hclosed : (s.qp fn q).irqFirst + (s.qp fn q).aggTime ≤ s.tick)
    (hmask : (mapGet {} s.host.vectors (64 * fn + (s.qp fn q).vector)).masked = false) :
    s.irqCheck fn q = (s.setQp fn q { s.qp fn q with irqPending := 0 }).emit (.msix fn (s.qp fn q).vector) :=
  (if_pos ⟨henable, hpending, .inr (.inr hclosed)⟩).trans (msix_of_unmasked hmask)

end Control

/-! ## TTU windows (R101, R102) -/

/-- A window after a write of the register at `reg` of its entry (Table 20-11). -/
def windowWritten (x : Window) (reg : Nat) (v : Word32) : Window :=
  if reg = 0x00 then { x with base := x.base / 2 ^ 32 * 2 ^ 32 + v.toNat / 4096 * 4096 }
  else if reg = 0x04 then { x with base := x.base % 2 ^ 32 + v.toNat * 2 ^ 32 }
  else if reg = 0x08 then { x with size := x.size / 2 ^ 32 * 2 ^ 32 + v.toNat / 4096 * 4096 }
  else if reg = 0x0C then { x with size := x.size % 2 ^ 32 + v.toNat * 2 ^ 32 }
  else if reg = 0x10 then { x with ctrl := v.setWidth 2 } else x

section Windows

variable {s : State} {fn : Nat} (w reg : Nat) (v : Word32) (hdecoded : s.queDecoded = true)
include hdecoded

theorem writeWindow_of_idle
    (hidle : ((List.range 16).all fun q => !(s.qp fn q).enabled && !(s.qp fn q).draining) = true) :
    s.writeWindow fn w reg v = { s with host := { s.host with
      win := mapPut {} s.host.win (8 * fn + w) (windowWritten (mapGet {} s.host.win (8 * fn + w)) reg v) } } := by
  have hnone : ¬ ((List.range 16).any fun q => (s.qp fn q).enabled || (s.qp fn q).draining) = true := by
    rw [List.any_eq_not_all_not]
    simpa [Bool.not_or] using hidle
  rw [State.writeWindow, if_neg (not_not_intro hdecoded), if_neg hnone]
  rfl

theorem writeWindow_of_running
    (hruns : ((List.range 16).any fun q => (s.qp fn q).enabled || (s.qp fn q).draining) = true) :
    s.writeWindow fn w reg v = { s with host := { s.host with writeRefused := true, lastFn := fn } } := by
  rw [State.writeWindow, if_neg (not_not_intro hdecoded), if_pos hruns]

end Windows

end Sys2Proof.Machine

end

section

open Sys2Proof Sys2Proof.Machine

/-- Settles O12: a doorbell that nothing drops reaches the check of its value, which moves the index or stops the queue
pair; of the queue pair, the stop sets the error alone. -/
theorem doorbellsMoveTheRingIndexes : Obligations.DoorbellsMoveTheRingIndexes := by
  unfold Obligations.DoorbellsMoveTheRingIndexes
  refine ⟨?tail, ?head, ?range⟩
  case tail =>
    intro s t fn q v u p hfn hq hdecoded hdrowse hopen hcount hsevered henabled hv
    have hdrop := doorbellDrop_eq_none hdecoded hdrowse hopen hcount hsevered henabled
    rw [exec_sqTailDoorbell t s ⟨hfn, hq⟩, sqTail_of_lt hdrop hdrowse hv]
    rfl
  case head =>
    intro s t fn q v u p hfn hq hdecoded hdrowse hopen hcount hsevered henabled hv
    have hdrop := doorbellDrop_eq_none hdecoded hdrowse hopen hcount hsevered henabled
    rw [exec_cqHeadDoorbell t s ⟨hfn, hq⟩, cqHead_of_lt hdrop hdrowse hv]
    rfl
  case range =>
    intro s t fn q v u hfn hq hdecoded hdrowse hopen hcount hsevered henabled hv
    have hdrop := doorbellDrop_eq_none hdecoded hdrowse hopen hcount hsevered henabled
    refine ⟨_, exec_sqTailDoorbell t s ⟨hfn, hq⟩ v, ?_⟩
    rw [sqTail_of_le hdrop hv]
    exact doorbellRange_fields

/-- Settles O13: the checks of R112 pass on the state that has taken the entry as they do before it, so the record waits,
and no waiting record completes for want of a row. -/
theorem aFetchedRecordThatPassesTheChecksWaits : Obligations.AFetchedRecordThatPassesTheChecksWaits := by
  unfold Obligations.AFetchedRecordThatPassesTheChecksWaits
  refine ⟨?native, ?kh1⟩
  case native =>
    intro s t fn q f u p e n r hfn hq hfetch hform hmin hmax hrecord hheader htotal hread hwaybills hwindows hspace hnamed
    have hok : u.PreStartOk (u.nativeRec fn q f) (parseSq f.entry) f :=
      ⟨hmin, hmax, hrecord, hheader, htotal, hread, hwaybills, hwindows, hspace⟩
    rw [exec_sqEntryFetched t s ⟨hfn, hq⟩, fetch_native hfetch hform hok hnamed]
    rfl
  case kh1 =>
    intro s t fn q f u p r hfn hq hfetch hform hlen hnamed
    rw [exec_sqEntryFetched t s ⟨hfn, hq⟩, fetch_kh1 hfetch hform hlen hnamed]
    rfl

/-- Settles O14: the clause's hypotheses name the first check that fails, or say that none does; where no record of the
queue pair waits, disabling aborts none. -/
theorem queuePairsEnableDrainAndDisable : Obligations.QueuePairsEnableDrainAndDisable := by
  unfold Obligations.QueuePairsEnableDrainAndDisable
  refine ⟨?enable, ?refuse, ?disable, ?drained, ?interrupt⟩
  case enable =>
    intro s t fn q v u p p1 hfn hq hopen henabled hdraining hmin hmax hvector hsq hcq
    rw [exec_queueEnable t s ⟨hfn, hq⟩,
      enableQueue_of_no_error hopen henabled hdraining (enableError_eq_zero hmin hmax hvector hsq hcq)]
  case refuse =>
    intro s t fn q v code u p p1 hfn hq hopen henabled hdraining hcheck
    rw [exec_queueEnable t s ⟨hfn, hq⟩]
    rcases hcheck with ⟨hsize, rfl⟩ | ⟨⟨hmin, hmax⟩, hvector, rfl⟩ | ⟨⟨hmin, hmax⟩, hvector, rfl, hrings⟩
    · rw [enableQueue_of_error hopen henabled hdraining (enableError_size hsize) (by decide)]
    · rw [enableQueue_of_error hopen henabled hdraining (enableError_vector hmin hmax hvector) (by decide)]
    · rw [enableQueue_of_error hopen henabled hdraining (enableError_rings hmin hmax hvector hrings) (by decide)]
  case disable =>
    intro s t fn q v u p hfn hq hopen henabled hdraining hnone
    rw [exec_queueDisable t s ⟨hfn, hq⟩, disableQueue_of_none_waits hopen henabled hdraining hnone]
  case drained =>
    intro s t fn q u p hfn hq hdraining hflight
    rw [exec_queueDrainEnd t s ⟨hfn, hq⟩, drainEnd_of_empty hdraining hflight]
  case interrupt =>
    intro s t fn q u p hfn hq henable hpending hclosed hmask
    rw [exec_msixAggregationTimeout t s ⟨hfn, hq⟩, irqCheck_of_window_closed henable hpending hclosed hmask]

/-- Settles O15: while every queue pair of the function is idle the register at each of the five offsets takes its value,
and one that runs refuses the write. -/
theorem windowRegistersAreWrittenWhileNoQueuePairRuns : Obligations.WindowRegistersAreWrittenWhileNoQueuePairRuns := by
  unfold Obligations.WindowRegistersAreWrittenWhileNoQueuePairRuns
  refine ⟨?written, ?refused⟩
  case written =>
    intro s t fn w reg v x1 u x hfn hw hdecoded hidle hreg
    have hx1 : x1 = windowWritten x reg v ∧ reg ≤ 16 ∧ reg % 4 = 0 := by
      rcases hreg with ⟨rfl, hx⟩ | ⟨rfl, hx⟩ | ⟨rfl, hx⟩ | ⟨rfl, hx⟩ | ⟨rfl, hx⟩ <;> exact ⟨hx, by decide⟩
    obtain ⟨rfl, hlast, haligned⟩ := hx1
    rw [exec_ttuWindowWrite t v s ⟨hfn, hw, hlast, haligned⟩, writeWindow_of_idle w reg v hdecoded hidle]
  case refused =>
    intro s t fn w reg v u hfn hw hlast haligned hdecoded hruns
    rw [exec_ttuWindowWrite t v s ⟨hfn, hw, hlast, haligned⟩, writeWindow_of_running w reg v hdecoded hruns]

end

/-! # Scope: outbound reads and deadlines (R129, R145, R148, R149) -/

section

namespace Sys2Proof.Machine

variable {s : State} {fn q : Nat} {r : Rec}

/-! ## The read of a waiting record (R129, R148) -/

/-- The read of the oldest waiting record is open since its entry was fetched. -/
theorem readIssue_record (h : s.readRec fn q = some r) : s.readIssue fn q .record = some r.fetched := by
  simp only [State.readIssue, h, Option.map_some]

theorem readGood_record (h : s.readRec fn q = some r) :
    s.readGood fn q .record =
      { s with waiting := s.waiting.map fun x => if x.ref == r.ref then { x with readDone := true } else x } := by
  simp only [State.readGood, h]

theorem readFail_record (h : s.readRec fn q = some r) :
    s.readFail fn q .record = s.conclude r .dmaFailed 0xFFFF false false := by
  simp only [State.readFail, h]

theorem dmaDone_of_governs {k : ReadKind} {issue stamp : Tick} (hissue : s.readIssue fn q k = some issue)
    (hgoverns : governs stamp s.tick (issue + s.cplTimeout fn) = true) :
    s.dmaDone fn q k stamp true = s.readGood fn q k := by
  simp only [State.dmaDone, hissue, if_pos hgoverns, if_true]

theorem dmaDone_of_no_read {k : ReadKind} (stamp : Tick) (good : Bool) (hnone : s.readIssue fn q k = none) :
    s.dmaDone fn q k stamp good = { s.lateDiscard islHost with host := { s.host with
      oldReads := mapPut 0 s.host.oldReads fn (mapGet 0 s.host.oldReads fn - 1) } } := by
  simp only [State.dmaDone, hnone, State.lateDiscard]

theorem dmaTimeout_of_closed {k : ReadKind} {issue : Tick} (hissue : s.readIssue fn q k = some issue)
    (hclosed : issue + s.cplTimeout fn + 2 ≤ s.tick) : s.dmaTimeout fn q k = s.readFail fn q k := by
  simp only [State.dmaTimeout, hissue, if_pos hclosed]

/-! ## The deadline of a waiting record (R145, R148) -/

theorem deadline_of_closed {ref : RecRef} (hwaits : (s.waiting.find? fun x => x.ref == ref) = some r)
    (hset : r.deadline ≠ 0) (hclosed : r.arrival + r.deadline + 2 ≤ s.tick) :
    s.deadline ref =
      (s.notRun r.tenant r.seq .deadlineMissed).conclude r .deadlineMissed 0xFFFF false false := by
  have hends : r.deadline ≠ 0 ∧ r.arrival + r.deadline + 2 ≤ s.tick := ⟨hset, hclosed⟩
  simp only [State.deadline, hwaits, if_pos hends, State.endPreStart, if_true]

end Sys2Proof.Machine

end

section

open Sys2Proof Sys2Proof.Machine

/-- Settles O18: the read of the oldest waiting record is the one that completes or times out, by which of the two
governs. -/
theorem outboundReadsCompleteTimeOutOrExpire : Obligations.OutboundReadsCompleteTimeOutOrExpire := by
  unfold Obligations.OutboundReadsCompleteTimeOutOrExpire
  refine ⟨?completes, ?late, ?timesOut, ?expires⟩
  case completes =>
    intro s t fn q r stamp u hfn hq hread hgoverns
    rw [exec_dmaCompletion t s ⟨hfn, hq⟩, dmaDone_of_governs (readIssue_record hread) hgoverns, readGood_record hread]
  case late =>
    intro s t fn q k stamp good u hfn hq hnone
    rw [exec_dmaCompletion t s ⟨hfn, hq⟩, dmaDone_of_no_read stamp good hnone]
  case timesOut =>
    intro s t fn q r u hfn hq hread hclosed
    rw [exec_completionTimeout t s ⟨hfn, hq⟩, dmaTimeout_of_closed (readIssue_record hread) hclosed,
      readFail_record hread]
  case expires =>
    intro s t ref r u href hwaits hset hclosed
    rw [exec_commandDeadlineExpiry t s href, deadline_of_closed hwaits hset hclosed]

end

/-! # Scope: register accesses by PF0 and by a warden core (R95, R331, R573, R575, R576) -/

section

namespace Sys2Proof.Machine

variable (t : Tick) (s : State)

/-! ## The rows -/

theorem exec_registerWrite {p : Path} (off : Nat) (v : BitVec 64) (eight : Bool) (h : p.ok = true) :
    exec (.registerWrite t p off v eight) s = .next { (s.at t).regWrite p off v eight with pending := s.pending } := if_pos h
theorem exec_pairCaptureRead {p : Path} (off : Nat) (eight : Bool) (h : p.ok = true) :
    exec (.pairCaptureRead t p off eight) s = .next { (s.at t).pairRead p off eight with pending := s.pending } := if_pos h
theorem exec_rngFifoDataRead :
    exec (.rngFifoDataRead t) s = .next { (s.at t).readFifo with pending := s.pending } := rfl

variable {s}

/-! ## RNG_FIFO_DATA (R331) -/

theorem readFifo_of_cons {w : Word32} {ws : List Word32} (h : s.rng.fifo = w :: ws) :
    s.readFifo = ({ s with rng := { s.rng with fifo := ws } } : State).emit
      (.regRead (.warden 0) 0x0014001C (w.setWidth 64)) := by
  simp only [State.readFifo, h]

theorem readFifo_of_empty (hempty : s.rng.fifo = []) (hhealthy : s.rng.st = .healthy) : s.readFifo = s.emit .stall := by
  simp only [State.readFifo, hempty, if_pos hhealthy]

/-- A warden core's 4-byte read at the offset of RNG_FIFO_DATA is a read of the FIFO. -/
theorem pairRead_rngFifoData (c : Nat) : s.pairRead (.warden c) 0x14001C false = s.readFifo := rfl

/-! ## Accesses by PF0 (R95, R575, R576) -/

/-- A 4-byte read at an offset that 4 does not divide is misaligned. -/
theorem pairRead_pf0_of_misaligned {off : Nat} (h : off % 4 ≠ 0) : s.pairRead .pf0 off false = s.misaligned 0 false :=
  if_pos h

/-- An aligned 4-byte write is one access. -/
theorem regWrite_of_aligned (p : Path) {off : Nat} (v : BitVec 64) (h : off % 4 = 0) :
    s.regWrite p off v false = s.write4 p off (v.setWidth 32) := if_neg (not_not_intro h)

theorem write4_attnEn (v : Word32) (h : (s.regAt .pf0 0x90008).isSome = true) :
    s.write4 .pf0 0x90008 v = { s with irq := { s.irq with attnEn := v.setWidth 8 } } :=
  if_neg (by simpa [Option.isSome_iff_ne_none] using h)

/-- PF0 may read every register of window 0x00. -/
theorem mayRead_pf0_top (off : Nat) (h : off / 0x10000 = 0x00) : s.mayRead .pf0 off = true := by
  simp [State.mayRead, pf0Reads, h]

theorem pairAt_serial : s.pairAt .pf0 0x00004 = some s.otp.serial := rfl

/-- A read of the low half of a pair captures the whole value. -/
theorem readWord_of_pair {p : Path} {off x : Nat} (v : Nat) (h : s.pairAt p off = some x) :
    s.readWord p off v = ({ s with captures := mapSet s.captures (captureKey p off) x }, x % 2 ^ 32) := by
  simp only [State.readWord, h]

theorem read4_serial (h : (s.regAt .pf0 0x00004).isSome = true) :
    s.read4 .pf0 0x00004 =
      ({ s with captures := mapSet s.captures (captureKey .pf0 0x00004) s.otp.serial }, s.otp.serial % 2 ^ 32) := by
  obtain ⟨v, hv⟩ := Option.isSome_iff_exists.mp h
  simp only [State.read4, hv, if_pos (mayRead_pf0_top 0x00004 rfl), readWord_of_pair v pairAt_serial]

theorem pairRead_serial (h : (s.regAt .pf0 0x00004).isSome = true) :
    s.pairRead .pf0 0x00004 false =
      ({ s with captures := mapSet s.captures (captureKey .pf0 0x00004) s.otp.serial } : State).emit
        (.regRead .pf0 0x00004 (BitVec.ofNat 64 (s.otp.serial % 2 ^ 32))) := by
  have hread : s.pairRead .pf0 0x00004 false =
      (s.read4 .pf0 0x00004).1.emit (.regRead .pf0 0x00004 (BitVec.ofNat 64 (s.read4 .pf0 0x00004).2)) := rfl
  rw [hread, read4_serial h]

end Sys2Proof.Machine

end

section

open Sys2Proof Sys2Proof.Machine

/-- Settles O19: each access runs the case of its path and offset: PF0's write of IRQ_ATTN_EN, a warden core's read of the
FIFO, PF0's capturing read of the serial, and the refusal of a misaligned offset. -/
theorem registerAccessesGoThroughTheirPath : Obligations.RegisterAccessesGoThroughTheirPath := by
  unfold Obligations.RegisterAccessesGoThroughTheirPath
  refine ⟨?attnEn, ?fifo, ?stall, ?serial, ?misaligned⟩
  case attnEn =>
    intro s t v u _ hreg
    rw [exec_registerWrite t s 0x90008 v false rfl, regWrite_of_aligned .pf0 v rfl, write4_attnEn _ hreg]
  case fifo =>
    intro s t w ws u hfifo
    have hread := readFifo_of_cons hfifo
    refine ⟨?_, ?_⟩
    · rw [exec_rngFifoDataRead, hread]
      rfl
    · rw [exec_pairCaptureRead t s 0x14001C false rfl, pairRead_rngFifoData, hread]
      rfl
  case stall =>
    intro s t u hempty hhealthy
    rw [exec_rngFifoDataRead, readFifo_of_empty hempty hhealthy]
    rfl
  case serial =>
    intro s t u _ hreg
    rw [exec_pairCaptureRead t s 0x00004 false rfl, pairRead_serial hreg]
    rfl
  case misaligned =>
    intro s t off u halign
    rw [exec_pairCaptureRead t s off false rfl, pairRead_pf0_of_misaligned halign, misaligned_read]
    rfl

end

/-! # Scope: the checks that a command row makes before its meaning runs (R140, R144, R145, Table 5-3) -/

section

namespace Sys2Proof.Machine

variable {s : State} {r : Rec}

/-! ## R144 steps 1 to 4 and R145, each on the outcome entry of the record's number -/

/-- Step 1: a finished outcome is answered again. -/
theorem preStart_of_finished {o : Outcome} (hentry : s.outcome r.tenant r.seq = some o) (hran : o.notRun = false)
    (hends : o.running = false) : s.preStart r = .again o := by
  simp [State.preStart, hentry, hran, hends]

/-- Step 1 lets a record through whose number has no entry, or one that is not finished. -/
theorem preStart_of_unfinished
    (hentry : ∀ o, s.outcome r.tenant r.seq = some o → o.notRun = true ∨ o.running = true) :
    s.preStart r =
      if s.inFlightElse r then .stop .sequenceInFlight false
      else if s.outcome r.tenant r.seq = none ∧ r.seq < 2 ^ 47 ∧ r.seq ≤ s.floor r.tenant then .stop .sequenceStale false
      else if s.pastDeadline r then .stop .deadlineMissed true
      else .go := by
  unfold State.preStart
  split
  next o ho =>
    have hunfinished : ¬ (¬ o.notRun = true ∧ ¬ o.running = true) := fun ⟨hran, hends⟩ => (hentry o ho).elim hran hends
    simp only [if_neg hunfinished, ho, reduceCtorEq, false_and, if_false]
  next hnone => simp only [hnone, true_and]

/-! ## Table 5-3 rows 1 to 6, each where the rows before it pass -/

theorem postStart_of_header (hheader : headerOk r = false) : s.postStart r = .error .headerInvalid := by
  simp [State.postStart, hheader]

theorem postStart_of_rows {st : Status} (hheader : headerOk r = true) (hrows : s.rowsFail r.op r.tenant = some st) :
    s.postStart r = .error st := by
  simp [State.postStart, hheader, hrows]

theorem postStart_of_session {st : Status} (hheader : headerOk r = true) (hrows : s.rowsFail r.op r.tenant = none)
    (hopened : s.opened r = .error st) : s.postStart r = .error st := by
  simp [State.postStart, hheader, hrows, hopened]

/-! ## A command row whose record waits and may start -/

/-- The command row that a startable record names does not pass the record over. -/
theorem not_passed_over {op : Nat} (hop : r.op = op) (hstarts : s.startable r = true) :
    ¬ ((r.op ≠ op ∧ ((nativeOp r.op).bind opRow).isSome = true) ∨ ¬ s.startable r = true) := by
  simp [hop, hstarts]

section Run

variable {ref : RecRef} {op : Nat} (body : Cmd → State → State × Did)
  (hwaits : (s.waiting.find? fun x => x.ref == ref) = some r) (hop : r.op = op) (hstarts : s.startable r = true)
include hwaits hop hstarts

/-- A number that ran completes again with the outcome it had. -/
theorem runCommand_of_again {o : Outcome} (hpre : s.preStart r = .again o) :
    s.runCommand op body ref = s.conclude r o.status o.detail true o.lone := by
  simp only [State.runCommand, hwaits, if_neg (not_passed_over hop hstarts), hpre]

/-- A record that R144 or R145 stops completes unstarted. -/
theorem runCommand_of_stop {st : Status} {recorded : Bool} (hpre : s.preStart r = .stop st recorded) :
    s.runCommand op body ref = s.endPreStart r st recorded := by
  simp only [State.runCommand, hwaits, if_neg (not_passed_over hop hstarts), hpre]

/-- A record that starts and fails a row of Table 5-3 ends with that row's status, whatever its opcode means. -/
theorem runCommand_of_error {st : Status} (hpre : s.preStart r = .go) (hpost : (s.start r).1.postStart r = .error st) :
    s.runCommand op body ref = { (s.start r).1.finish (s.start r).2 (fail st) with
      rpl := { ((s.start r).1.finish (s.start r).2 (fail st)).rpl with index := none } } := by
  simp only [State.runCommand, hwaits, if_neg (not_passed_over hop hstarts), hpre, hpost]

end Run

end Sys2Proof.Machine

end

section

open Sys2Proof Sys2Proof.Machine

/-- Settles O7: every command row is `runCommand` of its opcode's meaning; the outcome entry, the numbers in flight, the
floor and the deadline choose one answer of R144, and a record that starts fails at the first row of Table 5-3 that its
clause names. -/
theorem aStartingRecordIsCheckedInOrder : Obligations.AStartingRecordIsCheckedInOrder := by
  unfold Obligations.AStartingRecordIsCheckedInOrder
  refine ⟨?again, ?inFlight, ?stale, ?late, ?header, ?rows, ?session⟩
  case again =>
    intro s t ref r n row o u hrow hok hwaits hop hstarts hentry hran hends
    obtain ⟨body, hrun⟩ := commandRows_run n row hrow
    rw [hrun t ref s hok, act_next,
      runCommand_of_again body hwaits hop hstarts (preStart_of_finished hentry hran hends)]
  case inFlight =>
    intro s t ref r n row u hrow hok hwaits hop hstarts hentry hflight
    obtain ⟨body, hrun⟩ := commandRows_run n row hrow
    have hpre : u.preStart r = .stop .sequenceInFlight false := by
      rw [preStart_of_unfinished hentry, if_pos hflight]
    rw [hrun t ref s hok, act_next, runCommand_of_stop body hwaits hop hstarts hpre]
    rfl
  case stale =>
    intro s t ref r n row u hrow hok hwaits hop hstarts hnone hflight hnative hfloor
    obtain ⟨body, hrun⟩ := commandRows_run n row hrow
    have hpre : u.preStart r = .stop .sequenceStale false := by
      rw [preStart_of_unfinished (by simp [hnone]), if_neg (by simp [hflight]), if_pos ⟨hnone, hnative, hfloor⟩]
    rw [hrun t ref s hok, act_next, runCommand_of_stop body hwaits hop hstarts hpre]
    rfl
  case late =>
    intro s t ref r n row u hrow hok hwaits hop hstarts hentry hflight hfloor hlate
    obtain ⟨body, hrun⟩ := commandRows_run n row hrow
    have hpre : u.preStart r = .stop .deadlineMissed true := by
      rw [preStart_of_unfinished hentry, if_neg (by simp [hflight]), if_neg (not_and.mpr hfloor), if_pos hlate]
    rw [hrun t ref s hok, act_next, runCommand_of_stop body hwaits hop hstarts hpre]
    rfl
  case header =>
    intro s t ref r n row u x v hrow hok hwaits hop hstarts hpre hheader
    obtain ⟨body, hrun⟩ := commandRows_run n row hrow
    rw [hrun t ref s hok, act_next, runCommand_of_error body hwaits hop hstarts hpre (postStart_of_header hheader)]
  case rows =>
    intro s t ref r n row st u x v hrow hok hwaits hop hstarts hpre hheader hrows
    obtain ⟨body, hrun⟩ := commandRows_run n row hrow
    rw [hrun t ref s hok, act_next, runCommand_of_error body hwaits hop hstarts hpre (postStart_of_rows hheader hrows)]
  case session =>
    intro s t ref r n row st u x v hrow hok hwaits hop hstarts hpre hheader hrows hopened
    obtain ⟨body, hrun⟩ := commandRows_run n row hrow
    rw [hrun t ref s hok, act_next,
      runCommand_of_error body hwaits hop hstarts hpre (postStart_of_session hheader hrows hopened)]

end

/-! # Scope: how a command goes on with a key, its material or drawn bytes (R173, R330) -/

section

namespace Sys2Proof.Machine

variable {s v w : State} {t h i j n : Nat} {need : Need}

theorem withKey_of_resolve {k : State → Nat → State × Did} (hkey : s.resolve (some t) h need = (v, .ok i)) :
    s.withKey t h need k = k v i := by
  simp only [State.withKey, hkey]

theorem withKeys_of_resolve {g : Nat} {need2 : Slot → Need} {k : State → Nat → Nat → State × Did}
    (hfirst : s.resolve (some t) h need = (v, .ok i)) (hsecond : v.resolve (some t) g (need2 (v.slot i)) = (w, .ok j)) :
    s.withKeys t h need g need2 k = k w i j := by
  simp only [State.withKeys, hfirst, hsecond]

theorem withMaterial_of_ok {m : Bytes} {k : Bytes → State × Did} (hmaterial : s.material i = .ok m) :
    s.withMaterial i k = k m := by
  simp only [State.withMaterial, hmaterial]

theorem withRandom_of_drawn {d : Bytes} {k : State → Bytes → State × Did} (hdrawn : s.random n = some (w, d)) :
    s.withRandom n k = k w d := by
  simp only [State.withRandom, hdrawn]

end Sys2Proof.Machine

end

/-! # Scope: sessions, outcome queries, attestation and GET_INFO (R135, R136, R139, R146, R150, R583) -/

section

namespace Sys2Proof.Machine

/-! ## The rows, on a record that names a queue pair that exists -/

section Rows

variable (t : Tick) {ref : RecRef} (s : State) (h : ref.ok = true)
include h

theorem exec_sessionOpen :
    exec (.sessionOpen t ref) s = s.act t fun u => u.runCommand 0x0101 sessionOpen ref := if_pos h
theorem exec_sessionClose :
    exec (.sessionClose t ref) s = s.act t fun u => u.runCommand 0x0102 sessionClose ref := if_pos h
theorem exec_askOutcome :
    exec (.askOutcome t ref) s = s.act t fun u => u.runCommand 0x0103 askOutcome ref := if_pos h
theorem exec_getInfo :
    exec (.getInfo t ref) s = s.act t fun u => u.runCommand 0x0104 getInfo ref := if_pos h
theorem exec_attest :
    exec (.attest t ref) s = s.act t fun u => u.runCommand 0x0105 attest ref := if_pos h

end Rows

section Meanings

variable {s v w : State} {c : Cmd}

/-- With its key, MAC, point and a free number found good, SESSION_OPEN adds the session of the drawn scalar (R136). -/
theorem sessionOpen_eq {k id : Nat} {m d : Bytes} (hlen : c.body.length = 0x64)
    (hkey : s.resolve (some c.tenant) (fld c.body 0 4)
      { fits := fun x => x.type == 5, use := fun _ => useBit 12, units := some fun _ => 1 } = (v, .ok k))
    (hmaterial : v.material k = .ok m)
    (hmac : hmac256 m (natLE 6 c.record.seq ++ sub c.body 4 64) = sub c.body 0x44 32)
    (hpoint : p256Curve.validPoint 32 (sub c.body 4 64) = true) (hfree : v.freeSession c.tenant = some id)
    (hdrawn : v.random 40 = some (w, d)) :
    sessionOpen c s =
      ({ w with
          sessions := w.sessions ++ [{
            tenant := c.tenant
            id
            key := sessionKey (p256Curve.shared 32 (p256Curve.scalar d) (sub c.body 4 64)) (sub c.body 0x44 32)
              c.tenant id }] },
        .done {
          body := natLE 2 id ++ zeros 2 ++ pointBytes 32 (p256Curve.mul (p256Curve.scalar d) p256Curve.base) ++
            hmac256 m (natLE 2 id ++ sub c.body 4 64 ++
              pointBytes 32 (p256Curve.mul (p256Curve.scalar d) p256Curve.base)) }) := by
  unfold sessionOpen
  dsimp only
  rw [if_neg (not_not_intro hlen), withKey_of_resolve hkey, withMaterial_of_ok hmaterial, if_neg (not_not_intro hmac),
    if_neg (not_not_intro hpoint)]
  simp only [hfree, withRandom_of_drawn hdrawn]

theorem sessionClose_eq (hbody : c.body = []) (hsealed : c.record.isSealed = true) :
    sessionClose c s = ({ s with
      sessions := s.sessions.filter fun x => !(x.tenant == c.tenant && x.id == fld c.record.raw 0x16 2) }, .done {}) := by
  unfold sessionClose
  rw [if_neg (not_not_intro hbody), if_neg (not_not_intro hsealed)]

/-- ASK_OUTCOME's body asks for 1 to 256 numbers. -/
theorem askOutcome_eq (hmin : 0 < fld c.body 0 2) (hmax : fld c.body 0 2 ≤ 256)
    (hlen : c.body.length = 8 + 8 * fld c.body 0 2) (hzero : zeroAt c.body 2 6 = true)
    (hentries : ((List.range (fld c.body 0 2)).all fun k => zeroAt c.body (8 + 8 * k + 6) 2) = true) :
    askOutcome c s = (s, .done { body :=
      (List.range (fld c.body 0 2)).flatMap fun k => s.askEntry c.tenant (fld c.body (8 + 8 * k) 6) }) := by
  refine if_neg ?_
  rintro (h | h | h | h | h)
  · exact Nat.ne_of_gt hmin h
  · exact Nat.not_lt.mpr hmax h
  · exact h hlen
  · exact h hzero
  · exact h hentries

theorem attest_eq {d : Bytes} (hlen : c.body.length = 32) (hlane : s.laneAny .bigNumber = true)
    (hdrawn : s.random 56 = some (w, d)) :
    attest c s =
      (w, .job .bigNumber (curveCycles 1600 6) [] {
        body := w.attestBytes c.tenant c.body ++
          w.identitySig (sha384 (w.attestBytes c.tenant c.body)) d }) := by
  unfold attest
  rw [if_neg (not_not_intro hlen), if_neg (not_not_intro hlane), withRandom_of_drawn hdrawn]

/-- GET_INFO's body asks for 1 to 64 aligned register offsets. -/
theorem getInfo_eq (hmin : 0 < fld c.body 0 2) (hmax : fld c.body 0 2 ≤ 64)
    (hlen : c.body.length = 8 + 4 * fld c.body 0 2) (hzero : zeroAt c.body 2 6 = true)
    (hoffsets : (((List.range (fld c.body 0 2)).map fun k => fld c.body (8 + 4 * k) 4).any
      fun o => o % 4 != 0 || decide (0x400000 ≤ o)) = false) :
    getInfo c s = (s, .done { body := natLE 2 (fld c.body 0 2) ++ zeros 6 ++
      ((List.range (fld c.body 0 2)).map fun k => fld c.body (8 + 4 * k) 4).flatMap (s.infoEntry c.tenant) }) := by
  refine if_neg ?_
  rintro (h | h | h | h | h)
  · exact Nat.ne_of_gt hmin h
  · exact Nat.not_lt.mpr hmax h
  · exact h hlen
  · exact h hzero
  · exact Bool.eq_false_iff.mp hoffsets h

end Meanings

end Sys2Proof.Machine

end

section

open Sys2Proof Sys2Proof.Machine

/-- Settles O43: each row is an accepted command, so its opcode's meaning runs on the begun state; the clause's hypotheses
pass every check of that meaning. -/
theorem sessionsOpenCloseAndReport : Obligations.SessionsOpenCloseAndReport := by
  unfold Obligations.SessionsOpenCloseAndReport
  refine ⟨?opens, ?closes, ?ask, ?attest, ?info⟩
  case opens =>
    intro s t ref r b i k id v w m d c u q hacc hlen hkey hmaterial hmac hpoint hfree hdrawn
    rw [exec_sessionOpen t s hacc.named]
    exact runCommand_accepted hacc _ _ _ (sessionOpen_eq hlen hkey hmaterial hmac hpoint hfree hdrawn)
  case closes =>
    intro s t ref r b i u hacc hbody hsealed
    rw [exec_sessionClose t s hacc.named]
    exact runCommand_accepted hacc _ _ _ (sessionClose_eq hbody hsealed)
  case ask =>
    intro s t ref r b i u hacc hmin hmax hlen hzero hentries
    rw [exec_askOutcome t s hacc.named]
    exact runCommand_accepted hacc _ _ _ (askOutcome_eq hmin hmax hlen hzero hentries)
  case attest =>
    intro s t ref r b i w d u hacc hlen hlane hdrawn
    rw [exec_attest t s hacc.named]
    exact runCommand_accepted hacc _ _ _ (attest_eq hlen hlane hdrawn)
  case info =>
    intro s t ref r b i u offs hacc hmin hmax hlen hzero hoffsets
    rw [exec_getInfo t s hacc.named]
    exact runCommand_accepted hacc _ _ _ (getInfo_eq hmin hmax hlen hzero hoffsets)

end

/-! # Scope: how a KH-1 function finds its keys and data, and what its answer becomes (R154, R155) -/

section

namespace Sys2Proof.Machine

variable {s : State} {c : Cmd} {h : Nat}

/-- The inline data of a KH-1 record, as long as its data_len says (Table 5-9). -/
def kh1Data (c : Cmd) : Bytes := sub c.body 0x40 (beNat (sub c.body 0x0E 2))

theorem withKh1_of_handle {k : Nat → Bytes → State × Did} (hlen : beNat (sub c.body 0x0E 2) ≤ 176)
    (hmapped : s.kh1Handle c.tenant (beNat (sub c.body 8 2)) = some h) :
    s.withKh1 c k = k h (kh1Data c) := by
  unfold State.withKh1
  dsimp only
  rw [if_neg (Nat.not_lt.mpr hlen), hmapped, kh1Data]

theorem withKh1b_of_handle {k : Nat → State × Did}
    (hmapped : s.kh1Handle c.tenant (beNat (sub c.body 0x0A 2)) = some h) : s.withKh1b c k = k h := by
  simp only [State.withKh1b, hmapped]

/-- A job's answer becomes the data field of a KH-1 record when it succeeds. -/
theorem kh1Did_job (k : LaneKind) (n : Nat) (latched : List Nat) (res : Result) (f : Result → Bytes) :
    kh1Did (s, .job k n latched res) f =
      (s, .job k n latched { res with out := if res.status = .ok then f res else [], body := [] }) := rfl

end Sys2Proof.Machine

end

/-! # Scope: PIN and card-check commands (R155, R264, R272 to R275, R286, Tables 8-6 and 8-10) -/

section

namespace Sys2Proof.Machine

/-! ## The rows, on a record that names a queue pair that exists -/

section Rows

variable (t : Tick) {ref : RecRef} (s : State) (h : ref.ok = true)
include h

theorem exec_pinTranslate :
    exec (.pinTranslate t ref) s = s.act t fun u => u.runCommand 0x0B01 pinTranslate ref := if_pos h
theorem exec_pinVerify :
    exec (.pinVerify t ref) s = s.act t fun u => u.runCommand 0x0B02 pinVerify ref := if_pos h
theorem exec_cardCheckGenerate :
    exec (.cardCheckGenerate t ref) s = s.act t fun u => u.runCommand 0x0B03 cardCheckGenerate ref := if_pos h
theorem exec_cardCheckVerify :
    exec (.cardCheckVerify t ref) s = s.act t fun u => u.runCommand 0x0B04 cardCheckVerify ref := if_pos h
theorem exec_pinXlate :
    exec (.pinXlate t ref) s = s.act t fun u => u.runCommand 0x10040 pinXlate ref := if_pos h
theorem exec_kh1PinVerify :
    exec (.kh1PinVerify t ref) s = s.act t fun u => u.runCommand 0x10041 kh1PinVerify ref := if_pos h

end Rows

variable {s v w z : State} {c : Cmd} {i j : Nat} {pan : List Nat}

/-! ## The two PIN jobs, native and KH-1 alike -/

/-- Need of a key that opens or makes a PIN block of format `f` (Tables 6-8 and 8-5). -/
def pinNeed (f : Nat) : Need := { fits := pinFits f, use := fun _ => useBit 9, units := some fun _ => 1 }

/-- Need of the key of a reference value: where it is generated, usage bit 2 as well (R274). -/
def pinRefNeed (gen : Bool) : Need :=
  { fits := isAes, use := fun _ => if gen then useBit 9 ||| useBit 2 else useBit 9, units := some fun _ => 1 }

/-- What PIN_TRANSLATE answers under keys `k` and `k'`: the block of format `g`, or the first check that fails (R273). -/
def pinTranslated (f g : Nat) (k k' : Bytes) (pan : List Nat) (block fill : Bytes) : Result :=
  match readPin f (openPin f k pan block) with
  | .error d => failD .pinFormat d
  | .ok pin => if g = 1 ∧ f ≠ 1 then failD .pinFormat 5 else { body := padTo 16 (makePin g k' pan pin fill) }

/-- What PIN_VERIFY answers under keys `k` and `k'`: the reference value, or whether it is `expected` (R274). -/
def pinVerified (f : Nat) (gen : Bool) (k k' : Bytes) (pan : List Nat) (expected block : Bytes) : Result :=
  match readPin f (openPin f k pan block) with
  | .error d => failD .pinFormat d
  | .ok pin =>
    if gen then { body := pinReference k' pan pin ++ zeros 4 }
    else if pinReference k' pan pin = expected then { body := zeros 8 } else fail .verifyFailed

theorem pinTranslateJob_eq {t h h' f g : Nat} {block fill : Bytes}
    (hfirst : s.resolve (some t) h (pinNeed f) = (v, .ok i)) (hsecond : v.resolve (some t) h' (pinNeed g) = (w, .ok j))
    (hparts : keyParts (w.slot i) = true) (hparts' : keyParts (w.slot j) = true)
    (hfill : if g = 0 then z = w ∧ fill = [] else w.random 14 = some (z, fill)) :
    s.pinTranslateJob t h h' f g pan block =
      (z, .job .cipher 512 [i, j] (pinTranslated f g (w.slot i).material (w.slot j).material pan block fill)) := by
  have hkeys : ¬ (¬ keyParts (w.slot i) = true ∨ ¬ keyParts (w.slot j) = true) := by simp [hparts, hparts']
  unfold State.pinTranslateJob
  refine (withKeys_of_resolve (need2 := fun _ => pinNeed g) hfirst hsecond).trans ?_
  dsimp only
  rw [if_neg hkeys]
  by_cases hg : g = 0
  · rw [if_pos hg] at hfill ⊢
    obtain ⟨rfl, rfl⟩ := hfill
    rfl
  · rw [if_neg hg] at hfill ⊢
    rw [withRandom_of_drawn hfill]
    rfl

theorem pinVerifyJob_eq {t h h' f : Nat} {gen : Bool} {expected block : Bytes}
    (hfirst : s.resolve (some t) h (pinNeed f) = (v, .ok i))
    (hsecond : v.resolve (some t) h' (pinRefNeed gen) = (w, .ok j)) (hparts : keyParts (w.slot i) = true) :
    s.pinVerifyJob t h h' f gen pan expected block =
      (w, .job .cipher 512 [i, j] (pinVerified f gen (w.slot i).material (w.slot j).material pan expected block)) := by
  unfold State.pinVerifyJob
  exact (withKeys_of_resolve (need2 := fun _ => pinRefNeed gen) hfirst hsecond).trans (if_neg (not_not_intro hparts))

/-! ## PIN_TRANSLATE and PIN_VERIFY: a body that obeys its layout runs its job -/

theorem pinTranslate_of_form (hlen : c.body.length = 0x30) (hin : pinFormat (fld c.body 8 1) = true)
    (hout : pinFormat (fld c.body 9 1) = true) (hzero : zeroAt c.body 0xB 5 = true) (hzero' : zeroAt c.body 0x1A 6 = true)
    (hshort : fld c.body 8 1 ≠ 4 → zeroAt c.body 0x28 8 = true)
    (hpan : bodyPan (usesPan (fld c.body 8 1) || usesPan (fld c.body 9 1)) (fld c.body 0xA 1) (sub c.body 0x10 10) =
      some pan) :
    pinTranslate c s = s.pinTranslateJob c.tenant (fld c.body 0 4) (fld c.body 4 4) (fld c.body 8 1) (fld c.body 9 1) pan
      (sub c.body 0x20 16) := by
  have hform : ¬ (c.body.length ≠ 0x30 ∨ ¬ pinFormat (fld c.body 8 1) = true ∨ ¬ pinFormat (fld c.body 9 1) = true ∨
      ¬ zeroAt c.body 0xB 5 = true ∨ ¬ zeroAt c.body 0x1A 6 = true ∨
      (fld c.body 8 1 ≠ 4 ∧ ¬ zeroAt c.body 0x28 8 = true)) := by
    simpa [hlen, hin, hout, hzero, hzero'] using hshort
  unfold pinTranslate
  dsimp only
  rw [if_neg hform, hpan]

theorem pinVerify_of_form (hlen : c.body.length = 0x30) (hformat : pinFormat (fld c.body 8 1) = true)
    (haction : fld c.body 9 1 ≤ 1) (hzero : zeroAt c.body 0xB 5 = true) (hzero' : zeroAt c.body 0x1A 2 = true)
    (hgen : fld c.body 9 1 = 1 → zeroAt c.body 0x1C 4 = true)
    (hshort : fld c.body 8 1 ≠ 4 → zeroAt c.body 0x28 8 = true)
    (hpan : bodyPan true (fld c.body 0xA 1) (sub c.body 0x10 10) = some pan) :
    pinVerify c s = s.pinVerifyJob c.tenant (fld c.body 0 4) (fld c.body 4 4) (fld c.body 8 1) (fld c.body 9 1 == 1) pan
      (sub c.body 0x1C 4) (sub c.body 0x20 16) := by
  have hform : ¬ (c.body.length ≠ 0x30 ∨ ¬ pinFormat (fld c.body 8 1) = true ∨ 1 < fld c.body 9 1 ∨
      ¬ zeroAt c.body 0xB 5 = true ∨ ¬ zeroAt c.body 0x1A 2 = true ∨
      (fld c.body 9 1 = 1 ∧ ¬ zeroAt c.body 0x1C 4 = true) ∨ (fld c.body 8 1 ≠ 4 ∧ ¬ zeroAt c.body 0x28 8 = true)) := by
    simpa [hlen, hformat, haction, hzero, hzero'] using ⟨hgen, hshort⟩
  unfold pinVerify
  dsimp only
  rw [if_neg hform, hpan]

/-! ## The KH-1 functions, on inline data that holds the native fields from pan_len on (entry 13) -/

section Kh1

variable {h g : Nat} (hlen : beNat (sub c.body 0x0E 2) ≤ 176)
  (hkey : s.kh1Handle c.tenant (beNat (sub c.body 8 2)) = some h)
  (hkey' : s.kh1Handle c.tenant (beNat (sub c.body 0x0A 2)) = some g)
  (hdata : (kh1Data c).length = 38)
include hlen hkey hkey' hdata

theorem pinXlate_of_form (hin : pinFormat (kh1Mod c / 16) = true) (hout : pinFormat (kh1Mod c % 16) = true)
    (hpan : bodyPan (usesPan (kh1Mod c / 16) || usesPan (kh1Mod c % 16)) (fld (kh1Data c) 0 1) (sub (kh1Data c) 6 10) =
      some pan) :
    pinXlate c s = kh1Did (s.pinTranslateJob c.tenant h g (kh1Mod c / 16) (kh1Mod c % 16) pan (sub (kh1Data c) 22 16))
      fun r => r.body.take (pinLen (kh1Mod c % 16)) := by
  unfold pinXlate
  rw [withKh1_of_handle hlen hkey, withKh1b_of_handle hkey']
  dsimp only
  rw [if_neg (by simp [hdata, hin, hout]), hpan]

theorem kh1PinVerify_of_form (hformat : pinFormat (kh1Mod c) = true)
    (hpan : bodyPan true (fld (kh1Data c) 0 1) (sub (kh1Data c) 6 10) = some pan) :
    kh1PinVerify c s = kh1Did (s.pinVerifyJob c.tenant h g (kh1Mod c) false pan (sub (kh1Data c) 18 4)
      (sub (kh1Data c) 22 16)) fun _ => [] := by
  unfold kh1PinVerify
  rw [withKh1_of_handle hlen hkey, withKh1b_of_handle hkey']
  dsimp only
  rw [if_neg (by simp [hdata, hformat]), hpan]

end Kh1

/-! ## CARD_CHECK_GENERATE and CARD_CHECK_VERIFY (R275) -/

/-- A body of the card checks that obeys its layout but for its last field (Table 8-10). -/
structure CardCheckForm (b : Bytes) : Prop where
  length : b.length = 0x1C
  min : 3 ≤ fld b 4 1
  max : fld b 4 1 ≤ 5
  zero : zeroAt b 6 2 = true
  zero' : zeroAt b 0x16 2 = true
  expiry : (nibbles (sub b 0x12 2)).all (fun d => decide (d ≤ 9)) = true
  service : ((nibbles (sub b 0x14 2)).take 3).all (fun d => decide (d ≤ 9)) = true
  serviceEnd : (nibbles (sub b 0x14 2)).getD 3 0 = 15

/-- The last field of a card check's body: `n` digits and filler where they are compared, else zero. -/
def cardCheckField (verify : Bool) (b : Bytes) (n : Nat) : Prop :=
  if verify then ((nibbles (sub b 0x18 4)).take n).all (fun d => decide (d ≤ 9)) = true ∧
    ((nibbles (sub b 0x18 4)).drop n).all (· == 15) = true
  else zeroAt b 0x18 4 = true

/-- The check value of a body under a key: the MAC decimalised to the length asked, and filler. -/
def cardCheckValue (k b : Bytes) : Bytes :=
  packNibbles ((decimalise (aesCmac k (sub b 8 10 ++ sub b 0x12 2 ++ sub b 0x14 2 ++ zeros 2))).take (fld b 4 1) ++
    List.replicate (8 - fld b 4 1) 15)

theorem cardCheck_eq {verify : Bool} (hform : CardCheckForm c.body)
    (hfield : cardCheckField verify c.body (fld c.body 4 1))
    (hpan : (bodyPan true (fld c.body 5 1) (sub c.body 8 10)).isSome = true)
    (hkey : s.resolve (some c.tenant) (fld c.body 0 4)
      { fits := isAes, use := fun _ => useBit 9, units := some fun _ => 1 } = (v, .ok i)) :
    cardCheck verify c s = (v, .job .cipher 512 [i]
      (if verify then
        (if cardCheckValue (v.slot i).material c.body = sub c.body 0x18 4 then {} else fail .verifyFailed)
      else { body := cardCheckValue (v.slot i).material c.body })) := by
  obtain ⟨hlen, hmin, hmax, hzero, hzero', hexpiry, hservice, hend⟩ := hform
  obtain ⟨digits, hdigits⟩ := Option.isSome_iff_exists.mp hpan
  unfold cardCheck
  dsimp only
  rw [if_neg, hdigits]
  · exact withKey_of_resolve hkey
  · rintro (h | h | h | h | h | h | h | h | ⟨hv, h⟩ | ⟨hv, h⟩)
    · exact h hlen
    · exact Nat.not_lt.mpr hmin h
    · exact Nat.not_lt.mpr hmax h
    · exact h hzero
    · exact h hzero'
    · exact h hexpiry
    · exact h hservice
    · exact h hend
    · rw [cardCheckField, if_neg hv] at hfield
      exact h hfield
    · rw [cardCheckField, if_pos hv] at hfield
      exact h hfield

end Sys2Proof.Machine

end

section

open Sys2Proof Sys2Proof.Machine

/-- Settles O58: each row is an accepted command, so its opcode's meaning runs on the begun state; a body that obeys its
layout runs one of the three jobs, and the keys that the clause resolves give its result. -/
theorem pinAndCardCheckCommandsRunOnALane : Obligations.PinAndCardCheckCommandsRunOnALane := by
  unfold Obligations.PinAndCardCheckCommandsRunOnALane
  refine ⟨?translate, ?verify, ?generate, ?check, ?xlate, ?kh1Verify⟩
  case translate =>
    intro s t ref r b i v w z i1 j pan fill u x y res hacc hlen hin hout hzero hzero' hshort hpan hfirst hsecond hparts
      hparts' hfill
    rw [exec_pinTranslate t s hacc.named]
    exact runCommand_accepted hacc _ _ _ ((pinTranslate_of_form hlen hin hout hzero hzero' hshort hpan).trans
      (pinTranslateJob_eq hfirst hsecond hparts hparts' hfill))
  case verify =>
    intro s t ref r b i v w i1 j pan u x y res hacc hlen hformat haction hzero hzero' hgen hshort hpan hfirst hsecond hparts
    rw [exec_pinVerify t s hacc.named]
    exact runCommand_accepted hacc _ _ _ ((pinVerify_of_form hlen hformat haction hzero hzero' hgen hshort hpan).trans
      (pinVerifyJob_eq hfirst hsecond hparts))
  case generate =>
    intro s t ref r b i v i1 u n a hacc hlen hmin hmax hzero hzero' hexpiry hservice hend hfield hpan hkey
    rw [exec_cardCheckGenerate t s hacc.named]
    exact runCommand_accepted hacc _ _ _ (cardCheck_eq (verify := false)
      ⟨hlen, hmin, hmax, hzero, hzero', hexpiry, hservice, hend⟩ hfield hpan hkey)
  case check =>
    intro s t ref r b i v i1 u n a hacc hlen hmin hmax hzero hzero' hexpiry hservice hend hfield hpan hkey
    rw [exec_cardCheckVerify t s hacc.named]
    exact runCommand_accepted hacc _ _ _ (cardCheck_eq (verify := true)
      ⟨hlen, hmin, hmax, hzero, hzero', hexpiry, hservice, hend⟩ hfield hpan hkey)
  case xlate =>
    intro s t ref r b i h g v w z i1 j pan fill c u d f e x y res hacc hlen hkey hkey' hdata hin hout hpan hfirst hsecond
      hparts hparts' hfill
    have hjob := pinTranslateJob_eq (pan := pan) (block := sub d 22 16) hfirst hsecond hparts hparts' hfill
    rw [exec_pinXlate t s hacc.named]
    exact runCommand_accepted hacc _ _ _ ((pinXlate_of_form (c := c) hlen hkey hkey' hdata hin hout hpan).trans
      (congrArg (kh1Did · fun r => r.body.take (pinLen e)) hjob))
  case kh1Verify =>
    intro s t ref r b i h g v w i1 j pan c u d f x y res hacc hlen hkey hkey' hdata hformat hpan hfirst hsecond hparts
    have hjob := pinVerifyJob_eq (pan := pan) (expected := sub d 18 4) (block := sub d 22 16) hfirst hsecond hparts
    rw [exec_kh1PinVerify t s hacc.named]
    exact runCommand_accepted hacc _ _ _ ((kh1PinVerify_of_form (c := c) hlen hkey hkey' hdata hformat hpan).trans
      (congrArg (kh1Did · fun _ => []) hjob))

end

/-! # Scope: the commands of the cipher lanes, native and KH-1 (R155, R253 to R257, R264, R265, R286, Tables 8-1 to 8-3) -/

section

namespace Sys2Proof.Machine

/-! ## The rows, on a record that names a queue pair that exists -/

section Rows

variable (t : Tick) {ref : RecRef} (s : State) (h : ref.ok = true)
include h

theorem exec_encrypt :
    exec (.encrypt t ref) s = s.act t fun u => u.runCommand 0x0301 encrypt ref := if_pos h
theorem exec_decrypt :
    exec (.decrypt t ref) s = s.act t fun u => u.runCommand 0x0302 decrypt ref := if_pos h
theorem exec_macGenerate :
    exec (.macGenerate t ref) s = s.act t fun u => u.runCommand 0x0303 macGenerate ref := if_pos h
theorem exec_macVerify :
    exec (.macVerify t ref) s = s.act t fun u => u.runCommand 0x0304 macVerify ref := if_pos h
theorem exec_translate :
    exec (.translate t ref) s = s.act t fun u => u.runCommand 0x0305 translate ref := if_pos h
theorem exec_encipher :
    exec (.encipher t ref) s = s.act t fun u => u.runCommand 0x10010 encipher ref := if_pos h
theorem exec_decipher :
    exec (.decipher t ref) s = s.act t fun u => u.runCommand 0x10011 decipher ref := if_pos h
theorem exec_macGen :
    exec (.macGen t ref) s = s.act t fun u => u.runCommand 0x10020 macGen ref := if_pos h
theorem exec_macVer :
    exec (.macVer t ref) s = s.act t fun u => u.runCommand 0x10021 macVer ref := if_pos h

end Rows

variable {s v w : State} {c : Cmd} {t i j : Nat}

/-! ## ENCRYPT and DECRYPT (R255) -/

section Cipher

variable {q p : CipherReq}

/-- Need of the key of a cipher request (R191, Table 8-1). -/
def cipherNeed (q : CipherReq) : Need :=
  { fits := modeFits q.mode, use := fun _ => modeUse q.mode q.enc, units := some (units (ceilDiv q.data.length 8)) }

/-- Need of the second key of an XTS request, which is of the type of the first (Table 8-1). -/
def xtsNeed (q : CipherReq) (x : Slot) : Need :=
  { cipherNeed q with fits := fun y => modeFits 5 y && y.type == x.type }

/-- A cipher request with its IV: GCM encryption with iv_source 1 draws it. -/
def State.withIv (s : State) (q : CipherReq) : Option (State × CipherReq) :=
  if q.mode = 4 ∧ q.enc = true ∧ q.ivSource = 1 then (s.random 12).map fun d => (d.1, { q with iv := d.2 })
  else some (s, q)

/-- Cycles of a cipher request on a lane (Table 8-3). -/
def cipherReqCycles (q : CipherReq) (x : Slot) : Nat :=
  cipherCycles q.mode q.enc x q.aadLen ((if q.mode = 4 then gcmLen q else none).getD q.data.length) q.unitLen

theorem cipherReqCycles_of_not_gcm {x : Slot} (h : q.mode ≠ 4) :
    cipherReqCycles q x = cipherCycles q.mode q.enc x q.aadLen q.data.length q.unitLen := by
  rw [cipherReqCycles, if_neg h, Option.getD_none]

theorem withIv_of_not_gcm (h : q.mode ≠ 4) : s.withIv q = some (s, q) := if_neg fun ⟨hgcm, _⟩ => h hgcm

/-- A request that passes its checks once its IV is there goes to a lane and keeps its keys latched. -/
theorem cipherGo_eq {k : Option Nat} (hiv : s.withIv q = some (w, p))
    (hcheck : cipherCheck p (s.slot i) (s.slot i).material ((k.map fun k => (s.slot k).material).getD []) = none) :
    s.cipherGo q i k = (w, .job .cipher (cipherReqCycles p (s.slot i)) (i :: k.toList)
      (cipherRun p (s.slot i) (s.slot i).material ((k.map fun k => (s.slot k).material).getD []))) := by
  unfold State.withIv at hiv
  unfold State.cipherGo
  dsimp only
  split_ifs at hiv with hdraw
  · obtain ⟨⟨_, d⟩, hdrawn, hp⟩ := Option.map_eq_some_iff.mp hiv
    obtain ⟨rfl, rfl⟩ := Prod.mk.inj hp
    rw [if_pos hdraw, withRandom_of_drawn hdrawn]
    simp only [hcheck]
    rfl
  · obtain ⟨rfl, rfl⟩ := Prod.mk.inj (Option.some.inj hiv)
    rw [if_neg hdraw]
    simp only [hcheck]
    rfl

theorem cipherJob_of_one_key (hmode : q.mode ≠ 5) (hkey : s.resolve (some t) q.handle (cipherNeed q) = (v, .ok i))
    (hiv : v.withIv q = some (w, p)) (hcheck : cipherCheck p (v.slot i) (v.slot i).material [] = none) :
    s.cipherJob t q =
      (w, .job .cipher (cipherReqCycles p (v.slot i)) [i] (cipherRun p (v.slot i) (v.slot i).material [])) := by
  unfold State.cipherJob
  dsimp only
  rw [if_neg hmode]
  exact (withKey_of_resolve hkey).trans (cipherGo_eq (k := none) hiv hcheck)

theorem cipherJob_of_two_keys (hmode : q.mode = 5) (hfirst : s.resolve (some t) q.handle (cipherNeed q) = (v, .ok i))
    (hsecond : v.resolve (some t) q.handleB (xtsNeed q (v.slot i)) = (w, .ok j))
    (hcheck : cipherCheck q (w.slot i) (w.slot i).material (w.slot j).material = none) :
    s.cipherJob t q = (w, .job .cipher (cipherCycles q.mode q.enc (w.slot i) q.aadLen q.data.length q.unitLen) [i, j]
      (cipherRun q (w.slot i) (w.slot i).material (w.slot j).material)) := by
  have hgcm : q.mode ≠ 4 := by omega
  unfold State.cipherJob
  dsimp only
  rw [if_pos hmode, ← cipherReqCycles_of_not_gcm hgcm]
  exact (withKeys_of_resolve (need2 := xtsNeed q) hfirst hsecond).trans
    (cipherGo_eq (k := some j) (withIv_of_not_gcm hgcm) hcheck)

theorem encrypt_of_form (hform : cipherBodyOk c.body (parseCipher c.body true c.input) = true) :
    encrypt c s = s.cipherJob c.tenant (parseCipher c.body true c.input) := if_pos hform
theorem decrypt_of_form (hform : cipherBodyOk c.body (parseCipher c.body false c.input) = true) :
    decrypt c s = s.cipherJob c.tenant (parseCipher c.body false c.input) := if_pos hform

end Cipher

/-! ## ENCIPHER and DECIPHER: ECB, or CBC with the IV at the head of the data (Table 5-10) -/

/-- The request of a KH-1 cipher function on the key of handle `h`. -/
def State.kh1CipherReq (s : State) (enc : Bool) (c : Cmd) (h : Nat) : CipherReq :=
  let n := if kh1Mod c = 1 then s.ivLen c.tenant h else 0
  { handle := h, mode := kh1Mod c + 1, enc, iv := padTo 16 ((kh1Data c).take n), data := (kh1Data c).drop n }

theorem kh1Cipher_eq {enc : Bool} {h : Nat} {q : CipherReq} (hlen : beNat (sub c.body 0x0E 2) ≤ 176)
    (hmapped : s.kh1Handle c.tenant (beNat (sub c.body 8 2)) = some h) (hmod : kh1Mod c ≤ 1)
    (hq : s.kh1CipherReq enc c h = q)
    (hkey : s.resolve (some c.tenant) h (cipherNeed q) = (v, .ok i))
    (hcheck : cipherCheck q (v.slot i) (v.slot i).material [] = none) :
    kh1Cipher enc c s = kh1Did (v, .job .cipher (cipherCycles q.mode q.enc (v.slot i) 0 q.data.length 16) [i]
      (cipherRun q (v.slot i) (v.slot i).material [])) (·.out) := by
  subst hq
  have hgcm : (s.kh1CipherReq enc c h).mode ≠ 4 := by unfold State.kh1CipherReq; dsimp only; omega
  have hxts : (s.kh1CipherReq enc c h).mode ≠ 5 := by unfold State.kh1CipherReq; dsimp only; omega
  have hjob := cipherJob_of_one_key hxts hkey (withIv_of_not_gcm hgcm) hcheck
  rw [cipherReqCycles_of_not_gcm hgcm] at hjob
  unfold kh1Cipher
  rw [withKh1_of_handle hlen hmapped, if_neg (Nat.not_lt.mpr hmod)]
  exact congrArg (kh1Did · (·.out)) hjob

/-! ## MACs (R257, R264, R286) -/

section Mac

variable {q : MacReq}

/-- Need of the key of a MAC request (Table 8-1). -/
def macNeed (q : MacReq) : Need :=
  { fits := fun x => if q.mode = 0x10 then isAes x else isTdea x, use := fun _ => useBit (if q.verify then 3 else 2)
    units := some (units (ceilDiv q.data.length 8)) }

/-- The check of a MAC request's length (Table 8-2). -/
def macLenCheck (q : MacReq) : Option Status :=
  if q.mode = 0x10 then lenCheck q.data.length 0 (2 ^ 36) 1 else lenCheck q.data.length 8 (2 ^ 23) 8

/-- Cycles of a MAC request on a lane (Table 8-3). -/
def macCycles (q : MacReq) (x : Slot) : Nat :=
  if q.mode = 0x10 then 4 + rk x + rk x * max 1 (ceilDiv q.data.length 16) else 4 + 16 * (q.data.length / 8 - 1) + 48

/-- What a MAC request answers: the MAC, or whether it is the expected one. -/
def macResult (q : MacReq) (k : Bytes) : Result :=
  if q.verify then (if (macOf q.mode k q.data).take q.macLen = q.expected.take q.macLen then {} else fail .verifyFailed)
  else { body := padTo 16 ((macOf q.mode k q.data).take q.macLen) }

theorem macJob_eq (hkey : s.resolve (some t) q.handle (macNeed q) = (v, .ok i)) (hlen : macLenCheck q = none)
    (hparts : isTdea (v.slot i) = true → tdeaDistinct (v.slot i).material = true) :
    s.macJob t q = (v, .job .cipher (macCycles q (v.slot i)) [i] (macResult q (v.slot i).material)) := by
  unfold macLenCheck at hlen
  unfold State.macJob
  refine (withKey_of_resolve hkey).trans ?_
  dsimp only
  rw [hlen]
  exact if_neg fun ⟨htdea, hsame⟩ => hsame (hparts htdea)

theorem macGenerate_of_form (hform : macBody c.body false = true) :
    macGenerate c s = s.macJob c.tenant
      { handle := fld c.body 0 4, mode := fld c.body 4 1, macLen := fld c.body 5 1, verify := false, data := c.input } :=
  if_neg (not_not_intro hform)

theorem macVerify_of_form (hform : macBody c.body true = true) :
    macVerify c s = s.macJob c.tenant
      { handle := fld c.body 0 4, mode := fld c.body 4 1, macLen := fld c.body 5 1, verify := true
        expected := sub c.body 8 16, data := c.input } :=
  if_neg (not_not_intro hform)

/-- The request of MAC_GEN on the key of handle `h`; that a KH-1 MAC has 8 bytes is deduced (entry 52). -/
def macGenReq (c : Cmd) (h : Nat) : MacReq :=
  { handle := h, mode := kh1MacMode c, macLen := 8, verify := false, data := kh1Data c }

/-- The request of MAC_VER: the last 8 bytes of the data are the expected MAC. -/
def macVerReq (c : Cmd) (h : Nat) : MacReq :=
  { handle := h, mode := kh1MacMode c, macLen := 8, verify := true
    expected := (kh1Data c).drop ((kh1Data c).length - 8), data := (kh1Data c).take ((kh1Data c).length - 8) }

section Kh1

variable {h : Nat} (hlen : beNat (sub c.body 0x0E 2) ≤ 176)
  (hmapped : s.kh1Handle c.tenant (beNat (sub c.body 8 2)) = some h) (hmod : kh1Mod c ≤ 1)
include hlen hmapped hmod

theorem macGen_of_form :
    macGen c s = kh1Did (s.macJob c.tenant (macGenReq c h)) fun r => r.body.take 8 := by
  unfold macGen
  rw [withKh1_of_handle hlen hmapped, if_neg (Nat.not_lt.mpr hmod)]
  rfl

theorem macVer_of_form (hdata : 8 ≤ (kh1Data c).length) :
    macVer c s = kh1Did (s.macJob c.tenant (macVerReq c h)) fun _ => [] := by
  unfold macVer
  rw [withKh1_of_handle hlen hmapped, if_neg (by omega)]
  rfl

end Kh1

/-- The KH-1 answer of a verification is its status alone. -/
theorem kh1Did_verification {k : LaneKind} {n : Nat} {l : List Nat} {P : Prop} [Decidable P] :
    kh1Did (s, .job k n l (if P then {} else fail .verifyFailed)) (fun _ => []) =
      (s, .job k n l (if P then {} else fail .verifyFailed)) := by
  split <;> rfl

end Mac

/-! ## TRANSLATE (R265) -/

/-- A body of TRANSLATE that obeys its layout (Table 8-10). -/
structure TranslateForm (b : Bytes) : Prop where
  length : b.length = 0x30
  modeMin : 1 ≤ fld b 8 1
  modeMax : fld b 8 1 ≤ 2
  modeMin' : 1 ≤ fld b 9 1
  modeMax' : fld b 9 1 ≤ 2
  zero : zeroAt b 0xA 6 = true
  ecb : fld b 8 1 = 1 → zeroAt b 0x10 16 = true
  ecb' : fld b 9 1 = 1 → zeroAt b 0x20 16 = true

/-- The length passes the rules of both modes of a TRANSLATE (Table 8-2). -/
def translateLenCheck (b : Bytes) (n : Nat) (x y : Slot) : Option Status :=
  let r := lenRule (fld b 8 1) false (isTdea x) 16
  let r' := lenRule (fld b 9 1) true (isTdea y) 16
  lenCheck n (max r.1 r'.1) (min r.2.1 r'.2.1) (max r.2.2 r'.2.2)

/-- The output of a TRANSLATE: the input decrypted under one key and encrypted under the other. -/
def translateOut (b input : Bytes) (x y : Slot) : Bytes :=
  let plain := (cipherRun { handle := 0, mode := fld b 8 1, enc := false, iv := sub b 0x10 16, data := input } x
    x.material []).out
  (cipherRun { handle := 0, mode := fld b 9 1, enc := true, iv := sub b 0x20 16, data := plain } y y.material []).out

/-- Need of a key of a TRANSLATE, with the usage bit of its side (R265, Table 6-8). -/
def translateNeed (mode bit len : Nat) : Need :=
  { fits := modeFits mode, use := fun _ => useBit bit, units := some (units (ceilDiv len 8)) }

theorem translate_eq (hform : TranslateForm c.body)
    (hfirst : s.resolve (some c.tenant) (fld c.body 0 4) (translateNeed (fld c.body 8 1) 1 c.input.length) = (v, .ok i))
    (hsecond : v.resolve (some c.tenant) (fld c.body 4 4) (translateNeed (fld c.body 9 1) 0 c.input.length) = (w, .ok j))
    (hlen : translateLenCheck c.body c.input.length (w.slot i) (w.slot j) = none)
    (htdea : isTdea (w.slot i) = true → tdeaDistinct (w.slot i).material = true ∧ zeroAt c.body 0x18 8 = true)
    (htdea' : isTdea (w.slot j) = true → tdeaDistinct (w.slot j).material = true ∧ zeroAt c.body 0x28 8 = true) :
    translate c s = (w, .job .cipher (setupCycles (w.slot i) false + setupCycles (w.slot j) true +
        blockCycles (w.slot i) c.input.length + blockCycles (w.slot j) c.input.length) [i, j]
      (let o := translateOut c.body c.input (w.slot i) (w.slot j)
       { body := padTo 16 (o.drop (o.length - if isTdea (w.slot j) then 8 else 16)), out := o })) := by
  obtain ⟨hbody, hmin, hmax, hmin', hmax', hzero, hecb, hecb'⟩ := hform
  unfold translateLenCheck at hlen
  unfold translate
  dsimp only
  rw [if_neg]
  · refine (withKeys_of_resolve (need2 := fun _ => translateNeed (fld c.body 9 1) 0 c.input.length) hfirst hsecond).trans ?_
    simp only [hlen]
    rw [if_neg, if_neg]
    · rfl
    · rintro (⟨h, hbad⟩ | ⟨h, hbad⟩)
      · exact hbad (htdea h).2
      · exact hbad (htdea' h).2
    · rintro (⟨h, hbad⟩ | ⟨h, hbad⟩)
      · exact hbad (htdea h).1
      · exact hbad (htdea' h).1
  · rintro (h | h | h | h | h | h | ⟨hone, h⟩ | ⟨hone, h⟩)
    · exact h hbody
    · exact Nat.ne_of_gt hmin h
    · exact Nat.not_lt.mpr hmax h
    · exact Nat.ne_of_gt hmin' h
    · exact Nat.not_lt.mpr hmax' h
    · exact h hzero
    · exact h (hecb hone)
    · exact h (hecb' hone)

end Sys2Proof.Machine

end

section

open Sys2Proof Sys2Proof.Machine

/-- Settles O50: each row is an accepted command, so its opcode's meaning runs on the begun state; a body that obeys its
layout runs a cipher or a MAC request, and the keys and checks of the clause give its job. -/
theorem ciphersAndMacsRunOnALane : Obligations.CiphersAndMacsRunOnALane := by
  unfold Obligations.CiphersAndMacsRunOnALane
  refine ⟨?encrypt, ?encryptXts, ?decrypt, ?decryptXts, ?macGenerate, ?macVerify, ?translate, ?encipher, ?decipher, ?macGen,
    ?macVer⟩
  case encrypt =>
    intro s t ref r b i v w k p u q x hacc hform hmode hkey hiv hcheck
    have hjob := cipherJob_of_one_key (q := q) hmode hkey hiv hcheck
    rw [exec_encrypt t s hacc.named]
    exact runCommand_accepted hacc _ _ _ ((encrypt_of_form (c := s.cmd t r b i) hform).trans hjob)
  case encryptXts =>
    intro s t ref r b i v w k j u q x hacc hform hmode hfirst hsecond hcheck
    have hjob := cipherJob_of_two_keys (q := q) hmode hfirst hsecond hcheck
    rw [exec_encrypt t s hacc.named]
    exact runCommand_accepted hacc _ _ _ ((encrypt_of_form (c := s.cmd t r b i) hform).trans hjob)
  case decrypt =>
    intro s t ref r b i v w k p u q x hacc hform hmode hkey hiv hcheck
    have hjob := cipherJob_of_one_key (q := q) hmode hkey hiv hcheck
    rw [exec_decrypt t s hacc.named]
    exact runCommand_accepted hacc _ _ _ ((decrypt_of_form (c := s.cmd t r b i) hform).trans hjob)
  case decryptXts =>
    intro s t ref r b i v w k j u q x hacc hform hmode hfirst hsecond hcheck
    have hjob := cipherJob_of_two_keys (q := q) hmode hfirst hsecond hcheck
    rw [exec_decrypt t s hacc.named]
    exact runCommand_accepted hacc _ _ _ ((decrypt_of_form (c := s.cmd t r b i) hform).trans hjob)
  case macGenerate =>
    intro s t ref r b i v k u x m hacc hform hkey hlen hparts
    rw [exec_macGenerate t s hacc.named]
    exact runCommand_accepted hacc _ _ _ ((macGenerate_of_form hform).trans (macJob_eq hkey hlen hparts))
  case macVerify =>
    intro s t ref r b i v k u x m hacc hform hkey hlen hparts
    rw [exec_macVerify t s hacc.named]
    exact runCommand_accepted hacc _ _ _ ((macVerify_of_form hform).trans (macJob_eq hkey hlen hparts))
  case translate =>
    intro s t ref r b i v w k j u x y p o hacc hbody hmin hmax hmin' hmax' hzero hecb hecb' hfirst hsecond hlen htdea htdea'
    rw [exec_translate t s hacc.named]
    exact runCommand_accepted hacc _ _ _ (translate_eq ⟨hbody, hmin, hmax, hmin', hmax', hzero, hecb, hecb'⟩ hfirst hsecond
      hlen htdea htdea')
  case encipher =>
    intro s t ref r b i v h k c u d n q x o hacc hlen hmapped hmod hkey hcheck
    rw [exec_encipher t s hacc.named]
    exact runCommand_accepted hacc _ _ _ (kh1Cipher_eq (enc := true) (c := c) (q := q) hlen hmapped hmod rfl hkey hcheck)
  case decipher =>
    intro s t ref r b i v h k c u d n q x o hacc hlen hmapped hmod hkey hcheck
    rw [exec_decipher t s hacc.named]
    exact runCommand_accepted hacc _ _ _ (kh1Cipher_eq (enc := false) (c := c) (q := q) hlen hmapped hmod rfl hkey hcheck)
  case macGen =>
    intro s t ref r b i v h k c u d e x m hacc hlen hmapped hmod hkey hlens hparts
    have hjob := macJob_eq (q := macGenReq c h) hkey hlens hparts
    rw [exec_macGen t s hacc.named]
    exact runCommand_accepted hacc _ _ _ ((macGen_of_form (c := c) hlen hmapped hmod).trans
      (congrArg (kh1Did · fun r => r.body.take 8) hjob))
  case macVer =>
    intro s t ref r b i v h k c u d e x m hacc hlen hmapped hmod hdata hkey hlens hparts
    have hjob := macJob_eq (q := macVerReq c h) hkey hlens hparts
    rw [exec_macVer t s hacc.named]
    exact runCommand_accepted hacc _ _ _ ((macVer_of_form (c := c) hlen hmapped hmod hdata).trans
      ((congrArg (kh1Did · fun _ => []) hjob).trans kh1Did_verification))

end

/-! # Scope: the key commands and KH1_MAP_SET (R154, R165, R179 to R187, R200) -/

section

namespace Sys2Proof.Machine

/-! ## The rows, on a record that names a queue pair that exists -/

section Rows

variable (t : Tick) {ref : RecRef} (s : State) (h : ref.ok = true)
include h

theorem exec_keyGenerate :
    exec (.keyGenerate t ref) s = s.act t fun u => u.runCommand 0x0201 keyGenerate ref := if_pos h
theorem exec_keyImport :
    exec (.keyImport t ref) s = s.act t fun u => u.runCommand 0x0202 keyImport ref := if_pos h
theorem exec_keyExport :
    exec (.keyExport t ref) s = s.act t fun u => u.runCommand 0x0203 keyExport ref := if_pos h
theorem exec_keyGreen :
    exec (.keyGreen t ref) s = s.act t fun u => u.runCommand 0x0204 keyGreen ref := if_pos h
theorem exec_keySeason :
    exec (.keySeason t ref) s = s.act t fun u => u.runCommand 0x0205 keySeason ref := if_pos h
theorem exec_keyFell :
    exec (.keyFell t ref) s = s.act t fun u => u.runCommand 0x0206 keyFell ref := if_pos h
theorem exec_keyInfo :
    exec (.keyInfo t ref) s = s.act t fun u => u.runCommand 0x0207 keyInfo ref := if_pos h
theorem exec_kh1MapSet :
    exec (.kh1MapSet t ref) s = s.act t fun u => u.runCommand 0x0208 kh1MapSet ref := if_pos h

end Rows

variable {s v w x y : State} {c : Cmd} {t h i j type n l lv : Nat} {p : Parent} {m e : Bytes} {cs : List Change}

/-! ## How a key command goes on with a parent, a wrapping key or a new key -/

theorem withParent_of_parent {k : State → Parent → Nat → State × Did} (hparent : s.parentOf t h = (v, .ok (p, lv)))
    (hlevel : childLevel type lv = some l) : s.withParent t h type k = k v p l := by
  simp only [State.withParent, hparent, hlevel]

/-- Need of a key that wraps or unwraps a key of a type, with the usage bit of its side (R200, Table 6-8). -/
def wrapNeed (bit type len : Nat) : Need :=
  { fits := fun x => pairOk x type, use := fun _ => useBit bit, units := some (units (ceilDiv len 8)) }

theorem withWrap_of_resolve {bit : Nat} {k : State → Slot → Bytes → State × Did}
    (hkey : s.resolve (some t) h (wrapNeed bit type n) = (w, .ok j)) (hmaterial : w.material j = .ok m) :
    s.withWrap t h bit type n k = k w (w.slot j) m :=
  (withKey_of_resolve hkey).trans (withMaterial_of_ok hmaterial)

theorem placeKey_of_room {k : NewKey} (hroom : s.newKey k = some (h, cs)) :
    s.placeKey k = (s, .done (keyResult h (checkValue k.type k.plain) cs)) := by
  simp only [State.placeKey, hroom]

/-! ## KEY_GENERATE and KEY_IMPORT (R200) -/

theorem keyFields_in_range {b : Bytes} {o : Nat} (husage : fld b (o + 2) 2 < 2 ^ 15) (hflags : fld b (o + 6) 2 ≤ 1)
    (hclass : fld b (o + 1) 1 ≤ 63) :
    keyFields b o = (fld b o 1, fld b (o + 1) 1, BitVec.ofNat 16 (fld b (o + 2) 2), fld b (o + 4) 2, fld b (o + 6) 2 == 1,
      true) := by
  unfold keyFields
  dsimp only
  rw [decide_eq_true husage, decide_eq_true hflags, decide_eq_true hclass]
  rfl

/-- A body of KEY_GENERATE whose fields lie in range (Table 6-15). -/
structure KeyGenerateForm (s : State) (b : Bytes) : Prop where
  length : b.length = 16
  usage : fld b 6 2 < 2 ^ 15
  flags : fld b 10 2 ≤ 1
  limitClass : fld b 5 1 ≤ 63
  zero : zeroAt b 0x0C 4 = true
  defined : s.classDefined (fld b 5 1) = true

/-- The key that a KEY_GENERATE body asks for. -/
def generatedKey (c : Cmd) (p : Parent) (l : Nat) (m : Bytes) : NewKey :=
  { type := fld c.body 4 1, bits := fld c.body 8 2, usage := BitVec.ofNat 16 (fld c.body 6 2), owner := c.tenant
    parent := p, level := l, exportable := fld c.body 10 2 == 1, limitClass := fld c.body 5 1, plain := m }

theorem keyGenerate_eq (hform : KeyGenerateForm s c.body) (hwork : fld c.body 4 1 < 0x10)
    (htype : typeOk (fld c.body 4 1) (fld c.body 8 2) = true)
    (hparent : s.parentOf c.tenant (fld c.body 0 4) = (v, .ok (p, lv)))
    (hlevel : childLevel (fld c.body 4 1) lv = some l) (hdrawn : v.random (fld c.body 8 2 / 8) = some (w, m))
    (hroom : w.newKey (generatedKey c p l m) = some (h, cs)) :
    keyGenerate c s = (w, .done (keyResult h (checkValue (fld c.body 4 1) m) cs)) := by
  obtain ⟨hlen, husage, hflags, hclass, hzero, hdefined⟩ := hform
  unfold keyGenerate
  rw [keyFields_in_range husage hflags hclass]
  dsimp only
  rw [if_neg (by simp [hlen, hzero, hdefined]), if_neg (by simp [hwork, htype]), withParent_of_parent hparent hlevel,
    withRandom_of_drawn hdrawn]
  exact placeKey_of_room hroom

/-- A body of KEY_IMPORT that carries the wrapped key `e` and whose fields lie in range (Table 6-15). -/
structure KeyImportForm (s : State) (b e : Bytes) : Prop where
  usage : fld b 10 2 < 2 ^ 15
  flags : fld b 14 2 ≤ 1
  limitClass : fld b 9 1 ≤ 63
  item : varItem b 0x20 = (e, true)
  zero : zeroAt b 0x11 7 = true
  defined : s.classDefined (fld b 9 1) = true
  checkLength : fld b 0x10 1 = 0 ∨ fld b 0x10 1 = checkLen (fld b 8 1)

/-- The key that a KEY_IMPORT body asks for, but for its blinding. -/
def importedKey (c : Cmd) (p : Parent) (l : Nat) (m : Bytes) : NewKey :=
  { type := fld c.body 8 1, bits := fld c.body 12 2, usage := BitVec.ofNat 16 (fld c.body 10 2), owner := c.tenant
    parent := p, level := l, exportable := fld c.body 14 2 == 1, limitClass := fld c.body 9 1, plain := m }

theorem keyImport_eq {g : Bytes} {q : Nat × Nat} (hform : KeyImportForm s c.body e)
    (htype : typeOk (fld c.body 8 1) (fld c.body 12 2) = true)
    (hparent : s.parentOf c.tenant (fld c.body 0 4) = (v, .ok (p, lv)))
    (hlevel : childLevel (fld c.body 8 1) lv = some l)
    (hkey : v.resolve (some c.tenant) (fld c.body 4 4) (wrapNeed 7 (fld c.body 8 1) e.length) = (w, .ok j))
    (hmaterial : w.material j = .ok m)
    (hopened : unwrapped (fld c.body 8 1) (fld c.body 12 2) (w.slot j) m e = .ok g)
    (hcheck : fld c.body 0x10 1 = 0 ∨
      (checkValue (fld c.body 8 1) g).take (fld c.body 0x10 1) = sub c.body 0x18 (fld c.body 0x10 1))
    (hblinding : (if fld c.body 8 1 = 0x10 then (w.random (fld c.body 12 2 / 8)).map fun d => (d.1, blindPair g d.2)
      else some (w, (0, 0))) = some (x, q))
    (hroom : x.newKey { importedKey c p l g with blinding := q } = some (h, cs)) :
    keyImport c s = (x, .done (keyResult h (checkValue (fld c.body 8 1) g) cs)) := by
  obtain ⟨husage, hflags, hclass, hitem, hzero, hdefined, hlength⟩ := hform
  have hform' : ¬ (¬ true = true ∨ ¬ true = true ∨ ¬ zeroAt c.body 0x11 7 = true ∨
      ¬ s.classDefined (fld c.body 9 1) = true ∨
      (fld c.body 0x10 1 ≠ 0 ∧ fld c.body 0x10 1 ≠ checkLen (fld c.body 8 1))) := by
    rintro (h | h | h | h | ⟨hnone, hwrong⟩)
    · exact h rfl
    · exact h rfl
    · exact h hzero
    · exact h hdefined
    · exact hlength.elim hnone hwrong
  have hcheck' : ¬ (fld c.body 0x10 1 ≠ 0 ∧
      (checkValue (fld c.body 8 1) g).take (fld c.body 0x10 1) ≠ sub c.body 0x18 (fld c.body 0x10 1)) := by
    rintro ⟨hnone, hwrong⟩
    exact hcheck.elim hnone hwrong
  unfold keyImport
  rw [keyFields_in_range husage hflags hclass, hitem]
  dsimp only
  rw [if_neg hform', if_neg (not_not_intro htype), withParent_of_parent hparent hlevel, withWrap_of_resolve hkey hmaterial,
    hopened]
  dsimp only
  rw [if_neg hcheck']
  split_ifs at hblinding ⊢ with hrsa
  · obtain ⟨⟨_, d⟩, hdrawn, hq⟩ := Option.map_eq_some_iff.mp hblinding
    obtain ⟨rfl, rfl⟩ := Prod.mk.inj hq
    rw [withRandom_of_drawn hdrawn]
    exact placeKey_of_room hroom
  · obtain ⟨rfl, rfl⟩ := Prod.mk.inj (Option.some.inj hblinding)
    exact placeKey_of_room hroom

/-! ## KEY_EXPORT (R200) -/

theorem keyExport_eq (hlen : c.body.length = 8)
    (hkey : s.resolve (some c.tenant) (fld c.body 0 4) { use := fun _ => useBit 14 } = (v, .ok i))
    (hexportable : (v.slot i).exportable = true) (hmaterial : v.material i = .ok m)
    (hwrap : v.resolve (some c.tenant) (fld c.body 4 4) (wrapNeed 6 (v.slot i).type m.length) = (w, .ok j))
    (hwrapMaterial : w.material j = .ok e) :
    keyExport c s = (w, spaced c {
      body := natLE 4 (wrapKey (w.slot j).type e m).length ++ wrapKey (w.slot j).type e m ++
        zeros (pad4 (wrapKey (w.slot j).type e m).length) }) := by
  unfold keyExport
  rw [if_neg (not_not_intro hlen), withKey_of_resolve hkey]
  dsimp only
  rw [if_neg (not_not_intro hexportable), withMaterial_of_ok hmaterial, withWrap_of_resolve hwrap hwrapMaterial]

/-! ## KEY_GREEN (R179) -/

/-- The green key that a slot's next material makes. -/
def greenKey (x : Slot) (m : Bytes) : NewKey :=
  { type := x.type, bits := x.keyBits, usage := x.usage, owner := x.owner, parent := x.parent, level := x.level
    exportable := x.exportable, limitClass := x.limitClass, plain := m, state := .green }

/-- A directory entry with a green key linked. -/
def DirEntry.link (e : DirEntry) (g gen : Nat) : DirEntry := { e with greenLinked := true, greenSlot := g, greenGen := gen }

section Green

variable {g : Nat} {z : Slot} {wrapped : Bytes} (hitem : varItem c.body 0x0C = (wrapped, true))
  (hzero : zeroAt c.body 5 3 = true)
  (hkey : s.resolve (some c.tenant) (fld c.body 0 4) { fits := fun x => !x.bound } = (v, .ok i))
  (hnone : (v.ahead.dirEntry (hIndex (fld c.body 0 4))).greenLinked = false)
include hitem hzero hkey hnone

/-- With source 0 the green key is drawn. -/
theorem keyGreen_of_drawn (hempty : wrapped = []) (hsource : fld c.body 4 1 = 0) (hunused : fld c.body 8 4 = 0)
    (hdrawn : v.random ((v.slot i).keyBits / 8) = some (w, m))
    (hroom : w.newSlot (greenKey (v.slot i) m) = some (g, z, cs)) :
    keyGreen c s = (w, .done {
      body := checkValue (v.slot i).type m
      changes := cs ++ [.directory (hIndex (fld c.body 0 4))
        ((w.ahead.dirEntry (hIndex (fld c.body 0 4))).link g z.generation)] }) := by
  unfold greenKey at hroom
  unfold keyGreen
  dsimp only
  rw [hitem]
  dsimp only
  rw [if_neg (by simp [hzero, hsource, hunused, hempty]), withKey_of_resolve hkey, if_neg (by simp [hnone]), if_pos hsource,
    withRandom_of_drawn hdrawn, hroom]
  rfl

/-- With source 1 the green key is unwrapped. -/
theorem keyGreen_of_unwrapped {q : Bytes} (hsource : fld c.body 4 1 = 1)
    (hwrap : v.resolve (some c.tenant) (fld c.body 8 4) (wrapNeed 7 (v.slot i).type wrapped.length) = (w, .ok j))
    (hmaterial : w.material j = .ok q)
    (hopened : unwrapped (v.slot i).type (v.slot i).keyBits (w.slot j) q wrapped = .ok m)
    (hroom : w.newSlot (greenKey (v.slot i) m) = some (g, z, cs)) :
    keyGreen c s = (w, .done {
      body := checkValue (v.slot i).type m
      changes := cs ++ [.directory (hIndex (fld c.body 0 4))
        ((w.ahead.dirEntry (hIndex (fld c.body 0 4))).link g z.generation)] }) := by
  unfold greenKey at hroom
  unfold keyGreen
  dsimp only
  rw [hitem]
  dsimp only
  rw [if_neg (by simp [hzero, hsource]), withKey_of_resolve hkey, if_neg (by simp [hnone]), if_neg (by simp [hsource]),
    withWrap_of_resolve hwrap hmaterial, hopened]
  dsimp only
  rw [hroom]
  rfl

end Green

/-! ## KEY_SEASON and KEY_FELL (R181 to R187) -/

/-- The test of a KEY_SEASON body on a green key's material: its check value, or its known answer (R181). -/
def seasonTest (b : Bytes) (type : Nat) (m : Bytes) : Bool :=
  if fld b 4 1 = 1 then (checkValue type m).take (fld b 5 1) == sub b 8 (fld b 5 1)
  else knownAnswer type m (sub b 0x10 16) (sub b 0x20 16)

theorem keySeason_eq {a : State} {g : Nat} (hlen : c.body.length = 0x30) (htest : fld c.body 4 1 = 1 ∨ fld c.body 4 1 = 2)
    (hzero : zeroAt c.body 6 2 = true)
    (hkey : s.resolve (some c.tenant) (fld c.body 0 4) { fits := fun x => !x.bound } = (v, .ok i))
    (hlength : fld c.body 5 1 = if fld c.body 4 1 = 1 then checkLen (v.slot i).type else 0)
    (hlinked : (v.ahead.dirEntry (hIndex (fld c.body 0 4))).greenLinked = true)
    (hgreen : v.ahead.gated (v.ahead.dirEntry (hIndex (fld c.body 0 4))).greenSlot
      (v.ahead.dirEntry (hIndex (fld c.body 0 4))).greenGen {} = (a, .ok g)) :
    keySeason c s = (v, .done (
      if seasonTest c.body (v.slot i).type (v.ahead.slot g).material then
        { changes := v.seasonChanges (hIndex (fld c.body 0 4)) }
      else { failD .keyGreenMismatch 0 with changes := v.fellGreen (hIndex (fld c.body 0 4)) })) := by
  have hform : ¬ (c.body.length ≠ 0x30 ∨ (fld c.body 4 1 ≠ 1 ∧ fld c.body 4 1 ≠ 2) ∨ ¬ zeroAt c.body 6 2 = true) := by
    rintro (h | ⟨hone, htwo⟩ | h)
    · exact h hlen
    · exact htest.elim hone htwo
    · exact h hzero
  have hlength' : ¬ ((fld c.body 4 1 = 1 ∧ fld c.body 5 1 ≠ checkLen (v.slot i).type) ∨
      (fld c.body 4 1 = 2 ∧ fld c.body 5 1 ≠ 0)) := by
    rintro (⟨hone, h⟩ | ⟨htwo, h⟩)
    · exact h (by rw [hlength, if_pos hone])
    · exact h (by rw [hlength, if_neg (by omega)])
  unfold keySeason
  dsimp only
  rw [if_neg hform, withKey_of_resolve hkey, if_neg hlength', if_neg (not_not_intro hlinked), hgreen]
  exact (apply_ite (fun res => (v, Did.done res))
    (seasonTest c.body (v.slot i).type (v.ahead.slot g).material = true) _ _).symm

section Fell

variable (hlen : c.body.length = 8) (hkind : hKind (fld c.body 0 4) ≠ 2)
  (hkey : s.resolve (some c.tenant) (fld c.body 0 4) {} = (v, .ok i))
include hlen hkind hkey

theorem keyFell_of_green (haction : fld c.body 4 4 = 1)
    (hlinked : (v.ahead.dirEntry (hIndex (fld c.body 0 4))).greenLinked = true) :
    keyFell c s = (v, .done { changes := v.fellGreen (hIndex (fld c.body 0 4)) }) := by
  unfold keyFell
  dsimp only
  rw [if_neg (by simp [hlen, haction]), if_neg hkind, withKey_of_resolve hkey, if_pos haction, if_pos hlinked]

theorem keyFell_of_all (haction : fld c.body 4 4 = 0) :
    keyFell c s = (v, .done {
      changes := v.ahead.fellSlot (v.ahead.dirEntry (hIndex (fld c.body 0 4))).standing ++
        (if (v.ahead.dirEntry (hIndex (fld c.body 0 4))).greenLinked then
          v.ahead.fellSlot (v.ahead.dirEntry (hIndex (fld c.body 0 4))).greenSlot else []) ++
        [.directory (hIndex (fld c.body 0 4)) { dtag := (v.ahead.dirEntry (hIndex (fld c.body 0 4))).dtag }] }) := by
  unfold keyFell
  dsimp only
  rw [if_neg (by simp [hlen, haction]), if_neg hkind, withKey_of_resolve hkey, if_neg (by simp [haction])]

end Fell

/-! ## KEY_INFO and KH1_MAP_SET (R154, R200) -/

/-- KEY_INFO's response: the attributes of a slot, its entry's green link, and the check value (Table 6-15). -/
def State.keyInfoBody (s : State) (x : Slot) (e : DirEntry) (m : Bytes) : Bytes :=
  natLE 1 x.type ++ natLE 1 x.limitClass ++ natLE 2 x.keyBits ++ natLE 2 x.usage.toNat ++ natLE 1 x.level ++ natLE 1 2 ++
    natLE 2 x.generation ++
    natLE 2 ((if x.exportable then 1 else 0) + (if e.greenLinked then 2 else 0) + (if x.bound then 4 else 0)) ++ zeros 4 ++
    natLE 8 x.counter ++ natLE 8 (s.limit x) ++ checkValue x.type m

theorem keyInfo_eq (hlen : c.body.length = 4)
    (hkey : s.resolve (some c.tenant) (fld c.body 0 4) {} = (v, .ok i)) (hmaterial : v.material i = .ok m) :
    keyInfo c s =
      (v, .done { body := v.keyInfoBody (v.slot i) (v.dirEntry (hIndex (fld c.body 0 4))) m }) := by
  unfold keyInfo
  rw [if_neg (not_not_intro hlen), withKey_of_resolve hkey, withMaterial_of_ok hmaterial]
  rfl

theorem kh1MapSet_eq (hmin : 0 < fld c.body 2 2) (hmax : fld c.body 2 2 ≤ 1024)
    (hlast : fld c.body 0 2 + fld c.body 2 2 ≤ 4096) (hlen : c.body.length = 4 + 4 * fld c.body 2 2) :
    kh1MapSet c s = (s, .done {
      changes := (List.range (fld c.body 2 2)).map fun k =>
        .kh1 c.tenant (fld c.body 0 2 + k) (fld c.body (4 + 4 * k) 4) }) :=
  if_neg (by omega)

end Sys2Proof.Machine

end

section

open Sys2Proof Sys2Proof.Machine

/-- Settles O48: each row is an accepted command, so its opcode's meaning runs on the begun state; the clause's hypotheses
pass every check of that meaning. -/
theorem keyCommandsMakeMoveAndFellKeys : Obligations.KeyCommandsMakeMoveAndFellKeys := by
  unfold Obligations.KeyCommandsMakeMoveAndFellKeys
  refine ⟨?generate, ?imports, ?exports, ?greenDrawn, ?greenUnwrapped, ?season, ?fellGreen, ?fellAll, ?info, ?map⟩
  case generate =>
    intro s t ref r b i v w p lv l h m cs u k hacc hlen husage hflags hclass hzero hdefined hwork htype hparent hlevel
      hdrawn hroom
    rw [exec_keyGenerate t s hacc.named]
    exact runCommand_accepted hacc _ _ _ (keyGenerate_eq (c := s.cmd t r b i)
      ⟨hlen, husage, hflags, hclass, hzero, hdefined⟩ hwork htype hparent hlevel hdrawn hroom)
  case imports =>
    intro s t ref r b i v w x y p lv l j h m e g q cs u hacc husage hflags hclass hitem hzero hdefined hlength htype hparent
      hlevel hkey hmaterial hopened hcheck hblinding hroom
    rw [exec_keyImport t s hacc.named]
    exact runCommand_accepted hacc _ _ _ (keyImport_eq (c := s.cmd t r b i)
      ⟨husage, hflags, hclass, hitem, hzero, hdefined, hlength⟩ htype hparent hlevel hkey hmaterial hopened hcheck hblinding
      hroom)
  case exports =>
    intro s t ref r b i v w k j m e c u o hacc hlen hkey hexportable hmaterial hwrap hwrapMaterial
    rw [exec_keyExport t s hacc.named]
    exact runCommand_accepted hacc _ _ _ (keyExport_eq (c := c) hlen hkey hexportable hmaterial hwrap hwrapMaterial)
  case greenDrawn =>
    intro s t ref r b i v w k g m y cs u x hacc hitem hsource hzero hunused hkey hnone hdrawn hroom
    rw [exec_keyGreen t s hacc.named]
    exact runCommand_accepted hacc _ _ _ (keyGreen_of_drawn (c := s.cmd t r b i) hitem hzero hkey hnone rfl hsource hunused
      hdrawn hroom)
  case greenUnwrapped =>
    intro s t ref r b i v w k j g e q m y cs u x hacc hitem hsource hzero hkey hnone hwrap hmaterial hopened hroom
    rw [exec_keyGreen t s hacc.named]
    exact runCommand_accepted hacc _ _ _ (keyGreen_of_unwrapped (c := s.cmd t r b i) hitem hzero hkey hnone hsource hwrap
      hmaterial hopened hroom)
  case season =>
    intro s t ref r b i v a k g u e m pass hacc hlen htest hzero hkey hlength hlinked hgreen
    rw [exec_keySeason t s hacc.named]
    exact runCommand_accepted hacc _ _ _ (keySeason_eq (c := s.cmd t r b i) hlen htest hzero hkey hlength hlinked hgreen)
  case fellGreen =>
    intro s t ref r b i v k u hacc hlen haction hkind hkey hlinked
    rw [exec_keyFell t s hacc.named]
    exact runCommand_accepted hacc _ _ _ (keyFell_of_green (c := s.cmd t r b i) hlen hkind hkey haction hlinked)
  case fellAll =>
    intro s t ref r b i v k u e hacc hlen haction hkind hkey
    rw [exec_keyFell t s hacc.named]
    exact runCommand_accepted hacc _ _ _ (keyFell_of_all (c := s.cmd t r b i) hlen hkind hkey haction)
  case info =>
    intro s t ref r b i v k m u x e hacc hlen hkey hmaterial
    rw [exec_keyInfo t s hacc.named]
    exact runCommand_accepted hacc _ _ _ (keyInfo_eq (c := s.cmd t r b i) hlen hkey hmaterial)
  case map =>
    intro s t ref r b i hacc hmin hmax hlast hlen
    rw [exec_kh1MapSet t s hacc.named]
    exact runCommand_accepted hacc _ _ _ (kh1MapSet_eq (c := s.cmd t r b i) hmin hmax hlast hlen)

end

/-! # Scope: what a device takes from its twin, acknowledges, sends and sends again (R148, R196, R362, R456, R463, R464) -/

section

namespace Sys2Proof.Machine

/-! ## The rows, each on the state its tick finds -/

section Rows

variable (t : Tick) (m : Msg) (n : Nat) (s : State)

theorem exec_mirrorPosting : exec (.mirrorPosting t m) s =
    .next { (s.at t).receive 0x0101 m fun u => u.mirrorIn m with pending := s.pending } := rfl
theorem exec_mirrorAck : exec (.mirrorAck t m) s =
    .next { (s.at t).receive 0x0102 m fun u => u.mirrorAck m with pending := s.pending } := rfl
theorem exec_cellarSync : exec (.cellarSync t m) s =
    .next { (s.at t).receive 0x0103 m fun u => u.cellarSync m with pending := s.pending } := rfl
theorem exec_cellarSyncAck : exec (.cellarSyncAck t m) s =
    .next { (s.at t).receive 0x0104 m fun u => u.cellarAck m with pending := s.pending } := rfl
theorem exec_counterAdvance : exec (.counterAdvance t m) s =
    .next { (s.at t).receive 0x0105 m fun u => u.counterAdvance m with pending := s.pending } := rfl
theorem exec_decisionRecord : exec (.decisionRecord t m) s =
    .next { (s.at t).receive 0x0109 m fun u => u.decisionRecord m with pending := s.pending } := rfl
theorem exec_mirrorTimeout : exec (.mirrorTimeout t n) s =
    .next { (s.at t).mirrorTimeout n with pending := s.pending } := rfl
theorem exec_syncTimeout : exec (.syncTimeout t n) s =
    .next { (s.at t).syncTimeout n with pending := s.pending } := rfl
theorem exec_counterAdvanceSend : exec (.counterAdvanceSend t) s =
    .next { (s.at t).sendAdvances with pending := s.pending } := rfl
theorem exec_outcomeBatchSync : exec (.outcomeBatchSync t) s =
    .next { (s.at t).sendBatch with pending := s.pending } := rfl

end Rows

variable {s : State} {m : Msg}

/-- The island acts on a message while the operating mode runs it. -/
theorem receive_of_running {type : Nat} {k : State → State} (hmode : s.mode ∉ [Mode.dormant, .boot, .recovery, .felled]) :
    s.receive type m k = k (s.took type m) := if_neg hmode

/-! ## A request of the twin takes effect once (R463, Table 14-10) -/

/-- The transaction of a message is among those that took effect; 65,536 are remembered. -/
def State.remember (s : State) (m : Msg) : State :=
  { s with twin := { s.twin with applied := (m.txn :: s.twin.applied).take 65536 } }

section FromTwin

variable {b : Payload} {k : State → State} (hpaired : s.twin.st = .paired) (hport : m.port = 0) (hreply : m.reply = false)
include hpaired hport hreply

/-- A PAIRED device takes a request that comes over port 0. -/
theorem takes_request : ¬ (s.twin.st ≠ .paired ∨ m.port ≠ 0 ∨ m.reply = true) := by
  simp [hpaired, hport, hreply]

theorem fromTwin_of_new (hnew : s.twin.applied.contains m.txn = false) :
    s.fromTwin m (some b) k = ((k s).remember m).sendTwin m.txn true false b := by
  unfold State.fromTwin
  dsimp only
  rw [if_neg (takes_request hpaired hport hreply), if_neg (Bool.eq_false_iff.mp hnew)]
  rfl

/-- A copy is acknowledged and changes nothing else. -/
theorem fromTwin_of_copy (hcopy : s.twin.applied.contains m.txn = true) :
    s.fromTwin m (some b) k = s.sendTwin m.txn true false b := by
  unfold State.fromTwin
  dsimp only
  rw [if_neg (takes_request hpaired hport hreply), if_pos hcopy]

/-- A request without an acknowledgement is only remembered. -/
theorem fromTwin_of_new_unacknowledged (hnew : s.twin.applied.contains m.txn = false) :
    s.fromTwin m none k = (k s).remember m := by
  unfold State.fromTwin
  dsimp only
  rw [if_neg (takes_request hpaired hport hreply), if_neg (Bool.eq_false_iff.mp hnew)]
  rfl

end FromTwin

/-! ## What each request does, by its body -/

theorem mirrorIn_of_next {l q : Nat} {o : Option OutcomeWire} {cs : List Change} (hbody : m.body = .mirrorPosting l q o cs)
    (hnext : s.mirrorNext l q = true) :
    s.mirrorIn m = s.fromTwin m (some (.mirrorAck l q)) fun s => (cs.foldl State.mirrorApply s).mirrorOutcome o := by
  simp only [State.mirrorIn, hbody, if_pos hnext]

theorem cellarSync_of_body {n : Nat} {o : Option OutcomeWire} {cs : List Change} (hbody : m.body = .cellarSync n o cs) :
    s.cellarSync m = s.fromTwin m (some (.cellarSyncAck n)) fun s =>
      ((cs.foldl State.mirrorApply s).mirrorOutcome o).countMove cs := by
  simp only [State.cellarSync, hbody]

theorem decisionRecord_of_body {d : Decision} (hbody : m.body = .crossDecision d) :
    s.decisionRecord m = s.fromTwin m (some (.mirrorAck d.ledger 0)) fun s => s.apply (.decision d) := by
  simp only [State.decisionRecord, hbody]

/-- Units that the twin counted join the counter of the key they are of, while its generation stands (R196). -/
def State.advanceCounter (s : State) (a : Nat × Nat × Nat) : State :=
  if (s.slot a.1).generation = a.2.1 ∧ (s.slot a.1).state ≠ .free ∧ (s.slot a.1).state ≠ .felled then
    { s with cel := { s.cel with
      slots := mapPut {} s.cel.slots a.1 { s.slot a.1 with counter := (s.slot a.1).counter + a.2.2 } } }
  else s

theorem counterAdvance_of_body {l : List (Nat × Nat × Nat)} (hbody : m.body = .counterAdvance l) :
    s.counterAdvance m = s.fromTwin m none fun s => l.foldl State.advanceCounter s := by
  simp only [State.counterAdvance, hbody]
  rfl

theorem advanceCounter_of_seasoned {i g k : Nat} (hgeneration : (s.slot i).generation = g)
    (hstate : (s.slot i).state = .seasoned) :
    s.advanceCounter (i, g, k) = { s with cel := { s.cel with
      slots := mapPut {} s.cel.slots i { s.slot i with counter := (s.slot i).counter + k } } } :=
  if_pos ⟨hgeneration, by simp [hstate]⟩

/-! ## An acknowledgement meets its window (R148, R362, R464) -/

section Acknowledged

variable {posting : Bool} {f : InFlight} (hport : m.port = 0) (hreply : m.reply = true)
include hport hreply

/-- The device takes an answer that comes over port 0. -/
theorem takes_answer : ¬ (m.port ≠ 0 ∨ ¬ m.reply = true) := by
  simp [hport, hreply]

theorem twinAck_of_governs (hflight : (s.twin.flight.find? fun f => f.txn == m.txn && f.posting == posting) = some f)
    (hgoverns : governs m.stamp s.tick (f.last + s.flightWindow f) = true) :
    s.twinAck m posting = s.commitFlight f false := by
  simp only [State.twinAck, if_neg (takes_answer hport hreply), hflight, if_pos hgoverns]

theorem twinAck_of_no_flight (hnone : (s.twin.flight.find? fun f => f.txn == m.txn && f.posting == posting) = none) :
    s.twinAck m posting = s.lateDiscard (if posting then islLedger else islCellar) := by
  simp only [State.twinAck, if_neg (takes_answer hport hreply), hnone]

end Acknowledged

/-! ## A window that closes sends the message again (R362, R456, R464) -/

/-- The transactions in flight with the window of transaction `n` begun anew. -/
def State.reopened (s : State) (n : Nat) : List InFlight :=
  s.twin.flight.map fun g => if g.txn = n then { g with last := s.tick } else g

section Resend

variable {n b : Nat} {posting : Bool} {f : InFlight} {o : Option OutcomeWire} {cs : List Change}
  (hflight : (s.twin.flight.find? fun f => f.txn == n && f.posting == posting) = some f)
  (hclosed : f.last + s.flightWindow f + 2 ≤ s.tick)
include hflight hclosed

/-- The ledger board counts a MIRROR_POSTING sent again. -/
theorem twinResend_of_mirrorPosting {a : Nat} (hmsg : f.msg = .mirrorPosting a b o cs) :
    s.twinResend n posting = ({ s with
      twin := { s.twin with flight := s.reopened n }
      board := { s.board with resends := sat32 s.board.resends } } : State).sendTwin n false true
        (.mirrorPosting a b o cs) := by
  simp only [State.twinResend, hflight, if_neg (Nat.not_lt.mpr hclosed), hmsg]
  rfl

/-- The twin counts a CELLAR_SYNC sent again. -/
theorem twinResend_of_cellarSync (hmsg : f.msg = .cellarSync b o cs) :
    s.twinResend n posting = ({ s with
      twin := { s.twin with flight := s.reopened n, resends := sat32 s.twin.resends } } : State).sendTwin n false true
        (.cellarSync b o cs) := by
  simp only [State.twinResend, hflight, if_neg (Nat.not_lt.mpr hclosed), hmsg]
  rfl

end Resend

/-- Without a resync the close of a sync window is a transaction's. -/
theorem syncTimeout_of_no_resync {n : Nat} (hnone : s.twin.resync = none) : s.syncTimeout n = s.twinResend n false := by
  simp only [State.syncTimeout, hnone]

/-! ## What a PAIRED device has gathered leaves in one message (R196, R463) -/

section Gathered

variable (hpaired : s.twin.st = .paired)
include hpaired

theorem sendAdvances_of_gathered (hsome : s.cel.advances ≠ []) :
    s.sendAdvances =
      ({ s.newTxn.1 with cel := { s.cel with advances := [], advanceTick := s.tick } } : State).sendTwin s.newTxn.2 false
        false (.counterAdvance s.cel.advances) :=
  if_neg (not_or.mpr ⟨not_not_intro hpaired, hsome⟩)

theorem sendBatch_of_gathered (hsome : s.twin.batch ≠ []) :
    s.sendBatch =
      ({ s.newTxn.1 with twin := { s.newTxn.1.twin with
        batch := []
        syncNum := s.twin.syncNum + 1
        flight := s.newTxn.1.twin.flight ++ [{
          txn := s.newTxn.2
          msg := .cellarSync (s.twin.syncNum + 1) none (s.twin.batch.map .outcome)
          first := s.tick
          last := s.tick }] } } : State).sendTwin s.newTxn.2 false false
        (.cellarSync (s.twin.syncNum + 1) none (s.twin.batch.map .outcome)) :=
  if_neg (not_or.mpr ⟨not_not_intro hpaired, hsome⟩)

end Gathered

end Sys2Proof.Machine

end

section

open Sys2Proof Sys2Proof.Machine

/-- Settles O38: in a mode that runs the island each message reaches its operation; what it carries, whether its
transaction took effect before, and whether its window is open choose one case. -/
theorem theTwinTakesMirrorsAndAcknowledges : Obligations.TheTwinTakesMirrorsAndAcknowledges := by
  unfold Obligations.TheTwinTakesMirrorsAndAcknowledges
  refine ⟨?posting, ?copy, ?sync, ?decision, ?advance, ?ack, ?lateAck, ?syncAck, ?resend, ?resendSync, ?advances, ?batch⟩
  case posting =>
    intro s t m l q o cs u v x hmode hbody hnext hpaired hport hreply hnew
    rw [exec_mirrorPosting, receive_of_running hmode, mirrorIn_of_next hbody hnext,
      fromTwin_of_new hpaired hport hreply hnew]
    rfl
  case copy =>
    intro s t m l q o cs u v hmode hbody hnext hpaired hport hreply hcopy
    rw [exec_mirrorPosting, receive_of_running hmode, mirrorIn_of_next hbody hnext,
      fromTwin_of_copy hpaired hport hreply hcopy]
  case sync =>
    intro s t m n o cs u v x hmode hbody hpaired hport hreply hnew
    rw [exec_cellarSync, receive_of_running hmode, cellarSync_of_body hbody, fromTwin_of_new hpaired hport hreply hnew]
    rfl
  case decision =>
    intro s t m d u v x hmode hbody hpaired hport hreply hnew
    rw [exec_decisionRecord, receive_of_running hmode, decisionRecord_of_body hbody,
      fromTwin_of_new hpaired hport hreply hnew]
    rfl
  case advance =>
    intro s t m i g k u v hmode hbody hpaired hport hreply hnew hgeneration hstate
    rw [exec_counterAdvance, receive_of_running hmode, counterAdvance_of_body hbody,
      fromTwin_of_new_unacknowledged hpaired hport hreply hnew, List.foldl_cons, List.foldl_nil,
      advanceCounter_of_seasoned hgeneration hstate]
    rfl
  case ack =>
    intro s t m f u v hmode hport hreply hflight hgoverns
    rw [exec_mirrorAck, receive_of_running hmode, State.mirrorAck, twinAck_of_governs hport hreply hflight hgoverns]
  case lateAck =>
    intro s t m u v hmode hport hreply hnone
    rw [exec_mirrorAck, receive_of_running hmode, State.mirrorAck, twinAck_of_no_flight hport hreply hnone]
    rfl
  case syncAck =>
    intro s t m f u v hmode hport hreply hflight hgoverns
    rw [exec_cellarSyncAck, receive_of_running hmode, State.cellarAck, twinAck_of_governs hport hreply hflight hgoverns]
  case resend =>
    intro s t n f a b o cs u hflight hmsg hclosed
    rw [exec_mirrorTimeout, State.mirrorTimeout, twinResend_of_mirrorPosting hflight hclosed hmsg]
    rfl
  case resendSync =>
    intro s t n f b o cs u hnone hflight hmsg hclosed
    rw [exec_syncTimeout, syncTimeout_of_no_resync hnone, twinResend_of_cellarSync hflight hclosed hmsg]
    rfl
  case advances =>
    intro s t u hpaired hsome
    rw [exec_counterAdvanceSend, sendAdvances_of_gathered hpaired hsome]
  case batch =>
    intro s t u hpaired hsome
    rw [exec_outcomeBatchSync, sendBatch_of_gathered hpaired hsome]

end

/-! # Scope: the commands of cellar images and of trunks (R201 to R209) -/

section

namespace Sys2Proof.Machine

/-! ## The rows, on a record that names a queue pair that exists -/

section Rows

variable (t : Tick) {ref : RecRef} (s : State) (h : ref.ok = true)
include h

theorem exec_cellarExport :
    exec (.cellarExport t ref) s = s.act t fun u => u.runCommand 0x0209 cellarExport ref := if_pos h
theorem exec_cellarRestore :
    exec (.cellarRestore t ref) s = s.act t fun u => u.runCommand 0x020A cellarRestore ref := if_pos h
theorem exec_trunkImport :
    exec (.trunkImport t ref) s = s.act t fun u => u.runCommand 0x020B trunkImport ref := if_pos h
theorem exec_trunkReplace :
    exec (.trunkReplace t ref) s = s.act t fun u => u.runCommand 0x020C trunkReplace ref := if_pos h
theorem exec_domainRootSet :
    exec (.domainRootSet t ref) s = s.act t fun u => u.runCommand 0x020D domainRootSet ref := if_pos h

end Rows

variable {s v w : State} {c : Cmd} {m : Bytes} {t n : Nat}

/-! ## How a command goes on with a quorum's use, with a new trunk and with response space -/

theorem withQuorum_of_use {bit : Nat} {k : State → State × Did} (huse : s.quorumUse t bit = (v, none)) :
    s.withQuorum t bit k = k v := by
  simp only [State.withQuorum, huse]

/-- The material that a trunk command writes, and the state after it was drawn or taken from the session's round (R201,
R249). -/
def State.newTrunk (s : State) (c : Cmd) : Option (State × Bytes) :=
  if fld c.body 0 1 = 0 then s.random 32 else (s.heldTrunk c).map fun m => (s.dropRound c, m)

theorem withTrunk_of_newTrunk {k : State → Bytes → State × Did} (htrunk : s.newTrunk c = some (w, m)) :
    s.withTrunk c k = k w m := by
  unfold State.newTrunk at htrunk
  unfold State.withTrunk
  split_ifs at htrunk ⊢ with hdraw
  · exact withRandom_of_drawn htrunk
  · obtain ⟨held, hheld, hpair⟩ := Option.map_eq_some_iff.mp htrunk
    obtain ⟨rfl, rfl⟩ := Prod.mk.inj hpair
    simp only [hheld]

theorem spaced_of_fits {r : Result} (hspace : spaceFail c r.body.length r.out.length = none) : spaced c r = .done r := by
  simp only [spaced, hspace, Option.getD_none]

/-! ## CELLAR_EXPORT (R202, R209) -/

/-- The answer of a command that makes an image: its generation and its length (Table 6-15). -/
def imageAnswer (gen len : Nat) : Bytes := natLE 4 gen ++ zeros 4 ++ natLE 8 len

theorem imageAnswer_length (gen len : Nat) : (imageAnswer gen len).length = 16 := rfl

section Export

variable (hlen : c.body.length = 8) (hzero : zeroAt c.body 4 4 = true) (hpresent : (s.ahead.keyRec c.tenant).present = true)
include hlen hzero hpresent

theorem cellarExport_of_write (haction : fld c.body 0 4 ≤ 1) :
    cellarExport c s = (s, spaced c {
      body := imageAnswer ((s.ahead.keyRec c.tenant).imageGen + 1)
        (s.cellarImage c.tenant ((s.ahead.keyRec c.tenant).imageGen + 1) (s.ahead.keyRec c.tenant).material).length
      out := s.cellarImage c.tenant ((s.ahead.keyRec c.tenant).imageGen + 1) (s.ahead.keyRec c.tenant).material
      changes := [.keyRecord c.tenant { s.ahead.keyRec c.tenant with
        imageGen := (s.ahead.keyRec c.tenant).imageGen + 1
        imagePending := true }] }) := by
  unfold cellarExport
  dsimp only
  rw [if_neg (by simp [hlen, hzero]; omega), if_neg (not_not_intro hpresent), if_neg (by omega)]
  rfl

theorem cellarExport_of_confirm (hmin : 2 ≤ fld c.body 0 4) (hmax : fld c.body 0 4 ≤ 3) :
    cellarExport c s = (s, .done {
      body := imageAnswer (s.ahead.keyRec c.tenant).imageGen 0
      changes := [.keyRecord c.tenant { s.ahead.keyRec c.tenant with imagePending := false }] }) := by
  unfold cellarExport
  dsimp only
  rw [if_neg (by simp [hlen, hzero, hmax]), if_neg (not_not_intro hpresent), if_pos hmin]
  rfl

end Export

/-! ## CELLAR_RESTORE (R204 to R207) -/

theorem withForeign_of_allowed {serial : Nat} {forced : Bool} {k : State → State × Did}
    (hallowed : if (serial = s.otp.serial ∨ (serial ≠ 0 ∧ serial = s.twinSerial)) ∧ ¬ forced = true then v = s
      else s.quorumUse t purposeRestore = (v, none)) : s.withForeign t serial forced k = k v := by
  unfold State.withForeign
  split_ifs at hallowed ⊢ with hown
  · rw [hallowed]
  · exact withQuorum_of_use hallowed

/-- An image that a tenant's trunk record accepts: its head and generation, and its plaintext `p` with the entries and the
blobs `l` (Table 6-18 orders 1 to 3, 5 and 6). -/
structure ImageAccepted (k : KeyRecord) (t : Nat) (i p : Bytes) (l : List (Nat × Bytes)) : Prop where
  head : imageHeadOk i t = true
  present : k.present = true
  trunkGen : k.generation = fld i 0x14 2
  imageGen : imageGenOk k (fld i 0x10 4) = none
  opened : gcmOpen (imageKey k.material t (fld i 0x10 4)) (natLE 4 (fld i 0x10 4) ++ zeros 8) (sub i 0 0x40)
    ((i.drop 0x40).take (i.length - 0x50)) (i.drop (i.length - 16)) = some p
  length : p.length = 160 * fld i 0x18 4 + fld i 0x1C 4 + fld i 0x20 4
  blobs : parseBlobs (fld i 0x1C 4 / 8) (sub p (160 * fld i 0x18 4) (fld i 0x1C 4)) = some l
  entries : imageOk t k.generation (parseEntries p (fld i 0x18 4)) l = true

/-- Every directory index and slot that the entries name is free, and the blobs have room (Table 6-18 order 7). -/
structure RestoreRoom (s : State) (es : List ImageEntry) (l : List (Nat × Bytes)) : Prop where
  indexes : (es.any fun e => (s.ahead.dirEntry e.index).valid) = false
  slots : ((entrySlots es).any fun x => decide ((s.ahead.slot x.1).state ≠ .free)) = false
  blobs : (s.freeBlob (l.map fun x => x.2.length).sum).isNone = false

theorem cellarRestore_eq {p : Bytes} {l : List (Nat × Bytes)} (hlen : c.body.length = 8) (hzero : zeroAt c.body 0 8 = true)
    (himage : ImageAccepted (s.keyRec c.tenant) c.tenant c.input p l)
    (hallowed : if (fld c.input 8 8 = s.otp.serial ∨ (fld c.input 8 8 ≠ 0 ∧ fld c.input 8 8 = s.twinSerial)) ∧
        ¬ ((s.keyRec c.tenant).imageGen == 0) = true then v = s
      else s.quorumUse c.tenant purposeRestore = (v, none))
    (hroom : RestoreRoom v (parseEntries p (fld c.input 0x18 4)) l) :
    cellarRestore c s = (v, .done {
      body := natLE 4 (fld c.input 0x10 4) ++ natLE 4 (entrySlots (parseEntries p (fld c.input 0x18 4))).length
      changes := v.restoreChanges c.tenant (fld c.input 0x10 4) (parseEntries p (fld c.input 0x18 4)) l
        (p.drop (160 * fld c.input 0x18 4 + fld c.input 0x1C 4)) }) := by
  obtain ⟨hhead, hpresent, htrunkGen, himageGen, hopened, hlength, hblobs, hentries⟩ := himage
  obtain ⟨hindexes, hslots, hspace⟩ := hroom
  unfold cellarRestore
  dsimp only
  rw [if_neg (by simp [hlen, hzero]), if_neg (by simp [hhead, hpresent, htrunkGen]), himageGen]
  dsimp only
  rw [withForeign_of_allowed hallowed, hopened]
  dsimp only
  rw [if_neg (not_not_intro hlength), hblobs]
  dsimp only
  rw [if_neg (not_not_intro hentries), if_neg (by rw [hindexes, hslots, hspace]; decide)]

/-! ## TRUNK_IMPORT, TRUNK_REPLACE and DOMAIN_ROOT_SET (R201, R208) -/

theorem importTrunk_eq (htrunk : s.newTrunk c = some (w, m)) :
    s.importTrunk c n = (w.logEvent 0x0301 .notice islWarden 0x100 .ok [c.tenant, ((w.keyRec n).generation + 1) % 65536],
      .done { changes := .keyRecord n { w.keyRec n with
        material := m
        present := true
        generation := ((w.keyRec n).generation + 1) % 65536 } :: w.closeSet n }) := by
  unfold State.importTrunk
  rw [withTrunk_of_newTrunk htrunk]

section Trunk

variable (hbody : trunkBody c.body = true)
include hbody

theorem trunkImport_of_absent (huse : s.quorumUse c.tenant purposeTrunk = (v, none))
    (habsent : (v.keyRec c.tenant).present = false) : trunkImport c s = v.importTrunk c c.tenant := by
  unfold trunkImport
  rw [if_neg (not_not_intro hbody), withQuorum_of_use huse, if_neg (by simp [habsent])]

/-- With room for the new image, every blob below the record is wrapped again and the image of the rewrapped slots is the
output. -/
theorem trunkReplace_eq {g : Bytes} (huse : s.quorumUse c.tenant purposeTrunk = (v, none))
    (hpresent : (v.keyRec c.tenant).present = true) (htrunk : v.newTrunk c = some (w, m))
    (himage : (w.ahead.applyAll (w.replaceTrunk c.tenant m)).cellarImage c.tenant ((v.keyRec c.tenant).imageGen + 1) m = g)
    (hspace : spaceFail c 16 g.length = none) :
    trunkReplace c s = (w.logEvent 0x0301 .notice islWarden 0x100 .ok [c.tenant, (v.keyRec c.tenant).generation], .done {
      body := imageAnswer ((v.keyRec c.tenant).imageGen + 1) g.length
      out := g
      changes := w.replaceTrunk c.tenant m ++ [.keyRecord c.tenant { v.keyRec c.tenant with
        material := m
        imageGen := (v.keyRec c.tenant).imageGen + 1
        imagePending := true }] ++ w.closeSet c.tenant }) := by
  unfold trunkReplace
  rw [if_neg (not_not_intro hbody), withQuorum_of_use huse]
  dsimp only
  rw [if_neg (not_not_intro hpresent), withTrunk_of_newTrunk htrunk, himage, spaced_of_fits hspace]
  rfl

theorem domainRootSet_of_absent (huse : s.quorumUse 0 purposeTrunk = (v, none)) (habsent : (v.keyRec 0).present = false) :
    domainRootSet c s = v.importTrunk c 0 := by
  unfold domainRootSet
  rw [if_neg (not_not_intro hbody), withQuorum_of_use huse, if_pos (by simp [habsent])]

theorem domainRootSet_of_present {x : State} (huse : s.quorumUse 0 purposeTrunk = (v, none))
    (hpresent : (v.keyRec 0).present = true) (htrunk : v.newTrunk c = some (w, m))
    (hlogged : w.logEvent 0x0301 .notice islWarden 0x100 .ok [c.tenant, (w.keyRec 0).generation] = x) :
    domainRootSet c s = (x, .done { changes := x.replaceTrunk 0 m ++ x.closeSet 0 }) := by
  unfold domainRootSet
  rw [if_neg (not_not_intro hbody), withQuorum_of_use huse, if_neg (not_not_intro hpresent), withTrunk_of_newTrunk htrunk,
    hlogged]

end Trunk

end Sys2Proof.Machine

end

section

open Sys2Proof Sys2Proof.Machine

/-- Settles O49: each row is an accepted command, so its opcode's meaning runs on the begun state; the quorum's use and the
new trunk decide the state on which it goes on, and the clause's hypotheses pass every check. -/
theorem trunksAndCellarImagesMoveAsTheCellarSays : Obligations.TrunksAndCellarImagesMoveAsTheCellarSays := by
  unfold Obligations.TrunksAndCellarImagesMoveAsTheCellarSays
  refine ⟨?write, ?confirm, ?restore, ?imports, ?replaces, ?rootImports, ?rootReplaces⟩
  case write =>
    intro s t ref r b i c u k g hacc hlen haction hzero hpresent
    rw [exec_cellarExport t s hacc.named]
    exact runCommand_accepted hacc _ _ _ (cellarExport_of_write (c := c) hlen hzero hpresent haction)
  case confirm =>
    intro s t ref r b i u k hacc hlen hmin hmax hzero hpresent
    rw [exec_cellarExport t s hacc.named]
    exact runCommand_accepted hacc _ _ _ (cellarExport_of_confirm (c := s.cmd t r b i) hlen hzero hpresent hmin hmax)
  case restore =>
    intro s t ref r b i v p l u k es hacc hlen hzero hhead hpresent htrunkGen himageGen hallowed hopened hlength hblobs
      hentries hindexes hslots hspace
    rw [exec_cellarRestore t s hacc.named]
    exact runCommand_accepted hacc _ _ _ (cellarRestore_eq (c := s.cmd t r b i) hlen hzero
      ⟨hhead, hpresent, htrunkGen, himageGen, hopened, hlength, hblobs, hentries⟩ hallowed ⟨hindexes, hslots, hspace⟩)
  case imports =>
    intro s t ref r b i v w m c u hacc hbody huse habsent htrunk
    rw [exec_trunkImport t s hacc.named]
    exact runCommand_accepted hacc _ _ _ ((trunkImport_of_absent (c := c) hbody huse habsent).trans (importTrunk_eq htrunk))
  case replaces =>
    intro s t ref r b i v w m c u k g hacc hbody huse hpresent htrunk hspace
    rw [exec_trunkReplace t s hacc.named]
    exact runCommand_accepted hacc _ _ _ (trunkReplace_eq (c := c) hbody huse hpresent htrunk rfl hspace)
  case rootImports =>
    intro s t ref r b i v w m c u hacc hbody huse habsent htrunk
    rw [exec_domainRootSet t s hacc.named]
    exact runCommand_accepted hacc _ _ _ ((domainRootSet_of_absent (c := c) hbody huse habsent).trans
      (importTrunk_eq htrunk))
  case rootReplaces =>
    intro s t ref r b i v w m c u x hacc hbody huse hpresent htrunk
    rw [exec_domainRootSet t s hacc.named]
    exact runCommand_accepted hacc _ _ _ (domainRootSet_of_present (c := c) hbody huse hpresent htrunk rfl)

end

/-! # Scope: lading records and receipts (R482 to R486) -/

section

namespace Sys2Proof.Machine

/-! ## The rows, on a record that names a queue pair that exists -/

section Rows

variable (t : Tick) {ref : RecRef} (s : State) (h : ref.ok = true)
include h

theorem exec_ladingExport :
    exec (.ladingExport t ref) s = s.act t fun u => u.runCommand 0x020E ladingExport ref := if_pos h
theorem exec_ladingImport :
    exec (.ladingImport t ref) s = s.act t fun u => u.runCommand 0x020F ladingImport ref := if_pos h

end Rows

variable {s v w : State} {c : Cmd} {t i l lv h : Nat} {m : Bytes} {x : Slot} {p : Parent} {cs : List Change}

/-! ## LADING_EXPORT (R485) -/

/-- A body of LADING_EXPORT whose fields lie in range. -/
structure LadingExportForm (b : Bytes) : Prop where
  length : b.length = 0x28
  flags : fld b 4 4 ≤ 1
  source : fld b 0x10 2 < 2 ^ 14
  dest : fld b 0x12 2 < 2 ^ 14
  zero : zeroAt b 0x14 4 = true

/-- The changes that a move makes at the source: the slots of the entry at a directory index felled, the entry freed. -/
def State.moveChanges (s : State) (d : Nat) : List Change :=
  s.ahead.fellSlot (s.ahead.dirEntry d).standing ++
    (if (s.ahead.dirEntry d).greenLinked then s.ahead.fellSlot (s.ahead.dirEntry d).greenSlot else []) ++
    [.directory d { dtag := (s.ahead.dirEntry d).dtag }]

theorem ladingExport_eq {root : Bytes} (hform : LadingExportForm c.body)
    (hkey : s.resolve (some c.tenant) (fld c.body 0 4) {} = (v, .ok i)) (hexportable : (v.slot i).exportable = true)
    (htype : (v.slot i).type ≠ 6) (hroot : v.domainRoot = some root) (hmaterial : v.material i = .ok m)
    (hspace : spaceFail c 0 (v.ladingRecord c root m (v.slot i)).length = none) :
    ladingExport c s = (v, .done {
      out := v.ladingRecord c root m (v.slot i)
      changes := if fld c.body 4 4 = 1 then v.moveChanges (hIndex (fld c.body 0 4)) else [] }) := by
  obtain ⟨hlen, hflags, hsource, hdest, hzero⟩ := hform
  have hform' : ¬ (c.body.length ≠ 0x28 ∨ 1 < fld c.body 4 4 ∨ 2 ^ 14 ≤ fld c.body 0x10 2 ∨ 2 ^ 14 ≤ fld c.body 0x12 2 ∨
      ¬ zeroAt c.body 0x14 4 = true) := by
    rintro (h | h | h | h | h)
    · exact h hlen
    · exact Nat.not_lt.mpr hflags h
    · exact Nat.not_le.mpr hsource h
    · exact Nat.not_le.mpr hdest h
    · exact h hzero
  unfold ladingExport
  dsimp only
  rw [if_neg hform', withKey_of_resolve hkey, if_neg (not_not_intro hexportable), if_neg htype, hroot]
  dsimp only
  rw [withMaterial_of_ok hmaterial, hspace]
  rfl

/-! ## LADING_IMPORT (R483, R486) -/

/-- Action 0 keeps a receipt of the drawn nonce and answers it with the device's serial. -/
theorem ladingImport_of_receipt {nonce : Bytes} (hlen : c.body.length = 8) (haction : fld c.body 0 1 = 0)
    (hzero : zeroAt c.body 1 1 = true) (hzero' : zeroAt c.body 4 4 = true) (hdest : fld c.body 2 2 < 2 ^ 14)
    (hroom : (s.receipts.filter fun x => x.tenant == c.tenant).length < 16) (hdrawn : s.random 16 = some (v, nonce)) :
    ladingImport c s = ({ v with receipts := v.receipts ++ [{
          tenant := c.tenant
          nonce
          dest := fld c.body 2 2
          issued := v.tick }] },
      .done { body := nonce ++ natLE 8 v.otp.serial }) := by
  unfold ladingImport
  dsimp only
  rw [if_neg (by simp [hlen, haction, hzero, hzero']; omega), if_neg (by omega), if_neg (by omega),
    withRandom_of_drawn hdrawn]

theorem ladingImport_of_take (hlen : c.body.length = 8) (haction : fld c.body 0 1 = 1) (hzero : zeroAt c.body 1 1 = true)
    (hzero' : zeroAt c.body 2 2 = true) : ladingImport c s = s.ladingTake c := by
  unfold ladingImport
  dsimp only
  rw [if_neg (by simp [hlen, haction, hzero, hzero']), if_pos haction]

/-- A key's slot write carries the counter of its record (R486). -/
def Change.counted (n : Nat) : Change → Change
  | .slot j y => .slot j { y with counter := n }
  | a => a

theorem ladingPlace_of_room {r : Bytes} {k : NewKey} (hroom : s.newKey k = some (h, cs)) :
    s.ladingPlace t r x k = (s.closeReceipt t (sub r 0x20 16),
      .done (keyResult h (checkValue k.type k.plain) (cs.map (Change.counted x.counter)))) := by
  unfold State.ladingPlace
  rw [hroom]
  rfl

/-- A carried key that the device may write: its type and length are of Table 6-6, it is no branch, its material is
well formed, and its limit class is defined. -/
structure LadingKeyOk (s : State) (x : Slot) (m : Bytes) : Prop where
  type : typeOk x.type x.keyBits = true
  notBranch : x.type ≠ 6
  plain : plainOk x.type x.keyBits m = true
  limitClass : s.classDefined x.limitClass = true

/-- The key that a lading record carries, but for its blinding. -/
def ladingNewKey (c : Cmd) (x : Slot) (p : Parent) (l : Nat) (m : Bytes) : NewKey :=
  { type := x.type, bits := x.keyBits, usage := x.usage, owner := c.tenant, parent := p, level := l
    exportable := x.exportable, limitClass := x.limitClass, plain := m }

/-- With a record that opens and a key that may be written, an RSA key draws its blinding and the key takes its place. -/
theorem ladingTake_eq {q : Nat × Nat} (hhead : s.ladingHead c.tenant c.input = true)
    (hopened : s.ladingOpen c.tenant c.input = some (x, m))
    (hparent : s.parentOf c.tenant (fld c.body 4 4) = (v, .ok (p, lv))) (hlevel : childLevel x.type lv = some l)
    (hkey : LadingKeyOk v x m)
    (hblinding : (if x.type = 0x10 then (v.random (x.keyBits / 8)).map fun d => (d.1, blindPair m d.2)
      else some (v, (0, 0))) = some (w, q))
    (hroom : w.newKey { ladingNewKey c x p l m with blinding := q } = some (h, cs)) :
    s.ladingTake c = (w.closeReceipt c.tenant (sub c.input 0x20 16),
      .done (keyResult h (checkValue x.type m) (cs.map (Change.counted x.counter)))) := by
  obtain ⟨htype, hbranch, hplain, hclass⟩ := hkey
  unfold State.ladingTake
  dsimp only
  rw [if_neg (not_not_intro hhead), hopened]
  dsimp only
  rw [withParent_of_parent hparent hlevel, if_neg (by simp [htype, hbranch, hplain]), if_neg (not_not_intro hclass)]
  split_ifs at hblinding ⊢ with hrsa
  · obtain ⟨⟨_, d⟩, hdrawn, hq⟩ := Option.map_eq_some_iff.mp hblinding
    obtain ⟨rfl, rfl⟩ := Prod.mk.inj hq
    rw [withRandom_of_drawn hdrawn]
    exact ladingPlace_of_room hroom
  · obtain ⟨rfl, rfl⟩ := Prod.mk.inj (Option.some.inj hblinding)
    exact ladingPlace_of_room hroom

end Sys2Proof.Machine

end

section

open Sys2Proof Sys2Proof.Machine

/-- Settles O59: each row is an accepted command, so its opcode's meaning runs on the begun state; the body's form, the key
or the record's key, and the room for it pass every check of that meaning. -/
theorem ladingRecordsLeaveAndArrive : Obligations.LadingRecordsLeaveAndArrive := by
  unfold Obligations.LadingRecordsLeaveAndArrive
  refine ⟨?exports, ?receipt, ?takes⟩
  case exports =>
    intro s t ref r b i v k root m c u x o e hacc hlen hflags hsource hdest hzero hkey hexportable htype hroot hmaterial
      hspace
    rw [exec_ladingExport t s hacc.named]
    exact runCommand_accepted hacc _ _ _ (ladingExport_eq (c := c) ⟨hlen, hflags, hsource, hdest, hzero⟩ hkey hexportable
      htype hroot hmaterial hspace)
  case receipt =>
    intro s t ref r b i v nonce u hacc hlen haction hzero hzero' hdest hroom hdrawn
    rw [exec_ladingImport t s hacc.named]
    exact runCommand_accepted hacc _ _ _ (ladingImport_of_receipt (c := s.cmd t r b i) hlen haction hzero hzero' hdest
      hroom hdrawn)
  case takes =>
    intro s t ref r b i v w x m p lv l h q cs u hacc hlen haction hzero hzero' hhead hopened hparent hlevel htype hbranch
      hplain hclass hblinding hroom
    rw [exec_ladingImport t s hacc.named]
    exact runCommand_accepted hacc _ _ _ ((ladingImport_of_take (c := s.cmd t r b i) hlen haction hzero hzero').trans
      (ladingTake_eq hhead hopened hparent hlevel ⟨htype, hbranch, hplain, hclass⟩ hblinding hroom))

end

/-! # Scope: the presence, over-current and activation of a custodian card port (R228, R229, R237, R250, Table 7-10) -/

section

namespace Sys2Proof.Machine

/-! ## The rows, on a port that the block has -/

section Rows

variable (t : Tick) (s : State) {n : Nat} (h : n ≤ 3)
include h

theorem exec_cardInsertion : exec (.cardInsertion t n) s = .next { (s.at t).cardInsert n with pending := s.pending } :=
  if_pos h
theorem exec_cardInsertionRecognised :
    exec (.cardInsertionRecognised t n) s = .next { (s.at t).cardRecognised n with pending := s.pending } := if_pos h
theorem exec_cardRemoval : exec (.cardRemoval t n) s = .next { (s.at t).cardRemove n with pending := s.pending } :=
  if_pos h
theorem exec_overcurrentOnset : exec (.overcurrentOnset t n) s = .next { (s.at t).overOnset n with pending := s.pending } :=
  if_pos h
theorem exec_overcurrentFilterExpiry :
    exec (.overcurrentFilterExpiry t n) s = .next { (s.at t).overExpiry n with pending := s.pending } := if_pos h
theorem exec_cardActivationTimer :
    exec (.cardActivationTimer t n) s = .next { (s.at t).cardActivation n with pending := s.pending } := if_pos h
theorem exec_cardDeactivationTimer :
    exec (.cardDeactivationTimer t n) s = .next { (s.at t).cardDeactivation n with pending := s.pending } := if_pos h
theorem exec_atrTimeout : exec (.atrTimeout t n) s = .next { (s.at t).atrTimeout n with pending := s.pending } := if_pos h

end Rows

variable {s : State} {n : Nat}

/-! ## Presence and over-current, on a powered card island (R237, R250) -/

section Presence

variable (hon : s.unitOn 11 0 = true)
include hon

theorem cardInsert_of_empty (hempty : (s.cardPort n).present = false) :
    s.cardInsert n = s.setCard n { s.cardPort n with edge := some s.tick } :=
  if_neg (by simp [hon, hempty])

theorem cardRecognised_of_filtered {e : Tick} (hedge : (s.cardPort n).edge = some e) (hdue : e + 100000 ≤ s.tick) :
    s.cardRecognised n = (s.setCard n { s.cardPort n with present := true, edge := none }).raise .crd (4 * n) := by
  simp only [State.cardRecognised, hedge]
  exact if_pos ⟨hon, hdue⟩

theorem cardRemove_of_empty (hempty : (s.cardPort n).present = false) :
    s.cardRemove n = s.setCard n { s.cardPort n with edge := none } := by
  unfold State.cardRemove
  rw [if_neg (not_not_intro hon), if_pos (by simp [hempty])]

/-- Before the settling answer a removal ends the command that holds the port. -/
theorem cardRemove_of_unsettled (hpresent : (s.cardPort n).present = true) (hsettled : (s.cardPort n).settled = false) :
    s.cardRemove n =
      ((s.setCard n { s.cardPort n with present := false }).raise .crd (4 * n + 1)).endCard n (fail .cardRemoved) := by
  unfold State.cardRemove
  rw [if_neg (not_not_intro hon), if_neg (not_not_intro hpresent), if_neg (by simp [hsettled])]

theorem overOnset_of_powered : s.overOnset n = s.setCard n { s.cardPort n with overAt := some s.tick } := if_pos hon

theorem overExpiry_of_filtered {o : Tick} (hover : (s.cardPort n).overAt = some o)
    (hdue : o + s.man.set.ocFilter ≤ s.tick) :
    s.overExpiry n =
      ((s.setCard n { s.cardPort n with overAt := none }).raise .crd (4 * n + 2)).endCard n (fail .cardProtocol) := by
  simp only [State.overExpiry, hover]
  exact if_pos ⟨hon, hdue⟩

end Presence

/-! ## The points of Table 7-10, each once its time has come -/

/-- Step 2: I/O is released to reception. -/
theorem cardActivation_of_io (hstep : (s.cardPort n).step = .activating 2) (hdue : (s.cardPort n).since + 1000 ≤ s.tick) :
    s.cardActivation n =
      (s.emit (.cardSignals n (s.cardPort n).cls false false true)).cardStep n (s.cardPort n) (.activating 3) := by
  simp only [State.cardActivation, hstep, if_pos hdue]

/-- Step 3: the clock starts. -/
theorem cardActivation_of_clock (hstep : (s.cardPort n).step = .activating 3) (hdue : (s.cardPort n).since + 10 ≤ s.tick) :
    s.cardActivation n =
      (s.emit (.cardSignals n (s.cardPort n).cls false true true)).cardStep n (s.cardPort n) (.activating 4) := by
  simp only [State.cardActivation, hstep, if_pos hdue]

/-- Step 4: the reset is released, and the port waits for the ATR. -/
theorem cardActivation_of_reset (hstep : (s.cardPort n).step = .activating 4) (hdue : (s.cardPort n).since + 250 ≤ s.tick) :
    s.cardActivation n = (s.emit (.cardSignals n (s.cardPort n).cls true true true)).cardStep n (s.cardPort n) .atr := by
  simp only [State.cardActivation, hstep, if_pos hdue]

section Deactivation

variable (hdue : (s.cardPort n).since + 10 ≤ s.tick)
include hdue

/-- D2: the clock stops. -/
theorem cardDeactivation_of_clock (hstep : (s.cardPort n).step = .deactivating 2) :
    s.cardDeactivation n =
      (s.emit (.cardSignals n (s.cardPort n).cls false false true)).cardStep n (s.cardPort n) (.deactivating 3) := by
  simp only [State.cardDeactivation, hstep, if_pos hdue]

/-- D3: I/O is driven low. -/
theorem cardDeactivation_of_io (hstep : (s.cardPort n).step = .deactivating 3) :
    s.cardDeactivation n =
      (s.emit (.cardSignals n (s.cardPort n).cls false false false)).cardStep n (s.cardPort n) (.deactivating 4) := by
  simp only [State.cardDeactivation, hstep, if_pos hdue]

/-- D4: the supply goes off, and a port that no command holds keeps of its fields only what is sensed and whose it was. -/
theorem cardDeactivation_of_unheld (hstep : (s.cardPort n).step = .deactivating 4) (hunheld : (s.cardPort n).ref = none) :
    s.cardDeactivation n = (s.emit (.cardSignals n 0 false false false)).setCard n {
      present := (s.cardPort n).present
      edge := (s.cardPort n).edge
      overAt := (s.cardPort n).overAt
      ref := (s.cardPort n).ref
      tenant := (s.cardPort n).tenant
      enrol := (s.cardPort n).enrol } := by
  simp only [State.cardDeactivation, hstep, if_pos hdue, hunheld]

end Deactivation

/-! ## An ATR that does not come (R229) -/

/-- D1 of a port that is neither idle nor being deactivated. -/
theorem deactivate_of_atr {p : CardPort} (hstep : p.step = .atr) :
    s.deactivate n p = (s.emit (.cardSignals n p.cls false true true)).cardStep n p (.deactivating 2) := by
  simp only [State.deactivate, hstep]

theorem atrTimeout_eq_nextClass (hstep : (s.cardPort n).step = .atr) : s.atrTimeout n = s.nextClass n := if_pos hstep

theorem nextClass_of_none_left (hnone : (s.cardPort n).classes = []) : s.nextClass n = s.endCard n (fail .cardProtocol) :=
  if_pos hnone
theorem nextClass_of_left (hleft : (s.cardPort n).classes ≠ []) : s.nextClass n = s.deactivate n (s.cardPort n) :=
  if_neg hleft

end Sys2Proof.Machine

end

section

open Sys2Proof Sys2Proof.Machine

/-- Settles O33: on a port that the block has each row runs its operation; the island's power, the card's presence and the
port's step choose its case, and each filter and each point of Table 7-10 has reached its time. -/
theorem cardPortsFollowPresenceAndCurrent : Obligations.CardPortsFollowPresenceAndCurrent := by
  unfold Obligations.CardPortsFollowPresenceAndCurrent
  refine ⟨?insertion, ?recognised, ?filterEnds, ?removal, ?onset, ?expiry, ?io, ?clock, ?reset, ?clockStops, ?ioLow, ?idle,
    ?noClass, ?nextClass⟩
  case insertion =>
    intro s t n u p hn hon hempty
    rw [exec_cardInsertion t s hn, cardInsert_of_empty hon hempty]
  case recognised =>
    intro s t n e u p hn hon hedge hdue
    rw [exec_cardInsertionRecognised t s hn, cardRecognised_of_filtered hon hedge hdue]
  case filterEnds =>
    intro s t n u p hn hon hempty
    rw [exec_cardRemoval t s hn, cardRemove_of_empty hon hempty]
  case removal =>
    intro s t n u p hn hon hpresent hsettled
    rw [exec_cardRemoval t s hn, cardRemove_of_unsettled hon hpresent hsettled]
  case onset =>
    intro s t n u p hn hon
    rw [exec_overcurrentOnset t s hn, overOnset_of_powered hon]
  case expiry =>
    intro s t n o u p hn hon hover hdue
    rw [exec_overcurrentFilterExpiry t s hn, overExpiry_of_filtered hon hover hdue]
  case io =>
    intro s t n u p hn hstep hdue
    rw [exec_cardActivationTimer t s hn, cardActivation_of_io hstep hdue]
  case clock =>
    intro s t n u p hn hstep hdue
    rw [exec_cardActivationTimer t s hn, cardActivation_of_clock hstep hdue]
  case reset =>
    intro s t n u p hn hstep hdue
    rw [exec_cardActivationTimer t s hn, cardActivation_of_reset hstep hdue]
  case clockStops =>
    intro s t n u p hn hstep hdue
    rw [exec_cardDeactivationTimer t s hn, cardDeactivation_of_clock hdue hstep]
  case ioLow =>
    intro s t n u p hn hstep hdue
    rw [exec_cardDeactivationTimer t s hn, cardDeactivation_of_io hdue hstep]
  case idle =>
    intro s t n u p hn hstep hdue hunheld
    rw [exec_cardDeactivationTimer t s hn, cardDeactivation_of_unheld hdue hstep hunheld]
  case noClass =>
    intro s t n u p hn hstep hnone
    rw [exec_atrTimeout t s hn, atrTimeout_eq_nextClass hstep, nextClass_of_none_left hnone]
  case nextClass =>
    intro s t n u p hn hstep hleft
    rw [exec_atrTimeout t s hn, atrTimeout_eq_nextClass hstep, nextClass_of_left hleft, deactivate_of_atr hstep]

end

/-! # Scope: the transit port's initialisation, reads, writes and removal (R237 to R242, R248, R251, Tables 7-14, 7-20) -/

section

namespace Sys2Proof.Machine

/-! ## The rows, each on the state its tick finds -/

section Rows

variable (t : Tick) (d : Bytes) (good : Bool) (s : State)

theorem exec_transitInsertion : exec (.transitInsertion t) s = .next { (s.at t).transitInsert with pending := s.pending } :=
  rfl
theorem exec_transitRemoval : exec (.transitRemoval t) s = .next { (s.at t).transitRemove with pending := s.pending } := rfl
theorem exec_sdPowerUpTimer : exec (.sdPowerUpTimer t) s = .next { (s.at t).sdPowerUp with pending := s.pending } := rfl
theorem exec_sdCommandResponse :
    exec (.sdCommandResponse t d good) s = .next { (s.at t).sdResponse d good with pending := s.pending } := rfl
theorem exec_sdResponseTimeout :
    exec (.sdResponseTimeout t) s = .next { (s.at t).sdNoResponse with pending := s.pending } := rfl
theorem exec_sdReadBlock : exec (.sdReadBlock t d good) s = .next { (s.at t).sdData d good with pending := s.pending } :=
  rfl
theorem exec_sdReadTimeout : exec (.sdReadTimeout t) s = .next { (s.at t).sdReadTimeout with pending := s.pending } := rfl
theorem exec_sdCrcStatusToken :
    exec (.sdCrcStatusToken t good) s = .next { (s.at t).sdToken good with pending := s.pending } := rfl
theorem exec_sdBusyEnd : exec (.sdBusyEnd t) s = .next { (s.at t).sdBusyEnd with pending := s.pending } := rfl
theorem exec_sdBusyTimeout : exec (.sdBusyTimeout t) s = .next { (s.at t).sdBusyTimeout with pending := s.pending } := rfl
theorem exec_acmd41Retry : exec (.acmd41Retry t) s = .next { (s.at t).acmdRetry with pending := s.pending } := rfl
theorem exec_acmd41Timeout : exec (.acmd41Timeout t) s = .next { (s.at t).acmdTimeout with pending := s.pending } := rfl
theorem exec_voltageSwitchWait :
    exec (.voltageSwitchWait t good) s = .next { (s.at t).voltWait good with pending := s.pending } := rfl
theorem exec_datHighTimeout : exec (.datHighTimeout t) s = .next { (s.at t).datTimeout with pending := s.pending } := rfl
theorem exec_sdPowerCycleWait : exec (.sdPowerCycleWait t) s = .next { (s.at t).sdCycle with pending := s.pending } := rfl
theorem exec_sdTuningBlock : exec (.sdTuningBlock t good) s = .next { (s.at t).sdTuning good with pending := s.pending } :=
  rfl

end Rows

variable {s : State} {d : Bytes} {b : Nat}

/-! ## Presence (R237, R251, Table 7-20) -/

theorem transitInsert_of_empty (hon : s.unitOn 11 0 = true) (hempty : s.cards.transit.present = false) :
    s.transitInsert = (s.setTransit { s.cards.transit with present := true }).raise .trn 0 :=
  if_neg (by simp [hon, hempty])

/-- Before the share has counted a removal ends the command by its phase. -/
theorem transitRemove_of_uncounted (hon : s.unitOn 11 0 = true) (hpresent : s.cards.transit.present = true)
    (huncounted : s.cards.transit.step.afterCount = false) :
    s.transitRemove = ((s.setTransit { s.cards.transit with present := false }).raise .trn 1).endTransit
      (fail (if s.cards.transit.step.tears then .cardTorn else .cardRemoved)) := by
  unfold State.transitRemove
  dsimp only
  rw [if_neg (by simp [hon, hpresent]), if_neg (by simp [huncounted])]

/-! ## Times that come: each command goes out, or the wait is over (R239, R240, R242) -/

/-- What a missed time limit leaves, and its cause (R242). -/
theorem sdFail_late : s.sdFail true = (s.raise .trn 4).endTransit (fail .cardProtocol) := rfl

theorem sdPowerUp_of_due (hstep : s.cards.transit.step = .powerUp) (hdue : s.cards.transit.since + 1000 ≤ s.tick) :
    s.sdPowerUp = (s.emit (.sd 0 0 [])).sdSend s.cards.transit .cmd8 8 0x1AA := if_pos ⟨hstep, hdue⟩

theorem acmdRetry_of_due (hstep : s.cards.transit.step = .acmdWait) (hdue : s.cards.transit.since + 10000 ≤ s.tick) :
    s.acmdRetry = s.sdSend s.cards.transit .app41 55 0 := if_pos ⟨hstep, hdue⟩

/-- The steps of the ACMD41 loop have one limit, from its first command on. The status of a missed one is
deduced (entry 19). -/
theorem acmdTimeout_of_due
    (hstep : s.cards.transit.step = .app41 ∨ s.cards.transit.step = .acmd41 ∨ s.cards.transit.step = .acmdWait)
    (hdue : s.cards.transit.acmdAt + 1000000 ≤ s.tick) : s.acmdTimeout = s.sdFail true :=
  if_pos ⟨by simpa using hstep, hdue⟩

theorem voltWait_of_due {high : Bool} (hstep : s.cards.transit.step = .switch)
    (hdue : s.cards.transit.since + 5000 ≤ s.tick) :
    s.voltWait high =
      if high then s.sdSend s.cards.transit .cmd2 2 0 else s.sdStep s.cards.transit .datHigh := if_pos ⟨hstep, hdue⟩

theorem datTimeout_of_due (hstep : s.cards.transit.step = .datHigh) (hdue : s.cards.transit.since + 1000 ≤ s.tick) :
    s.datTimeout = (s.emit (.sdPower false false)).sdStep
      { s.cards.transit with powered := false, v18 := false, only33 := true } .cycle := if_pos ⟨hstep, hdue⟩

theorem sdCycle_of_due (hstep : s.cards.transit.step = .cycle) (hdue : s.cards.transit.since + 10000 ≤ s.tick) :
    s.sdCycle = s.sdPowerOn s.cards.transit := if_pos ⟨hstep, hdue⟩

theorem sdReadTimeout_of_due (hstep : s.cards.transit.step.reads = true)
    (hdue : s.cards.transit.since + 100000 ≤ s.tick) : s.sdReadTimeout = s.sdFail true := if_pos ⟨hstep, hdue⟩

theorem sdBusyTimeout_of_due (hstep : s.cards.transit.step.busyWait = true)
    (hdue : s.cards.transit.since + 500000 ≤ s.tick) : s.sdBusyTimeout = s.sdFail true := if_pos ⟨hstep, hdue⟩

/-! ## Responses, and their absence (R239, R242) -/

/-- Only for CMD8 does the absence of a response say what the card is (Table 7-14 step 3). -/
theorem sdNoResponse_of_cmd8 (hstep : s.cards.transit.step = .cmd8) : s.sdNoResponse = s.endTransit (fail .mediaFormat) :=
  if_pos hstep

theorem sdNoResponse_of_response (hstep : s.cards.transit.step ≠ .cmd8) (hresponse : s.cards.transit.step.response = true) :
    s.sdNoResponse = s.sdFail true := (if_neg hstep).trans (if_pos hresponse)

/-- Whether the command or block that failed has been repeated already. -/
@[simp] theorem sdCrc_snd : s.sdCrc.2 = s.cards.transit.again := rfl

section Cmd8

variable (hstep : s.cards.transit.step = .cmd8)
include hstep

/-- The echo of CMD8 starts the ACMD41 loop. -/
theorem sdResponse_of_echo (hecho : beNat d % 4096 = 0x1AA) :
    s.sdResponse d true =
      ((s.captureCard 4 s.cards.transit.ref s.tick d).setTransit { s.cards.transit with again := false }).sdSend
        { s.cards.transit with again := false, acmdAt := (s.captureCard 4 s.cards.transit.ref s.tick d).tick }
        .app41 55 0 := by
  simp [State.sdResponse, hstep, hecho]

theorem sdResponse_of_second_crc_error (hagain : s.cards.transit.again = true) :
    s.sdResponse d false = s.sdCrc.1.sdFail false := by
  simp [State.sdResponse, hstep, hagain]

end Cmd8

/-! ## The blocks of a share, read and written (R242, R248) -/

theorem sdData_of_body (hstep : s.cards.transit.step = .readData 0) :
    s.sdData d true = (s.captureCard 4 s.cards.transit.ref s.tick d).sdSend
      { s.cards.transit with again := false, body := padTo 512 d } (.read 1) 17 (blockAddr 1) := by
  simp [State.sdData, hstep]

/-- A block's first CRC error has the block read again. -/
theorem sdData_of_first_crc_error (hstep : s.cards.transit.step = .readData b) (hfirst : s.cards.transit.again = false) :
    s.sdData d false = s.sdCrc.1.sdSend s.sdCrc.1.cards.transit (.read b) 17 (blockAddr b) := by
  simp [State.sdData, hstep, hfirst]

theorem sdToken_of_good (hstep : s.cards.transit.step = .token b) :
    s.sdToken true = s.sdStep s.cards.transit (.busy b) := by
  simp [State.sdToken, hstep]

/-- After the first block the second is written. -/
theorem sdBusyEnd_of_body (hstep : s.cards.transit.step = .busy 0) :
    s.sdBusyEnd =
      s.sdSend { s.cards.transit with again := false } (.write 1) 24 (blockAddr 1) s.cards.transit.newTrailer := by
  simp [State.sdBusyEnd, hstep]

/-- After the second block both are read back. -/
theorem sdBusyEnd_of_trailer (hstep : s.cards.transit.step = .busy 1) :
    s.sdBusyEnd = s.sdSend { s.cards.transit with again := false } (.verify 0) 17 (blockAddr 0) := by
  simp [State.sdBusyEnd, hstep]

/-! ## Tuning (Table 7-14 step 12) -/

section Tuning

variable (hstep : s.cards.transit.step = .tuning)
include hstep

theorem sdTuning_of_good : s.sdTuning true = s.sdReady s.cards.transit := by
  unfold State.sdTuning
  exact (if_neg (not_not_intro hstep)).trans (if_pos rfl)

theorem sdTuning_of_attempts_left (hleft : s.cards.transit.attempts < 40) :
    s.sdTuning false = s.sdSend { s.cards.transit with attempts := s.cards.transit.attempts + 1 } .cmd19 19 0 := by
  unfold State.sdTuning
  exact (if_neg (not_not_intro hstep)).trans ((if_neg Bool.false_ne_true).trans (if_pos hleft))

end Tuning

end Sys2Proof.Machine

end

section

open Sys2Proof Sys2Proof.Machine

/-- Settles O35: each row runs its operation; the port's step chooses its case, and what the row carries, the time that has
passed or the repeats that are left choose between going on and ending the command. -/
theorem theTransitCardIsInitialisedAndRead : Obligations.TheTransitCardIsInitialisedAndRead := by
  unfold Obligations.TheTransitCardIsInitialisedAndRead
  refine ⟨?insertion, ?removal, ?powerUp, ?echo, ?secondCrcError, ?noEcho, ?noResponse, ?body, ?firstCrcError, ?noData,
    ?token, ?bodyWritten, ?trailerWritten, ?staysBusy, ?retry, ?acmdTimeout, ?datHigh, ?datLow, ?datStaysLow, ?cycled,
    ?tuned, ?untuned⟩
  case insertion =>
    intro s t u p hon hempty
    rw [exec_transitInsertion, transitInsert_of_empty hon hempty]
  case removal =>
    intro s t u p hon hpresent huncounted
    rw [exec_transitRemoval, transitRemove_of_uncounted hon hpresent huncounted]
  case powerUp =>
    intro s t u p hstep hdue
    rw [exec_sdPowerUpTimer, sdPowerUp_of_due hstep hdue]
  case echo =>
    intro s t d u p hstep hecho
    rw [exec_sdCommandResponse, sdResponse_of_echo hstep hecho]
  case secondCrcError =>
    intro s t d u p hstep hagain
    rw [exec_sdCommandResponse, sdResponse_of_second_crc_error hstep hagain]
  case noEcho =>
    intro s t u p hstep
    rw [exec_sdResponseTimeout, sdNoResponse_of_cmd8 hstep]
  case noResponse =>
    intro s t u p hstep hresponse
    rw [exec_sdResponseTimeout, sdNoResponse_of_response hstep hresponse, sdFail_late]
  case body =>
    intro s t d u p hstep
    rw [exec_sdReadBlock, sdData_of_body hstep]
  case firstCrcError =>
    intro s t d u p hstep hfirst
    rw [exec_sdReadBlock, sdData_of_first_crc_error hstep hfirst]
  case noData =>
    intro s t u p hstep hdue
    rw [exec_sdReadTimeout, sdReadTimeout_of_due hstep hdue, sdFail_late]
  case token =>
    intro s t b u p hstep
    rw [exec_sdCrcStatusToken, sdToken_of_good hstep]
  case bodyWritten =>
    intro s t u p hstep
    rw [exec_sdBusyEnd, sdBusyEnd_of_body hstep]
  case trailerWritten =>
    intro s t u p hstep
    rw [exec_sdBusyEnd, sdBusyEnd_of_trailer hstep]
  case staysBusy =>
    intro s t u p hstep hdue
    rw [exec_sdBusyTimeout, sdBusyTimeout_of_due hstep hdue, sdFail_late]
  case retry =>
    intro s t u p hstep hdue
    rw [exec_acmd41Retry, acmdRetry_of_due hstep hdue]
  case acmdTimeout =>
    intro s t u p hstep hdue
    rw [exec_acmd41Timeout, acmdTimeout_of_due hstep hdue, sdFail_late]
  case datHigh =>
    intro s t u p hstep hdue
    rw [exec_voltageSwitchWait, voltWait_of_due hstep hdue, if_pos rfl]
  case datLow =>
    intro s t u p hstep hdue
    rw [exec_voltageSwitchWait, voltWait_of_due hstep hdue, if_neg Bool.false_ne_true]
  case datStaysLow =>
    intro s t u p hstep hdue
    rw [exec_datHighTimeout, datTimeout_of_due hstep hdue]
  case cycled =>
    intro s t u p hstep hdue
    rw [exec_sdPowerCycleWait, sdCycle_of_due hstep hdue]
  case tuned =>
    intro s t u p hstep
    rw [exec_sdTuningBlock, sdTuning_of_good hstep]
    rfl
  case untuned =>
    intro s t u p hstep hleft
    rw [exec_sdTuningBlock, sdTuning_of_attempts_left hstep hleft]

end

/-! # Scope: the commands of quorums, custodians, cards and shares (R211 to R226, R235, R236, R248, R249) -/

section

namespace Sys2Proof.Machine

/-! ## The rows, on a record that names a queue pair that exists -/

section Rows

variable (t : Tick) {ref : RecRef} (s : State) (h : ref.ok = true)
include h

theorem exec_custodianEnrol :
    exec (.custodianEnrol t ref) s = s.act t fun u => u.runCommand 0x0801 custodianEnrol ref := if_pos h
theorem exec_custodianRemove :
    exec (.custodianRemove t ref) s = s.act t fun u => u.runCommand 0x0802 custodianRemove ref := if_pos h
theorem exec_quorumBegin :
    exec (.quorumBegin t ref) s = s.act t fun u => u.runCommand 0x0803 quorumBegin ref := if_pos h
theorem exec_cardAuthenticate :
    exec (.cardAuthenticate t ref) s = s.act t fun u => u.runCommand 0x0804 cardAuthenticate ref := if_pos h
theorem exec_quorumStatus :
    exec (.quorumStatus t ref) s = s.act t fun u => u.runCommand 0x0805 quorumStatus ref := if_pos h
theorem exec_quorumCancel :
    exec (.quorumCancel t ref) s = s.act t fun u => u.runCommand 0x0806 quorumCancel ref := if_pos h
theorem exec_shareExport :
    exec (.shareExport t ref) s = s.act t fun u => u.runCommand 0x0807 shareExport ref := if_pos h
theorem exec_shareImport :
    exec (.shareImport t ref) s = s.act t fun u => u.runCommand 0x0808 shareImport ref := if_pos h

end Rows

variable {s u v w : State} {c : Cmd} {n : Nat} {d : Bytes} {e : CustodyEntry}

/-! ## Quorums (R216, R222, R226) -/

/-- QUORUM_BEGIN's body asks for some purpose and for 1 to 16 uses. -/
structure QuorumBeginForm (b : Bytes) : Prop where
  length : b.length = 8
  purposes : fld b 0 1 ≠ 0
  usesMin : fld b 1 1 ≠ 0
  usesMax : fld b 1 1 ≤ 16
  zero : zeroAt b 2 6 = true

/-- The quorum that QUORUM_BEGIN opens. -/
def openedQuorum (b : Bytes) : QuorumState := { phase := 1, purposes := BitVec.ofNat 8 (fld b 0 1), uses := fld b 1 1 }

theorem quorumBegin_eq {cu : Custody} (hform : QuorumBeginForm c.body) (hcustody : s.custodyOf c.tenant = some cu)
    (hroster : s.loadRoster c.tenant c.input = (v, .ok e)) :
    quorumBegin c s = (v.setQuorum c.tenant (openedQuorum c.body), .done {
      body := natLE 1 cu.m ++ natLE 1 ((v.setQuorum c.tenant (openedQuorum c.body)).rosterCount c.tenant) ++
        natLE 2 e.rosterGen ++ zeros 4
      changes := s.custodyChange c.tenant e }) := by
  obtain ⟨hlen, hpurposes, hmin, hmax, hzero⟩ := hform
  unfold quorumBegin
  dsimp only
  rw [if_neg (by simp [hlen, hpurposes, hmin, hmax, hzero]), hcustody]
  dsimp only
  rw [hroster]
  rfl

theorem quorumStatus_eq (hbody : c.body = []) :
    quorumStatus c s = (s, .done {
      body := natLE 1 (s.quorum c.tenant).phase ++ natLE 1 (s.quorum c.tenant).counted.length ++
        natLE 1 (if (s.quorum c.tenant).phase = 0 then 0 else (s.quorum c.tenant).uses) ++
        natLE 1 (s.quorum c.tenant).purposes.toNat ++ natLE 1 (s.quorumM c.tenant) ++ zeros 3 ++
        natLE 8 (s.quorum c.tenant).openTick ++ natLE 8 (s.quorum c.tenant).closeTick
      out := ((mapFind s.rosters c.tenant).map (s.rosterImage c.tenant)).getD [] }) :=
  if_neg (not_not_intro hbody)

theorem quorumCancel_eq (hbody : c.body = []) : quorumCancel c s = (s.setQuorum c.tenant {}, .done {}) :=
  if_neg (not_not_intro hbody)

/-! ## CUSTODIAN_REMOVE (R219) -/

/-- A tenant's roster without a card, of the tenant's next generation. -/
def State.rosterWithout (s : State) (t card : Nat) (x : Roster) : Roster :=
  { x with gen := nextGen (s.custodyEntry t).rosterGen, entries := x.entries.filter fun a => a.1 != card }

/-- The card is on the roster, and as many cards as the quorum asks for stay on it. -/
theorem custodianRemove_eq {x y : Roster} (hlen : c.body.length = 8)
    (huse : s.quorumUse c.tenant purposeRoster = (v, none)) (hroster : mapFind v.rosters c.tenant = some x)
    (hlisted : (x.entries.all fun a => a.1 != fld c.body 0 8) = false)
    (hstay : v.quorumM c.tenant ≤ (x.entries.filter fun a => a.1 != fld c.body 0 8).length)
    (hleft : v.rosterWithout c.tenant (fld c.body 0 8) x = y) :
    custodianRemove c s = ({ v with rosters := mapSet v.rosters c.tenant y },
      .done (State.rosterResult { v with rosters := mapSet v.rosters c.tenant y } c.tenant (fld c.body 0 8) y
        [.custody c.tenant { v.custodyEntry c.tenant with rosterGen := y.gen, rosterPending := false }])) := by
  subst hleft
  unfold custodianRemove
  dsimp only
  rw [if_neg (not_not_intro hlen), withQuorum_of_use huse, hroster]
  dsimp only
  rw [if_neg (by simp [hlisted]), if_neg (Nat.not_lt.mpr hstay)]
  rfl

/-! ## A command takes a custodian port (R226, R235, R236) -/

/-- The body names a port of the block whose classes are not empty, and its reserved bytes from `o` on are zero. -/
theorem bodyPort_of_form {b : Bytes} {o : Nat} (hlen : b.length = 8) (hport : fld b 0 1 ≤ 3)
    (hzero : zeroAt b o (8 - o) = true) (hclasses : s.portClasses (fld b 0 1) ≠ []) :
    s.bodyPort b o = some (fld b 0 1) :=
  if_pos ⟨hlen, hport, hzero, hclasses⟩

/-- The port as the command holds it, with the ephemeral, the nonce and the classes to try. -/
def State.heldPort (s : State) (c : Cmd) (n : Nat) (enrol : Option Nat) (d : Bytes) : CardPort :=
  { s.cardPort n with
    ref := some c.record.ref, tenant := c.tenant, enrol, plain := false
    eph := p256Curve.scalar (d.take 40), nonceD := d.drop 40, classes := s.portClasses n }

/-- An idle port starts its activation with the first class; another port, still deactivating, only learns its holder. -/
def State.holdPort (s : State) (n : Nat) (p : CardPort) : State :=
  match p.step, p.classes with
  | .idle, k :: rest => s.activate n p k rest
  | _, _ => s.setCard n p

/-- The island is on, no command holds the port, a card is in it, and the ephemeral and nonce are drawn. -/
structure TakesCard (s : State) (n : Nat) (w : State) (d : Bytes) : Prop where
  power : s.domainFail 11 = none
  free : (s.cardPort n).ref = none
  present : (s.cardPort n).present = true
  drawn : s.random 56 = some (w, d)

theorem takeCard_eq {cs : List Change} (htakes : TakesCard s n w d) (enrol : Option Nat) :
    s.takeCard c n enrol cs = (w.holdPort n (s.heldPort c n enrol d), .wait (.card n) { changes := cs }) := by
  obtain ⟨hpower, hfree, hpresent, hdrawn⟩ := htakes
  unfold State.takeCard
  dsimp only
  rw [hpower]
  dsimp only
  rw [if_neg (by simp [hfree]), if_neg (not_not_intro hpresent), hdrawn]
  rfl

theorem cardAuthenticate_eq (hport : s.bodyPort c.body 1 = some n) (hopen : (s.quorum c.tenant).phase ≠ 0)
    (htakes : TakesCard s n w d) :
    cardAuthenticate c s = (w.holdPort n (s.heldPort c n none d), .wait (.card n) { changes := [] }) := by
  unfold cardAuthenticate
  rw [hport]
  dsimp only
  rw [if_neg hopen, takeCard_eq htakes]

/-! ## CUSTODIAN_ENROL (R211, R214, R216, R218) -/

/-- The state with a custody nonce, which is drawn where it is zero (R214). -/
def State.withNonce (s : State) : Option State :=
  if s.vault.custodyNonce ≠ zeros 32 then some s
  else (s.random 32).map fun d => { d.1 with vault := { d.1.vault with custodyNonce := d.2 } }

theorem needNonce_of_nonce {k : State → State × Did} (hnonce : s.withNonce = some v) : s.needNonce k = k v := by
  unfold State.withNonce at hnonce
  unfold State.needNonce
  split_ifs at hnonce ⊢ with hheld
  · rw [Option.some.inj hnonce]
  · obtain ⟨⟨x, b⟩, hdrawn, rfl⟩ := Option.map_eq_some_iff.mp hnonce
    exact withRandom_of_drawn hdrawn

/-- The state on which an enrolment goes on: where the loaded roster reaches M a quorum is used, where it is shorter none is
needed (entry 56). -/
def State.EnrolUse (s : State) (t : Nat) (v : State) : Prop :=
  if s.quorumM t ≤ s.rosterCount t then s.quorumUse t purposeRoster = (v, none) else v = s

theorem ite_withQuorum_of_enrolUse {t : Nat} {k : State → State × Did} (huse : s.EnrolUse t v) :
    (if s.quorumM t ≤ s.rosterCount t then s.withQuorum t purposeRoster k else k s) = k v := by
  unfold State.EnrolUse at huse
  split_ifs at huse ⊢ with hreaches
  · exact withQuorum_of_use huse
  · rw [huse]

/-- The roster loads after that and lists no card at the body's index. -/
theorem custodianEnrol_eq {x : State} (hport : s.bodyPort c.body 2 = some n) (hindex : fld c.body 1 1 ≤ 31)
    (hcustody : (s.custodyOf c.tenant).isNone = false) (huse : s.EnrolUse c.tenant u)
    (hroster : u.loadRoster c.tenant c.input = (x, .ok e))
    (hunlisted : ((mapFind (x.applyAll (u.custodyChange c.tenant e)).rosters c.tenant).map fun y =>
      y.entries.any fun a => a.2.2 == fld c.body 1 1) ≠ some true)
    (hnonce : (x.applyAll (u.custodyChange c.tenant e)).withNonce = some v) (htakes : TakesCard v n w d) :
    custodianEnrol c s = (w.holdPort n (v.heldPort c n (some (fld c.body 1 1)) d),
      .wait (.card n) { changes := u.custodyChange c.tenant e }) := by
  unfold custodianEnrol
  rw [hport]
  dsimp only
  rw [if_neg (Nat.not_lt.mpr hindex), if_neg (by simp [hcustody]), ite_withQuorum_of_enrolUse huse, hroster]
  dsimp only
  rw [if_neg hunlisted, needNonce_of_nonce hnonce, takeCard_eq htakes]

/-! ## A command takes the transit port (R226, R248, R249) -/

/-- The island is on, no command holds the transit port, and a card is in it. -/
structure TakesTransit (s : State) : Prop where
  power : s.domainFail 11 = none
  free : s.cards.transit.ref = none
  present : s.cards.transit.present = true

/-- The transit port as a share command holds it. -/
def heldTransit (c : Cmd) (isExport : Bool) : Transit :=
  { present := true, ref := some c.record.ref, tenant := c.tenant, export_ := isExport }

theorem takeTransit_eq {isExport : Bool} {cs : List Change} (htakes : TakesTransit s) :
    s.takeTransit c isExport cs = (s.sdPowerOn (heldTransit c isExport), .wait .transit { changes := cs }) := by
  obtain ⟨hpower, hfree, hpresent⟩ := htakes
  unfold State.takeTransit
  dsimp only
  rw [hpower]
  dsimp only
  rw [if_neg (by simp [hfree]), if_neg (not_not_intro hpresent)]
  rfl

/-! ## SHARE_EXPORT (R248) -/

/-- A set of `n` shares, any `k` of which rebuild the trunk, is opened in a tenant's custody entry. -/
def CustodyEntry.opened (e : CustodyEntry) (n k : Nat) : CustodyEntry :=
  { e with shareSet := nextGen e.shareSet, shareN := n, shareK := k, sharesIssued := 0, setOpen := true }

section Export

variable (hlen : c.body.length = 8) (hzero : zeroAt c.body 3 1 = true) (hzero' : zeroAt c.body 6 2 = true)
  (huse : s.quorumUse c.tenant purposeShares = (v, none)) (hpresent : (v.keyRec c.tenant).present = true)
include hlen hzero hzero' huse hpresent

theorem shareExport_of_open (haction : fld c.body 0 1 = 1) (hmin : 2 ≤ fld c.body 2 1)
    (hfits : fld c.body 2 1 ≤ fld c.body 1 1) (hmax : fld c.body 1 1 ≤ 16)
    (hentry : (v.custodyEntry c.tenant).opened (fld c.body 1 1) (fld c.body 2 1) = e)
    (htakes : TakesTransit (v.apply (.custody c.tenant e))) :
    shareExport c s = ((v.apply (.custody c.tenant e)).sdPowerOn (heldTransit c true),
      .wait .transit { changes := [.custody c.tenant e] }) := by
  subst hentry
  unfold shareExport
  dsimp only
  rw [if_neg (by simp [hlen, haction, hzero, hzero']), withQuorum_of_use huse, if_neg (not_not_intro hpresent),
    if_pos haction, if_pos ⟨hmin, hfits, hmax⟩]
  exact takeTransit_eq htakes

theorem shareExport_of_issue (haction : fld c.body 0 1 = 0) (hopen : (v.custodyEntry c.tenant).setOpen = true)
    (hset : fld c.body 4 2 = (v.custodyEntry c.tenant).shareSet) (htakes : TakesTransit v) :
    shareExport c s = (v.sdPowerOn (heldTransit c true), .wait .transit { changes := [] }) := by
  unfold shareExport
  dsimp only
  rw [if_neg (by simp [hlen, haction, hzero, hzero']), withQuorum_of_use huse, if_neg (not_not_intro hpresent),
    if_neg (by omega), if_pos ⟨hopen, hset⟩]
  exact takeTransit_eq htakes

end Export

/-! ## SHARE_IMPORT (R249) -/

section Import

variable (hlen : c.body.length = 8) (hzero : zeroAt c.body 1 7 = true)
  (huse : s.quorumUse c.tenant purposeShares = (v, none))
include hlen hzero huse

theorem shareImport_of_card (haction : fld c.body 0 1 = 0) (htakes : TakesTransit v) :
    shareImport c s = (v.sdPowerOn (heldTransit c false), .wait .transit { changes := [] }) := by
  unfold shareImport
  dsimp only
  rw [if_neg (by simp [hlen, haction, hzero]), withQuorum_of_use huse, if_neg (by omega)]
  exact takeTransit_eq htakes

theorem shareImport_of_drop (haction : fld c.body 0 1 = 1) :
    shareImport c s =
      ({ v with rounds := v.rounds.filter fun x => !(x.tenant == c.tenant && x.session == fld c.record.raw 0x16 2) },
        .done { body := zeros 8 }) := by
  unfold shareImport
  dsimp only
  rw [if_neg (by simp [hlen, haction, hzero]), withQuorum_of_use huse, if_pos haction]

end Import

end Sys2Proof.Machine

end

section

open Sys2Proof Sys2Proof.Machine

/-- Settles O60: each row is an accepted command, so its opcode's meaning runs on the begun state; the body obeys its form,
the quorum, the roster and the nonce decide the state on which it goes on, and the port that it asks for is free. -/
theorem custodyCommandsRunQuorumsCardsAndShares : Obligations.CustodyCommandsRunQuorumsCardsAndShares := by
  unfold Obligations.CustodyCommandsRunQuorumsCardsAndShares
  refine ⟨?begins, ?status, ?cancels, ?removes, ?authenticates, ?enrols, ?opens, ?issues, ?imports, ?drops⟩
  case begins =>
    intro s t ref r b i v cu e u w hacc hlen hpurposes hmin hmax hzero hcustody hroster
    rw [exec_quorumBegin t s hacc.named]
    exact runCommand_accepted hacc _ _ _ (quorumBegin_eq (c := s.cmd t r b i) ⟨hlen, hpurposes, hmin, hmax, hzero⟩ hcustody
      hroster)
  case status =>
    intro s t ref r b i u q hacc hbody
    rw [exec_quorumStatus t s hacc.named]
    exact runCommand_accepted hacc _ _ _ (quorumStatus_eq (c := s.cmd t r b i) hbody)
  case cancels =>
    intro s t ref r b i u hacc hbody
    rw [exec_quorumCancel t s hacc.named]
    exact runCommand_accepted hacc _ _ _ (quorumCancel_eq (c := s.cmd t r b i) hbody)
  case removes =>
    intro s t ref r b i v x u y w hacc hlen huse hroster hlisted hstay
    rw [exec_custodianRemove t s hacc.named]
    exact runCommand_accepted hacc _ _ _ (custodianRemove_eq (c := s.cmd t r b i) hlen huse hroster hlisted hstay
      rfl)
  case authenticates =>
    intro s t ref r b i w d u p q hacc hlen hport hzero hclasses hopen hpower hfree hpresent hdrawn
    rw [exec_cardAuthenticate t s hacc.named]
    exact runCommand_accepted hacc _ _ _ (cardAuthenticate_eq (c := s.cmd t r b i)
      (bodyPort_of_form hlen hport hzero hclasses) hopen ⟨hpower, hfree, hpresent, hdrawn⟩)
  case enrols =>
    intro s t ref r b i v0 v1 v w d e u v2 p q hacc hlen hport hzero hclasses hindex hcustody huse hroster hunlisted hnonce
      hpower hfree hpresent hdrawn
    rw [exec_custodianEnrol t s hacc.named]
    exact runCommand_accepted hacc _ _ _ (custodianEnrol_eq (c := s.cmd t r b i)
      (bodyPort_of_form hlen hport hzero hclasses) hindex hcustody huse hroster hunlisted hnonce
      ⟨hpower, hfree, hpresent, hdrawn⟩)
  case opens =>
    intro s t ref r b i v u e w hacc hlen haction hzero hzero' huse hkey hmin hfits hmax hpower hfree hpresent
    rw [exec_shareExport t s hacc.named]
    exact runCommand_accepted hacc _ _ _ (shareExport_of_open (c := s.cmd t r b i) hlen hzero hzero' huse hkey haction hmin
      hfits hmax rfl ⟨hpower, hfree, hpresent⟩)
  case issues =>
    intro s t ref r b i v u hacc hlen haction hzero hzero' huse hkey hopen hset hpower hfree hpresent
    rw [exec_shareExport t s hacc.named]
    exact runCommand_accepted hacc _ _ _ (shareExport_of_issue (c := s.cmd t r b i) hlen hzero hzero' huse hkey haction
      hopen hset ⟨hpower, hfree, hpresent⟩)
  case imports =>
    intro s t ref r b i v u hacc hlen haction hzero huse hpower hfree hpresent
    rw [exec_shareImport t s hacc.named]
    exact runCommand_accepted hacc _ _ _ (shareImport_of_card (c := s.cmd t r b i) hlen hzero huse haction
      ⟨hpower, hfree, hpresent⟩)
  case drops =>
    intro s t ref r b i v u hacc hlen haction hzero huse
    rw [exec_shareImport t s hacc.named]
    exact runCommand_accepted hacc _ _ _ (shareImport_of_drop (c := s.cmd t r b i) hlen hzero huse haction)

end

/-! # Scope: the commands of the digest lanes (R276 to R285, Tables 8-7 to 8-10; contexts and units also by log entry 54) -/

section

namespace Sys2Proof.Machine

/-! ## The rows, on a record that names a queue pair that exists -/

section Rows

variable (t : Tick) {ref : RecRef} (s : State) (h : ref.ok = true)
include h

theorem exec_digest : exec (.digest t ref) s = s.act t fun u => u.runCommand 0x0401 digest ref := if_pos h
theorem exec_hmacGenerate :
    exec (.hmacGenerate t ref) s = s.act t fun u => u.runCommand 0x0402 hmacGenerate ref := if_pos h
theorem exec_hmacVerify :
    exec (.hmacVerify t ref) s = s.act t fun u => u.runCommand 0x0403 hmacVerify ref := if_pos h
theorem exec_digestSave :
    exec (.digestSave t ref) s = s.act t fun u => u.runCommand 0x0404 digestSave ref := if_pos h
theorem exec_digestRestore :
    exec (.digestRestore t ref) s = s.act t fun u => u.runCommand 0x0405 digestRestore ref := if_pos h

end Rows

variable {s v w : State} {c : Cmd} {t i : Nat} {q : DigestReq} {m d : Bytes}

/-! ## A job on a context that is admitted (R277 to R279) -/

section Jobs

variable {n pre : Nat} {l : List Nat} {first data : Bytes} {outer : Bytes → Bytes}

/-- The context as a request finds it: a one-shot job uses none. -/
def State.oldCtx (s : State) (t : Nat) (q : DigestReq) : DigestCtx :=
  if q.ctx = oneShot then {} else s.ctx (ctxKey t q.ctx)

/-- The digest-lane job of a request: `pre` bytes stand ahead of the message, a new message starts from `first`, `outer`
finishes an HMAC, and `n` cycles are spent beside the message's blocks. -/
def State.digestDid (s : State) (t : Nat) (q : DigestReq) (l : List Nat) (n pre : Nat) (first : Bytes)
    (outer : Bytes → Bytes) (data : Bytes) : Did :=
  let x := startCtx q (s.oldCtx t q) first
  .job .digest (digestCycles q.alg * digestBlocks q x pre data.length + n) l
    (digestResult q (ctxKey t q.ctx) (s.oldCtx t q) x pre outer data)

theorem digestGo_of_fits
    (hfits : pre + (startCtx q (s.oldCtx t q) first).count + data.length ≤ digestMax q.alg) :
    s.digestGo t q l n pre first outer data = (s, s.digestDid t q l n pre first outer data) :=
  if_neg (Nat.not_lt.mpr hfits)

/-! ## DIGEST (R278) -/

/-- The request of a DIGEST body (Table 8-10). -/
def parseDigest (b : Bytes) : DigestReq := { ctx := fld b 0 1, alg := fld b 1 1, final := fld b 2 1 == 1 }

/-- A body of DIGEST that obeys its layout. -/
structure DigestForm (b : Bytes) : Prop where
  length : b.length = 8
  ctx : fld b 0 1 ≤ 15 ∨ fld b 0 1 = oneShot
  alg : digestCodes.contains (fld b 1 1) = true
  final : fld b 2 1 ≤ 1
  zero : zeroAt b 3 5 = true

theorem digest_eq (hform : DigestForm c.body)
    (hctx : s.ctxRefused (parseDigest c.body) (ctxKey c.tenant (fld c.body 0 1)) = none)
    (hfits : (startCtx (parseDigest c.body) (s.oldCtx c.tenant (parseDigest c.body)) (shaInitial (fld c.body 1 1))).count +
      c.input.length ≤ digestMax (fld c.body 1 1)) :
    digest c s = (s, s.digestDid c.tenant (parseDigest c.body) [] 0 0 (shaInitial (fld c.body 1 1)) id c.input) := by
  obtain ⟨hlen, hnum, halg, hfinal, hzero⟩ := hform
  unfold parseDigest at hctx hfits ⊢
  unfold digest
  dsimp only
  rw [if_neg, hctx]
  · exact digestGo_of_fits (by rwa [Nat.zero_add])
  · rintro (h | ⟨hbig, hstream⟩ | h | h | h)
    · exact h hlen
    · exact hnum.elim (Nat.not_le.mpr hbig) hstream
    · exact h halg
    · exact Nat.not_lt.mpr hfinal h
    · exact h hzero

/-! ## HMAC_GENERATE and HMAC_VERIFY (R280 to R282) -/

/-- Need of the key of an HMAC request: one unit, and the usage bit of its command. -/
def hmacReqNeed (q : DigestReq) : Need :=
  { fits := fun x => x.type == 5, use := fun _ => useBit (if q.expected.isSome then 3 else 2), units := some fun _ => 1 }

/-- The chaining state after the key's block under the pad byte `pad` of RFC 2104. -/
def hmacStart (alg : Nat) (key : Bytes) (pad : BitVec 8) : Bytes :=
  absorbBlocks alg (shaInitial alg) ((hmacBlock alg key).map (· ^^^ pad))

/-- The MAC from the inner digest. -/
def hmacFinish (alg : Nat) (key inner : Bytes) : Bytes :=
  digestEnd alg (hmacStart alg key 0x5C) inner (digestBlock alg + inner.length)

/-- The cache as an HMAC job leaves it, and whether the job pays no miss: an update of an open message needs neither start,
and with no lane powered the cache is not used. -/
def State.hmacCached (s : State) (t i : Nat) (q : DigestReq) : State × Bool :=
  if ((q.ctx != oneShot && (s.ctx (ctxKey t q.ctx)).phase == 1) && !q.ends) || !s.laneAny .digest then (s, true)
  else s.cacheUse i q.alg

/-- Cycles of an HMAC job beside its message's blocks: the miss, and the outer block of a job that finishes. -/
def hmacExtra (q : DigestReq) (keyLen : Nat) (hit : Bool) : Nat :=
  (if hit then 0 else missCycles q.alg keyLen) + if q.ends then digestCycles q.alg else 0

theorem hmacJob_eq {hit : Bool} (hctx : s.ctxRefused q (ctxKey t q.ctx) = none)
    (hkey : s.resolve (some t) q.handle (hmacReqNeed q) = (v, .ok i)) (hmaterial : v.material i = .ok m)
    (hcache : v.hmacCached t i q = (w, hit))
    (hfits : digestBlock q.alg + (startCtx q (w.oldCtx t q) (hmacStart q.alg m 0x36)).count + data.length ≤
      digestMax q.alg) :
    s.hmacJob t q data = (w, w.digestDid t q [i] (hmacExtra q m.length hit) (digestBlock q.alg) (hmacStart q.alg m 0x36)
      (hmacFinish q.alg m) data) := by
  unfold State.hmacCached at hcache
  unfold State.hmacJob
  rw [hctx]
  refine (withKey_of_resolve hkey).trans ((withMaterial_of_ok hmaterial).trans ?_)
  dsimp only
  rw [hcache]
  exact digestGo_of_fits hfits

theorem hmacGenerate_of_form (hform : hmacBodyOk c.body (parseHmac c.body false) false = true) :
    hmacGenerate c s = s.hmacJob c.tenant (parseHmac c.body false) c.input := if_pos hform
theorem hmacVerify_of_form (hform : hmacBodyOk c.body (parseHmac c.body true) true = true) :
    hmacVerify c s = s.hmacJob c.tenant (parseHmac c.body true) c.input := if_pos hform

end Jobs

/-! ## DIGEST_SAVE (R284) -/

/-- The context and the tenant's key allow a save: no job uses it, it is not finished, and it holds no partial block. -/
structure Saveable (s : State) (t k : Nat) : Prop where
  idle : s.ctxBusy k = false
  unfinished : (s.ctx k).phase ≠ 2
  whole : (s.ctx k).tail = []
  sealed : (s.keyRec t).present = true

/-- The state and the generation with which a context of handle `h` is saved: an HMAC's key resolves, a digest has none. -/
def State.SavesKey (s : State) (t h : Nat) (v : State) (g : Nat) : Prop :=
  if h = 0 then v = s ∧ g = 0 else ∃ k, s.resolve (some t) h {} = (v, .ok k) ∧ g = (v.slot k).generation

theorem digestSave_eq {g : Nat} (hbody : ctxBody c.body = true)
    (hsave : Saveable s c.tenant (ctxKey c.tenant (fld c.body 0 1)))
    (hkey : s.SavesKey c.tenant (s.ctx (ctxKey c.tenant (fld c.body 0 1))).handle v g)
    (hdrawn : v.random 12 = some (w, d)) :
    digestSave c s = (w, .done {
      out := stateBlob (w.digestKey c.tenant) d c.tenant g (s.ctx (ctxKey c.tenant (fld c.body 0 1))) }) := by
  obtain ⟨hidle, hunfinished, hwhole, hsealed⟩ := hsave
  unfold State.SavesKey at hkey
  unfold digestSave
  dsimp only
  rw [if_neg (not_not_intro hbody), if_neg (by simp [hidle]), if_neg hunfinished, if_neg (not_not_intro hwhole),
    if_neg (not_not_intro hsealed)]
  split_ifs at hkey ⊢ with hzero
  · obtain ⟨rfl, rfl⟩ := hkey
    exact withRandom_of_drawn hdrawn
  · obtain ⟨k, hresolve, rfl⟩ := hkey
    exact (withKey_of_resolve hresolve).trans (withRandom_of_drawn hdrawn)

/-! ## DIGEST_RESTORE (R285) -/

/-- The clear fields of a state blob of tenant `t` are those of Table 8-9. -/
structure BlobForm (b : Bytes) (t : Nat) : Prop where
  length : b.length = 280
  magic : sub b 0 4 = ascii "KHDS"
  version : fld b 4 2 = 1
  zero : zeroAt b 0xE 18 = true
  zero' : zeroAt b 0x2C 4 = true
  tenant : fld b 6 1 = t

/-- The plaintext of a blob's state, where its tag holds. -/
def openBlob (key b : Bytes) : Option Bytes :=
  gcmOpen key (sub b 0x20 12) (b.take 0x30) (sub b 0x30 216) (sub b 0x108 16)

/-- The state in which the key of a blob stands as it did: its handle resolves to the generation that was saved. -/
def State.RestoresKey (s : State) (t : Nat) (b : Bytes) (v : State) : Prop :=
  if fld b 8 4 = 0 then v = s
  else ∃ k, s.resolve (some t) (fld b 8 4) {} = (v, .ok k) ∧ (v.slot k).generation = fld b 0xC 2

/-- The open context of a blob whose state opens to `m`. -/
def restoredCtx (b m : Bytes) : DigestCtx :=
  { phase := 1, alg := fld b 7 1, handle := fld b 8 4, count := fld m 0 16, chain := (m.drop 16).take (chainLen (fld b 7 1)) }

theorem digestRestore_eq (hbody : ctxBody c.body = true)
    (hidle : s.ctxBusy (ctxKey c.tenant (fld c.body 0 1)) = false)
    (hclosed : (s.ctx (ctxKey c.tenant (fld c.body 0 1))).phase ≠ 1) (hform : BlobForm c.input c.tenant)
    (hsealed : (s.keyRec c.tenant).present = true) (hopens : openBlob (s.digestKey c.tenant) c.input = some m)
    (hkey : s.RestoresKey c.tenant c.input v) :
    digestRestore c s = (v, .done {
      body := natLE 16 (restoredCtx c.input m).count
      changes := [.stream (ctxKey c.tenant (fld c.body 0 1)) (restoredCtx c.input m)] }) := by
  obtain ⟨hlen, hmagic, hversion, hzero, hzero', htenant⟩ := hform
  unfold openBlob at hopens
  unfold State.RestoresKey at hkey
  unfold digestRestore
  dsimp only
  rw [if_neg (not_not_intro hbody), if_neg (by simp [hidle]), if_neg hclosed,
    if_neg (by simp [hlen, hmagic, hversion, hzero, hzero', htenant]), if_neg (not_not_intro hsealed), hopens]
  dsimp only
  split_ifs at hkey ⊢ with hnone
  · rw [hkey]
    rfl
  · obtain ⟨k, hresolve, hstands⟩ := hkey
    rw [hresolve]
    exact if_pos hstands

end Sys2Proof.Machine

end

section

open Sys2Proof Sys2Proof.Machine

/-- Settles O52: each row is an accepted command, so its opcode's meaning runs on the begun state; a body that obeys its
layout reaches its context, the key that the clause resolves and the cache give the job, and a blob is sealed or opened
under the tenant's digest key. -/
theorem digestsAndHmacsRunOnADigestLane : Obligations.DigestsAndHmacsRunOnADigestLane := by
  unfold Obligations.DigestsAndHmacsRunOnADigestLane
  refine ⟨?digest, ?generate, ?verify, ?save, ?restore⟩
  case digest =>
    intro s t ref r b i u q j old x hacc hlen hnum halg hfinal hzero hctx hfits
    rw [exec_digest t s hacc.named]
    exact runCommand_accepted hacc _ _ _ (digest_eq (c := s.cmd t r b i) ⟨hlen, hnum, halg, hfinal, hzero⟩ hctx hfits)
  case generate =>
    intro s t ref r b i v w k m hit u q j p old x f hacc hform hctx hkey hmaterial hcache hfits
    have hjob := hmacJob_eq (q := q) hctx hkey hmaterial hcache hfits
    rw [exec_hmacGenerate t s hacc.named]
    exact runCommand_accepted hacc _ _ _ ((hmacGenerate_of_form (c := s.cmd t r b i) hform).trans hjob)
  case verify =>
    intro s t ref r b i v w k m hit u q j p old x f hacc hform hctx hkey hmaterial hcache hfits
    have hjob := hmacJob_eq (q := q) hctx hkey hmaterial hcache hfits
    rw [exec_hmacVerify t s hacc.named]
    exact runCommand_accepted hacc _ _ _ ((hmacVerify_of_form (c := s.cmd t r b i) hform).trans hjob)
  case save =>
    intro s t ref r b i v w g d u j x hacc hbody hidle hunfinished hwhole hsealed hkey hdrawn
    rw [exec_digestSave t s hacc.named]
    exact runCommand_accepted hacc _ _ _ (digestSave_eq (c := s.cmd t r b i) hbody ⟨hidle, hunfinished, hwhole, hsealed⟩
      hkey hdrawn)
  case restore =>
    intro s t ref r b i v m u j hacc hbody hidle hclosed hlen hmagic hversion hzero hzero' htenant hsealed hopens hkey
    rw [exec_digestRestore t s hacc.named]
    exact runCommand_accepted hacc _ _ _ (digestRestore_eq (c := s.cmd t r b i) hbody hidle hclosed
      ⟨hlen, hmagic, hversion, hzero, hzero', htenant⟩ hsealed hopens hkey)

end

/-! # Scope: PK_SIGN and PK_VERIFY on a big-number lane (R291 to R293, R298 to R300, R307, R312, R313, Tables 9-5 and 9-8;
inline keys also by log entry 53, octet order and drawn scalars by entries 34 and 35) -/

section

namespace Sys2Proof.Machine

/-! ## The rows, on a record that names a queue pair that exists -/

section Rows

variable (t : Tick) {ref : RecRef} (s : State) (h : ref.ok = true)
include h

theorem exec_pkSign : exec (.pkSign t ref) s = s.act t fun u => u.runCommand 0x0501 pkSign ref := if_pos h
theorem exec_pkVerify : exec (.pkVerify t ref) s = s.act t fun u => u.runCommand 0x0502 pkVerify ref := if_pos h

end Rows

variable {s v w : State} {c : Cmd} {q : SignReq} {i : Nat} {m d : Bytes}

/-! ## PK_SIGN with its key (R298, R299, R307) -/

section Sign

/-- Need of the key of PK_SIGN: a type of the scheme's secret keys, usage bit 4, one unit. -/
def pkSignNeed (scheme : Nat) : Need :=
  { fits := privFits scheme, use := fun _ => useBit 4, units := some fun _ => 1 }

/-- A PK_SIGN body that obeys its layout, with input of the digest's length where it is prehashed. -/
structure SignForm (c : Cmd) : Prop where
  length : c.body.length = 8
  fields : (parseSign c.body).ok (fld c.body 7 1) = true
  digest : (parseSign c.body).prehashed = true → c.input.length = digestOut (parseSign c.body).hash

theorem pkSign_of_key (hform : SignForm c)
    (hkey : s.resolve (some c.tenant) (parseSign c.body).handle (pkSignNeed (parseSign c.body).scheme) = (v, .ok i))
    (hmaterial : v.material i = .ok m) : pkSign c s = v.signWith c (parseSign c.body) i m := by
  obtain ⟨hlen, hfields, hdigest⟩ := hform
  unfold pkSign
  dsimp only
  rw [if_neg]
  · exact (withKey_of_resolve hkey).trans (withMaterial_of_ok hmaterial)
  · rintro (h | h | ⟨hprehashed, h⟩)
    · exact h hlen
    · exact h hfields
    · exact h (hdigest hprehashed)

/-- The buffers hold the signature, and a digest lane is powered where the job hashes (R153, R293). -/
structure SignReady (s : State) (c : Cmd) (sigLen : Nat) (hashes : Bool) : Prop where
  space : spaceFail c 8 sigLen = none
  lane : hashes = true → s.laneAny .digest = true

theorem privJob_of_ready {n cycles : Nat} {hashes : Bool} {res : Result} (hready : SignReady s c n hashes) :
    s.privJob c i 8 n cycles hashes res = (s, .job .bigNumber cycles [i] res) := by
  obtain ⟨hspace, hlane⟩ := hready
  unfold State.privJob
  rw [hspace]
  exact if_neg fun ⟨hhashes, hnone⟩ => hnone (hlane hhashes)

/-- The encoded message of an RSA scheme: EMSA-PKCS1-v1_5, or EMSA-PSS with the drawn salt. -/
def SignReq.encoded (q : SignReq) (bits : Nat) (msg salt : Bytes) : Bytes :=
  if q.scheme = 1 then pkcs1Encode q.hash (bits / 8) (q.digest msg) else pssEncode q.hash bits (q.digest msg) salt

/-- The state and salt with which an RSA signature goes on: only PSS with a salt draws one. -/
def State.Salted (s : State) (q : SignReq) (w : State) (d : Bytes) : Prop :=
  (if q.scheme = 2 ∧ q.salt ≠ 0 then s.random q.salt else some (s, [])) = some (w, d)

/-- The answer of an RSA signature: the CRT exponentiation of the encoded message, and the squared blinding pair. -/
def State.rsaSigned (s : State) (q : SignReq) (i : Nat) (m msg salt : Bytes) : Result :=
  { signResult (natBE ((rsaPub m).bits / 8) (rsaPrivate m (beNat (q.encoded (rsaPub m).bits msg salt)))) true with
    changes := s.squarePair i (rsaPub m).n }

theorem signWith_of_rsa (hscheme : q.scheme ≤ 2) (hok : (rsaPub m).ok = true) (hsalt : s.Salted q w d)
    (hready : SignReady w c ((rsaPub m).bits / 8) q.hashes) :
    s.signWith c q i m = (w, .job .bigNumber (rsaPrivCycles (lenClass (s.slot i).keyBits)) [i]
      (w.rsaSigned q i m c.input d)) := by
  unfold State.Salted at hsalt
  unfold State.signWith
  dsimp only
  rw [if_pos hscheme, if_neg (not_not_intro hok)]
  by_cases hdraws : q.scheme = 2 ∧ q.salt ≠ 0
  · rw [if_pos hdraws] at hsalt ⊢
    exact (withRandom_of_drawn hsalt).trans (privJob_of_ready hready)
  · rw [if_neg hdraws] at hsalt ⊢
    obtain ⟨rfl, rfl⟩ := Prod.mk.inj (Option.some.inj hsalt)
    exact privJob_of_ready hready

/-- The ECDSA signature by a secret key's plaintext, with the scalar that the drawn bytes give. -/
def ecdsaPair (e : Curve) (q : SignReq) (cls : Nat) (m msg d : Bytes) : Nat × Nat :=
  e.sign (fld m 8 (8 * cls)) (q.digest msg) (e.scalar d)

/-- The answer of an ECDSA signature: r and s of the order's length, or zeros where one of them is zero. -/
def ecdsaSigned (e : Curve) (y : Nat × Nat) : Result :=
  signResult (natBE (ceilDiv (bitLen e.n) 8) y.1 ++ natBE (ceilDiv (bitLen e.n) 8) y.2) (y.1 != 0 && y.2 != 0)

theorem signWith_of_ecdsa {e : Curve} (hscheme : q.scheme = 3)
    (hcurve : s.keyCurve c.tenant m (8 + 3 * (8 * lenClass (s.slot i).keyBits)) = some e)
    (hdrawn : s.random (8 * lenClass (s.slot i).keyBits + 8) = some (w, d))
    (hready : SignReady w c (2 * ceilDiv (bitLen e.n) 8) q.hashes) :
    s.signWith c q i m = (w, .job .bigNumber (curveCycles 1600 (lenClass (s.slot i).keyBits)) [i]
      (ecdsaSigned e (ecdsaPair e q (lenClass (s.slot i).keyBits) m c.input d))) := by
  unfold State.signWith
  dsimp only
  rw [if_neg (by omega), if_pos hscheme, hcurve]
  exact (withRandom_of_drawn hdrawn).trans (privJob_of_ready hready)

theorem signWith_of_ed25519 (hscheme : q.scheme = 4) (hlen : c.input.length ≤ 32768) (hready : SignReady s c 64 true) :
    s.signWith c q i m =
      (s, .job .bigNumber (curveCycles 1280 4) [i] (signResult (edSign (sub m 8 32) c.input) true)) := by
  unfold State.signWith
  dsimp only
  rw [if_neg (by omega), if_neg (by omega), if_neg (Nat.not_lt.mpr hlen)]
  exact privJob_of_ready hready

end Sign

/-! ## A public key by handle or inline (R313) -/

section Public

variable {h n scheme bit : Nat} {k : Bytes} {inl : Bool}

/-- Need of a public key that a handle names: a public type of the scheme, its usage bit, one unit. -/
def pubNeed (scheme bit : Nat) : Need := { fits := pubFits scheme, use := fun _ => useBit bit, units := some fun _ => 1 }

/-- A command goes on in state `v` with public key `k`: handle 0 takes the first `n` bytes of the input, which `inl` tells;
another handle names a key, and `n` is 0. -/
def State.PublicKey (s : State) (c : Cmd) (h n scheme bit : Nat) (v : State) (k : Bytes) (inl : Bool) : Prop :=
  if h = 0 then
    n ≤ c.input.length ∧ inlineOk scheme s c.tenant (c.input.take n) = true ∧ v = s ∧ k = c.input.take n ∧ inl = true
  else
    n = 0 ∧ inl = false ∧ ∃ j, s.resolve (some c.tenant) h (pubNeed scheme bit) = (v, .ok j) ∧ v.material j = .ok k

theorem withPublic_of_publicKey {go : State → Bool → Bytes → State × Did}
    (hkey : s.PublicKey c h n scheme bit v k inl) : s.withPublic c h n scheme bit go = go v inl k := by
  unfold State.PublicKey at hkey
  unfold State.withPublic
  by_cases hzero : h = 0
  · rw [if_pos hzero] at hkey ⊢
    obtain ⟨hheld, hform, rfl, rfl, rfl⟩ := hkey
    exact if_pos ⟨hheld, hform⟩
  · rw [if_neg hzero] at hkey ⊢
    obtain ⟨hnone, rfl, j, hresolve, hmaterial⟩ := hkey
    rw [if_neg (not_not_intro hnone)]
    exact (withKey_of_resolve hresolve).trans (withMaterial_of_ok hmaterial)

end Public

/-! ## PK_VERIFY with its key (R291, R292, R300, Table 9-5) -/

section Verify

variable {k : Bytes} {inl : Bool} {e : Option Curve} {want cycles : Nat}

/-- The input after an inline key: the signature and the message. -/
def afterKey (inl : Bool) (k data : Bytes) : Bytes := if inl then data.drop k.length else data

/-- What a public key gives the check of a scheme's signature: the curve, the signature's length and the cycles. -/
inductive State.Checks (s : State) (t : Nat) (q : SignReq) (k : Bytes) : Option Curve → Nat → Nat → Prop
  | rsa (hscheme : q.scheme ≤ 2) (hok : (rsaPub k).ok = true) :
    Checks s t q k none ((rsaPub k).bits / 8) (rsaPubCycles (lenClass (rsaPub k).bits))
  | ecdsa {e : Curve} (hscheme : q.scheme = 3) (hcurve : s.keyCurve t k (k.length - 32) = some e) :
    Checks s t q k (some e) (2 * ceilDiv (bitLen e.n) 8) (curveCycles 768 (lenClass (bitLen e.p)))
  | ed25519 (hscheme : q.scheme = 4) : Checks s t q k none 64 (curveCycles 640 4)

/-- The signature has the scheme's length and stands in the input, a prehashed message is a digest, and a digest lane is
powered where the job hashes (R293). -/
structure VerifyReady (s : State) (q : SignReq) (rest : Bytes) (sigLen want : Nat) : Prop where
  length : sigLen = want
  held : sigLen ≤ rest.length
  digest : q.prehashed = true → (rest.drop sigLen).length = digestOut q.hash
  lane : q.hashes = true → s.laneAny .digest = true

theorem verifyWith_eq (hcheck : s.Checks c.tenant q k e want cycles)
    (hready : VerifyReady s q (afterKey inl k c.input) (fld c.body 8 4) want) :
    s.verifyWith c q inl k = (s, .job .bigNumber cycles [] (fail (verifyStatus q e inl k
      ((afterKey inl k c.input).take (fld c.body 8 4)) ((afterKey inl k c.input).drop (fld c.body 8 4))))) := by
  obtain ⟨hlength, hheld, hdigest, hlane⟩ := hready
  have hsig : ¬(fld c.body 8 4 ≠ want ∨ (afterKey inl k c.input).length < fld c.body 8 4) :=
    not_or.mpr ⟨not_not_intro hlength, Nat.not_lt.mpr hheld⟩
  have hmsg : ¬(q.prehashed = true ∧ ((afterKey inl k c.input).drop (fld c.body 8 4)).length ≠ digestOut q.hash) :=
    fun ⟨hprehashed, h⟩ => h (hdigest hprehashed)
  have hpowered : ¬(q.hashes = true ∧ ¬s.laneAny .digest = true) := fun ⟨hhashes, h⟩ => h (hlane hhashes)
  unfold afterKey at hsig hmsg ⊢
  unfold State.verifyWith
  dsimp only
  cases hcheck with
  | rsa hscheme hok =>
    rw [if_pos hscheme, if_neg (not_not_intro hok), if_neg hsig, if_neg hmsg, if_neg hpowered]
  | ecdsa hscheme hcurve =>
    rw [if_neg (by omega), if_pos hscheme, hcurve]
    dsimp only
    rw [if_neg hsig, if_neg hmsg, if_neg hpowered]
  | ed25519 hscheme =>
    rw [if_neg (by omega), if_neg (by omega), if_neg hsig, if_neg hmsg, if_neg hpowered]

/-- A PK_VERIFY body that obeys its layout. -/
structure VerifyForm (b : Bytes) : Prop where
  length : b.length = 16
  fields : (parseSign b).ok (fld b 7 1) = true

theorem pkVerify_of_key (hform : VerifyForm c.body)
    (hkey : s.PublicKey c (fld c.body 0 4) (fld c.body 0xC 4) (parseSign c.body).scheme 5 v k inl) :
    pkVerify c s = v.verifyWith c (parseSign c.body) inl k := by
  obtain ⟨hlen, hfields⟩ := hform
  unfold pkVerify
  dsimp only
  rw [if_neg (not_or.mpr ⟨not_not_intro hlen, not_not_intro hfields⟩)]
  exact withPublic_of_publicKey hkey

end Verify

end Sys2Proof.Machine

end

section

open Sys2Proof Sys2Proof.Machine

/-- Settles O53: each row is an accepted command, so its opcode's meaning runs on the begun state; a body that obeys its
layout reaches its key, by handle or inline, and the key's scheme gives the job and its result. -/
theorem signaturesAreMadeAndCheckedOnABigNumberLane : Obligations.SignaturesAreMadeAndCheckedOnABigNumberLane := by
  unfold Obligations.SignaturesAreMadeAndCheckedOnABigNumberLane
  refine ⟨?signRsa, ?signEcdsa, ?signEd25519, ?verifyRsa, ?verifyEcdsa, ?verifyEd25519⟩
  case signRsa =>
    intro s t ref r b i v w k m d c u q em hacc hlen hfields hdigest hkey hmaterial hscheme hok hsalt hspace hlane
    rw [exec_pkSign t s hacc.named]
    exact runCommand_accepted hacc _ _ _ ((pkSign_of_key (c := c) ⟨hlen, hfields, hdigest⟩ hkey hmaterial).trans
      (signWith_of_rsa hscheme hok hsalt ⟨hspace, hlane⟩))
  case signEcdsa =>
    intro s t ref r b i v w k m d e c u q n y hacc hlen hfields hdigest hkey hmaterial hscheme hcurve hdrawn hspace hlane
    rw [exec_pkSign t s hacc.named]
    exact runCommand_accepted hacc _ _ _ ((pkSign_of_key (c := c) ⟨hlen, hfields, hdigest⟩ hkey hmaterial).trans
      (signWith_of_ecdsa hscheme hcurve hdrawn ⟨hspace, hlane⟩))
  case signEd25519 =>
    intro s t ref r b i v k m c u q hacc hlen hfields hdigest hkey hmaterial hscheme hshort hspace hlane
    rw [exec_pkSign t s hacc.named]
    exact runCommand_accepted hacc _ _ _ ((pkSign_of_key (c := c) ⟨hlen, hfields, hdigest⟩ hkey hmaterial).trans
      (signWith_of_ed25519 hscheme hshort ⟨hspace, fun _ => hlane⟩))
  case verifyRsa =>
    intro s t ref r b i v k inl u q rest sig msg hacc hlen hfields hkey hscheme hok hsig hheld hdigest hlane
    rw [exec_pkVerify t s hacc.named]
    exact runCommand_accepted hacc _ _ _ ((pkVerify_of_key (c := s.cmd t r b i) ⟨hlen, hfields⟩ hkey).trans
      (verifyWith_eq (.rsa hscheme hok) ⟨hsig, hheld, hdigest, hlane⟩))
  case verifyEcdsa =>
    intro s t ref r b i v k inl e u q rest sig msg hacc hlen hfields hkey hscheme hcurve hsig hheld hdigest hlane
    rw [exec_pkVerify t s hacc.named]
    exact runCommand_accepted hacc _ _ _ ((pkVerify_of_key (c := s.cmd t r b i) ⟨hlen, hfields⟩ hkey).trans
      (verifyWith_eq (.ecdsa hscheme hcurve) ⟨hsig, hheld, hdigest, hlane⟩))
  case verifyEd25519 =>
    intro s t ref r b i v k inl u q rest sig msg hacc hlen hfields hkey hscheme hsig hheld hdigest hlane
    rw [exec_pkVerify t s hacc.named]
    exact runCommand_accepted hacc _ _ _ ((pkVerify_of_key (c := s.cmd t r b i) ⟨hlen, hfields⟩ hkey).trans
      (verifyWith_eq (.ed25519 hscheme) ⟨hsig, hheld, hdigest, hlane⟩))

end

/-! # Scope: GET_RANDOM, RANDOM, and the entropy sources, the DRBG's seeding and its buffers (R317 to R333) -/

section

namespace Sys2Proof.Machine

/-! ## The command rows, on a record that names a queue pair that exists -/

section CommandRows

variable (t : Tick) {ref : RecRef} (s : State) (h : ref.ok = true)
include h

theorem exec_getRandom : exec (.getRandom t ref) s = s.act t fun u => u.runCommand 0x0601 getRandom ref := if_pos h
theorem exec_random : exec (.random t ref) s = s.act t fun u => u.runCommand 0x10050 kh1Random ref := if_pos h

end CommandRows

/-! ## The rows of a noise source that the block has -/

section SourceRows

variable (t : Tick) (s : State) {n : Nat} (h : n ≤ 25)
include h

theorem exec_startUpTestDone (rct apt : Bool) :
    exec (.startUpTestDone t n rct apt) s = .next { (s.at t).startUpDone n rct apt with pending := s.pending } := if_pos h
theorem exec_repetitionCountTestFail :
    exec (.repetitionCountTestFail t n) s = .next { (s.at t).testFail n false with pending := s.pending } := if_pos h
theorem exec_adaptiveProportionTestFail :
    exec (.adaptiveProportionTestFail t n) s = .next { (s.at t).testFail n true with pending := s.pending } := if_pos h
theorem exec_quarantineWindowClose :
    exec (.quarantineWindowClose t n) s = .next { (s.at t).rewake n with pending := s.pending } := if_pos h

end SourceRows

/-! ## The rows of the conditioner, the lanes' buffers and the warden FIFO -/

section DrbgRows

variable (t : Tick) (s : State)

theorem exec_conditionerBlockClose :
    exec (.conditionerBlockClose t) s = .next { (s.at t).blockClose with pending := s.pending } := rfl
theorem exec_bufferRefill {k : LaneKind} {l : Nat} (h : k = .cipher ∧ l ≤ 15 ∨ k = .bigNumber ∧ l ≤ 31) :
    exec (.bufferRefill t k l) s = .next { (s.at t).refill k l with pending := s.pending } := if_pos h
theorem exec_wardenFifoRefill :
    exec (.wardenFifoRefill t) s = .next { (s.at t).refillFifo with pending := s.pending } := rfl

end DrbgRows

variable {s w : State} {c : Cmd} {d : Bytes} {n l : Nat}

/-! ## The random commands (R332, R333) -/

/-- A length and flags in their ranges (R332). -/
structure RandomForm (b : Bytes) : Prop where
  length : b.length = 8
  pos : 0 < fld b 0 4
  le : fld b 0 4 ≤ 4096
  flags : fld b 4 4 ≤ 1

theorem getRandom_of_drawn (hform : RandomForm c.body)
    (hdrawn : s.random (fld c.body 0 4) (fld c.body 4 4 == 1) = some (w, d)) :
    getRandom c s = (w, .done { out := d }) := by
  obtain ⟨hlen, hpos, hle, hflags⟩ := hform
  have hobeyed : ¬ (c.body.length ≠ 8 ∨ fld c.body 0 4 = 0 ∨ 4096 < fld c.body 0 4 ∨ 1 < fld c.body 4 4) := by omega
  unfold getRandom
  rw [if_neg hobeyed, hdrawn]

theorem kh1Random_of_drawn (hpos : 0 < beNat (sub c.body 0x0E 2)) (hle : beNat (sub c.body 0x0E 2) ≤ 176)
    (hdrawn : s.random (beNat (sub c.body 0x0E 2)) = some (w, d)) : kh1Random c s = (w, .done { out := d }) := by
  unfold kh1Random
  rw [if_neg (Nat.ne_of_gt hpos), if_neg (Nat.not_lt.mpr hle), withRandom_of_drawn hdrawn]

/-! ## A start-up test that both parts pass (R319, R324) -/

/-- The source is healthy and its start-up test over. -/
def State.sourcePassed (s : State) (n : Nat) : State :=
  { s with rng := { s.rng with healthy := s.rng.healthy ||| srcBit n, startup := s.rng.startup &&& ~~~ srcBit n } }

section Passed

variable (hon : s.unitOn 19 0 = true) (hstartup : s.rng.startup.getLsbD n = true)
include hon hstartup

theorem startUpDone_of_passed : s.startUpDone n false false = (s.sourcePassed n).drbgRecover := by
  simp [State.startUpDone, State.sourcePassed, hon, hstartup]

/-- Where the DRBG is not failed, failed a test of R322 or still misses a kind, its state stays. -/
theorem startUpDone_of_passed_not_restored
    (hstays : (s.sourcePassed n).rng.st = .failed →
      (s.sourcePassed n).rng.katFailed = true ∨ (s.sourcePassed n).rng.kindsOk = false) :
    s.startUpDone n false false = s.sourcePassed n := by
  rw [startUpDone_of_passed hon hstartup]
  refine if_neg fun ⟨hfailed, hkat, hkinds⟩ => ?_
  rcases hstays hfailed with hkat' | hmissing
  · exact hkat hkat'
  · exact absurd hkinds (Bool.eq_false_iff.mp hmissing)

theorem startUpDone_of_passed_restored (hfailed : (s.sourcePassed n).rng.st = .failed)
    (hkat : (s.sourcePassed n).rng.katFailed = false) (hkinds : (s.sourcePassed n).rng.kindsOk = true) :
    s.startUpDone n false false = { s.sourcePassed n with rng := { (s.sourcePassed n).rng with
      st := .starting, blocks := 0, need := max 2 (s.sourcePassed n).rng.need } } := by
  rw [startUpDone_of_passed hon hstartup]
  exact if_pos ⟨hfailed, Bool.eq_false_iff.mp hkat, hkinds⟩

end Passed

/-! ## Quarantine and its end (R320, R321, R324) -/

theorem testFail_of_healthy (apt : Bool) (hon : s.unitOn 19 0 = true) (hhealthy : s.rng.healthy.getLsbD n = true) :
    s.testFail n apt = s.quarantine n apt true := if_pos ⟨hon, hhealthy⟩

@[simp] theorem drbgFail_rng (s : State) : s.drbgFail.rng = { s.rng with st := .failed } := by simp [State.drbgFail]

theorem ite_drbgFail_rng (b : Bool) (s : State) : ∃ st, (if b then s.drbgFail else s).rng = { s.rng with st := st } := by
  cases b
  case false => exact ⟨s.rng.st, rfl⟩
  case true => exact ⟨.failed, drbgFail_rng s⟩

/-- What a quarantine changes in the entropy block, whatever becomes of the DRBG's state. -/
theorem quarantine_rng (s : State) (n : Nat) (apt count : Bool) :
    ∃ st, (s.quarantine n apt count).rng = { s.rng with
      st := st
      healthy := s.rng.healthy &&& ~~~ srcBit n
      startup := s.rng.startup &&& ~~~ srcBit n
      quarantined := mapSet s.rng.quarantined n s.tick
      times := if count then mapInc s.rng.times n 3 else s.rng.times
      rct := if apt then s.rng.rct else sat32 s.rng.rct
      apt := if apt then sat32 s.rng.apt else s.rng.apt } := by
  refine (ite_drbgFail_rng _ _).imp fun st h => Eq.trans h ?_
  rw [logEvent_rng]

theorem rewake_of_due {q : Nat} (hquarantined : mapFind s.rng.quarantined n = some q) (hdue : q + 1000000 ≤ s.tick)
    (htimes : mapGet 0 s.rng.times n < 3) (hon : s.unitOn 19 0 = true) :
    s.rewake n = { s with rng := { s.rng with
      startup := s.rng.startup ||| srcBit n, quarantined := mapDel s.rng.quarantined n } } := by
  simp only [State.rewake, hquarantined]
  exact if_pos ⟨hdue, htimes, hon⟩

/-! ## Conditioned blocks and the seeding (R317, R326, R334) -/

/-- A draw changes the count of draws, or the replayed capture that it is taken from, and what capturing it changes. -/
theorem draw_eq (s : State) (n : Nat) :
    ∃ p l i v o k, (s.draw n).1 = { s with
      rpl := p, log := l, irq := i, host := { s.host with vectors := v }, sent := o, draws := k } := by
  unfold State.draw
  dsimp only
  split
  · exact ⟨_, _, _, _, _, _, rfl⟩
  · split
    · split
      · exact ⟨_, _, _, _, _, _, rfl⟩
      · exact ⟨_, _, _, _, _, _, rfl⟩
    · obtain ⟨p, l, i, v, o, hcapture⟩ := capture_eq { s with draws := s.draws + n }
        (.draw _ ((List.range n).map fun i => Config.drawByte (s.draws + i)))
      exact ⟨p, l, i, v, o, _, hcapture⟩

/-- A recorded entropy input changes what its draw and its capture change. -/
theorem recordEntropy_eq (s : State) (n : Nat) :
    ∃ p l i v o k, s.recordEntropy n = { s with
      rpl := p, log := l, irq := i, host := { s.host with vectors := v }, sent := o, draws := k } := by
  obtain ⟨p, l, i, v, o, k, hdraw⟩ := draw_eq { s with rpl := { s.rpl with index := none } } n
  unfold State.recordEntropy
  dsimp only
  rw [hdraw]
  obtain ⟨p', l', i', v', o', hcapture⟩ := capture_eq { s with
    rpl := p, log := l, irq := i, host := { s.host with vectors := v }, sent := o, draws := k }
    (.entropy (State.draw { s with rpl := { s.rpl with index := none } } n).2)
  rw [hcapture]
  exact ⟨_, _, _, _, _, _, rfl⟩

/-- The entropy block once it is seeded. -/
def Rng.seeded (r : Rng) : Rng :=
  { r with st := .healthy, reseeds := sat32 r.reseeds, since := 0, reseedDue := false, blocks := 0, need := 2
           cipherBuf := 0xFFFF, bigBuf := 0xFFFFFFFF }

/-- Seeding sets the entropy block, and records its entropy input. -/
theorem seeded_eq (s : State) :
    ∃ p l i v o k, s.seeded = { s with
      rng := s.rng.seeded
      rpl := p, log := l, irq := i, host := { s.host with vectors := v }, sent := o, draws := k } := by
  obtain ⟨p, l, i, v, o, k, hrecord⟩ := recordEntropy_eq s (if s.rng.need = 3 then 48 else 32)
  unfold State.seeded
  rw [hrecord]
  exact ⟨p, l, i, v, o, k, rfl⟩

section BlockClose

variable (hon : s.unitOn 19 0 = true) (hstarting : s.rng.st = .starting) (hkinds : s.rng.kindsOk = true)
include hon hstarting hkinds

theorem blockClose_of_more (hmore : s.rng.blocks + 1 < s.rng.need) :
    s.blockClose = { s with rng := { s.rng with blocks := s.rng.blocks + 1 } } :=
  (if_pos ⟨hon, hstarting, hkinds⟩).trans (if_neg (Nat.not_le.mpr hmore))

theorem blockClose_of_last (hlast : s.rng.need ≤ s.rng.blocks + 1) : s.blockClose = s.seeded.raise .system 3 :=
  (if_pos ⟨hon, hstarting, hkinds⟩).trans (if_pos hlast)

end BlockClose

/-! ## Refills (R329, R331) -/

section Refill

variable (hhealthy : s.rng.st = .healthy) (hon : s.unitOn 19 0 = true)
include hhealthy hon

theorem refill_cipher_of_healthy :
    s.refill .cipher l = { s with rng := { s.rng with
      cipherBuf := s.rng.cipherBuf ||| BitVec.ofNat 16 (2 ^ l)
      requests := sat32 s.rng.requests, since := s.rng.since + 1 } } :=
  if_pos ⟨hhealthy, hon⟩

theorem refill_bigNumber_of_healthy :
    s.refill .bigNumber l = { s with rng := { s.rng with
      bigBuf := s.rng.bigBuf ||| BitVec.ofNat 32 (2 ^ l)
      requests := sat32 s.rng.requests, since := s.rng.since + 1 } } :=
  if_pos ⟨hhealthy, hon⟩

end Refill

theorem refillFifo_of_drawn (hlow : s.rng.fifo.length < 32)
    (hdrawn : s.random (4 * (64 - s.rng.fifo.length)) = some (w, d)) :
    s.refillFifo = { w with rng := { w.rng with
      fifo := w.rng.fifo ++ (chunks 4 d).map fun x => BitVec.ofNat 32 (leNat x) } } := by
  simp only [State.refillFifo, if_pos hlow, hdrawn]

end Sys2Proof.Machine

end

section

open Sys2Proof Sys2Proof.Machine

/-- Settles O51: each row is an accepted command, so its opcode's meaning runs on the begun state; a length in its range
reaches the draw, and the drawn bytes are the output. -/
theorem randomBytesAreDrawnWhileTheDrbgIsHealthy : Obligations.RandomBytesAreDrawnWhileTheDrbgIsHealthy := by
  unfold Obligations.RandomBytesAreDrawnWhileTheDrbgIsHealthy
  refine ⟨?getRandom, ?kh1Random⟩
  case getRandom =>
    intro s t ref r b i w d u hacc hlen hpos hle hflags hdrawn
    rw [exec_getRandom t s hacc.named]
    exact runCommand_accepted hacc _ _ _ (getRandom_of_drawn (c := s.cmd t r b i) ⟨hlen, hpos, hle, hflags⟩ hdrawn)
  case kh1Random =>
    intro s t ref r b i w d u hacc hpos hle hdrawn
    rw [exec_random t s hacc.named]
    exact runCommand_accepted hacc _ _ _ (kh1Random_of_drawn (c := s.cmd t r b i) hpos hle hdrawn)

/-- Settles O30: each row runs its operation; the source's health, the DRBG's state, the blocks that it still needs and the
tick choose its case. -/
theorem theEntropySourcesAreTestedAndSeedTheDrbg : Obligations.TheEntropySourcesAreTestedAndSeedTheDrbg := by
  unfold Obligations.TheEntropySourcesAreTestedAndSeedTheDrbg
  refine ⟨?passed, ?restored, ?testFails, ?blockCounted, ?seeds, ?quarantineEnds, ?cipherBuffer, ?bigNumberBuffer, ?fifo⟩
  case passed =>
    intro s t n u v hn hon hstartup hstays
    rw [exec_startUpTestDone t s hn, startUpDone_of_passed_not_restored hon hstartup hstays]
    rfl
  case restored =>
    intro s t n u v hn hon hstartup hfailed hkat hkinds
    rw [exec_startUpTestDone t s hn, startUpDone_of_passed_restored hon hstartup hfailed hkat hkinds]
    rfl
  case testFails =>
    intro s t n u hn hon hhealthy
    constructor
    · obtain ⟨st, hrng⟩ := quarantine_rng u n false true
      rw [exec_repetitionCountTestFail t s hn, testFail_of_healthy false hon hhealthy]
      refine ⟨_, rfl, ?_⟩
      dsimp only
      rw [hrng]
      exact ⟨rfl, rfl, rfl, rfl, rfl, rfl⟩
    · obtain ⟨st, hrng⟩ := quarantine_rng u n true true
      rw [exec_adaptiveProportionTestFail t s hn, testFail_of_healthy true hon hhealthy]
      refine ⟨_, rfl, ?_⟩
      dsimp only
      rw [hrng]
      exact ⟨rfl, rfl, rfl, rfl, rfl, rfl⟩
  case blockCounted =>
    intro s t u hon hstarting hkinds hmore
    rw [exec_conditionerBlockClose, blockClose_of_more hon hstarting hkinds hmore]
  case seeds =>
    intro s t u hon hstarting hkinds hlast
    obtain ⟨p, l, i, v, o, k, hseeded⟩ := seeded_eq u
    rw [exec_conditionerBlockClose, blockClose_of_last hon hstarting hkinds hlast]
    refine ⟨_, rfl, ?_⟩
    simp only [raise_rng, raise_mode, raise_cel, raise_mem]
    rw [hseeded]
    exact ⟨rfl, rfl, rfl, rfl, rfl, rfl, rfl, rfl, rfl⟩
  case quarantineEnds =>
    intro s t n q u hn hquarantined hdue htimes hon
    rw [exec_quarantineWindowClose t s hn, rewake_of_due hquarantined hdue htimes hon]
  case cipherBuffer =>
    intro s t l u hl hhealthy hon
    rw [exec_bufferRefill t s (.inl ⟨rfl, hl⟩), refill_cipher_of_healthy hhealthy hon]
  case bigNumberBuffer =>
    intro s t l u hl hhealthy hon
    rw [exec_bufferRefill t s (.inr ⟨rfl, hl⟩), refill_bigNumber_of_healthy hhealthy hon]
  case fifo =>
    intro s t v b u hlow hdrawn
    rw [exec_wardenFifoRefill, refillFifo_of_drawn hlow hdrawn]

end

/-! # Scope: one step of the queue: a command acts where it names units that exist, and stops nowhere else (log entries
2 and 31) -/

section

namespace Sys2Proof.Machine

/-- Where the units that it names exist a command answers a next state, with the queue that it found; otherwise it stops
with noSuchUnit. -/
def ActsWhereNamed (i : Instr) : Prop :=
  ∃ next : State → State, ∀ s : State,
    (next s).pending = s.pending ∧ exec i s = if i.wf = true then .next (next s) else .fault .noSuchUnit

theorem actsWhereNamed_of_next {i : Instr} {next : State → State} (hnext : ∀ s, exec i s = .next (next s))
    (hqueue : ∀ s, (next s).pending = s.pending) (hwf : i.wf = true) : ActsWhereNamed i :=
  ⟨next, fun s => ⟨hqueue s, (hnext s).trans (if_pos hwf).symm⟩⟩

theorem actsWhereNamed_of_check {i : Instr} {next : State → State} {p : Prop} [Decidable p]
    (hcheck : ∀ s, exec i s = if p then .next (next s) else .fault .noSuchUnit)
    (hqueue : ∀ s, (next s).pending = s.pending) (hwf : p ↔ i.wf = true) : ActsWhereNamed i :=
  ⟨next, fun s => ⟨hqueue s, (hcheck s).trans (if_congr hwf rfl rfl)⟩⟩

/-- Every command's arm of `exec` either acts at once or makes exactly the command's check first. -/
theorem actsWhereNamed (i : Instr) : ActsWhereNamed i := by
  cases i
  case hostInterfaceReset | rngFifoDataRead | powerRequestDecision | powerRequestEnd | leafCauseClear | resawWindow
    | potEntryWrite | potEntryEffect | rplBreakWrite | i3cPrivateWrite | i3cPrivateRead | setdasa | rstdaa | getbcr
    | getdcr | getstatus | enec | disec | idcode | samplePreload | extest | clamp | highz | bypass | lcsAdvance
    | debugAccess | tapReset | powerOnReset | sysResetNAssert | sysResetNDeassert | mainPowerLoss | vbatLossInDormant
    | otpDecode | tallyCatchUp | entropyStartUp | manifestHeaderRead | flashIdentificationTimeout
    | settingsSectionRead | firmwareSectionsRead | sdramTrainingDone | barrierStart | barrierTimeout | lcsBitWrite
    | tallyIncrement | tamperDebounceExpiry | dozeSample | severDrainDone | clearsDone | transitInsertion
    | transitRemoval | sdPowerUpTimer | sdCommandResponse | sdResponseTimeout | sdReadBlock | sdReadTimeout
    | sdCrcStatusToken | sdBusyEnd | sdBusyTimeout | acmd41Retry | acmd41Timeout | voltageSwitchWait | datHighTimeout
    | sdPowerCycleWait | sdTuningBlock | routeProbe | routeEcho | mirrorPosting | mirrorAck | cellarSync
    | cellarSyncAck | counterAdvance | resyncBulk | resyncAck | twinState | decisionRecord | legPrepare | legPrepared
    | legRefused | legCommit | legAbort | legDone | legReport | epochPrepare | epochReady | epochCommit
    | epochRollback | epochRefuse | epochDone | commandForward | commandResult | ladingMove | ladingAck
    | mirrorTimeout | syncTimeout | caravanTimeout | epochPrepareWindowExpiry | prepareWindowExpiry
    | decisionWindowExpiry | twinDisconnectTimeout | unacknowledgedTimeout | pairingTimeout | resyncStart
    | resyncWindowExpiry | resyncHoldExpiry | counterAdvanceSend | outcomeBatchSync | receiptExpiry
    | checkpointCopyDone | journalBlockSign | captureBaseCopyDone | replayRecord | logFreezeWindowClose | skidderVisit
    | scrubberRead | conditionerBlockClose | wardenFifoRefill | cellFitted =>
    exact actsWhereNamed_of_next (fun _ => rfl) (fun _ => rfl) rfl
  all_goals exact actsWhereNamed_of_check (fun _ => rfl) (fun _ => rfl) (by simp [Instr.wf, and_assoc])

theorem exec_of_wf {i : Instr} (h : i.wf = true) (s : State) : ∃ s', exec i s = .next s' ∧ s'.pending = s.pending := by
  obtain ⟨next, hnext⟩ := actsWhereNamed i
  obtain ⟨hqueue, hexec⟩ := hnext s
  exact ⟨next s, hexec.trans (if_pos h), hqueue⟩

theorem exec_of_not_wf {i : Instr} (h : i.wf = false) (s : State) : exec i s = .fault .noSuchUnit := by
  obtain ⟨next, hnext⟩ := actsWhereNamed i
  obtain ⟨-, hexec⟩ := hnext s
  exact hexec.trans (if_neg (Bool.eq_false_iff.mp h))

/-- A next state, whichever command answers it, holds the queue that the command found. -/
theorem pending_of_exec {i : Instr} {s s' : State} (h : exec i s = .next s') : s'.pending = s.pending := by
  cases hwf : i.wf with
  | true =>
    obtain ⟨x, hexec, hqueue⟩ := exec_of_wf hwf s
    cases hexec.symm.trans h
    exact hqueue
  | false => cases (exec_of_not_wf hwf s).symm.trans h

theorem step_of_pending_nil {s : State} (h : s.pending = []) : step s = .next s := by
  simp only [step, h]

theorem step_of_pending_cons {s : State} {c : Instr} {cs : List Instr} (h : s.pending = c :: cs) :
    step s = exec c { s with pending := cs } := by
  simp only [step, h]

/-- A queue of well-formed commands loses its front at a step, and the rest stays well formed. -/
theorem step_of_queueOk {s : State} (h : s.QueueOk) :
    ∃ s', step s = .next s' ∧ s'.pending = s.pending.tail ∧ s'.QueueOk := by
  cases hq : s.pending with
  | nil => exact ⟨s, step_of_pending_nil hq, hq, h⟩
  | cons c cs =>
    have hall : ∀ x ∈ c :: cs, x.wf = true := hq ▸ h
    obtain ⟨hc, hcs⟩ := List.forall_mem_cons.mp hall
    obtain ⟨s', hexec, hqueue⟩ := exec_of_wf hc { s with pending := cs }
    have hrest : s'.pending = cs := hqueue
    exact ⟨s', (step_of_pending_cons hq).trans hexec, hrest, fun x hx => hcs x (hrest ▸ hx)⟩

theorem reset_queueOk : State.reset.QueueOk := List.forall_mem_nil _

end Sys2Proof.Machine

end

section

open Sys2Proof Sys2Proof.Machine

/-- Settles O5: the front of such a queue is well formed, so it acts, and no command's effect reaches the queue. -/
theorem aQueueOfNamedUnitsNeverStops : Obligations.AQueueOfNamedUnitsNeverStops := by
  unfold Obligations.AQueueOfNamedUnitsNeverStops
  exact ⟨fun _ h => step_of_queueOk h, reset_queueOk⟩

/-- Settles O3: every arm of `exec` makes exactly the command's own check, and acts or stops by it. -/
theorem aCommandStopsOnlyWhereItNamesNoUnit : Obligations.ACommandStopsOnlyWhereItNamesNoUnit := by
  unfold Obligations.ACommandStopsOnlyWhereItNamesNoUnit
  intro i s
  refine ⟨fun h => ?_, fun h => exec_of_not_wf h s⟩
  obtain ⟨t, hexec, -⟩ := exec_of_wf h s
  exact ⟨t, hexec⟩

/-- Settles O4: a command that acts puts the queue that it found back. -/
theorem noCommandTouchesTheQueue : Obligations.NoCommandTouchesTheQueue := by
  unfold Obligations.NoCommandTouchesTheQueue
  exact fun i s t h => pending_of_exec h

/-- Settles O1: a step looks only whether the queue has a front. -/
theorem aStepRunsTheFrontCommand : Obligations.AStepRunsTheFrontCommand := by
  unfold Obligations.AStepRunsTheFrontCommand
  exact ⟨fun c s q => step_of_pending_cons (s := { s with pending := c :: q }) rfl, fun s h => step_of_pending_nil h⟩

end

/-! # Scope: bytes stored in memory, and decimal fields written (R380, R489) -/

section

namespace Sys2Proof.Machine

/-! ## A read after a store (R489) -/

/-- By induction on the bytes: the first is written at the address, the rest from the next address on. -/
theorem memGet_memStore {m : List Host.Cell} (h : Memory.wf m = true) (a : Nat) (l : Bytes) (x : Nat) :
    memGet (memStore m a l) x = if a ≤ x ∧ x < a + l.length then l.getD (x - a) 0 else memGet m x := by
  induction l generalizing m a with
  | nil => exact (if_neg (by simp)).symm
  | cons b l ih =>
    rw [memStore, ih (memPut_wf h a b) (a + 1), memGet_memPut h, List.length_cons]
    rcases lt_trichotomy x a with hx | rfl | hx
    · rw [if_neg (by omega), if_neg (by omega), if_neg (by omega)]
    · rw [if_neg (by omega), if_pos rfl, if_pos (by omega), Nat.sub_self, List.getD_cons_zero]
    · have hsub : x - a = x - (a + 1) + 1 := by omega
      rw [if_neg (by omega : x ≠ a), hsub, List.getD_cons_succ]
      exact if_congr (by omega) rfl rfl

/-! ## The digits and bytes of a written field (R380) -/

@[simp] theorem decDigits_length (n v : Nat) : (decDigits n v).length = n := by
  induction n generalizing v with
  | zero => rfl
  | succ n ih => simp [decDigits, ih]

theorem le_nine_of_mem_decDigits {n v d : Nat} (h : d ∈ decDigits n v) : d ≤ 9 := by
  induction n generalizing v with
  | zero => cases h
  | succ n ih =>
    rcases List.mem_append.mp h with h | h
    · exact ih h
    · cases List.mem_singleton.mp h
      omega

theorem digitsVal_concat (l : List Nat) (d : Nat) : digitsVal (l ++ [d]) = 10 * digitsVal l + d := by
  simp [digitsVal]

/-- A number's last digits have its value where it needs no more of them. -/
theorem digitsVal_decDigits {n v : Nat} (h : v < 10 ^ n) : digitsVal (decDigits n v) = v := by
  induction n generalizing v with
  | zero => simp_all [decDigits, digitsVal]
  | succ n ih =>
    rw [decDigits, digitsVal_concat, ih (Nat.div_lt_of_lt_mul (by rwa [← Nat.pow_succ']))]
    omega

/-- Nibbles packed in pairs are read back. -/
theorem nibbles_packNibbles : ∀ {l : List Nat}, l.length % 2 = 0 → (∀ d ∈ l, d < 16) → nibbles (packNibbles l) = l
  | [], _, _ => rfl
  | [_], h, _ => nomatch h
  | a :: b :: l, h, hl => by
    have ha : a < 16 := hl a (by simp)
    have hb : b < 16 := hl b (by simp)
    have hrest : nibbles (packNibbles l) = l :=
      nibbles_packNibbles (by simp only [List.length_cons] at h; omega) fun d hd => hl d (by simp [hd])
    have hbyte : (BitVec.ofNat 8 (16 * a + b)).toNat = 16 * a + b := by
      rw [BitVec.toNat_ofNat]; omega
    rw [packNibbles, nibbles, List.flatMap_cons, hbyte, ← nibbles, hrest]
    simp only [List.cons_append, List.nil_append]
    congr 1
    · omega
    · congr 1; omega

theorem length_nibbles (b : Bytes) : (nibbles b).length = 2 * b.length := by
  simp [nibbles, List.length_flatMap, Nat.mul_comm]

/-- The sign nibble that the device writes. -/
def signNibble (v : Int) : Nat := if v < 0 then 0xD else 0xC

theorem nibbles_packedBytes {n : Nat} (hn : 0 < n) (v : Int) :
    nibbles (packedBytes n v) = decDigits (2 * n - 1) v.natAbs ++ [signNibble v] := by
  refine nibbles_packNibbles ?_ fun d hd => ?_
  · rw [List.length_append, decDigits_length, List.length_singleton]
    omega
  · rcases List.mem_append.mp hd with hd | hd
    · exact Nat.lt_of_le_of_lt (le_nine_of_mem_decDigits hd) (by decide)
    · cases List.mem_singleton.mp hd
      split <;> decide

theorem packedBytes_length {n : Nat} (hn : 0 < n) (v : Int) : (packedBytes n v).length = n := by
  have h := length_nibbles (packedBytes n v)
  rw [nibbles_packedBytes hn, List.length_append, decDigits_length, List.length_singleton] at h
  omega

/-- A field reads back as the value that it was written for. -/
theorem packedVal_packedBytes {n : Nat} (hn : 0 < n) {v : Int} (h : v.natAbs < 10 ^ (2 * n - 1)) :
    packedVal (packedBytes n v) = some v := by
  have hdigits : (decDigits (2 * n - 1) v.natAbs).all (· ≤ 9) = true :=
    List.all_eq_true.mpr fun d hd => decide_eq_true (le_nine_of_mem_decDigits hd)
  unfold packedVal
  simp only [nibbles_packedBytes hn, List.dropLast_concat, List.getLastD_concat, hdigits, digitsVal_decDigits h,
    signNibble]
  by_cases hv : v < 0
  · simp [hv, abs_of_neg hv]
  · simp [hv, abs_of_nonneg (not_lt.mp hv)]

theorem ld63_of_length {b : Bytes} (h : b.length = 32) : ld63 b 0 = packedVal b := by
  rw [ld63, sub, List.drop_zero, List.take_of_length_le (by omega), padTo, List.take_append_of_le_length (by omega),
    List.take_of_length_le (by omega)]

end Sys2Proof.Machine

end

section

open Sys2Proof Sys2Proof.Machine

/-- Settles O8, by induction on the bytes stored. -/
theorem memoryReadsBackWhatWasStored : Obligations.MemoryReadsBackWhatWasStored := by
  unfold Obligations.MemoryReadsBackWhatWasStored
  exact fun m a x l h => memGet_memStore h a l x

/-- Settles O11: a written field's nibbles are the magnitude's 63 digits and its sign. -/
theorem writtenDecimalFieldsKeepTheirSign : Obligations.WrittenDecimalFieldsKeepTheirSign := by
  unfold Obligations.WrittenDecimalFieldsKeepTheirSign
  intro v hv
  have hlength : (ld63Bytes v).length = 32 := packedBytes_length (by decide) v
  have hnibbles : nibbles (ld63Bytes v) = decDigits 63 v.natAbs ++ [signNibble v] := nibbles_packedBytes (by decide) v
  rw [ld63_of_length hlength, hnibbles, List.dropLast_concat, List.getLast?_concat]
  refine ⟨hlength, ?_, fun d hd => le_nine_of_mem_decDigits hd, digitsVal_decDigits hv, rfl,
    packedVal_packedBytes (by decide) hv⟩
  rw [List.length_append, decDigits_length, List.length_singleton]

end

/-! # Scope: the writes of the attention tree, the log's peek and the replay break (R545, R554, R567 to R569) -/

section

namespace Sys2Proof.Machine

/-! ## The rows of these registers, each on the state its tick finds -/

section Rows

variable (t : Tick) (v : Word32) (s : State)

theorem exec_irqGroupWrite {g : Nat} (h : g ≤ 7) :
    exec (.irqGroupWrite t g v) s = .next { (s.at t).groupClear g v with pending := s.pending } := if_pos h
theorem exec_leafCauseClear (l : Leaf) :
    exec (.leafCauseClear t l v) s = .next { (s.at t).leafClear l v with pending := s.pending } := rfl
theorem exec_logPeekIndexWrite {p : Path} (h : p.ok = true) :
    exec (.logPeekIndexWrite t p v) s = .next { (s.at t).peek p v with pending := s.pending } := if_pos h
theorem exec_rplBreakWrite :
    exec (.rplBreakWrite t v) s = .next { (s.at t).breakWrite v with pending := s.pending } := rfl

end Rows

/-! ## What each write does while main power is present -/

section Writes

variable {s : State} (v : Word32) (hdormant : s.mode ≠ .dormant)
include hdormant

/-- A clear of latches that leaves the summary standing sends vector 0 again. -/
theorem groupClear_eq (hboot : s.mode ≠ .boot) (hfelled : s.mode ≠ .felled) (g : Nat) :
    let x : State := { s with irq := { s.irq with group := mapPut 0 s.irq.group g (s.group g &&& ~~~ v) } }
    s.groupClear g v = if x.msixActive then x.msix 0 0 else x :=
  if_neg (by simp [hdormant, hboot, hfelled])

theorem leafClear_eq (hfelled : s.mode ≠ .felled) (l : Leaf) :
    s.leafClear l v =
      { s with irq := { s.irq with cause := mapPut 0 s.irq.cause (leafNum l) (s.cause l &&& ~~~ v) } } :=
  if_neg (by simp [hdormant, hfelled])

theorem peek_of_open {p : Path} (hopen : s.peekOpen p = true) :
    s.peek p v = { s with log := { s.log with
      peek := v.toNat % 16384
      peekData := ((mapFind s.log.slots (v.toNat % 16384)).map logBytes).getD (zeros 64) } } :=
  if_pos ⟨hdormant, hopen⟩

theorem breakWrite_of_right (hright : s.debugRight 13 = true) :
    s.breakWrite v = { s with rpl := { s.rpl with brk := v.toNat, broke := false } } :=
  if_pos ⟨hdormant, hright⟩

end Writes

end Sys2Proof.Machine

end

/-! # Scope: link ports: enable, detection, training, retraining and drop (R424 to R439, R457) -/

section

namespace Sys2Proof.Machine

/-! ## The rows of a port that the block has -/

section Rows

variable (t : Tick) (s : State) {n l : Nat} (hn : n ≤ 3)
include hn

theorem exec_ndlPortEnable (on : Bool) :
    exec (.ndlPortEnable t n on) s = .next { (s.at t).portEnable n on with pending := s.pending } := if_pos hn
theorem exec_ndlRetrain :
    exec (.ndlRetrain t n) s = .next { (s.at t).retrainWrite n with pending := s.pending } := if_pos hn
theorem exec_ndlDrop :
    exec (.ndlDrop t n) s = .next { (s.at t).dropWrite n with pending := s.pending } := if_pos hn
theorem exec_ndlDetectTimer (terminated : Bool) :
    exec (.ndlDetectTimer t n terminated) s = .next { (s.at t).detect n terminated with pending := s.pending } :=
  if_pos hn
theorem exec_keyFailBackoffExpiry :
    exec (.keyFailBackoffExpiry t n) s = .next { (s.at t).backoffEnd n with pending := s.pending } := if_pos hn
theorem exec_trainingSequence (hl : l ≤ 3) (x : BitVec 80) :
    exec (.trainingSequence t n l x) s = .next { (s.at t).trainingSeq n l x with pending := s.pending } :=
  if_pos ⟨hn, hl⟩
theorem exec_trainingWindowExpiry :
    exec (.trainingWindowExpiry t n) s = .next { (s.at t).trainingWindow n with pending := s.pending } := if_pos hn
theorem exec_laneLockLoss (hl : l ≤ 3) :
    exec (.laneLockLoss t n l) s = .next { (s.at t).lockLoss n with pending := s.pending } := if_pos ⟨hn, hl⟩
theorem exec_retrainWindowExpiry :
    exec (.retrainWindowExpiry t n) s = .next { (s.at t).retrainWindow n with pending := s.pending } := if_pos hn

end Rows

section Ports

variable {s : State} {n : Nat}

/-! ## Enable, retrain and drop writes (R424, R439, R457) -/

section Writes

variable (hruns : s.linkRuns = true)
include hruns

theorem portEnable_on (henable : (s.port n).enable = false) (hsevered : s.tmp.severed = false)
    (hwanted : s.portWanted n = true) (hpowered : s.portPowered n = true) :
    s.portEnable n true = s.setPort n { s.port n with enable := true, st := .down, detect := s.tick } := by
  simp [State.portEnable, hruns, henable, hsevered, hwanted, hpowered]

theorem portEnable_off :
    s.portEnable n false =
      (s.dropPort n (s.port n).cause 0).setPort n
        { (s.dropPort n (s.port n).cause 0).port n with enable := false, st := .disabled } := by
  simp [State.portEnable, hruns]

theorem dropWrite_eq (hst : (s.port n).st ≠ .down) : s.dropWrite n = s.dropPort n 6 1000 := if_pos ⟨hruns, hst⟩

theorem retrainWrite_eq : s.retrainWrite n = s.retrain n := if_pos hruns

end Writes

/-- The port in RETRAIN, at step 2, with the retry counted (R439; that each is counted is deduced, entry 67). -/
theorem retrain_of_active (hst : (s.port n).st = .active) :
    s.retrain n = s.setPort n ({ (s.port n).count 0x024 with st := .retrain, retrains := 0 }.toStep 2 s.tick) :=
  if_pos (.inl hst)

/-! ## Detection (R427, R430) -/

section Detection

variable (hst : (s.port n).st = .down) (hdue : (s.port n).detect ≤ s.tick)
include hst hdue

theorem backoffEnd_of_due : s.backoffEnd n = s.setPort n { s.port n with detect := s.tick } := if_pos ⟨hst, hdue⟩

theorem detect_of_due (hruns : s.linkRuns = true) (hpowered : s.portPowered n = true) (terminated : Bool) :
    s.detect n terminated =
      if terminated then
        s.setPort n ({ s.port n with st := .training, reversed := false, polarity := 0 }.toStep 2 s.tick)
      else s.setPort n { s.port n with detect := s.tick + 1000 } :=
  if_neg (by simp [hst, hdue, hruns, hpowered])

end Detection

/-! ## Training (R427, R428) and RETRAIN (R439) -/

/-- A good sequence is counted for its lane; while that lane needs more of them the step goes on. -/
theorem trainingSeq_of_good {l : Nat} {x : BitVec 80} (hl : l ≤ 3) (hst : (s.port n).st = .training)
    (hgood : ((s.port n).judge l x).2 = true)
    (hmore : mapGet 0 ((s.port n).judge l x).1.seen l + 1 < stepCount (s.port n).step) :
    s.trainingSeq n l x = s.setPort n { ((s.port n).judge l x).1 with
      seen := mapPut 0 ((s.port n).judge l x).1.seen l (mapGet 0 ((s.port n).judge l x).1.seen l + 1) } := by
  have hopen : ¬ ((List.range 4).all fun k => decide (stepCount (s.port n).step ≤ mapGet 0
      (mapPut 0 ((s.port n).judge l x).1.seen l (mapGet 0 ((s.port n).judge l x).1.seen l + 1)) k)) = true := by
    intro hall
    have hlane := List.all_eq_true.mp hall l (List.mem_range.mpr (by omega))
    rw [mapGet_mapPut_self _ _ (Nat.succ_ne_zero _), decide_eq_true_eq] at hlane
    omega
  simp only [State.trainingSeq, hst, hgood, ne_eq, not_true_eq_false, false_and, if_false, if_true, if_neg hopen]

theorem trainingWindow_of_training (hst : (s.port n).st = .training)
    (hclosed : (s.port n).stepTick + stepWindow (s.port n).step ≤ s.tick) : s.trainingWindow n = s.dropPort n 1 1000 :=
  if_pos ⟨.inl hst, hclosed⟩

theorem lockLoss_of_training (hst : (s.port n).st = .training) : s.lockLoss n = s.dropPort n 2 1000 := if_pos hst

theorem lockLoss_of_not_training (hst : (s.port n).st ≠ .training) : s.lockLoss n = s.retrain n := if_neg hst

theorem retrainWindow_of_closed (hst : (s.port n).st = .retrain) (hclosed : (s.port n).stepTick + 200 ≤ s.tick) :
    s.retrainWindow n =
      if 2 ≤ (s.port n).retrains then s.dropPort n 5 1000
      else s.setPort n ({ (s.port n).count 0x024 with retrains := (s.port n).retrains + 1 }.toStep 2 s.tick) :=
  if_neg (by simp [hst, hclosed])

end Ports

end Sys2Proof.Machine

end

section

open Sys2Proof Sys2Proof.Machine

/-- Settles O23: each row runs its register's write, which the clause's mode and right let act. -/
theorem attentionRegistersLatchAndClear : Obligations.AttentionRegistersLatchAndClear := by
  unfold Obligations.AttentionRegistersLatchAndClear
  refine ⟨?silent, ?vector, ?leaf, ?peek, ?breakpoint⟩
  case silent =>
    intro s t g v u x hg hdormant hboot hfelled hactive
    rw [exec_irqGroupWrite t v s hg, groupClear_eq v hdormant hboot hfelled g, if_neg (Bool.eq_false_iff.mp hactive)]
  case vector =>
    intro s t g v u x hg hdormant hboot hfelled hactive
    rw [exec_irqGroupWrite t v s hg, groupClear_eq v hdormant hboot hfelled g, if_pos hactive]
  case leaf =>
    intro s t l v u hdormant hfelled
    rw [exec_leafCauseClear, leafClear_eq v hdormant hfelled]
  case peek =>
    intro s t p v u hp hdormant hopen
    rw [exec_logPeekIndexWrite t v s hp, peek_of_open v hdormant hopen]
  case breakpoint =>
    intro s t v u hdormant hright
    rw [exec_rplBreakWrite, breakWrite_of_right v hdormant hright]

/-- Settles O36: each row runs its operation on the port that it names; the port's state, its windows and what the row
carries choose the operation's case. -/
theorem linkPortsTrainAndRetrain : Obligations.LinkPortsTrainAndRetrain := by
  unfold Obligations.LinkPortsTrainAndRetrain
  refine ⟨?enable, ?disable, ?retrain, ?drop, ?detected, ?undetected, ?backoff, ?sequence, ?window, ?lockTraining,
    ?lockActive, ?thirdWindow, ?earlierWindow⟩
  case enable =>
    intro s t n u p hn hruns henable hsevered hwanted hpowered
    rw [exec_ndlPortEnable t s hn, portEnable_on hruns henable hsevered hwanted hpowered]
  case disable =>
    intro s t n u p hn hruns
    rw [exec_ndlPortEnable t s hn, portEnable_off hruns]
  case retrain =>
    intro s t n u p hn hruns hst
    rw [exec_ndlRetrain t s hn, retrainWrite_eq hruns, retrain_of_active hst]
  case drop =>
    intro s t n u p hn hruns hst
    rw [exec_ndlDrop t s hn, dropWrite_eq hruns hst]
  case detected =>
    intro s t n u p hn hst hruns hpowered hdue
    rw [exec_ndlDetectTimer t s hn, detect_of_due hst hdue hruns hpowered, if_pos rfl]
  case undetected =>
    intro s t n u p hn hst hruns hpowered hdue
    rw [exec_ndlDetectTimer t s hn, detect_of_due hst hdue hruns hpowered, if_neg (by decide)]
  case backoff =>
    intro s t n u p hn hst hdue
    rw [exec_keyFailBackoffExpiry t s hn, backoffEnd_of_due hst hdue]
  case sequence =>
    intro s t n l x u p hn hl hst hgood hmore
    rw [exec_trainingSequence t s hn hl, trainingSeq_of_good hl hst hgood hmore]
  case window =>
    intro s t n u p hn hst hclosed
    rw [exec_trainingWindowExpiry t s hn, trainingWindow_of_training hst hclosed]
  case lockTraining =>
    intro s t n l u p hn hl hst
    rw [exec_laneLockLoss t s hn hl, lockLoss_of_training hst]
  case lockActive =>
    intro s t n l u p hn hl hst
    have htraining : (u.port n).st ≠ .training := fun h => nomatch hst.symm.trans h
    rw [exec_laneLockLoss t s hn hl, lockLoss_of_not_training htraining, retrain_of_active hst]
  case thirdWindow =>
    intro s t n u p hn hst hclosed hthird
    rw [exec_retrainWindowExpiry t s hn, retrainWindow_of_closed hst hclosed, if_pos hthird]
  case earlierWindow =>
    intro s t n u p hn hst hclosed hearlier
    rw [exec_retrainWindowExpiry t s hn, retrainWindow_of_closed hst hclosed, if_neg (Nat.not_le.mpr hearlier)]

end

/-! # Scope: the commands of captures, replays and the log (R539 to R543, R546, R547, R550, R553) -/

section

namespace Sys2Proof.Machine

/-! ## The rows, on a record that names a queue pair that exists -/

section Rows

variable (t : Tick) {ref : RecRef} (s : State) (h : ref.ok = true)
include h

theorem exec_captureStart :
    exec (.captureStart t ref) s = s.act t fun u => u.runCommand 0x0A04 captureStart ref := if_pos h
theorem exec_captureStop :
    exec (.captureStop t ref) s = s.act t fun u => u.runCommand 0x0A05 captureStop ref := if_pos h
theorem exec_replayStart :
    exec (.replayStart t ref) s = s.act t fun u => u.runCommand 0x0A06 replayStart ref := if_pos h
theorem exec_replayStop :
    exec (.replayStop t ref) s = s.act t fun u => u.runCommand 0x0A07 replayStop ref := if_pos h
theorem exec_logFreeze : exec (.logFreeze t ref) s = s.act t fun u => u.runCommand 0x0A01 logFreeze ref := if_pos h
theorem exec_logThaw : exec (.logThaw t ref) s = s.act t fun u => u.runCommand 0x0A02 logThaw ref := if_pos h
theorem exec_logExport : exec (.logExport t ref) s = s.act t fun u => u.runCommand 0x0A03 logExport ref := if_pos h

end Rows

variable {s w : State} {c : Cmd}

/-! ## Capture (R546, R547) -/

/-- No capture runs or is about to, a held one may be replaced, and the device stands alone (R546). -/
structure Capturable (s : State) (flags : Nat) : Prop where
  idle : s.rpl.capturing = false
  unasked : (s.running.all fun x => x.stage != .base) = true
  replaces : s.rpl.captured = false ∨ flags = 1
  alone : s.captureAlone = true

/-- A capture waits for its base point where the capture memory holds the base image. -/
theorem captureStart_eq (hlen : c.body.length = 8) (hlimit : fld c.body 0 4 ≤ 4096) (hflags : fld c.body 4 4 ≤ 1)
    (hcapturable : Capturable s (fld c.body 4 4)) :
    captureStart c s =
      (if Config.captureFits (fld c.body 0 4) then { s with rpl := { s.rpl with spillLimit := fld c.body 0 4 } } else s,
        if Config.captureFits (fld c.body 0 4) then .wait .base {} else .done (fail .busy)) := by
  obtain ⟨hidle, hunasked, hreplaces, halone⟩ := hcapturable
  have hreplaces' : (!s.rpl.captured || fld c.body 4 4 == 1) = true := by simpa using hreplaces
  unfold captureStart
  dsimp only
  rw [if_neg (by omega), hidle, hunasked, hreplaces', halone]
  cases Config.captureFits (fld c.body 0 4) <;> rfl

theorem captureStop_eq (hbody : c.body = []) :
    captureStop c s =
      (s.stopCapture false, .done { body := natLE 4 s.rpl.records ++ zeros 4 ++ natLE 8 s.rpl.bytes }) :=
  if_neg (not_not_intro hbody)

/-! ## Replay (R550, R553) -/

theorem replayStart_eq (hlen : c.body.length = 8) (hzero : zeroAt c.body 4 4 = true)
    (hcapture : s.rpl.capturing = true ∨ s.rpl.captured = true) (halone : s.captureAlone = true) :
    replayStart c s =
      (({ s.stopCapture false with
          rpl := { (s.stopCapture false).rpl with last := fld c.body 0 4 } } : State).askBarrier .replay
            (.command c.record.ref), .wait .barrier {}) := by
  unfold replayStart
  rw [if_neg (by simp [hlen, hzero]), if_neg fun ⟨hidle, hnone⟩ => hcapture.elim hidle hnone,
    if_neg (not_not_intro halone)]

theorem replayStop_eq (hbody : c.body = []) :
    replayStop c s = (s.replayEnded, .reset {
      body := natLE 4 s.rpl.position ++ natLE 4 s.rpl.diverge ++ natLE 4 s.rpl.divergences ++ zeros 4 }) :=
  if_neg (not_not_intro hbody)

/-! ## LOG_FREEZE, LOG_THAW and LOG_EXPORT (R539 to R543) -/

theorem logFreeze_eq (hlen : c.body.length = 8) (hpos : 0 < fld c.body 0 4) (hmax : fld c.body 0 4 ≤ 10000000)
    (hzero : zeroAt c.body 4 4 = true) (hthawed : s.log.frozen = false) :
    logFreeze c s =
      ({ s with log := { s.log with freeze := some (s.tick + fld c.body 0 4) } },
        .done { body := natLE 8 s.log.next }) := by
  unfold logFreeze
  dsimp only
  rw [if_neg, if_neg (Bool.eq_false_iff.mp hthawed)]
  rintro (h | h | h | h)
  · exact h hlen
  · exact hpos.ne' h
  · exact Nat.not_lt.mpr hmax h
  · exact h hzero

theorem logThaw_of_frozen {close : Tick} (hbody : c.body = []) (hfreeze : s.log.freeze = some close) :
    logThaw c s = (s.endFreeze, .done {
      body := natLE 2 s.log.held.length ++ zeros 2 ++ natLE 4 s.log.counted }) := by
  rw [logThaw, if_neg (not_not_intro hbody), hfreeze]

theorem logThaw_of_thawed (hbody : c.body = []) (hfreeze : s.log.freeze = none) :
    logThaw c s = (s, .done { body := zeros 8 }) := by
  rw [logThaw, if_neg (not_not_intro hbody), hfreeze]

/-- A LOG_EXPORT body that obeys its layout: 1 to 256 entries from a number on, and a challenge. -/
structure ExportForm (b : Bytes) : Prop where
  length : b.length = 48
  pos : 0 < fld b 8 2
  max : fld b 8 2 ≤ 256
  zero : zeroAt b 0xA 6 = true

/-- The bytes that a LOG_EXPORT has signed: the entries that its body names, and its challenge. -/
def State.exported (s : State) (b : Bytes) : Bytes := s.exportBytes (s.log.from (fld b 0 8) (fld b 8 2)) (sub b 0x10 32)

/-- The answer of a LOG_EXPORT: how many entries, the next number, and the entries with the identity's signature. -/
def State.exportResult (s : State) (b d : Bytes) : Result :=
  let es := s.log.from (fld b 0 8) (fld b 8 2)
  { body := natLE 2 es.length ++ zeros 6 ++ natLE 8 ((es.getLast?.map fun e => e.seq + 1).getD (fld b 0 8))
    out := s.exported b ++ s.identitySig (sha384 (s.exported b)) d }

theorem logExport_eq {d : Bytes} (hform : ExportForm c.body) (hlane : s.laneAny .bigNumber = true)
    (hdrawn : s.random 56 = some (w, d)) :
    logExport c s =
      ({ w with log := { w.log with exports := w.log.exports + 1, exportFreeze := w.log.freeze.isNone } },
        .job .bigNumber (curveCycles 1600 6) [] (w.exportResult c.body d)) := by
  obtain ⟨hlen, hpos, hmax, hzero⟩ := hform
  unfold logExport
  dsimp only
  rw [if_neg, if_neg (not_not_intro hlane)]
  · exact withRandom_of_drawn hdrawn
  · rintro (h | h | h | h)
    · exact h hlen
    · exact hpos.ne' h
    · exact Nat.not_lt.mpr hmax h
    · exact h hzero

end Sys2Proof.Machine

end

/-! # Scope: the commands of the twin and the caravan (R456, R466, R471, R487) -/

section

namespace Sys2Proof.Machine

/-! ## The rows, on a record that names a queue pair that exists -/

section Rows

variable (t : Tick) {ref : RecRef} (s : State) (h : ref.ok = true)
include h

theorem exec_twinStatus : exec (.twinStatus t ref) s = s.act t fun u => u.runCommand 0x0901 twinStatus ref := if_pos h
theorem exec_twinDetach : exec (.twinDetach t ref) s = s.act t fun u => u.runCommand 0x0902 twinDetach ref := if_pos h
theorem exec_twinRepair : exec (.twinRepair t ref) s = s.act t fun u => u.runCommand 0x0903 twinRepair ref := if_pos h
theorem exec_caravanStatus :
    exec (.caravanStatus t ref) s = s.act t fun u => u.runCommand 0x0904 caravanStatus ref := if_pos h

end Rows

section Twin

variable {s : State} {c : Cmd} (hbody : s.memberBody c.body = true)
include hbody

theorem twinStatus_eq :
    twinStatus c s = (s, .done {
      body := natLE 1 (twinCode s.twin.st) ++ natLE 1 (if s.keel then 1 else 0) ++
        natLE 1 (if s.serving then 1 else 0) ++
        natLE 1 ((if s.twin.detached then 1 else 0) + 2 * (if s.twin.resync.isSome then 1 else 0)) ++ zeros 4 ++
        natLE 8 s.twinSerial ++ natLE 8 s.twin.lone ++ natLE 4 s.twin.lines ++ zeros 4 }) :=
  if_neg (not_not_intro hbody)

section Pair

variable (hresync : s.twin.resync.isSome = false)
include hresync

/-- The command completes first; then the hold is set and told, and the pair parts (R471). -/
theorem twinDetach_of_paired {run : Run} (hst : s.twin.st = .paired)
    (hrun : (s.running.find? fun x => x.record.ref == c.record.ref) = some run) :
    let w : State := { s.finish run {} with twin := { (s.finish run {}).twin with detached := true, repair := false } }
    twinDetach c s = (w.tellTwin.leavePaired w.keel, .wait .twin {}) := by
  unfold twinDetach
  rw [if_neg (not_not_intro hbody), if_neg (Bool.eq_false_iff.mp hresync), if_neg (not_not_intro hst), hrun]

variable (hactive : (s.port 0).st = .active)
include hactive

theorem twinRepair_of_apart (hst : s.twin.st ≠ .paired) :
    twinRepair c s =
      (({ s with twin := { s.twin with detached := false, peerDetached := false, repair := true } } : State).tellTwin,
        .done {}) := by
  unfold twinRepair
  rw [if_neg (not_not_intro hbody), if_neg (Bool.eq_false_iff.mp hresync), if_neg (not_not_intro hactive), if_neg hst]

/-- A PAIRED pair needs no repair. -/
theorem twinRepair_of_paired (hst : s.twin.st = .paired) : twinRepair c s = (s, .done {}) := by
  unfold twinRepair
  rw [if_neg (not_not_intro hbody), if_neg (Bool.eq_false_iff.mp hresync), if_neg (not_not_intro hactive), if_pos hst]

end Pair

end Twin

/-- A member's row in CARAVAN_STATUS (Table 15-12). -/
def State.memberRow (s : State) (m : Nat) : Bytes :=
  natLE 1 m ++ natLE 1 (if s.reachable m then 1 else 0) ++
    (if m = s.man.set.self then natLE 1 (twinCode s.twin.st) else [Config.memberTwinState m s.tick]) ++
    natLE 1 ((if s.car.stale.contains m then 1 else 0) + if s.car.behind.contains m then 2 else 0) ++
    natLE 4 (if m = s.man.set.self then s.car.epoch else mapGet 0 s.car.epochs m)

theorem caravanStatus_eq {s : State} {c : Cmd} (hbody : c.body = []) :
    caravanStatus c s = (s, .done {
      body := natLE 4 s.car.epoch ++ natLE 1 s.man.set.memberCount ++ natLE 1 s.epochState ++ zeros 2 ++
        (List.range s.man.set.memberCount).flatMap s.memberRow }) :=
  if_neg (not_not_intro hbody)

end Sys2Proof.Machine

end

section

open Sys2Proof Sys2Proof.Machine

/-- Settles O46: each row is an accepted command, so its opcode's meaning runs on the begun state, and no check of it
refuses. -/
theorem captureAndReplayStartAndStop : Obligations.CaptureAndReplayStartAndStop := by
  unfold Obligations.CaptureAndReplayStartAndStop
  refine ⟨?start, ?stop, ?replay, ?replayEnds⟩
  case start =>
    intro s t ref r b i u hacc hlen hlimit hflags hidle hunasked hreplaces halone
    rw [exec_captureStart t s hacc.named]
    exact runCommand_accepted hacc _ _ _ (captureStart_eq (c := s.cmd t r b i) hlen hlimit hflags
      ⟨hidle, hunasked, hreplaces, halone⟩)
  case stop =>
    intro s t ref r b i u hacc hbody
    rw [exec_captureStop t s hacc.named]
    exact runCommand_accepted hacc _ _ _ (captureStop_eq (c := s.cmd t r b i) hbody)
  case replay =>
    intro s t ref r b i u hacc hlen hzero hcapture halone
    rw [exec_replayStart t s hacc.named]
    exact runCommand_accepted hacc _ _ _ (replayStart_eq (c := s.cmd t r b i) hlen hzero hcapture halone)
  case replayEnds =>
    intro s t ref r b i u hacc hbody
    rw [exec_replayStop t s hacc.named]
    exact runCommand_accepted hacc _ _ _ (replayStop_eq (c := s.cmd t r b i) hbody)

/-- Settles O47: each row is an accepted command, so its opcode's meaning runs on the begun state; the freeze that
stands, or the draw for the signature, decides the answer. -/
theorem theLogFreezesThawsAndExports : Obligations.TheLogFreezesThawsAndExports := by
  unfold Obligations.TheLogFreezesThawsAndExports
  refine ⟨?freeze, ?thaw, ?noFreeze, ?exports⟩
  case freeze =>
    intro s t ref r b i u hacc hlen hpos hmax hzero hthawed
    rw [exec_logFreeze t s hacc.named]
    exact runCommand_accepted hacc _ _ _ (logFreeze_eq (c := s.cmd t r b i) hlen hpos hmax hzero hthawed)
  case thaw =>
    intro s t ref r b i close u hacc hbody hfreeze
    rw [exec_logThaw t s hacc.named]
    exact runCommand_accepted hacc _ _ _ (logThaw_of_frozen (c := s.cmd t r b i) hbody hfreeze)
  case noFreeze =>
    intro s t ref r b i u hacc hbody hfreeze
    rw [exec_logThaw t s hacc.named]
    exact runCommand_accepted hacc _ _ _ (logThaw_of_thawed (c := s.cmd t r b i) hbody hfreeze)
  case exports =>
    intro s t ref r b i w d u es hacc hlen hpos hmax hzero hlane hdrawn
    rw [exec_logExport t s hacc.named]
    exact runCommand_accepted hacc _ _ _ (logExport_eq (c := s.cmd t r b i) ⟨hlen, hpos, hmax, hzero⟩ hlane hdrawn)

/-- Settles O57: each row is an accepted command, so its opcode's meaning runs on the begun state; the pair's state
decides what a detach and a repair do. -/
theorem twinAndCaravanCommandsReportPartAndRepair : Obligations.TwinAndCaravanCommandsReportPartAndRepair := by
  unfold Obligations.TwinAndCaravanCommandsReportPartAndRepair
  refine ⟨?status, ?detach, ?repair, ?paired, ?caravan⟩
  case status =>
    intro s t ref r b i u hacc hbody
    rw [exec_twinStatus t s hacc.named]
    exact runCommand_accepted hacc _ _ _ (twinStatus_eq (c := s.cmd t r b i) hbody)
  case detach =>
    intro s t ref r b i run u v w hacc hbody hresync hst hrun
    rw [exec_twinDetach t s hacc.named]
    exact runCommand_accepted hacc _ _ _ (twinDetach_of_paired (c := s.cmd t r b i) hbody hresync hst hrun)
  case repair =>
    intro s t ref r b i u v hacc hbody hresync hactive hst
    rw [exec_twinRepair t s hacc.named]
    exact runCommand_accepted hacc _ _ _ (twinRepair_of_apart (c := s.cmd t r b i) hbody hresync hactive hst)
  case paired =>
    intro s t ref r b i u hacc hbody hresync hactive hst
    rw [exec_twinRepair t s hacc.named]
    exact runCommand_accepted hacc _ _ _ (twinRepair_of_paired (c := s.cmd t r b i) hbody hresync hactive hst)
  case caravan =>
    intro s t ref r b i u hacc hbody
    rw [exec_caravanStatus t s hacc.named]
    exact runCommand_accepted hacc _ _ _ (caravanStatus_eq (c := s.cmd t r b i) hbody)

end

/-! # Scope: LEDGER_CREATE, and the rows of Table 11-7 up to the start of a posting's decimal job (R336 to R339, R345,
R346, R352, R356, R357, R365, R369; the latching and marking of log entry 59) -/

section

namespace Sys2Proof.Machine

/-! ## The rows, on a record that names a queue pair that exists -/

section Rows

variable (t : Tick) {ref : RecRef} (s : State) (h : ref.ok = true)
include h

theorem exec_ledgerCreate :
    exec (.ledgerCreate t ref) s = s.act t fun u => u.runCommand 0x0701 ledgerCreate ref := if_pos h
theorem exec_accountOpen :
    exec (.accountOpen t ref) s = s.act t fun u => u.runCommand 0x0702 accountOpen ref := if_pos h
theorem exec_accountSetState :
    exec (.accountSetState t ref) s = s.act t fun u => u.runCommand 0x0703 accountSetState ref := if_pos h
theorem exec_postLegs : exec (.postLegs t ref) s = s.act t fun u => u.runCommand 0x0704 postLegs ref := if_pos h
theorem exec_accrue : exec (.accrue t ref) s = s.act t fun u => u.runCommand 0x0705 accrue ref := if_pos h

end Rows

variable {s v : State} {c : Cmd} {t n : Nat} {sk : List LedgerKey} {jk : LedgerKey}

/-! ## LEDGER_CREATE (R336 to R339) -/

/-- By induction on the handles: each that resolves without an effect hands the state on. -/
theorem withSubjects_of_resolve {l : List (Nat × Need)} {k : State → State × Did}
    (hkeys : ∀ x ∈ l, ∃ j, s.resolve (some t) x.1 x.2 = (s, .ok j)) : s.withSubjects t l k = k s := by
  induction l with
  | nil => rfl
  | cons x l ih =>
    obtain ⟨⟨j, hfirst⟩, hrest⟩ := List.forall_mem_cons.mp hkeys
    simp only [State.withSubjects, hfirst]
    exact ih hrest

/-- The handles of a descriptor, each with what a ledger asks of its key (Table 11-1). -/
def Descriptor.subjects (d : Descriptor) : List (Nat × Need) :=
  [(d.sealHandle, hmacNeed 10), (d.journalHandle, hmacNeed 13), (d.signHandle, signNeed)] ++
    d.channels.map fun h => (h, hmacNeed 11)

/-- The epoch entries of ledgers, with what commits ahead. -/
def State.ledgerEntries (s : State) : List (Nat × EpochEntry) := s.ahead.vault.epochs.filter fun p => p.2.ledger != 0

/-- The windows of every ledger, together. -/
def State.windowSum (s : State) : Nat :=
  ((s.ahead.board.heads.filter fun p => p.2.ledger != 0).map fun p => (s.ahead.desc p.1).window).sum

/-- The device has room for a tenant's new ledger with an id and a window (R338, R339). -/
structure LedgerRoom (s : State) (t id window : Nat) : Prop where
  unused : (s.ledgerEntries.any fun p => p.2.ledger == id) = false
  total : s.ledgerEntries.length < 512
  own : (s.ledgerEntries.filter fun p => p.2.tenant == t).length < 16
  windows : s.windowSum + window ≤ 16777216

/-- The state, slot and nonce with which a new ledger goes on: those that the lead appended, or the lowest free slot and
a drawn nonce. -/
def State.LedgerValues (s : State) (appended : Bytes) (v : State) (n : Nat) (nonce : Bytes) : Prop :=
  if appended.length = 10 then v = s ∧ n = fld appended 0 2 ∧ nonce = sub appended 2 8
  else s.ahead.freeLedger = some n ∧ s.random 8 = some (v, nonce)

theorem newLedgerValues_of_values {nonce : Bytes} {k : State → Nat → Bytes → State × Did}
    (hvalues : s.LedgerValues c.record.nonce v n nonce) : s.newLedgerValues c k = k v n nonce := by
  unfold State.LedgerValues at hvalues
  unfold State.newLedgerValues
  split_ifs at hvalues ⊢ with happended
  · obtain ⟨rfl, rfl, rfl⟩ := hvalues
    rfl
  · obtain ⟨hfree, hdrawn⟩ := hvalues
    rw [hfree]
    exact withRandom_of_drawn hdrawn

theorem ledgerCreate_eq {nonce : Bytes} (hform : descOk c.body = true)
    (hroom : LedgerRoom s c.tenant (fld c.body 0 2) (parseDesc c.body).window)
    (hkeys : ∀ x ∈ (parseDesc c.body).subjects, ∃ j, s.resolve (some c.tenant) x.1 x.2 = (s, .ok j))
    (hvalues : s.LedgerValues c.record.nonce v n nonce) :
    ledgerCreate c s = (v, .done {
      body := natLE 2 n ++ zeros 6
      changes := [.epochEntry n { ledger := fld c.body 0 2, epoch := 0, tenant := c.tenant },
        .descriptor n (parseDesc c.body),
        .head n { ledger := fld c.body 0 2, tenant := c.tenant, nextSeq := 1, chain := zeros 32, nonce }] }) := by
  obtain ⟨hunused, htotal, hown, hwindows⟩ := hroom
  unfold State.ledgerEntries at hunused htotal hown
  unfold State.windowSum at hwindows
  unfold ledgerCreate
  dsimp only
  rw [if_neg (by simp [hform, hunused]), if_neg (by omega)]
  refine (withSubjects_of_resolve hkeys).trans ?_
  rw [if_neg (Nat.not_lt.mpr hwindows)]
  exact newLedgerValues_of_values hvalues

/-! ## Rows 2 to 4 of Table 11-7 -/

/-- The tenant's ledger, the twin state, and the keys and channel MAC pass rows 2 to 4; the state `v` comes of resolving
the keys. -/
structure FrontPasses (s : State) (c : Cmd) (ledger ch macOff : Nat) (v : State) (n : Nat) (sk : List LedgerKey)
    (jk : LedgerKey) : Prop where
  slot : s.ledgerSlot ledger c.tenant = some n
  twin : s.rowThree = none
  keys : s.rowFour c.tenant (s.desc n) ch macOff c.body = (v, .ok (sk, jk))

theorem frontRows_of_passes {ledger ch macOff : Nat}
    {k : State → Nat → Descriptor → List LedgerKey → LedgerKey → State × Did}
    (hfront : FrontPasses s c ledger ch macOff v n sk jk) :
    s.frontRows c ledger ch macOff k = k v n (v.desc n) sk jk := by
  obtain ⟨hslot, htwin, hkeys⟩ := hfront
  simp only [State.frontRows, hslot, htwin, hkeys]

/-! ## Rows 5 to 11 -/

section LateRows

variable {r : RecRef} {p : Posting}

/-- No other command has marked the posting id, and the filter does not hold it (row 5). -/
structure IdFree (s : State) (r : RecRef) (p : Posting) : Prop where
  unmarked : s.foreign (.command r) (.posting p.ledger p.id) = none
  unseen : s.filterHit p.slot p.horizon p.id = none

/-- The seals, accounts, currencies, marks, versions and states pass rows 7 to 11. -/
structure LegsPass (s : State) (r : RecRef) (p : Posting) : Prop where
  seals : s.sealRows p = none
  unmarked : s.legMark (.command r) p = none
  versions : s.versionRows p = none

/-- Past row 5 the posting id is marked. -/
theorem postRow5_of_free (hfree : IdFree s r p) :
    s.postRow5 r p = (s.addMarks (.command r) [.posting p.ledger p.id]).postRow6 r p := by
  obtain ⟨hunmarked, hunseen⟩ := hfree
  simp only [State.postRow5, hunmarked, hunseen]

theorem postRow6_of_opening (hkind : p.kind = 3) (hchecks : s.openChecks p = none) : s.postRow6 r p = (s, p.job) := by
  simp only [State.postRow6, if_pos hkind, hchecks]

/-- A posting or an accrual that passes its rows starts its job: its accounts are marked as that ends. -/
theorem postRow6_of_legs (hkind : p.kind = 1 ∨ p.kind = 2) (hlegs : LegsPass s r p) :
    s.postRow6 r p = (s, p.job) := by
  obtain ⟨hseals, hunmarked, hversions⟩ := hlegs
  have hopening : p.kind ≠ 3 := by omega
  have hchange : p.kind ≠ 4 := by omega
  simp only [State.postRow6, if_neg hopening, hseals, State.postRow10, hunmarked, hversions, if_neg hchange]

/-- A state change marks its account before its job starts. -/
theorem postRow6_of_change (hkind : p.kind = 4) (hlegs : LegsPass s r p) (htransition : s.transitionOk p = true) :
    s.postRow6 r p = (s.addMarks (.command r) (p.legs.map fun g => .context g.index), p.job) := by
  obtain ⟨hseals, hunmarked, hversions⟩ := hlegs
  have hopening : p.kind ≠ 3 := by omega
  simp only [State.postRow6, if_neg hopening, hseals, State.postRow10, hunmarked, hversions, if_pos hkind,
    if_pos htransition]

end LateRows

/-! ## ACCOUNT_OPEN (R345) -/

/-- An ACCOUNT_OPEN body that obeys its layout. -/
structure OpenForm (b : Bytes) : Prop where
  length : b.length = 80
  zero : zeroAt b 5 3 = true
  zero' : zeroAt b 0xC 4 = true
  zero'' : zeroAt b 0x28 8 = true

/-- The opening that an ACCOUNT_OPEN record asks for, in a ledger with descriptor `d`. -/
def openingOf (c : Cmd) (d : Descriptor) (n : Nat) (sk : List LedgerKey) (jk : LedgerKey) : Posting :=
  { kind := 3, slot := n, ledger := fld c.body 0 2, tenant := c.tenant, id := sub c.body 0x30 16
    horizon := fld c.body 0x20 8, valueDate := zeros 8, sealKeys := sk, journalKey := jk.2.2.1, cls := fld c.body 4 1
    legs := [{ tag := sub c.body 0x10 16, currency := fld c.body 2 2
               exponent := ((d.currency (fld c.body 2 2)).map (·.exponent)).getD 0 }] }

theorem accountOpen_eq (hform : OpenForm c.body)
    (hfront : FrontPasses s c (fld c.body 0 2) (fld c.body 8 4) 0x40 v n sk jk)
    (hfree : IdFree v c.record.ref (openingOf c (v.desc n) n sk jk))
    (hchecks : (v.addMarks (.command c.record.ref) [.posting (fld c.body 0 2) (sub c.body 0x30 16)]).openChecks
      (openingOf c (v.desc n) n sk jk) = none) :
    accountOpen c s = (v.addMarks (.command c.record.ref) [.posting (fld c.body 0 2) (sub c.body 0x30 16)],
      (openingOf c (v.desc n) n sk jk).job) := by
  obtain ⟨hlen, hzero, hzero', hzero''⟩ := hform
  unfold accountOpen
  dsimp only
  rw [if_neg (by simp [hlen, hzero, hzero', hzero'']), frontRows_of_passes hfront]
  exact (postRow5_of_free hfree).trans (postRow6_of_opening rfl hchecks)

/-! ## ACCOUNT_SET_STATE (R346) -/

/-- An ACCOUNT_SET_STATE body that obeys its layout, with a seal whose amounts obey their format. -/
structure SetStateForm (b : Bytes) : Prop where
  length : b.length = 160
  stateMin : 1 ≤ fld b 2 1
  stateMax : fld b 2 1 ≤ 3
  zero : zeroAt b 3 5 = true
  zero' : zeroAt b 0xC 4 = true
  amounts : (sealAmounts (sub b 0x20 128)).isNone = false

/-- The state change that an ACCOUNT_SET_STATE record asks for, of the account of its seal. -/
def stateChangeOf (c : Cmd) (n : Nat) (sk : List LedgerKey) (jk : LedgerKey) : Posting :=
  let x := sub c.body 0x20 128
  { kind := 4, slot := n, ledger := fld c.body 0 2, tenant := c.tenant, id := zeros 16, valueDate := zeros 8
    sealKeys := sk, journalKey := jk.2.2.1, newState := fld c.body 2 1
    legs := [legOf (sub x 0 16) (fld x 0x12 2) false 0 x 0] }

theorem accountSetState_eq (hform : SetStateForm c.body)
    (hfront : FrontPasses s c (fld c.body 0 2) (fld c.body 8 4) 0x10 v n sk jk)
    (hlegs : LegsPass v c.record.ref (stateChangeOf c n sk jk))
    (htransition : v.transitionOk (stateChangeOf c n sk jk) = true) :
    accountSetState c s =
      (v.addMarks (.command c.record.ref) ((stateChangeOf c n sk jk).legs.map fun g => .context g.index),
        (stateChangeOf c n sk jk).job) := by
  obtain ⟨hlen, hmin, hmax, hzero, hzero', hamounts⟩ := hform
  unfold accountSetState
  dsimp only
  rw [if_neg (by simp [hlen, hzero, hzero']; omega), if_neg (Bool.eq_false_iff.mp hamounts), frontRows_of_passes hfront]
  exact postRow6_of_change rfl hlegs htransition

/-! ## POST_LEGS (R352, R356, R369) -/

section PostLegs

variable {l : List Leg}

/-- A POST_LEGS body that obeys its layout: 1 to 16 legs. -/
structure PostForm (b : Bytes) : Prop where
  header : 64 ≤ b.length
  legsMin : 1 ≤ fld b 2 1
  legsMax : fld b 2 1 ≤ 16
  length : b.length = 64 + 192 * fld b 2 1
  zero : zeroAt b 3 1 = true
  zero' : zeroAt b 0x28 8 = true

/-- The legs of a POST_LEGS body, as the ledger with descriptor `d` reads them. -/
def bodyLegs (d : Descriptor) (b : Bytes) : Except (Nat × Bool) (List Leg) :=
  parseLegs (some d) ((List.range (fld b 2 1)).map fun k => sub b (64 + 192 * k) 192) 0 [] []

variable (hform : PostForm c.body) (hfront : FrontPasses s c (fld c.body 0 2) (fld c.body 4 4) 0x30 v n sk jk)
  (hparsed : bodyLegs (s.desc n) c.body = .ok l)
include hform hfront hparsed

theorem postFront_of_passes {k : State → Posting → State × Did} : s.postFront c k = k v (postingOf c n sk jk l) := by
  obtain ⟨hheader, hmin, hmax, hlen, hzero, hzero'⟩ := hform
  unfold bodyLegs at hparsed
  unfold State.postFront
  dsimp only
  rw [if_neg (by simp [hzero, hzero']; omega), hfront.slot, Option.map_some, hparsed]
  exact frontRows_of_passes hfront

/-- A posting of one home goes through the rows here. -/
theorem postLegs_of_one_home (hhome : v.crossHome c = false) (hfree : IdFree v c.record.ref (postingOf c n sk jk l))
    (hlegs : LegsPass (v.addMarks (.command c.record.ref) [.posting (fld c.body 0 2) (sub c.body 0x10 16)]) c.record.ref
      (postingOf c n sk jk l)) :
    postLegs c s = (v.addMarks (.command c.record.ref) [.posting (fld c.body 0 2) (sub c.body 0x10 16)],
      (postingOf c n sk jk l).job) := by
  unfold postLegs
  rw [postFront_of_passes hform hfront hparsed, if_neg (Bool.eq_false_iff.mp hhome)]
  exact (postRow5_of_free hfree).trans (postRow6_of_legs (.inl rfl) hlegs)

/-- A posting of several homes starts the protocol between them. -/
theorem postLegs_of_homes (hhomes : v.crossHome c = true) :
    postLegs c s = v.crossStart c.record.ref (postingOf c n sk jk l) := by
  unfold postLegs
  rw [postFront_of_passes hform hfront hparsed, if_pos hhomes]

end PostLegs

/-! ## ACCRUE (R365) -/

/-- An ACCRUE body that obeys its layout: a day-count basis, a rate, and the seals of two accounts. -/
structure AccrueForm (b : Bytes) (rate : Int) : Prop where
  length : b.length = 352
  basis : fld b 2 2 = 360 ∨ fld b 2 2 = 365 ∨ fld b 2 2 = 366
  days : fld b 4 2 ≤ 366
  zero : zeroAt b 6 2 = true
  zero' : zeroAt b 0xC 4 = true
  rate : ld63 b 0x40 = some rate
  account : ∃ x, sealAmounts (sub b 0x60 128) = some x
  contra : ∃ y, sealAmounts (sub b 0xE0 128) = some y
  distinct : sub (sub b 0x60 128) 0 16 ≠ sub (sub b 0xE0 128) 0 16

/-- The accrual that an ACCRUE record asks for: the account's leg, and the contra's. -/
def accrualOf (c : Cmd) (rate : Int) (n : Nat) (sk : List LedgerKey) (jk : LedgerKey) : Posting :=
  let x := sub c.body 0x60 128
  let y := sub c.body 0xE0 128
  { kind := 2, slot := n, ledger := fld c.body 0 2, tenant := c.tenant, id := sub c.body 0x20 16
    horizon := fld c.body 0x10 8, valueDate := sub c.body 0x18 8, sealKeys := sk, journalKey := jk.2.2.1, rate
    numer := fld c.body 4 2, basis := fld c.body 2 2
    legs := [legOf (sub x 0 16) (fld x 0x12 2) false 0 x 0, legOf (sub y 0 16) (fld y 0x12 2) false 0 y 1] }

theorem accrue_eq {rate : Int} (hform : AccrueForm c.body rate)
    (hfront : FrontPasses s c (fld c.body 0 2) (fld c.body 8 4) 0x30 v n sk jk) (hhome : v.crossHome c = false)
    (hfree : IdFree v c.record.ref (accrualOf c rate n sk jk))
    (hlegs : LegsPass (v.addMarks (.command c.record.ref) [.posting (fld c.body 0 2) (sub c.body 0x20 16)]) c.record.ref
      (accrualOf c rate n sk jk)) :
    accrue c s = (v.addMarks (.command c.record.ref) [.posting (fld c.body 0 2) (sub c.body 0x20 16)],
      (accrualOf c rate n sk jk).job) := by
  obtain ⟨hlen, hbasis, hdays, hzero, hzero', hrate, ⟨x, haccount⟩, ⟨y, hcontra⟩, hdistinct⟩ := hform
  unfold accrue
  dsimp only
  rw [if_neg (by simp [hzero, hzero']; omega), hrate, haccount, hcontra]
  dsimp only
  rw [if_neg hdistinct, frontRows_of_passes hfront, if_neg (Bool.eq_false_iff.mp hhome)]
  exact (postRow5_of_free hfree).trans (postRow6_of_legs (.inr rfl) hlegs)

end Sys2Proof.Machine

end

section

open Sys2Proof Sys2Proof.Machine

/-- Settles O55: each row is an accepted command, so its opcode's meaning runs on the begun state; the body obeys its
layout, and row after row of Table 11-7 passes as the clause says. -/
theorem ledgersOpenAndPostingsStartTheirDecimalJob : Obligations.LedgersOpenAndPostingsStartTheirDecimalJob := by
  unfold Obligations.LedgersOpenAndPostingsStartTheirDecimalJob
  refine ⟨?create, ?opening, ?setState, ?oneHome, ?homes, ?accrue⟩
  case create =>
    intro s t ref r b i v n nonce u d held hacc hform hunused htotal hown hkeys hwindows hvalues
    rw [exec_ledgerCreate t s hacc.named]
    exact runCommand_accepted hacc _ _ _ (ledgerCreate_eq (c := s.cmd t r b i) hform ⟨hunused, htotal, hown, hwindows⟩
      hkeys hvalues)
  case opening =>
    intro s t ref r b i v n sk jk u p w hacc hlen hzero hzero' hzero'' hslot htwin hkeys hunmarked hunseen hchecks
    rw [exec_accountOpen t s hacc.named]
    exact runCommand_accepted hacc _ _ _ (accountOpen_eq (c := s.cmd t r b i) ⟨hlen, hzero, hzero', hzero''⟩
      ⟨hslot, htwin, hkeys⟩ ⟨hunmarked, hunseen⟩ hchecks)
  case setState =>
    intro s t ref r b i v n sk jk u x p hacc hlen hmin hmax hzero hzero' hamounts hslot htwin hkeys hseals hunmarked
      hversions htransition
    rw [exec_accountSetState t s hacc.named]
    exact runCommand_accepted hacc _ _ _ (accountSetState_eq (c := s.cmd t r b i)
      ⟨hlen, hmin, hmax, hzero, hzero', hamounts⟩ ⟨hslot, htwin, hkeys⟩ ⟨hseals, hunmarked, hversions⟩ htransition)
  case oneHome =>
    intro s t ref r b i v n sk jk l c u p w hacc hheader hmin hmax hlen hzero hzero' hparsed hslot htwin hkeys hhome
      hunmarked hunseen hseals hmarks hversions
    rw [exec_postLegs t s hacc.named]
    exact runCommand_accepted hacc _ _ _ (postLegs_of_one_home (c := c) ⟨hheader, hmin, hmax, hlen, hzero, hzero'⟩
      ⟨hslot, htwin, hkeys⟩ hparsed hhome ⟨hunmarked, hunseen⟩ ⟨hseals, hmarks, hversions⟩)
  case homes =>
    intro s t ref r b i v n sk jk l c u hacc hheader hmin hmax hlen hzero hzero' hparsed hslot htwin hkeys hhomes _ _
    rw [exec_postLegs t s hacc.named]
    exact runCommand_accepted hacc _ _ _ (postLegs_of_homes (c := c) ⟨hheader, hmin, hmax, hlen, hzero, hzero'⟩
      ⟨hslot, htwin, hkeys⟩ hparsed hhomes)
  case accrue =>
    intro s t ref r b i v n sk jk q x1 y1 c u x y p w hacc hlen hbasis hdays hzero hzero' hrate haccount hcontra
      hdistinct hslot htwin hkeys hhome hunmarked hunseen hseals hmarks hversions
    rw [exec_accrue t s hacc.named]
    exact runCommand_accepted hacc _ _ _ (accrue_eq (c := c)
      ⟨hlen, hbasis, hdays, hzero, hzero', hrate, ⟨x1, haccount⟩, ⟨y1, hcontra⟩, hdistinct⟩ ⟨hslot, htwin, hkeys⟩ hhome
      ⟨hunmarked, hunseen⟩ ⟨hseals, hmarks, hversions⟩)

end

/-! # Scope: the commands on a ledger's responses, blocks, checkpoints and images, and the KH-1 balance MACs (R363,
R364, R373 to R376, R382, R384; what they close, hold and take as copies by log entry 60) -/

section

namespace Sys2Proof.Machine

/-! ## The rows, on a record that names a queue pair that exists -/

section Rows

variable (t : Tick) {ref : RecRef} (s : State) (h : ref.ok = true)
include h

theorem exec_sealFetch : exec (.sealFetch t ref) s = s.act t fun u => u.runCommand 0x0706 sealFetch ref := if_pos h
theorem exec_journalBlock :
    exec (.journalBlock t ref) s = s.act t fun u => u.runCommand 0x0707 journalBlock ref := if_pos h
theorem exec_checkpoint : exec (.checkpoint t ref) s = s.act t fun u => u.runCommand 0x0708 checkpoint ref := if_pos h
theorem exec_boardRestore :
    exec (.boardRestore t ref) s = s.act t fun u => u.runCommand 0x0709 boardRestore ref := if_pos h
theorem exec_journalRollForward :
    exec (.journalRollForward t ref) s = s.act t fun u => u.runCommand 0x070A journalRollForward ref := if_pos h
theorem exec_balMacGen : exec (.balMacGen t ref) s = s.act t fun u => u.runCommand 0x10030 balMacGen ref := if_pos h
theorem exec_balMacVer : exec (.balMacVer t ref) s = s.act t fun u => u.runCommand 0x10031 balMacVer ref := if_pos h

end Rows

variable {s v w x : State} {c : Cmd} {n i : Nat} {m d : Bytes}

/-! ## SEAL_FETCH (R363) -/

/-- A body of SEAL_FETCH or JOURNAL_BLOCK: a ledger, a selector of 0 or 1, and `len` bytes in all. -/
structure SelectForm (b : Bytes) (len : Nat) : Prop where
  length : b.length = len
  selector : fld b 2 1 ≤ 1
  zero : zeroAt b 3 5 = true

/-- The sequence that a SEAL_FETCH body selects: its own, or the filter's for its posting id. -/
def State.SelectsSeq (s : State) (b : Bytes) (q : Nat) : Prop :=
  if fld b 2 1 = 0 then q = fld b 8 8
  else ∃ e, (s.board.filter.find? fun e => e.ledger == fld b 0 2 && e.id == sub b 0x10 16) = some e ∧ q = e.seq

theorem sealFetch_eq {q : Nat} {y : StoredResponse} (hform : SelectForm c.body 32)
    (hslot : (s.ledgerSlot (fld c.body 0 2) c.tenant).isNone = false) (hseq : s.SelectsSeq c.body q)
    (hkept : (s.board.responses.find? fun y => y.ledger == fld c.body 0 2 && y.seq == q) = some y) :
    sealFetch c s = (s, spaced c { body := y.body }) := by
  obtain ⟨hlen, hselector, hzero⟩ := hform
  unfold State.SelectsSeq at hseq
  unfold sealFetch
  dsimp only
  rw [if_neg (by simp [hlen, hselector, hzero]), if_neg (Bool.eq_false_iff.mp hslot)]
  split_ifs at hseq ⊢
  · rw [← hseq, hkept]
  · obtain ⟨e, hfound, rfl⟩ := hseq
    rw [hfound]
    dsimp only
    rw [hkept]

/-! ## JOURNAL_BLOCK (R364) -/

section Block

variable {k : JournalBlock} {cs : List Change}

/-- The change that closes a ledger's open block, where it holds an entry. -/
def State.closing (s : State) (n : Nat) : List Change :=
  if (s.head n).lastBlock + 1 < (s.head n).nextSeq then
    [Change.head n { s.head n with lastBlock := (s.head n).nextSeq - 1 }]
  else []

/-- The block that a JOURNAL_BLOCK body asks for, with the state and the changes by which it is closed: a held one that
covers a sequence, or the last one after closing what is open. -/
def State.SelectsBlock (s : State) (b : Bytes) (n : Nat) (x : State) (cs : List Change) (k : JournalBlock) : Prop :=
  if fld b 2 1 = 0 then
    x = s ∧ cs = [] ∧ (s.board.blocks.find? fun k => k.ledger == fld b 0 2 && decide (k.first ≤ fld b 8 8) &&
      decide (fld b 8 8 ≤ k.last)) = some k
  else cs = s.closing n ∧ x = s.applyAll cs ∧ x.lastBlock (fld b 0 2) = some k

theorem journalBlock_of_selected (hform : SelectForm c.body 16)
    (hslot : s.ledgerSlot (fld c.body 0 2) c.tenant = some n) (hblock : s.SelectsBlock c.body n x cs k) :
    journalBlock c s = x.giveBlock c n k cs := by
  obtain ⟨hlen, hselector, hzero⟩ := hform
  unfold State.SelectsBlock at hblock
  unfold journalBlock
  dsimp only
  rw [if_neg (by simp [hlen, hselector, hzero]), hslot]
  dsimp only
  by_cases hheld : fld c.body 2 1 = 0
  · rw [if_pos hheld] at hblock ⊢
    obtain ⟨rfl, rfl, hfound⟩ := hblock
    rw [hfound]
  · rw [if_neg hheld] at hblock ⊢
    obtain ⟨rfl, rfl, hfound⟩ := hblock
    simp only [State.closing] at hfound ⊢
    simp only [hfound]

theorem giveBlock_of_signed {g : Bytes} (hsigned : k.signature = some g) :
    x.giveBlock c n k cs = (x, spaced c { out := x.blockHead k ++ g, changes := cs }) := by
  simp only [State.giveBlock, hsigned]

theorem giveBlock_of_unsigned (hunsigned : k.signature = none)
    (hkey : x.resolve (some c.tenant) (x.desc n).signHandle signNeed = (v, .ok i)) (hmaterial : v.material i = .ok m)
    (hlane : v.laneAny .digest = true) (hdrawn : v.random 56 = some (w, d)) (hspace : spaceFail c 0 176 = none) :
    x.giveBlock c n k cs = (w, .job .bigNumber (curveCycles 1600 6) [i] {
      out := w.blockHead k ++ w.blockSig k m d, changes := cs ++ [.blockSig k.ledger k.last (w.blockSig k m d)] }) := by
  unfold State.giveBlock
  rw [hunsigned]
  dsimp only
  rw [withKey_of_resolve hkey, withMaterial_of_ok hmaterial, if_neg (not_not_intro hlane), withRandom_of_drawn hdrawn,
    hspace]

end Block

/-! ## CHECKPOINT (R373) -/

section Checkpoint

/-- A CHECKPOINT body that obeys its layout. -/
structure CheckpointForm (b : Bytes) : Prop where
  length : b.length = 8
  action : fld b 2 1 ≤ 1
  zero : zeroAt b 3 1 = true
  zero' : zeroAt b 6 2 = true

variable (hform : CheckpointForm c.body) (hslot : s.ledgerSlot (fld c.body 0 2) c.tenant = some n)
include hform hslot

theorem checkpoint_of_slot :
    checkpoint c s = if fld c.body 2 1 = 0 then s.takeCheckpoint c n else s.confirmCheckpoint c n := by
  obtain ⟨hlen, haction, hzero, hzero'⟩ := hform
  unfold checkpoint
  dsimp only
  rw [if_neg (by simp [hlen, haction, hzero, hzero']), hslot]

theorem checkpoint_of_take (htake : fld c.body 2 1 = 0) (hepoch : (s.epochEntry n).epoch ≠ 0xFFFF)
    (hpresent : (s.keyRec c.tenant).present = true) (hidle : s.board.copying.contains (s.head n).ledger = false) :
    checkpoint c s =
      ({ s with board := { s.board with copying := (s.head n).ledger :: s.board.copying } },
        .wait (.checkpoint (s.head n).ledger) {}) := by
  rw [checkpoint_of_slot hform hslot, if_pos htake]
  unfold State.takeCheckpoint
  dsimp only
  rw [if_neg hepoch, if_neg (not_not_intro hpresent), if_neg (Bool.eq_false_iff.mp hidle)]

/-- The epoch that a confirmation brings, next to the vault's. -/
def State.nextEpoch (s : State) (n : Nat) : Nat := (s.ahead.epochEntry n).epoch + 1

/-- The head after the entry of kind 5 that confirms an epoch, under the first journal key. -/
def State.confirmedHead (s : State) (n : Nat) (jk : List LedgerKey) (epoch : Nat) : Head :=
  (s.nextEntry n (jk.headD (0, 0, [], false)).2.2.1 5 0 (zeros 16) (natLE 2 epoch ++ zeros 6) []).2.2

theorem checkpoint_of_confirm {jk : List LedgerKey} (hconfirm : fld c.body 2 1 = 1)
    (hpending : (s.ahead.head n).checkpointPending = true) (hepoch : (s.ahead.head n).pendingEpoch = s.nextEpoch n)
    (hnamed : fld c.body 4 2 = s.nextEpoch n)
    (hkeys : s.ledgerKeys c.tenant (s.desc n).journalHandle 13 = (v, .ok jk)) :
    checkpoint c s = (v, .done { changes := [
      .epochEntry n { ledger := (s.ahead.head n).ledger, epoch := s.nextEpoch n, tenant := (s.ahead.head n).tenant },
      .head n { v.confirmedHead n jk (s.nextEpoch n) with
        floor := (s.ahead.head n).imageNext, checkpointPending := false, pendingEpoch := 0, imageNext := 0 }] }) := by
  unfold State.nextEpoch at hepoch hnamed
  rw [checkpoint_of_slot hform hslot, if_neg (by omega)]
  unfold State.confirmCheckpoint
  dsimp only
  rw [if_neg (by simp [hpending, hepoch, hnamed]), hkeys]
  rfl

end Checkpoint

/-! ## BOARD_RESTORE (R375) -/

/-- The epoch entry that the vault holds of an image's ledger. -/
def State.heldEntry (s : State) (b : Bytes) : Option (Nat × EpochEntry) :=
  s.vault.epochs.find? fun p => p.2.ledger == fld b 0x10 2

/-- An image that a tenant's trunk record accepts: its header, generation and epoch (checks 1 to 3 of R375). -/
structure BoardAccepted (s : State) (t : Nat) (b : Bytes) : Prop where
  head : boardHeadOk b t = true
  present : (s.keyRec t).present = true
  generation : (s.keyRec t).generation = fld b 0x14 2
  epoch : ((s.heldEntry b).any fun p => p.2.epoch != fld b 0x12 2 || p.2.tenant != t) = false

/-- The plaintext of a board image under a trunk, where its tag holds. -/
def openBoard (trunk : Bytes) (t : Nat) (b : Bytes) : Option Bytes :=
  gcmOpen (boardKey trunk t (fld b 0x10 2) (fld b 0x12 2)) (boardIv (fld b 0x10 2) (fld b 0x12 2)) (sub b 0 0x20)
    ((b.drop 0x20).take (b.length - 0x30)) (b.drop (b.length - 16))

theorem boardRestore_eq {p : Bytes} (hbody : c.body = []) (hacc : BoardAccepted s c.tenant c.input)
    (hallowed : if (fld c.input 8 8 = s.otp.serial ∨ (fld c.input 8 8 ≠ 0 ∧ fld c.input 8 8 = s.twinSerial)) ∧
      ¬ (s.heldEntry c.input).isNone = true then v = s else s.quorumUse c.tenant purposeRestore = (v, none))
    (hopens : openBoard (s.keyRec c.tenant).material c.tenant c.input = some p)
    (hfree : v.boardFree (fld c.input 0x10 2) (fld c.input 0x16 2) (imageContexts p (fld c.input 0x18 4)) = true) :
    boardRestore c s = (v, .done {
      changes := v.boardChanges c.tenant (fld c.input 0x16 2) (fld c.input 0x12 2) p
        (imageContexts p (fld c.input 0x18 4)) }) := by
  obtain ⟨hhead, hpresent, hgeneration, hepoch⟩ := hacc
  unfold State.heldEntry at hepoch hallowed
  unfold openBoard at hopens
  unfold boardRestore
  dsimp only
  rw [if_neg (not_not_intro hbody), if_neg (by simp [hhead, hpresent, hgeneration]),
    if_neg (Bool.eq_false_iff.mp hepoch), withForeign_of_allowed hallowed, hopens]
  exact if_pos hfree

/-! ## JOURNAL_ROLL_FORWARD (R376) -/

/-- A JOURNAL_ROLL_FORWARD body that obeys its layout: 1 to 64 entries. -/
structure RollForm (b : Bytes) : Prop where
  length : b.length = 24
  zero : zeroAt b 2 6 = true
  countMin : 1 ≤ fld b 0x10 4
  countMax : fld b 0x10 4 ≤ 64
  zero' : zeroAt b 0x14 4 = true

/-- What the first entry must follow: in the device's own journal, its head; in another device's, nothing. -/
def State.rollStart (s : State) (n serial : Nat) : Option (Nat × Bytes) :=
  if serial = s.otp.serial then some ((s.head n).nextSeq, (s.head n).chain) else none

theorem journalRollForward_eq {jk : List LedgerKey} {es : List Entry} (hform : RollForm c.body)
    (hslot : s.ledgerSlot (fld c.body 0 2) c.tenant = some n)
    (hkeys : s.ledgerKeys c.tenant (s.desc n).journalHandle 13 = (v, .ok jk))
    (hparsed : parseEntriesJ (fld c.body 0 2) (fld c.body 0x10 4) 0 c.input = .ok es)
    (hchain : chainFault (jk.headD (0, 0, [], false)).2.2.1 (v.rollStart n (fld c.body 8 8)) 0 es = none) :
    journalRollForward c s = (v, .done {
      changes := v.rollContexts n es ++ if fld c.body 8 8 = v.otp.serial then v.rollOwn n es else [] }) := by
  obtain ⟨hlen, hzero, hmin, hmax, hzero'⟩ := hform
  unfold State.rollStart at hchain
  unfold journalRollForward
  dsimp only
  rw [if_neg (by simp [hlen, hzero, hzero']; omega), hslot]
  dsimp only
  rw [hkeys]
  dsimp only
  rw [hparsed]
  dsimp only
  rw [hchain]

/-! ## The KH-1 balance MACs (R382 to R384) -/

section Balance

variable {h k : Nat} {z : Int}

/-- The request of BAL_MAC_GEN on the key of handle `h`. -/
def balGenReq (c : Cmd) (h : Nat) : MacReq :=
  { handle := h, mode := 0x11, macLen := 8, verify := false, data := balanceBytes c }

/-- The request of BAL_MAC_VER: the data's first 8 bytes are the expected MAC. -/
def balVerReq (c : Cmd) (h : Nat) : MacReq :=
  { handle := h, mode := 0x11, macLen := 8, verify := true, expected := (kh1Data c).take 8, data := balanceBytes c }

variable (hlen : beNat (sub c.body 0x0E 2) ≤ 176)
  (hmapped : s.kh1Handle c.tenant (beNat (sub c.body 8 2)) = some h) (hamount : packedVal (sub c.body 0x10 8) = some z)
include hlen hmapped hamount

theorem balMacGen_of_form :
    balMacGen c s = kh1Did (s.macJob c.tenant (balGenReq c h)) fun r => r.body.take 8 := by
  unfold balMacGen
  rw [withKh1_of_handle hlen hmapped]
  simp only [State.withAmount, hamount]
  rfl

theorem balMacVer_of_form (hdata : 8 ≤ (kh1Data c).length) :
    balMacVer c s = kh1Did (s.macJob c.tenant (balVerReq c h)) fun _ => [] := by
  unfold balMacVer
  rw [withKh1_of_handle hlen hmapped, if_neg (Nat.not_lt.mpr hdata)]
  simp only [State.withAmount, hamount]
  rfl

end Balance

end Sys2Proof.Machine

end

section

open Sys2Proof Sys2Proof.Machine

/-- Settles O56: each row is an accepted command, so its opcode's meaning runs on the begun state; the response, block,
epoch, image or entries that the clause names pass its checks, and a balance MAC is a MAC request. -/
theorem ledgersAreFetchedBlockedCheckpointedAndRestored :
    Obligations.LedgersAreFetchedBlockedCheckpointedAndRestored := by
  unfold Obligations.LedgersAreFetchedBlockedCheckpointedAndRestored
  refine ⟨?fetch, ?signed, ?unsigned, ?take, ?confirm, ?restore, ?rollForward, ?macGen, ?macVer⟩
  case fetch =>
    intro s t ref r b i q x c u hacc hlen hselector hzero hslot hseq hkept
    rw [exec_sealFetch t s hacc.named]
    exact runCommand_accepted hacc _ _ _ (sealFetch_eq (c := c) ⟨hlen, hselector, hzero⟩ hslot hseq hkept)
  case signed =>
    intro s t ref r b i n k g x cs c u hacc hlen hselector hzero hslot hblock hsigned
    have hselected := journalBlock_of_selected (c := c) ⟨hlen, hselector, hzero⟩ hslot hblock
    rw [exec_journalBlock t s hacc.named]
    exact runCommand_accepted hacc _ _ _ (hselected.trans
      (giveBlock_of_signed hsigned))
  case unsigned =>
    intro s t ref r b i n i2 k x v w cs m d c u hacc hlen hselector hzero hslot hblock hunsigned hkey hmaterial hlane
      hdrawn hspace
    have hselected := journalBlock_of_selected (c := c) ⟨hlen, hselector, hzero⟩ hslot hblock
    rw [exec_journalBlock t s hacc.named]
    exact runCommand_accepted hacc _ _ _ (hselected.trans
      (giveBlock_of_unsigned hunsigned hkey hmaterial hlane hdrawn hspace))
  case take =>
    intro s t ref r b i n u hacc hlen htake hzero hzero' hslot hepoch hpresent hidle
    have haction : fld b 2 1 ≤ 1 := by omega
    rw [exec_checkpoint t s hacc.named]
    exact runCommand_accepted hacc _ _ _ (checkpoint_of_take (c := s.cmd t r b i) ⟨hlen, haction, hzero, hzero'⟩ hslot
      htake hepoch hpresent hidle)
  case confirm =>
    intro s t ref r b i n v jk u h e x hacc hlen hconfirm hzero hzero' hslot hpending hepoch hnamed hkeys
    have haction : fld b 2 1 ≤ 1 := by omega
    rw [exec_checkpoint t s hacc.named]
    exact runCommand_accepted hacc _ _ _ (checkpoint_of_confirm (c := s.cmd t r b i) ⟨hlen, haction, hzero, hzero'⟩
      hslot hconfirm hpending hepoch hnamed hkeys)
  case restore =>
    intro s t ref r b i v p u held hacc hbody hhead hpresent hgeneration hepoch hallowed hopens hfree
    rw [exec_boardRestore t s hacc.named]
    exact runCommand_accepted hacc _ _ _ (boardRestore_eq (c := s.cmd t r b i) hbody
      ⟨hhead, hpresent, hgeneration, hepoch⟩ hallowed hopens hfree)
  case rollForward =>
    intro s t ref r b i n v jk es u hacc hlen hzero hmin hmax hzero' hslot hkeys hparsed hchain
    rw [exec_journalRollForward t s hacc.named]
    exact runCommand_accepted hacc _ _ _ (journalRollForward_eq (c := s.cmd t r b i) ⟨hlen, hzero, hmin, hmax, hzero'⟩
      hslot hkeys hparsed hchain)
  case macGen =>
    intro s t ref r b i v h k z u d e x m hacc hlen hmapped hamount hkey hlengths hparts
    have hjob := macJob_eq (q := balGenReq (s.cmd t r b i) h) hkey hlengths hparts
    rw [exec_balMacGen t s hacc.named]
    exact runCommand_accepted hacc _ _ _ ((balMacGen_of_form (c := s.cmd t r b i) hlen hmapped hamount).trans
      (congrArg (kh1Did · fun r => r.body.take 8) hjob))
  case macVer =>
    intro s t ref r b i v h k z u d e x m hacc hlen hmapped hdata hamount hkey hlengths hparts
    have hjob := macJob_eq (q := balVerReq (s.cmd t r b i) h) hkey hlengths hparts
    rw [exec_balMacVer t s hacc.named]
    exact runCommand_accepted hacc _ _ _ ((balMacVer_of_form (c := s.cmd t r b i) hlen hmapped hamount hdata).trans
      ((congrArg (kh1Did · fun _ => []) hjob).trans kh1Did_verification))

end
